-- ==== Sys2Proof/Word.lean ====
section
/-!
DEFINITION. The plain data types every other file uses: bytes, byte strings.
-/

namespace Sys2Proof

/-- One byte, the smallest addressable unit of every memory of the block (R10). -/
abbrev Byte := BitVec 8

/-- A byte string; the head is byte 0, the one at the lowest address (R10). -/
abbrev Bytes := List Byte

end Sys2Proof
end

