-- ==== Sys2Proof/Syntax.lean ====
section
/-!
DEFINITION. The commands of the block: one constructor for each row of the opcode table, with what a row needs to be told. The
first operand `d` of every command is the time in ns since the command before it.
-/

namespace Sys2Proof

/-- Configuration space of the function (R400 to R405, R417, R422, R439): the fields the spec uses. [PRESUMED, log 9] -/
structure CfgSpace where
  bme : Bool := false
  msixEn : Bool := false
  funcMask : Bool := false
  extTag : Bool := false
  tag10 : Bool := false
  tag14 : Bool := false
  ctoVal : Nat := 0
  /-- Max_Read_Request_Size code. -/
  mrrs : Nat := 2
  /-- Max_Payload_Size code. -/
  mps : Nat := 0
  roEn : Bool := true
  nsEn : Bool := true
  ltrEn : Bool := false
  l1En : Bool := false
  l0pEn : Bool := false
  corEn : Bool := false
  nfEn : Bool := false
  fatEn : Bool := false
  /-- The base that host software assigned to BAR0, BAR2 and BAR4 (R406). -/
  bar0 : Nat := 0
  bar2 : Nat := 0
  bar4 : Nat := 0
  deriving DecidableEq, Repr, Inhabited

/-- What a configuration read names (R402 to R406, R417, R422, R439): the fixed header, the base address registers, and the fields of the
standard capabilities that the spec gives a value. The capability structures have no fixed offsets (R403), so a field is named, not
addressed. [DESIGN CHOICE, log 99] -/
inductive CfgField where
  | vendorId | deviceId | revisionId | classCode | headerType | subsystemVendorId | subsystemId | interruptPin
  /-- BAR k, 0 to 5. -/
  | bar (k : Nat)
  | serialNumber
  | msixTableSize | msixTableBir | msixTableOffset | msixPbaBir | msixPbaOffset
  | noSoftReset | pmeSupport
  | aerUncStatus | aerUncMask | aerUncSeverity | aerCorStatus | aerCorMask
  deriving DecidableEq, Repr

/-- A configuration request: a write of the fields that the spec uses, with the AER masks and the severity register, or a read of a
field. [DESIGN CHOICE, log 99] -/
inductive CfgReq where
  | write (cfg : CfgSpace) (uncMask corMask uncSev : Nat)
  | read (f : CfgField)
  deriving DecidableEq, Repr

/-- The operands of a controller command (R484): SMBC_CMD's fields, and what SDA does before the start: 0 free, 1 freed by the
clearing pulses, 2 low after them (R488). -/
structure SmbcArg where
  addr : Nat
  code : Nat
  wlen : Nat
  rlen : Nat
  pec : Bool
  sda : Nat
  /-- How long SDA has been low with SCL high, in ms. -/
  lowMs : Nat
  deriving DecidableEq, Repr

/-- An internal error as its block reports it (R507, R508): code, source, the items of its DETAIL, the Hearth (class 1) or tile
(class 2) whose local store it is, the row of a Trough-pool word, the data lane of an HBM error, the 64-byte HBM block of an
uncorrectable one. -/
structure ErrArg where
  code : Nat
  src : Nat
  items : List Nat
  unit : Option (Nat × Nat)
  row : Option (Nat × Nat)
  lane : Option Nat
  block : Option Nat
  deriving DecidableEq, Repr

/-- How a write to the SMBus target ends (R467 to R469): with its last data byte, with one byte more, its PEC, or before its last data
byte. -/
inductive Pec where
  | none
  | byte (b : Nat)
  | short
  deriving DecidableEq, Repr

/-- The kinds of trigger generators. -/
inductive GenKind where
  | ctrig | ptrig | fire
  deriving DecidableEq, Repr, Inhabited

/-- A command to the block. -/
inductive Instr where
  /-- REGISTER_WRITE, R22: A host or REGS write to a register that has no row of its own is applied as one update under the
  access codes. `a` BAR0 address; `size` bytes; `x` value. -/
  | registerWrite (d a size x : Nat)
  /-- DECIDE_REPLY_WRITE, R40: A write to DECIDE_REPLY extends, restarts or breaks the shared write sequence and commits it at
  byte 15. `off` byte offset; `size` bytes; `v` value. -/
  | decideReplyWrite (d off size v : Nat)
  /-- DECIDE_TIMEOUT, R42: An open request's reply timeout expires and the function's timeout action is taken. `id` request
  identifier. -/
  | decideTimeout (d id : Nat)
  /-- HELD_REQUEST_POST, R39: A held request is posted once fewer than 4,096 requests are open. -/
  | heldRequestPost (d : Nat)
  /-- FUNC_MODE_WRITE, R65: A write of FUNC_MODE[f] requests a mode change that is applied per unit at its safe point. `f`
  function; `v` REQUESTED. -/
  | funcModeWrite (d f v : Nat)
  /-- FUNC_MODE_SAFE_POINT, R67: A unit of a function reaches its safe point and takes the pending mode. `f` function; `u` unit
  of the function. -/
  | funcModeSafePoint (d f u : Nat)
  /-- POWER_ON, R542: SUPPLY_OK rises, the internal power-on reset runs and ends, and SMB_ADDR is sampled. `straps`
  SMB_ADDR[1:0]; `cfgHoldN` level of CFG_HOLD_N. -/
  | powerOn (d straps cfgHoldN : Nat)
  /-- SUPPLY_OK_FALL, R544: SUPPLY_OK falls and every pin reaches its power-on-reset state within 1 µs. -/
  | supplyOkFall (d : Nat)
  /-- PERST_N_ASSERT, R425: PERST_N is asserted and resets the host port, or the whole device, according to PERST_SCOPE. -/
  | perstNAssert (d : Nat)
  /-- PERST_N_RELEASE, R68: PERST_N is released, CFG_HOLD_N is sampled, and a full Kindle starts in the whole-device scope.
  `cfgHoldN` level of CFG_HOLD_N. -/
  | perstNRelease (d cfgHoldN : Nat)
  /-- TIMEBASE_LOCK, R76: The timebase locks to REF_CLK for the first time in an epoch, and DT starts at 0. -/
  | timebaseLock (d : Nat)
  /-- FLASH_INIT_DONE, R47: The flash reset and SFDP read complete, and the switch to 8D-8D-8D succeeds or falls back. `sfdpOk`
  SFDP could be read; `sectors` 64 KiB sectors it reports; `uniform` uniform 64 KiB sectors; `ddrOk` 8D-8D-8D works. -/
  | flashInitDone (d : Nat) (sfdpOk : Bool) (sectors : Nat) (uniform ddrOk : Bool)
  /-- SLOT_SELECT, R53: Both slot headers are read and the candidates are ordered. -/
  | slotSelect (d : Nat)
  /-- CANDIDATE_VERIFY, R566: Reading and checking of a candidate image completes, with pass or the first failure. -/
  | candidateVerify (d : Nat)
  /-- HBM_TRAINING_DONE, R70: HBM PHY training completes, or a stack fails it. `failed` the stack that failed. -/
  | hbmTrainingDone (d : Nat) (failed : Option Nat)
  /-- HOST_LINK_UP, R70: The host link comes up, and the endpoint answers from ROM defaults. `speed` speed code; `width` lanes;
  `flit` flit mode. -/
  | hostLinkUp (d speed width : Nat) (flit : Bool)
  /-- KINDLE_APPLY_DONE, R70: The APPLY phase completes: partition set, sections loaded and restore copies written. -/
  | kindleApplyDone (d : Nat)
  /-- JOURNAL_RESTORE, R520: The Ingot journal is read, and snapshots, the spare ledger and the wear counters are restored. -/
  | journalRestore (d : Nat)
  /-- KINDLE_READY, R70: The press blocks are released, PHASE becomes READY, held list entries are applied and KINDLE_READY is
  raised. -/
  | kindleReady (d : Nat)
  /-- KINDLE_HOLD, R72: Kindle enters HOLD with the host port on ROM defaults and the press blocks at rest. -/
  | kindleHold (d : Nat)
  /-- REKINDLE, R73: KINDLE_CTL.REKINDLE stops the press blocks, clears the Kindle results and reruns Kindle from the ROM phase.
  `key` KEY. -/
  | rekindle (d key : Nat)
  /-- FINISH, R72: KINDLE_CTL.FINISH checks the host-loaded configuration and enters READY or stays in HOLD. `key` KEY. -/
  | finish (d key : Nat)
  /-- RESOURCE_CLAIM, R61: A RESOURCE_CLAIM claim operation gives a free resource to the named owner, or fails. `cls` CLASS;
  `idx` INDEX; `owner` OWNER. -/
  | resourceClaim (d cls idx owner : Nat)
  /-- RESOURCE_RELEASE, R61: A RESOURCE_CLAIM release operation by the owner frees the resource, or fails. `cls` CLASS; `idx`
  INDEX; `owner` OWNER. -/
  | resourceRelease (d cls idx owner : Nat)
  /-- FLASH_READ, R74: FLASH_OP read queues a read of the configuration memory into FLASH_BUF. `len` LENGTH. -/
  | flashRead (d len : Nat)
  /-- FLASH_PROGRAM, R74: FLASH_OP program queues a program from FLASH_BUF, or is DENIED. `len` LENGTH. -/
  | flashProgram (d len : Nat)
  /-- FLASH_ERASE, R74: FLASH_OP erase queues a 64 KiB sector erase, or is DENIED. -/
  | flashErase (d : Nat)
  /-- FLASH_ARBITER_SERVE, R75: The free configuration memory starts the next waiting operation, an Ingot write first. -/
  | flashArbiterServe (d : Nat)
  /-- FLASH_OP_DONE, R75: A flash operation completes and sets DONE or FAULT. `ok` the flash reports no failure. -/
  | flashOpDone (d : Nat) (ok : Bool)
  /-- REF_LOST, R77: REF_CLK shows no edge for 100 ns or drifts beyond 1,000 ppm, and the timebase enters holdover. -/
  | refLost (d : Nat)
  /-- REF_FREQUENCY_LOCK, R77: The returned reference is frequency-locked, HOLDOVER clears and LOCKED_SLEW is set. -/
  | refFrequencyLock (d : Nat)
  /-- REF_PHASE_LOCK, R77: The slewing timebase is back in phase, LOCKED_SLEW clears and LOCKED is set. -/
  | refPhaseLock (d : Nat)
  /-- ENCODER_EDGE, R79: A filtered A or B level is accepted and updates the count and the axes that use the encoder. `smp` the inputs
  whose A and B change at the samplers in this cycle: encoder, level of A, level of B. -/
  | encoderEdge (d : Nat) (smp : List (Nat × Nat × Nat))
  /-- ENCODER_INDEX, R81: An accepted Z edge raises ENC_Z and latches or resets the count as ZMODE selects. `smp` the inputs whose Z
  changes at the samplers in this cycle: encoder, level of Z. -/
  | encoderIndex (d : Nat) (smp : List (Nat × Nat))
  /-- AXIS_STALL, R84: No count update occurs for STALL_NS, so the axis is stalled and P_est becomes invalid. `a` axis. -/
  | axisStall (d a : Nat)
  /-- AXIS_RESUME, R88: AXIS_CTL.RESUME approves leaving FROZEN in host mode. `a` axis. -/
  | axisResume (d a : Nat)
  /-- USE_REDUNDANT, R91: AXIS_CTL.USE_REDUNDANT switches the axis to its redundant encoder and recomputes RED_OFFSET. `a` axis.
  -/
  | useRedundant (d a : Nat)
  /-- USE_PRIMARY, R91: AXIS_CTL.USE_PRIMARY switches the axis to its primary encoder and recomputes RED_OFFSET. `a` axis. -/
  | usePrimary (d a : Nat)
  /-- GENERATOR_ARM, R92: CTRIG, PTRIG or FIRE CTL.ARM arms a generator at its first target ahead, or is refused. `k` kind; `g`
  generator. -/
  | generatorArm (d : Nat) (k : GenKind) (g : Nat)
  /-- GENERATOR_DISARM, R96: CTL.DISARM stops a generator and drops the crossings that wait out their delay. `k` kind; `g`
  generator. -/
  | generatorDisarm (d : Nat) (k : GenKind) (g : Nat)
  /-- GENERATOR_FLUSH, R96: CTL.FLUSH disarms a generator and declares its open ledger entries lost. `k` kind; `g` generator. -/
  | generatorFlush (d : Nat) (k : GenKind) (g : Nat)
  /-- TARGET_CROSSING, R86: P_eff crosses a generator target, and the crossing waits out DELAY_NS or is skipped. `k` kind; `g`
  generator. -/
  | targetCrossing (d : Nat) (k : GenKind) (g : Nat)
  /-- TRIGGER_ISSUE, R94: A camera generator issues a waiting crossing as a frame or line trigger. `g` camera generator; `wait`
  slots by which the link delays the block. -/
  | triggerIssue (d g wait : Nat)
  /-- PIN_PULSE_ISSUE, R97: A pin generator issues a pulse as its PTRIG event. `p` pin generator. -/
  | pinPulseIssue (d p : Nat)
  /-- PIN_PULSE_END, R97: A pin generator pulse ends after WIDTH_NS. `p` pin generator. -/
  | pinPulseEnd (d p : Nat)
  /-- FIRE_POINT_ISSUE, R98: A fire-point generator issues fire point k to its Hammer channel, which strobes or holds it. `c`
  Hammer channel. -/
  | firePointIssue (d c : Nat)
  /-- LEDGER_FIRST_BLOCK_NOTICE, R103: A Hearth's first-block notice moves a ledger entry to receiving. `idx` ledger index. -/
  | ledgerFirstBlockNotice (d idx : Nat)
  /-- LEDGER_FRAME_TAG_NOTICE, R103: A Hearth's frame-tag notice retires a ledger entry as delivered. `idx` ledger index. -/
  | ledgerFrameTagNotice (d idx : Nat)
  /-- FIRST_BLOCK_TIMEOUT, R104: An entry still open FIRST_TIMEOUT_US after its trigger is declared lost. `idx` ledger index. -/
  | firstBlockTimeout (d idx : Nat)
  /-- FRAME_TIMEOUT, R104: An entry not retired FRAME_TIMEOUT_US after its trigger is declared lost. `idx` ledger index. -/
  | frameTimeout (d idx : Nat)
  /-- LEDGER_SEL_WRITE, R102: A write of LEDGER_SEL copies the selected entry into LEDGER_DATA in the next cycle. `index` INDEX.
  -/
  | ledgerSelWrite (d index : Nat)
  /-- EXPOSE_ACK_APPLY, R211: The acknowledgement notice of an EXPOSE is applied in step 6 of the position block's cycle. `h`
  logical Hearth. -/
  | exposeAckApply (d h : Nat)
  /-- LANE_ENABLE, R117: LANE_CFG.ENABLE set with the domain on moves a lane from OFF to DETECT. `k` lane slice, physical. -/
  | laneEnable (d k : Nat)
  /-- SIGNAL_DETECT, R117: SIGNAL has been held for 10 µs in DETECT, and the lane enters TRAIN. `k` lane slice, physical. -/
  | signalDetect (d k : Nat)
  /-- CDR_LOCK, R117: The receiver's clock locks in TRAIN, and the lane enters LOCK. `k` lane slice, physical. -/
  | cdrLock (d k : Nat)
  /-- BLOCK_LOCK, R115: The hunt finds good_needed consecutive valid headers, and block lock is held. `k` lane slice, physical.
  -/
  | blockLock (d k : Nat)
  /-- LANE_BLOCK_RECEIVE, R113: A received block is decoded at the lane layer: TRAIN, IDLE or EIDLE handled, others passed to
  the link. `k` lane slice, physical; `hdr` sync header; `payload` payload. -/
  | laneBlockReceive (d k hdr payload : Nat)
  /-- LOCK_WINDOW_LOSS, R116: A 64-block window ends with 16 or more invalid headers, block lock is lost and the lane enters
  RELOCK. `k` lane slice, physical. -/
  | lockWindowLoss (d k : Nat)
  /-- LOSS_OF_SIGNAL, R129: Signal is lost in ACTIVE without EIDLE blocks, which is treated as a loss of lock with LOS set. `k`
  lane slice, physical. -/
  | lossOfSignal (d k : Nat)
  /-- TRAIN_TIMEOUT, R117: TRAIN lasts 2 ms, and the lane returns to DETECT with TRAIN_TIMEOUT set. `k` lane slice, physical. -/
  | trainTimeout (d k : Nat)
  /-- LOCK_TIMEOUT, R117: LOCK lasts 1 ms, and the lane returns to TRAIN with LOCK_TIMEOUT set. `k` lane slice, physical. -/
  | lockTimeout (d k : Nat)
  /-- CAPS_TIMEOUT, R117: CAPS lasts 100 ms, and the lane returns to DETECT with CAPS_TIMEOUT set. `k` lane slice, physical. -/
  | capsTimeout (d k : Nat)
  /-- RELOCK_TIMEOUT, R120: RELOCK lasts 2 µs, the lane leaves Active and RELOCK_FAIL is counted. `k` lane slice, physical. -/
  | relockTimeout (d k : Nat)
  /-- EXIT_DETECT, R130: Signal is detected in EIDLE, and the receiver enters EXIT and hunts with good_needed 8. `k` lane slice,
  physical. -/
  | exitDetect (d k : Nat)
  /-- EXIT_FAIL, R130: No lock by the burst end plus 64 blocks, and the lane enters TRAIN with EXIT_FAIL set. `k` lane slice,
  physical. -/
  | exitFail (d k : Nat)
  /-- TX_EXIT, R130: The sending end reaches valid swing and sends a 32-block TRAIN burst with EXIT set. `k` lane slice,
  physical. -/
  | txExit (d k : Nat)
  /-- FOM_MEASURE, R124: A measurement period of 65,536 blocks ends, and a new FOM is computed. `k` lane slice, physical; `v`
  figure of merit; `h` horizontal opening. -/
  | fomMeasure (d k v h : Nat)
  /-- TRIM_DECISION, R126: After 4,096 data blocks, each trim offset moves by at most one step within its window. `k` lane
  slice, physical; `ctle` CTLE step code; `dfe` DFE step code. -/
  | trimDecision (d k ctle dfe : Nat)
  /-- TRIM_FREEZE, R127: 65,536 consecutive IDLE blocks freeze trimming and set TRIM_FROZEN. `k` lane slice, physical. -/
  | trimFreeze (d k : Nat)
  /-- RETRAIN, R117: LANE_CTL.RETRAIN moves a lane to TRAIN and closes its open function 0x01 request. `k` lane slice, physical.
  -/
  | retrain (d k : Nat)
  /-- LANE_CLEAR_COUNTS, R135: LANE_CTL.CLEAR_COUNTS clears LANE_ERRCNT, LANE_EVTCNT and INJECTED. `k` lane slice, physical. -/
  | laneClearCounts (d k : Nat)
  /-- TEST_ENTER, R134: A LANE_TEST write with TEST_EN 1 puts the slice into TEST, or is refused. `k` lane slice, physical; `v`
  LANE_TEST word. -/
  | testEnter (d k v : Nat)
  /-- TEST_EXIT, R117: A LANE_TEST write with TEST_EN 0 returns the slice from TEST to DETECT. `k` lane slice, physical; `v`
  LANE_TEST word. -/
  | testExit (d k v : Nat)
  /-- INJECT_FIRE, R135: LANE_INJECT.FIRE arms a one-shot corruption of the next block. `k` lane slice, physical; `v`
  LANE_INJECT word. -/
  | injectFire (d k v : Nat)
  /-- INJECT_REPEAT, R135: Each INTERVAL blocks, a repeating injection corrupts one block. `k` lane slice, physical. -/
  | injectRepeat (d k : Nat)
  /-- SPARE_LISTEN_START, R137: An applied substitution connects the spare to the receive pair, and listening begins. `g` lane
  group. -/
  | spareListenStart (d g : Nat)
  /-- The comparison of 256 blocks at a listening spare has ended (R137). -/
  | spareSwitch (d g : Nat)
  /-- After a loss of lock, the first slice to regain block lock serves the lane (R138). -/
  | spareLossTakeover (d g : Nat)
  /-- SUSPECT_TEST_DONE, R140: The 1 s near-serial PRBS31 test of a replaced slice ends, and the slice becomes spare or FAILED.
  `g` lane group; `errs` errors counted. -/
  | suspectTestDone (d g errs : Nat)
  /-- LGRP_SUBSTITUTE, R140: LGRP_CTL OP 0x1 orders a substitution of the spare for a pad pair. `g` lane group; `pad` pad pair.
  -/
  | lgrpSubstitute (d g pad : Nat)
  /-- LGRP_ABANDON, R137: LGRP_CTL OP 0x2 abandons a running listen. `g` lane group. -/
  | lgrpAbandon (d g : Nat)
  /-- The marker set that the lanes of a bond have received is taken (R147). -/
  | markerSetReceive (d p : Nat)
  /-- ALIGN_TIMEOUT, R150: A bond spends 16 marker periods in ALIGNING, goes DOWN and sends LINK_RESET. `p` port. -/
  | alignTimeout (d p : Nat)
  /-- LINK_RESET_DEFERRED, R150: A LINK_RESET held back by the 100 ms limit is sent. `p` port. -/
  | linkResetDeferred (d p : Nat)
  /-- CAPS_REQ_SEND, R151: Every 1 ms, each lane in CAPS sends a CAPS_REQ block. `l` logical lane. -/
  | capsReqSend (d l : Nat)
  /-- The CAPS packet that a lane in CAPS has received is taken (R151 to R153). -/
  | capsReceive (d q : Nat)
  /-- The FRAME_START that the stream of a bond delivered first is taken (R155, R178); C0 streams whose lines cannot be written now, one bit each (R176). -/
  | frameStart (d p bad : Nat)
  /-- The FRAME_END that the stream of a bond delivered first is taken (R155, R181); what Bellows estimates for its C2 item. -/
  | frameEnd (d p power bad : Nat)
  /-- The image packet that the stream of a bond delivered first is taken (R156 to R158). -/
  | imagePacket (d p bad : Nat)
  /-- BILLET_IDLE_TIMEOUT, R223: No line of an open billet's range appears for BILLET_IDLE_MS, and the billet becomes ready. `h`
  logical Hearth. -/
  | billetIdleTimeout (d h : Nat)
  /-- The RSP packet that the stream of a bond delivered first is taken (R163, R167). -/
  | rspReceive (d p : Nat)
  /-- CMD_TIMEOUT, R167: A command stays open CMD_TIMEOUT_US and completes with TIMEOUT. `p` port; `tag` TAG. -/
  | cmdTimeout (d p tag : Nat)
  /-- The EVENT block that the stream of a bond delivered first is taken (R168). -/
  | eventReceive (d p : Nat)
  /-- HEARTBEAT_RECEIVE, R170: A downstream HEARTBEAT restarts the heartbeat timer. `p` port. -/
  | heartbeatReceive (d p : Nat)
  /-- HEARTBEAT_TIMEOUT, R170: No HEARTBEAT arrives for HB_TIMEOUT, and the bond goes DOWN. `p` port. -/
  | heartbeatTimeout (d p : Nat)
  /-- HEARTBEAT_SEND, R169: Every 100 µs, an ACTIVE bond sends a HEARTBEAT carrying DT on its master port. `p` port. -/
  | heartbeatSend (d p : Nat)
  /-- CMD_READ, R164: A COBEX_CMD READ requests LEN data blocks from camera address ADDR. `p` port; `len` LEN; `addr` ADDR. -/
  | cmdRead (d p len addr : Nat)
  /-- CMD_WRITE, R164: A COBEX_CMD WRITE sends LEN data blocks to camera address ADDR. `p` port; `len` LEN; `addr` ADDR. -/
  | cmdWrite (d p len addr : Nat)
  /-- CMD_EIDLE_DOWN, R164: A COBEX_CMD EIDLE_DOWN asks the camera to idle its downstream lanes. `p` port. -/
  | cmdEidleDown (d p : Nat)
  /-- CMD_WAKE_DOWN, R164: A COBEX_CMD WAKE_DOWN asks the camera to leave downstream idle. `p` port. -/
  | cmdWakeDown (d p : Nat)
  /-- CMD_CAPS_READ, R164: A COBEX_CMD CAPS_READ returns the camera's capability block. `p` port. -/
  | cmdCapsRead (d p : Nat)
  /-- CMD_LINK_RESET, R164: A COBEX_CMD LINK_RESET makes the camera retrain every lane. `p` port. -/
  | cmdLinkReset (d p : Nat)
  /-- CMD_CAMERA_PRIVATE, R164: A COBEX_CMD with a camera-private OP is sent as the camera defines. `p` port; `op` OP; `len`
  LEN; `addr` ADDR. -/
  | cmdCameraPrivate (d p op len addr : Nat)
  /-- COBEX_LINK_RESET, R172: COBEX_CTL.LINK_RESET sends OP 0x07 and detaches the camera. `p` port. -/
  | cobexLinkReset (d p : Nat)
  /-- COBEX_CLEAR_COUNTS, R158: COBEX_CTL.CLEAR_COUNTS clears the packet and error counters and ALIGN_MISS. `p` port. -/
  | cobexClearCounts (d p : Nat)
  /-- TABLE_SWAP, R193: HEARTH_TBL_CTL.SWAP requests a bank swap at the next frame boundary. `n` physical Hearth. -/
  | tableSwap (d n : Nat)
  /-- MARK_SET_NOW, R199: HEARTH_MARK_CTL OP 0b01 sets a mark at the next line not yet begun. `n` physical Hearth; `m` mark;
  `st` stream. -/
  | markSetNow (d n m st : Nat)
  /-- MARK_SET_NEXT_FRAME, R199: HEARTH_MARK_CTL OP 0b10 sets a mark PENDING until the first line of the next frame. `n`
  physical Hearth; `m` mark; `st` stream. -/
  | markSetNextFrame (d n m st : Nat)
  /-- MARK_CLEAR, R199: HEARTH_MARK_CTL OP 0b11 clears a mark. `n` physical Hearth; `m` mark. -/
  | markClear (d n m : Nat)
  /-- REWIND, R201: HEARTH_REWIND.GO sends the stream's Tongs reader back to the mark, or reports why not. `n` physical Hearth;
  `m` mark. -/
  | rewind (d n m : Nat)
  /-- HEARTH_CLEAR_COUNTS, R196: HEARTH_CTL.CLEAR_COUNTS clears the Hearth counters. `n` physical Hearth. -/
  | hearthClearCounts (d n : Nat)
  /-- EXPOSURE_ORDER, R209: A HEARTH_EXP_SET write orders an exposure change, sent or queued under R209. `n` physical Hearth;
  `value` HEARTH_EXP_SET word. -/
  | exposureOrder (d n value : Nat)
  /-- BILLET_START, R330: A free run-set tile starts the ready billet with the earliest deadline. -/
  | billetStart (d : Nat)
  /-- BILLET_COMPARE_END, R255: A tile finishes comparing a billet and writes its records. `t` logical tile. -/
  | billetCompareEnd (d t : Nat)
  /-- EVIDENCE_MESSAGE, R292: An evidence message is applied to a nozzle context and evaluated for a state change. `c` Hammer
  channel; `i` message, by order of arrival. -/
  | evidenceMessage (d c i : Nat)
  /-- BILLET_ABANDON, R331: A ready billet can no longer meet its deadline, and it is abandoned. `i` waiting billet. -/
  | billetAbandon (d i : Nat)
  /-- MODEL_COMMIT, R233: MODEL_CTL COMMIT makes the other bank of a profile active for later billets. `p` profile. -/
  | modelCommit (d p : Nat)
  /-- COMPARE_DISABLE, R258: CMP_CFG.ENABLE written 0 discards the ready billets of the Hearth. `h` logical Hearth. -/
  | compareDisable (d h : Nat)
  /-- ANVIL_CLEAR_COUNTS, R250: ANVIL_GCTL.CLEAR_COUNTS clears ANVIL_CNT and CMP_COUNT. -/
  | anvilClearCounts (d : Nat)
  /-- LATCH_LOAD_BEGIN, R262: A latch load begins, records LOAD_DT, samples CTX_GEN, compensates its line and shifts it. `c`
  Hammer channel; `bad` 64-byte blocks of the line with an uncorrectable error. -/
  | latchLoadBegin (d c : Nat) (bad : List Nat)
  /-- LATCH_PULSE_END, R271: The HD_LAT pulse of a late latch load ends, and the next latch load may begin. `c` Hammer channel.
  -/
  | latchPulseEnd (d c : Nat)
  /-- DOT_LINE_COMMIT, R269: A dot line's write into its slot completes, the slot becomes LOADED and HAMMER_WR advances. `c`
  Hammer channel. -/
  | dotLineCommit (d c : Nat)
  /-- HEAD_HOT_ACCEPT, R280: A low HD_HOT_N is accepted, HOT is set and the print group enters its hold. `c` Hammer channel. -/
  | headHotAccept (d c : Nat)
  /-- HEAD_COOL_ACCEPT, R283: A high HD_HOT_N is accepted, and a group that becomes cool starts its resume delay or posts a
  request. `c` Hammer channel. -/
  | headCoolAccept (d c : Nat)
  /-- RESUME_DELAY_EXPIRY, R283: RESUME_DELAY_MS after cool, or a reply's delay, expires and the group resumes firing. `g` print
  group. -/
  | resumeDelayExpiry (d g : Nat)
  /-- HGRP_RESUME, R283: HGRP_CTL.RESUME resumes a cool group at once. `g` print group. -/
  | hgrpResume (d g : Nat)
  /-- HAMMER_FLUSH, R271: HAMMER_CTL.FLUSH frees every LOADED slot and sets HAMMER_WR to HAMMER_NEXT. `c` Hammer channel. -/
  | hammerFlush (d c : Nat)
  /-- HAMMER_CLEAR_COUNTS, R272: HAMMER_CTL.CLEAR_COUNTS clears the Hammer counters. `c` Hammer channel. -/
  | hammerClearCounts (d c : Nat)
  /-- CONTEXT_WRITE, R288: An 8-byte host write to a nozzle context sets its fields and commits any change of STATE or HMASK.
  `c` Hammer channel; `n` nozzle; `size` bytes; `v` value. -/
  | contextWrite (d c n size v : Nat)
  /-- HOLD_SWEEP, R291: The store visits a context and clears HOLD when the age has reached HOLDOFF. `c` Hammer channel; `n`
  nozzle. -/
  | holdSweep (d c n : Nat)
  /-- HEAD_RESET, R310: A write of NCTX_HEAD on a disarmed channel resets every nozzle to HEALTHY with HOLD. `c` Hammer channel;
  `tag` HEAD_TAG. -/
  | headReset (d c tag : Nat)
  /-- SNAPSHOT, R307: NCTX_CTL.SNAPSHOT copies the channel's nozzle map into a NOZZLE_MAP Ingot. `c` Hammer channel. -/
  | snapshot (d c : Nat)
  /-- SNAPSHOT_PERIODIC, R307: Every PERIOD_MIN minutes, a channel whose CTX_GEN changed is snapshotted. -/
  | snapshotPeriodic (d : Nat)
  /-- NCTX_CLEAR_COUNTS, R297: NCTX_CTL.CLEAR_COUNTS clears NCTX_DROPS and NCTX_EVCNT. `c` Hammer channel. -/
  | nctxClearCounts (d c : Nat)
  /-- TEMP_SAMPLE, R317: Every 100 µs, the 32 die temperature sensors are sampled and T_MAX is updated. `readings` the 32
  sensors. -/
  | tempSample (d : Nat) (readings : List Nat)
  /-- BUDGET_GUARD, R327: Every 10 µs, P_EST is formed and, when P_AVG exceeds P_ALLOW, the guard withholds C2 or limits N_RUN.
  `act` what the activity model
  estimates before it is scaled; `pTile` estimate of a tile; `toks` readings of the rate monitors. -/
  | budgetGuard (d act pTile : Nat) (toks : List Nat)
  /-- TELEMETRY_READ, R318: Every 1 ms, READ_VOUT and READ_IOUT of every rail are read and the model is scaled. -/
  | telemetryRead (d : Nat)
  /-- BELLOWS_EPOCH, R339: A 1 ms epoch boundary: P_ALLOW steps, restores, rail steps, guardbands and schedule proposals. `toks`
  token counts of the 64 domains. -/
  | bellowsEpoch (d : Nat) (toks : List Nat)
  /-- RAIL_WRITE, R314: A BLW_RAIL write that changes FLOOR_MV of rail 14 or 15 brings the rail there in steps. `k` rail; `x`
  BLW_RAIL word. -/
  | railWrite (d k x : Nat)
  /-- BANK_ENTRY, R343: A domain idle for IDLE_US enters the deepest permitted banking level. `dom` power domain. -/
  | bankEntry (d dom : Nat)
  /-- BANK_EXIT, R345: Work arriving at a banked domain starts its exit and waits at the wake gate. `dom` power domain. -/
  | bankExit (d dom : Nat)
  /-- BANK_EXIT_DONE, R342: A domain completes its exit, and the held work is performed in order. `dom` power domain. -/
  | bankExitDone (d dom : Nat)
  /-- WAKE_NS_WRITE, R343: A BLW_WAKE write applies from the next entry, and a domain banked too deep exits at once. `k` wake
  class; `v` BLW_WAKE word. -/
  | wakeNsWrite (d k v : Nat)
  /-- BOND_IDLE_ENTRY, R344: Bellows sends EIDLE_DOWN to an idle bond whose generator is disarmed. `p` port. -/
  | bondIdleEntry (d p : Nat)
  /-- BLW_CLEAR_PEAKS, R317: BLW_CTL.CLEAR_PEAKS sets every PEAK to its current TEMP. -/
  | blwClearPeaks (d : Nat)
  /-- BLW_CLEAR_COUNTS, R327: BLW_CTL.CLEAR_COUNTS clears BLW_CNT. -/
  | blwClearCounts (d : Nat)
  /-- RECORD_PUSH, R350: A producer's push of an L-unit record is admitted or refused at the occupancy arbiter. `t` Trough;
  `source` source number; `data` the record. -/
  | recordPush (d t source : Nat) (data : Bytes)
  /-- RECORD_COMMIT, R351: The last unit of an admitted record is written, and the record commits. `t` Trough; `i` record, by
  order of admission. -/
  | recordCommit (d t i : Nat)
  /-- UNIT_POP, R354: The reader pops the oldest committed unit of its selected Trough. `ch` Tongs channel; `bad` word with a
  parity error; `tagBad` the tag store has an error. -/
  | unitPop (d ch : Nat) (bad : Option Nat) (tagBad : Bool)
  /-- TROUGH_FLUSH, R361: TRGH_CTL.FLUSH discards the committed records not yet begun at the flush boundary. `t` Trough. -/
  | troughFlush (d t : Nat)
  /-- TROUGH_MARK, R363: TRGH_CTL.MARK pushes a mark record into the Trough. `t` Trough. -/
  | troughMark (d t : Nat)
  /-- TROUGH_INJECT, R368: TRGH_CTL.INJECT inverts the parity of word 0 of the next unit written. `t` Trough. -/
  | troughInject (d t : Nat)
  /-- TROUGH_CLEAR_COUNTS, R363: TRGH_CTL.CLEAR_COUNTS clears TRGH_CNT and TRGH_CNT2. `t` Trough. -/
  | troughClearCounts (d t : Nat)
  /-- WATERMARK_WRITE, R359: A TRGH_WM write is judged and, when valid, the watermark test is made. `t` Trough; `v` TRGH_WM
  word. -/
  | watermarkWrite (d t v : Nat)
  /-- CHANNEL_ENABLE, R375: TONGS_CFG.ENABLE written 1 starts a channel at TONGS_HEAD, or continues its chain. `ch` Tongs
  channel. -/
  | channelEnable (d ch : Nat)
  /-- CHANNEL_DISABLE, R398: TONGS_CFG.ENABLE written 0 disables the channel at its next item boundary. `ch` Tongs channel. -/
  | channelDisable (d ch : Nat)
  /-- DRAIN_COMPLETE, R398: A DRAINING channel's outstanding requests have ended, and it enters DISABLED. `ch` Tongs channel. -/
  | drainComplete (d ch : Nat)
  /-- DOORBELL, R377: A TONGS_DOORBELL write sets REFETCH, or re-fetches the link word of a PARKED channel. `ch` Tongs channel.
  -/
  | doorbell (d ch : Nat)
  /-- DESCRIPTOR_FETCH, R375: A descriptor read completes, and the channel executes the descriptor. `ch` Tongs channel. -/
  | descriptorFetch (d ch : Nat)
  /-- LINK_REFETCH, R376: A link-word re-fetch completes, and the channel follows NEXT or parks. `ch` Tongs channel. -/
  | linkRefetch (d ch : Nat)
  /-- TAG_GRANT, R381: A read tag becomes free and is granted to the next waiting channel in rotation. -/
  | tagGrant (d : Nat)
  /-- STREAM_LINE_DELIVER, R385: A STREAM channel copies a visible line into its buffer, or withdraws it when lapped. `ch` Tongs
  channel. -/
  | streamLineDeliver (d ch : Nat)
  /-- TROUGH_RECORD_DELIVER, R386: A GENERAL channel delivers a popped record into its buffer. `ch` Tongs channel. -/
  | troughRecordDeliver (d ch : Nat)
  /-- BUFFER_CLOSE_TIMEOUT, R384: CLOSE_US passes after the last item, and the buffer is closed as TIMED. `ch` Tongs channel. -/
  | bufferCloseTimeout (d ch : Nat)
  /-- PACING_HOLD_EXPIRY, R389: A Trough's oldest record has waited HOLD_US and joins FILL selection. `t` Trough. -/
  | pacingHoldExpiry (d t : Nat)
  /-- DOT_SLOT_WAIT_END, R394: The slot for the next dot line becomes FREE, and the DOT channel reads the line. `ch` Tongs
  channel. -/
  | dotSlotWaitEnd (d ch : Nat)
  /-- CQ_RETURN, R391: A TONGS_CQ_RD write returns ring entries and frees a channel waiting in WAIT_CQ. `ch` Tongs channel; `rd`
  RD. -/
  | cqReturn (d ch rd : Nat)
  /-- CQ_CFG_WRITE, R391: A TONGS_CQ_CFG write on a disabled channel sets LOG2 and resets WR, RD and PHASE. `ch` Tongs channel;
  `v` TONGS_CQ_CFG word. -/
  | cqCfgWrite (d ch v : Nat)
  /-- TONGS_CLEAR_COUNTS, R392: TONGS_CTL.CLEAR_COUNTS clears TONGS_CNT. `ch` Tongs channel. -/
  | tongsClearCounts (d ch : Nat)
  /-- COMPLETION_RECEIVE, R381: A completion arrives, and its data is reassembled for its read or discarded as late. `tag` tag;
  `data` data; `status` completion status: 0 success, 1 UR, 2 CA; `poisoned` EP; `last` the last one of the request. -/
  | completionReceive (d tag : Nat) (data : Bytes) (status : Nat) (poisoned last : Bool)
  /-- COMPLETION_TIMEOUT, R418: A non-posted request passes T_CTO, fails, halts its channel and quarantines its tag. `tag` tag.
  -/
  | completionTimeout (d tag : Nat)
  /-- QUARANTINE_EXPIRY, R418: A quarantine ends 4 × T_CTO after its timeout, and the tag is released. `tag` tag. -/
  | quarantineExpiry (d tag : Nat)
  /-- BAR0_BAD_REQUEST, R407: A BAR0 request of bad size or alignment is an Unsupported Request. `isRead` a read; `addr`
  address; `size` bytes; `whole` every byte enable is set. -/
  | bar0BadRequest (d : Nat) (isRead : Bool) (addr size : Nat) (whole : Bool)
  /-- BAR2_REQUEST, R410: A BAR2 request is matched against its aperture's active set and served or refused. `isRead` a read;
  `off` offset; `len` bytes read; `data` bytes written; `poisoned` EP; `ns` how long the request runs in the endpoint after its arrival
  (R413). [DESIGN CHOICE, log 55] -/
  | bar2Request (d : Nat) (isRead : Bool) (off len : Nat) (data : Bytes) (poisoned : Bool) (ns : Nat)
  /-- BAR4_REQUEST, R568: A BAR4 request accesses the MSI-X table or PBA, or is an Unsupported Request. `isRead` a read; `off`
  offset; `size` bytes; `v` value; `whole` every byte enable is set. -/
  | bar4Request (d : Nat) (isRead : Bool) (off size v : Nat) (whole : Bool)
  /-- UNSUPPORTED_REQUEST_RECEIVE, R409: A received translated, atomic or I/O request is completed with UR or discarded.
  `posted` posted. -/
  | unsupportedRequestReceive (d : Nat) (posted : Bool)
  /-- HOST_PORT_ERROR, R423: A host-port error is detected, reported under AER and logged with Weld. `kind` error of R423, in
  order; `hdr` TLP header. -/
  | hostPortError (d kind : Nat) (hdr : Bytes)
  /-- APERTURE_COMMIT, R412: HEP_APER_CTL.COMMIT checks the shadow set and makes it active. `a` aperture. -/
  | apertureCommit (d a : Nat)
  /-- HOT_RESET, R425: An in-band hot reset resets the configuration space and MSI-X table and disables every Tongs channel. -/
  | hotReset (d : Nat)
  /-- LINK_DOWN, R426: DL_Down while the link was up is treated as an in-band hot reset. -/
  | linkDown (d : Nat)
  /-- FUNCTION_LEVEL_RESET, R425: A function-level reset resets the configuration space and disables every Tongs channel. -/
  | functionLevelReset (d : Nat)
  /-- D3HOT_ENTRY, R429: The function enters D3hot and issues no further requests. -/
  | d3hotEntry (d : Nat)
  /-- D0_RETURN, R429: The function returns to D0, channels continue and pending vectors send. -/
  | d0Return (d : Nat)
  /-- L0P_ENTRY, R430: The link enters L0p after its entry condition has held for IDLE_US. `width` active lanes. -/
  | l0pEntry (d width : Nat)
  /-- L1_ENTRY, R430: The link enters ASPM L1 after its entry condition has held for IDLE_US. -/
  | l1Entry (d : Nat)
  /-- LINK_PM_EXIT, R430: The link exits L0p or L1 when traffic arrives. -/
  | linkPmExit (d : Nat)
  /-- LTR_US_WRITE, R431: A write of LTR_US sends an LTR message. `us` LTR_US. -/
  | ltrUsWrite (d us : Nat)
  /-- QUENCH_ENTER, R432: HEP_QUENCH_CTL.ENTER sets the HOST cause and quenches the host port. -/
  | quenchEnter (d : Nat)
  /-- QUENCH_CLEAR_HOST, R432: HEP_QUENCH_CTL.CLEAR_HOST clears the HOST cause. -/
  | quenchClearHost (d : Nat)
  /-- QUENCH_CLEAR_CTO, R432: HEP_QUENCH_CTL.CLEAR_CTO clears the CTO_STORM cause. -/
  | quenchClearCto (d : Nat)
  /-- QUENCH_ASK, R435: HEP_QUENCH_CTL.ASK posts a new function 0x07 request when CAUSE is 0. -/
  | quenchAsk (d : Nat)
  /-- AER_STATUS_CLEAR, R432: Host software clears the fatal-severity AER status bits, which clears the FATAL cause. `unc`
  uncorrectable status bits; `cor` correctable status bits. -/
  | aerStatusClear (d unc cor : Nat)
  /-- QUENCH_RELEASE, R437: With no cause and the link up, the port is released and QUENCHED channels continue. -/
  | quenchRelease (d : Nat)
  /-- QUENCH_RELEASE_DELAY_EXPIRY, R435: The ARGUMENT delay of a VERDICT 0x03 reply expires and releases the port. -/
  | quenchReleaseDelayExpiry (d : Nat)
  /-- HEP_CLEAR_COUNTS, R418: HEP_CTL.CLEAR_COUNTS clears HEP_CPL and HEP_QCNT. -/
  | hepClearCounts (d : Nat)
  /-- MSIX_SRC_WRITE, R440: A HEP_MSIX_SRC write connects a vector to a Striker channel, subject to ownership. `v` vector; `x`
  HEP_MSIX_SRC word. -/
  | msixSrcWrite (d v x : Nat)
  /-- VECTOR_UNMASK, R444: A vector or the function is unmasked, and a pending message is sent. `v` vector, or the whole
  function. -/
  | vectorUnmask (d : Nat) (v : Option Nat)
  /-- MODERATION_EXPIRY, R442: A vector's moderation interval ends, and its pending message is sent. `v` vector. -/
  | moderationExpiry (d v : Nat)
  /-- CHANNEL_EVENT, R449: A Striker channel carries an event, and its consumers act in that cycle. `ch` Striker channel. -/
  | channelEvent (d ch : Nat)
  /-- LOOP_WINDOW_END, R452: A 10,000-cycle window ends and the channel event counts restart. -/
  | loopWindowEnd (d : Nat)
  /-- LOOP_CLEAR, R452: A host clear of LOOP lets the channel carry events again from the next cycle. `ch` Striker channel. -/
  | loopClear (d ch : Nat)
  /-- CELL_FILTER_EXPIRY, R453: A LUT cell's STABLE, STRETCH or DELAY filter count of FILT_N cycles completes. `k` LUT cell. -/
  | cellFilterExpiry (d k : Nat)
  /-- GPIO_INPUT_EDGE, R461: A filtered GPIO input level changes and enters Striker as GPIO_IN. `n` pin; `level` its
  new level at the sampler. -/
  | gpioInputEdge (d n level : Nat)
  /-- GPIO_PULSE_END, R461: A GPIO output pulse of WIDTH_NS ends. `n` pin. -/
  | gpioPulseEnd (d n : Nat)
  /-- SOFTWARE_EVENT, R450: An STK_SWEVT write raises one event on a PULSE channel. `ch` Striker channel. -/
  | softwareEvent (d ch : Nat)
  /-- SOFTWARE_TASK, R456: An STK_TASK_SW write raises an event on a task input. `k` task. -/
  | softwareTask (d k : Nat)
  /-- CELL_CONFIG_WRITE, R454: A write of STK_CELL or STK_CH_CFG is loop-tested and applied or refused. `isCell` STK_CELL, else
  STK_CH_CFG; `i` cell or channel; `v` word. -/
  | cellConfigWrite (d : Nat) (isCell : Bool) (i v : Nat)
  /-- STK_CLEAR_COUNTS, R448: STK_CTL.CLEAR_COUNTS clears the Striker event counters. -/
  | stkClearCounts (d : Nat)
  /-- SMB_STATUS, R466: The STATUS command returns the device state word. -/
  | smbStatus (d : Nat)
  /-- SMB_IDENT, R466: The IDENT command returns bytes 0 to 15 of the identification block. -/
  | smbIdent (d : Nat)
  /-- SMB_TEMP, R466: The TEMP command returns T_MAX. -/
  | smbTemp (d : Nat)
  /-- SMB_POWER, R466: The POWER command returns P_AVG. -/
  | smbPower (d : Nat)
  /-- SMB_ALERT_SRC, R466: The ALERT_SRC command returns SRC of SMB_ALERT. -/
  | smbAlertSrc (d : Nat)
  /-- SMB_ALERT_CLR, R481: The ALERT_CLR command clears the written bits of SRC. `v` value written; `pec` PEC byte. -/
  | smbAlertClr (d v : Nat) (pec : Pec)
  /-- SMB_UNLOCK, R470: The UNLOCK command opens a privileged session, or fails and locks UNLOCK out for 1 s. `key` key sent;
  `pec` PEC byte. -/
  | smbUnlock (d key : Nat) (pec : Pec)
  /-- SMB_LOCK, R470: The LOCK command ends the privileged session. `pec` PEC byte. -/
  | smbLock (d : Nat) (pec : Pec)
  /-- SMB_PAGE, R471: The PAGE command writes or reads the page of a unit. `u` unit; `v` value written; none for a read; `pec`
  PEC byte. -/
  | smbPage (d u : Nat) (v : Option Nat) (pec : Pec)
  /-- SMB_PTR, R471: The PTR command writes or reads the pointer of a unit. `u` unit; `v` value written; none for a read; `pec`
  PEC byte. -/
  | smbPtr (d u : Nat) (v : Option Nat) (pec : Pec)
  /-- SMB_LEN, R471: The LEN command writes or reads the DATA read length of a unit. `u` unit; `v` value written; none for a
  read; `pec` PEC byte. -/
  | smbLen (d u : Nat) (v : Option Nat) (pec : Pec)
  /-- SMB_DATA_READ, R474: A DATA Block Read returns bytes at the paged pointer of REGS or FLASH. `u` unit; `late` the repeated-
  start address arrives before the fetch has completed. -/
  | smbDataRead (d u : Nat) (late : Bool)
  /-- SMB_DATA_WRITE, R472: A DATA Block Write to REGS writes registers as BAR0 writes. `u` unit; `count` count sent; `data`
  bytes received; `pec` PEC byte. -/
  | smbDataWrite (d u count : Nat) (data : Bytes) (pec : Pec)
  /-- SMB_DATA8_READ, R474: A DATA8 fixed read returns 8 bytes at the paged pointer. `u` unit; `late` the repeated-start address
  arrives before the fetch has completed. -/
  | smbData8Read (d u : Nat) (late : Bool)
  /-- SMB_DATA8_WRITE, R472: A DATA8 fixed write to REGS performs one 8-byte register write. `u` unit; `v` value written; `pec`
  PEC byte. -/
  | smbData8Write (d u v : Nat) (pec : Pec)
  /-- SMB_FETCH_COMPLETE, R474: A DATA read fetch completes and its data is held for HOLD_MS. -/
  | smbFetchComplete (d : Nat)
  /-- SMB_HELD_DATA_EXPIRY, R474: Fetched data held for HOLD_MS is discarded. -/
  | smbHeldDataExpiry (d : Nat)
  /-- REGS_WRITE_APPLIED, R475: A REGS write held at a wake gate takes effect, and WR_BUSY clears. -/
  | regsWriteApplied (d : Nat)
  /-- ALERT_RESPONSE, R482: A read of the Alert Response Address is answered with arbitration on the address. `won` the target
  wins arbitration. -/
  | alertResponse (d : Nat) (won : Bool)
  /-- SESSION_TIMEOUT, R470: SESSION_S seconds pass without a privileged command and the session ends. -/
  | sessionTimeout (d : Nat)
  /-- UNLOCK_LOCKOUT_END, R470: The 1 s lockout after a wrong key ends. -/
  | unlockLockoutEnd (d : Nat)
  /-- SMB_TARGET_TIMEOUT, R477: SCL is low for 25 ms and the target abandons the transaction. -/
  | smbTargetTimeout (d : Nat)
  /-- SMB_PROTOCOL_ERROR, R479: A START or STOP in mid-byte aborts the target transaction. -/
  | smbProtocolError (d : Nat)
  /-- SMBC_SEND_BYTE, R484: SMBC_CMD OP 0x1 runs a Send Byte on the controller port. `p` controller port; `x` operands. -/
  | smbcSendByte (d p : Nat) (x : SmbcArg)
  /-- SMBC_WRITE_BYTE, R484: SMBC_CMD OP 0x2 runs a Write Byte. `p` controller port; `x` operands. -/
  | smbcWriteByte (d p : Nat) (x : SmbcArg)
  /-- SMBC_WRITE_WORD, R484: SMBC_CMD OP 0x3 runs a Write Word. `p` controller port; `x` operands. -/
  | smbcWriteWord (d p : Nat) (x : SmbcArg)
  /-- SMBC_READ_BYTE, R484: SMBC_CMD OP 0x4 runs a Read Byte. `p` controller port; `x` operands. -/
  | smbcReadByte (d p : Nat) (x : SmbcArg)
  /-- SMBC_READ_WORD, R484: SMBC_CMD OP 0x5 runs a Read Word. `p` controller port; `x` operands. -/
  | smbcReadWord (d p : Nat) (x : SmbcArg)
  /-- SMBC_BLOCK_WRITE, R484: SMBC_CMD OP 0x6 runs a Block Write. `p` controller port; `x` operands. -/
  | smbcBlockWrite (d p : Nat) (x : SmbcArg)
  /-- SMBC_BLOCK_READ, R484: SMBC_CMD OP 0x7 runs a Block Read. `p` controller port; `x` operands. -/
  | smbcBlockRead (d p : Nat) (x : SmbcArg)
  /-- SMBC_FIXED_WRITE, R484: SMBC_CMD OP 0x8 runs a fixed block write. `p` controller port; `x` operands. -/
  | smbcFixedWrite (d p : Nat) (x : SmbcArg)
  /-- SMBC_FIXED_READ, R484: SMBC_CMD OP 0x9 runs a fixed block read. `p` controller port; `x` operands. -/
  | smbcFixedRead (d p : Nat) (x : SmbcArg)
  /-- SMBC_COMPLETE, R486: A controller transaction ends with OK or a failure STATUS. `p` controller port; `status` STATUS;
  `data` bytes read. -/
  | smbcComplete (d p status : Nat) (data : Bytes)
  /-- SMBC_ARB_RETRY, R485: After a lost arbitration and a free bus, the whole transaction is retried. `p` controller port. -/
  | smbcArbRetry (d p : Nat)
  /-- SMBC_ADDR_RETRY, R486: After an address NACK and RETRY_GAP_US, the transaction is retried. `p` controller port. -/
  | smbcAddrRetry (d p : Nat)
  /-- SMBC_TIMEOUT, R487: SCL is held low by another device for 25 ms, and the transaction completes with TIMEOUT. `p`
  controller port. -/
  | smbcTimeout (d p : Nat)
  /-- SMBC_PROTOCOL_STOP, R487: A foreign START or STOP mid-byte stops the transaction with PROTO. `p` controller port. -/
  | smbcProtocolStop (d p : Nat)
  /-- SMBC_CLEAR_COUNTS, R485: SMBC_CFG.CLEAR_COUNTS clears SMBC_CNT. `p` controller port. -/
  | smbcClearCounts (d p : Nat)
  /-- SMB_T_CLEAR_COUNTS, R467: SMB_T_CFG.CLEAR_COUNTS clears SMB_T_CNT. -/
  | smbTClearCounts (d : Nat)
  /-- UNIT_FAULT, R491: A Hearth or tile fails a datapath check or an ECC read, and Weld starts a substitution. `cls` class: 1
  Hearth, 2 tile; `n` physical unit; `err` error. -/
  | unitFault (d cls n err : Nat)
  /-- WELD_SUBSTITUTE, R491: WELD_CTL OP SUBSTITUTE starts a substitution of the named logical unit. `cls` class: 1 Hearth, 2
  tile; `l` logical unit. -/
  | weldSubstitute (d cls l : Nat)
  /-- WELD_FORCE, R498: WELD_CTL OP FORCE switches to the tested spare without a shadow run. `cls` class: 1 Hearth, 2 tile; `l`
  logical unit. -/
  | weldForce (d cls l : Nat)
  /-- WELD_RETURN, R503: WELD_CTL OP RETURN tests a FAILED unit and returns it as a spare if it passes. `cls` class: 1 Hearth, 2
  tile; `n` physical unit; class 3 a lane slice. -/
  | weldReturn (d cls n : Nat)
  /-- WELD_CLEAR_SUSPECT, R499: WELD_CTL OP CLEAR_SUSPECT ends the SUSPECT span of a unit. `cls` class: 1 Hearth, 2 tile; `l`
  logical unit. -/
  | weldClearSuspect (d cls l : Nat)
  /-- WELD_TEST_SPARE, R492: WELD_CTL OP TEST_SPARE runs the self-test of a spare. `cls` class: 1 Hearth, 2 tile; `n` physical
  unit. -/
  | weldTestSpare (d cls n : Nat)
  /-- SPARE_TEST_DONE, R492: A spare's built-in self-test completes, passed or FAILED. `cls` class: 1 Hearth, 2 tile; `c`
  cluster; `k` position; `pass` the test passed; `repaired` after a repair. -/
  | spareTestDone (d cls c k : Nat) (pass repaired : Bool)
  /-- SPARE_TEST_PERIODIC, R492: Every SPARE_TEST_MIN minutes, each parked spare is tested. -/
  | spareTestPeriodic (d : Nat)
  /-- SHADOW_COMPARE, R495: The signatures of a shadow frame or billet are compared, and the run passes or fails. `cls` class: 1
  Hearth, 2 tile; `c` cluster; `pass` the outputs match. -/
  | shadowCompare (d cls c : Nat) (pass : Bool)
  /-- INTERNAL_ERROR, R507: An internal error is logged with its class and context and routed as configured. `e` the error. -/
  | internalError (d : Nat) (e : ErrArg)
  /-- INGOT_WRITE, R515: An Ingot is programmed and committed in the journal. `ok` programs succeed; `eraseOk` the erase of a
  reclaim succeeds. -/
  | ingotWrite (d : Nat) (ok eraseOk : Bool)
  /-- WEAR_PERIODIC, R516: Every WEAR_MIN minutes a WEAR Ingot is written. -/
  | wearPeriodic (d : Nat)
  /-- HOST_RECORD_WRITE, R521: WELD_HOST_CTL.WRITE writes a host record from WELD_HOST_BUF as an Ingot. `tag` TAG; `len` LEN. -/
  | hostRecordWrite (d tag len : Nat)
  /-- HOST_RECORD_FIND, R521: A write of WELD_HOST_FIND.TAG looks up the newest HOST Ingot with that TAG. `tag` TAG. -/
  | hostRecordFind (d tag : Nat)
  /-- SEMAPHORE_CLAIM, R559: A GLB_SEM write with RELEASE 0 takes a free semaphore for TOKEN. `i` semaphore; `token` TOKEN. -/
  | semaphoreClaim (d i token : Nat)
  /-- SEMAPHORE_RELEASE, R559: A GLB_SEM write with RELEASE 1 by the holder frees the semaphore. `i` semaphore; `token` TOKEN.
  -/
  | semaphoreRelease (d i token : Nat)
  /-- JTAG_INSTRUCTION_UPDATE, R552: Update-IR of a test instruction connects the pins to the boundary-scan register. `opcode`
  opcode; `scans` the scans of the selected data register that follow it, each with its bits in the order of JTAG_TDI. -/
  | jtagInstructionUpdate (d opcode : Nat) (scans : List (List Bool))
  /-- CONFIGURATION_WRITE, R400: A host write to the configuration space sets Bus Master Enable, MSI-X Enable or the Device
  Control fields, such as the tag enables, the completion timeout value and Max_Read_Request_Size. `x` the request: this write, or a read of
  the configuration space (R404). [DESIGN CHOICE, log 99] -/
  | configurationWrite (d : Nat) (x : CfgReq)
  /-- LOWER_HALF_READ, R107: A 4-byte read of the lower half of a 64-bit position, count or DT register latches the upper half
  for the next 4-byte read. `a` BAR0 address. -/
  | lowerHalfRead (d a : Nat)
  /-- SMB_BAD_COMMAND, R467: The target receives a command code that is not in R466, or that needs privilege while no session is
  open, does not acknowledge it, and sets and counts BAD_CMD. `code` command code. -/
  | smbBadCommand (d code : Nat)
  /-- FUNCTION_LEVEL_RESET_COMPLETE, R427: A function-level reset completes within 10 ms; configuration requests stop returning
  Request Retry Status, and HOST_RESET is raised and set. -/
  | functionLevelResetComplete (d : Nat)
  deriving DecidableEq, Repr

end Sys2Proof
end

