-- ==== Sys2Proof/Decode.lean ====
section
/-!
DEFINITION. Reading a command from the bits of the opcode table. No row of the table gives its command bits (every row's list of
fields is empty), so no word spells a command.
-/

namespace Sys2Proof

/-- The command that a word of `nbits` bits spells by the table: none, since the table gives no row bits. [DESIGN CHOICE, log 84] -/
def decodeTableWord (_nbits _w : Nat) : Option Instr := none

end Sys2Proof
end

