-- ==== Sys2Proof/Machine/Bits.lean ====
section
/-!
DEFINITION. Bit fields, byte order, rounding and saturation (R8 to R11), and the CRC-32C.
-/

namespace Sys2Proof.Machine

/-- Field [hi:lo] of a word (R10). -/
def bits (v hi lo : Nat) : Nat := (v >>> lo) % 2 ^ (hi + 1 - lo)

/-- Bit n of a word, as 0 or 1 (R10). -/
def bit (v n : Nat) : Nat := (v >>> n) % 2

/-- A truth value as a bit. -/
def b2n (b : Bool) : Nat := if b then 1 else 0

/-- The n bytes of v, little-endian (R11). -/
def le : Nat → Nat → Bytes
  | 0, _ => []
  | n + 1, v => BitVec.ofNat 8 v :: le n (v / 256)

/-- The number that a little-endian byte string spells (R11). -/
def fromLe : Bytes → Nat
  | [] => 0
  | b :: bs => b.toNat + 256 * fromLe bs

/-- n bytes of a byte string from offset `o`, read little-endian. -/
def leAt (bs : Bytes) (o n : Nat) : Nat := fromLe ((bs.drop o).take n)

/-- n zero bytes (record padding, R11). -/
def zeros (n : Nat) : Bytes := List.replicate n 0

/-- A byte string filled with 0x00 to a whole multiple of n bytes (R11). -/
def padTo (n : Nat) (bs : Bytes) : Bytes := bs ++ zeros ((n - bs.length % n) % n)

/-- A byte string cut or filled with 0x00 to exactly n bytes. -/
def fitTo (n : Nat) (bs : Bytes) : Bytes := (bs ++ zeros n).take n

/-- The signed value of the two's complement w-bit pattern v (R8). -/
def sOf (w v : Nat) : Int :=
  let u : Nat := v % 2 ^ w
  if u < 2 ^ (w - 1) then (u : Int) else (u : Int) - (2 ^ w : Nat)

/-- The w-bit two's complement pattern of an integer, modulo 2^w. -/
def uOf (w : Nat) (i : Int) : Nat := (i % ((2 ^ w : Nat) : Int)).toNat

/-- Unsigned saturation to w bits (R9). -/
def satU (w : Nat) (i : Int) : Nat :=
  if i < 0 then 0 else if i ≥ ((2 ^ w : Nat) : Int) then 2 ^ w - 1 else i.toNat

/-- Signed saturation to w bits (R9). -/
def satS (w : Nat) (i : Int) : Int :=
  let m : Int := ((2 ^ (w - 1) : Nat) : Int)
  if i < -m then -m else if i ≥ m then m - 1 else i

/-- a / b rounded to nearest, ties to even (R9); 0 where b is 0. -/
def rdiv (a : Int) (b : Nat) : Int :=
  if b = 0 then 0 else
    let q := a / (b : Int)
    let r := a % (b : Int)
    if 2 * r < b then q
    else if 2 * r > b then q + 1
    else if q % 2 = 0 then q else q + 1

/-- Ceiling division. -/
def cdiv (a b : Nat) : Nat := (a + b - 1) / b

/-- Whether a number lies in a closed range. -/
def within (lo v hi : Nat) : Bool := decide (lo ≤ v) && decide (v ≤ hi)

/-- One bit step of the reflected CRC-32C (polynomial 0x82F63B78). -/
def crcBit (c : Nat) : Nat := if c % 2 = 1 then (c / 2) ^^^ 0x82F63B78 else c / 2

/-- Eight bit steps of the CRC-32C. -/
def crcByte (c : Nat) (b : Byte) : Nat :=
  crcBit (crcBit (crcBit (crcBit (crcBit (crcBit (crcBit (crcBit (c ^^^ b.toNat))))))))

/-- CRC-32C over a byte string: the check of images (R49), Ingots (R514) and shadow signatures (R493). -/
def crc32c (bs : Bytes) : Nat := (bs.foldl crcByte 0xFFFFFFFF) ^^^ 0xFFFFFFFF

/-- One bit of the CRC-8 of SMBus, polynomial x^8 + x^2 + x + 1, most significant bit first (R463). -/
def crc8Bit (c : Nat) : Nat := if c < 128 then 2 * c else (2 * c % 256) ^^^ 7

/-- One byte of the CRC-8. -/
def crc8Byte (c : Nat) (b : Byte) : Nat :=
  crc8Bit (crc8Bit (crc8Bit (crc8Bit (crc8Bit (crc8Bit (crc8Bit (crc8Bit (c ^^^ b.toNat))))))))

/-- The packet error code of SMBus over a transaction's bytes (R463, R469). -/
def crc8 (bs : Bytes) : Nat := bs.foldl crc8Byte 0

/-- n consecutive numbers from a. -/
def upto (a n : Nat) : List Nat := (List.range n).map (a + ·)

/-- Population of the low w bits. -/
def ones : Nat → Nat → Nat
  | 0, _ => 0
  | w + 1, v => v % 2 + ones w (v / 2)

end Sys2Proof.Machine
end

