-- ==== Sys2Proof/Machine/Checks.lean ====
section
/-!
DEFINITION. The checks of a command's operands: they name units that the block has. A value that is too wide is no such name: its command
cuts it.
-/

namespace Sys2Proof

namespace Machine

/-- Number of generators of a kind. -/
def genCount : GenKind → Nat
  | .ctrig => 256
  | .ptrig => 32
  | .fire => 64

/-- Sizes and alignments that BAR0 accepts (R407). -/
def bar0Ok (a size : Nat) : Bool := decide (size ∈ [4, 8, 16, 32, 64] ∧ a % size = 0 ∧ a + size ≤ 0x4000000)

/-- Number of units of a function (R65). [DESIGN CHOICE, log 39] -/
def fnUnits (f : Nat) : Nat :=
  match f with
  | 1 => 512
  | 2 => 256
  | 3 | 4 => 64
  | 5 => 256
  | 6 => 384
  | 7 | 8 => 1
  | 9 => 8
  | _ => 0

/-- Roles of channels (R372). -/
def isStream (ch : Nat) : Bool := decide (ch < 1024)
def isDot (ch : Nat) : Bool := decide (1024 ≤ ch ∧ ch < 1088)
def isGeneral (ch : Nat) : Bool := decide (1088 ≤ ch)

/-- Logical units and positions of a cluster of a class (R174, R220). -/
def perCluster (cls : Nat) : Nat := if cls = 1 then 32 else 16

/-- Number of physical units of a class. -/
def unitCount (cls : Nat) : Nat := 8 * (perCluster cls + 1)

/-- Whether a unit of a class exists. -/
def clsOk (cls : Nat) : Bool := decide (cls = 1 ∨ cls = 2)

/-- The error codes of R508. -/
def errListed (c : Nat) : Bool := within 1 c 7 || within 0x10 c 0x21 || decide (c = 0x30 ∨ c = 0x31)

/-- Whether the operands of an error name things that exist. -/
def errArgOk (e : ErrArg) : Bool :=
  errListed e.code && e.unit.all (fun u => clsOk u.1 && decide (u.2 < unitCount u.1))

end Machine

open Machine in
/-- Whether the operands of a command name units that exist (R32, R65, R508, R555). [DESIGN CHOICE, log 5] -/
def Instr.check : Instr → Bool
  | .registerWrite _ _ _ _ => true
  | .decideReplyWrite _ _ _ _ => true
  | .decideTimeout _ _ => true
  | .heldRequestPost _ => true
  | .funcModeWrite _ f _ => decide (1 ≤ f ∧ f ≤ 9)
  | .funcModeSafePoint _ f u => decide (1 ≤ f ∧ f ≤ 9 ∧ u < fnUnits f)
  | .powerOn _ _ _ => true
  | .supplyOkFall _ => true
  | .perstNAssert _ => true
  | .perstNRelease _ _ => true
  | .timebaseLock _ => true
  | .flashInitDone _ _ _ _ _ => true
  | .slotSelect _ => true
  | .candidateVerify _ => true
  | .hbmTrainingDone _ _ => true
  | .hostLinkUp _ _ _ _ => true
  | .kindleApplyDone _ => true
  | .journalRestore _ => true
  | .kindleReady _ => true
  | .kindleHold _ => true
  | .rekindle _ _ => true
  | .finish _ _ => true
  | .resourceClaim _ _ _ _ => true
  | .resourceRelease _ _ _ _ => true
  | .flashRead _ _ => true
  | .flashProgram _ _ => true
  | .flashErase _ => true
  | .flashArbiterServe _ => true
  | .flashOpDone _ _ => true
  | .refLost _ => true
  | .refFrequencyLock _ => true
  | .refPhaseLock _ => true
  | .encoderEdge _ smp => smp.all fun x => decide (x.1 < 16)
  | .encoderIndex _ smp => smp.all fun x => decide (x.1 < 16)
  | .axisStall _ a => decide (a < 8)
  | .axisResume _ a => decide (a < 8)
  | .useRedundant _ a => decide (a < 8)
  | .usePrimary _ a => decide (a < 8)
  | .generatorArm _ k g => decide (g < genCount k)
  | .generatorDisarm _ k g => decide (g < genCount k)
  | .generatorFlush _ k g => decide (g < genCount k)
  | .targetCrossing _ k g => decide (g < genCount k)
  | .triggerIssue _ g _ => decide (g < 256)
  | .pinPulseIssue _ p => decide (p < 32)
  | .pinPulseEnd _ p => decide (p < 32)
  | .firePointIssue _ c => decide (c < 64)
  | .ledgerFirstBlockNotice _ idx => decide (idx < 131072)
  | .ledgerFrameTagNotice _ idx => decide (idx < 131072)
  | .firstBlockTimeout _ idx => decide (idx < 131072)
  | .frameTimeout _ idx => decide (idx < 131072)
  | .ledgerSelWrite _ _ => true
  | .exposeAckApply _ h => decide (h < 256)
  | .laneEnable _ k => decide (k < 544)
  | .signalDetect _ k => decide (k < 544)
  | .cdrLock _ k => decide (k < 544)
  | .blockLock _ k => decide (k < 544)
  | .laneBlockReceive _ k _ _ => decide (k < 544)
  | .lockWindowLoss _ k => decide (k < 544)
  | .lossOfSignal _ k => decide (k < 544)
  | .trainTimeout _ k => decide (k < 544)
  | .lockTimeout _ k => decide (k < 544)
  | .capsTimeout _ k => decide (k < 544)
  | .relockTimeout _ k => decide (k < 544)
  | .exitDetect _ k => decide (k < 544)
  | .exitFail _ k => decide (k < 544)
  | .txExit _ k => decide (k < 544)
  | .fomMeasure _ k _ _ => decide (k < 544)
  | .trimDecision _ k _ _ => decide (k < 544)
  | .trimFreeze _ k => decide (k < 544)
  | .retrain _ k => decide (k < 544)
  | .laneClearCounts _ k => decide (k < 544)
  | .testEnter _ k _ => decide (k < 544)
  | .testExit _ k _ => decide (k < 544)
  | .injectFire _ k _ => decide (k < 544)
  | .injectRepeat _ k => decide (k < 544)
  | .spareListenStart _ g => decide (g < 32)
  | .spareSwitch _ g => decide (g < 32)
  | .spareLossTakeover _ g => decide (g < 32)
  | .suspectTestDone _ g _ => decide (g < 32)
  | .lgrpSubstitute _ g pad => decide (g < 32 ∧ pad < 16)
  | .lgrpAbandon _ g => decide (g < 32)
  | .markerSetReceive _ p => decide (p < 512)
  | .alignTimeout _ p => decide (p < 512)
  | .linkResetDeferred _ p => decide (p < 512)
  | .capsReqSend _ l => decide (l < 512)
  | .capsReceive _ p => decide (p < 512)
  | .frameStart _ p _ => decide (p < 512)
  | .frameEnd _ p _ _ => decide (p < 512)
  | .imagePacket _ p _ => decide (p < 512)
  | .billetIdleTimeout _ h => decide (h < 256)
  | .rspReceive _ p => decide (p < 512)
  | .cmdTimeout _ p _ => decide (p < 512)
  | .eventReceive _ p => decide (p < 512)
  | .heartbeatReceive _ p => decide (p < 512)
  | .heartbeatTimeout _ p => decide (p < 512)
  | .heartbeatSend _ p => decide (p < 512)
  | .cmdRead _ p _ _ => decide (p < 512)
  | .cmdWrite _ p _ _ => decide (p < 512)
  | .cmdEidleDown _ p => decide (p < 512)
  | .cmdWakeDown _ p => decide (p < 512)
  | .cmdCapsRead _ p => decide (p < 512)
  | .cmdLinkReset _ p => decide (p < 512)
  | .cmdCameraPrivate _ p _ _ _ => decide (p < 512)
  | .cobexLinkReset _ p => decide (p < 512)
  | .cobexClearCounts _ p => decide (p < 512)
  | .tableSwap _ n => decide (n < 264)
  | .markSetNow _ n m st => decide (n < 264 ∧ m < 4 ∧ st < 4)
  | .markSetNextFrame _ n m st => decide (n < 264 ∧ m < 4 ∧ st < 4)
  | .markClear _ n m => decide (n < 264 ∧ m < 4)
  | .rewind _ n m => decide (n < 264 ∧ m < 4)
  | .hearthClearCounts _ n => decide (n < 264)
  | .exposureOrder _ n _ => decide (n < 264)
  | .billetStart _ => true
  | .billetCompareEnd _ t => decide (t < 128)
  | .evidenceMessage _ c _ => decide (c < 64)
  | .billetAbandon _ _ => true
  | .modelCommit _ p => decide (p < 16)
  | .compareDisable _ h => decide (h < 256)
  | .anvilClearCounts _ => true
  | .latchLoadBegin _ c _ => decide (c < 64)
  | .latchPulseEnd _ c => decide (c < 64)
  | .dotLineCommit _ c => decide (c < 64)
  | .headHotAccept _ c => decide (c < 64)
  | .headCoolAccept _ c => decide (c < 64)
  | .resumeDelayExpiry _ g => decide (g < 8)
  | .hgrpResume _ g => decide (g < 8)
  | .hammerFlush _ c => decide (c < 64)
  | .hammerClearCounts _ c => decide (c < 64)
  | .contextWrite _ c n _ _ => decide (c < 64 ∧ n < 16384)
  | .holdSweep _ c n => decide (c < 64 ∧ n < 16384)
  | .headReset _ c _ => decide (c < 64)
  | .snapshot _ c => decide (c < 64)
  | .snapshotPeriodic _ => true
  | .nctxClearCounts _ c => decide (c < 64)
  | .tempSample _ _ => true
  | .budgetGuard _ _ _ _ => true
  | .telemetryRead _ => true
  | .bellowsEpoch _ _ => true
  | .railWrite _ k _ => decide (k < 16)
  | .bankEntry _ dom => decide (dom < 64)
  | .bankExit _ dom => decide (dom < 64)
  | .bankExitDone _ dom => decide (dom < 64)
  | .wakeNsWrite _ k _ => decide (k < 6)
  | .bondIdleEntry _ p => decide (p < 512)
  | .blwClearPeaks _ => true
  | .blwClearCounts _ => true
  | .recordPush _ t _ _ => decide (t < 1536)
  | .recordCommit _ t _ => decide (t < 1536)
  | .unitPop _ ch _ _ => isGeneral ch && decide (ch < 1152)
  | .troughFlush _ t => decide (t < 1536)
  | .troughMark _ t => decide (t < 1536)
  | .troughInject _ t => decide (t < 1536)
  | .troughClearCounts _ t => decide (t < 1536)
  | .watermarkWrite _ t _ => decide (t < 1536)
  | .channelEnable _ ch => decide (ch < 1152)
  | .channelDisable _ ch => decide (ch < 1152)
  | .drainComplete _ ch => decide (ch < 1152)
  | .doorbell _ ch => decide (ch < 1152)
  | .descriptorFetch _ ch => decide (ch < 1152)
  | .linkRefetch _ ch => decide (ch < 1152)
  | .tagGrant _ => true
  | .streamLineDeliver _ ch => isStream ch
  | .troughRecordDeliver _ ch => isGeneral ch && decide (ch < 1152)
  | .bufferCloseTimeout _ ch => decide (ch < 1152)
  | .pacingHoldExpiry _ t => decide (t < 1536)
  | .dotSlotWaitEnd _ ch => isDot ch && decide (ch < 1152)
  | .cqReturn _ ch _ => decide (ch < 1152)
  | .cqCfgWrite _ ch _ => decide (ch < 1152)
  | .tongsClearCounts _ ch => decide (ch < 1152)
  | .completionReceive _ _ _ _ _ _ => true
  | .completionTimeout _ _ => true
  | .quarantineExpiry _ _ => true
  | .bar0BadRequest _ _ _ _ _ => true
  | .bar2Request _ _ _ _ _ _ _ => true
  | .bar4Request _ _ _ _ _ _ => true
  | .unsupportedRequestReceive _ _ => true
  | .hostPortError _ kind _ => decide (kind < 17)
  | .apertureCommit _ a => decide (a < 16)
  | .hotReset _ => true
  | .linkDown _ => true
  | .functionLevelReset _ => true
  | .d3hotEntry _ => true
  | .d0Return _ => true
  | .l0pEntry _ _ => true
  | .l1Entry _ => true
  | .linkPmExit _ => true
  | .ltrUsWrite _ _ => true
  | .quenchEnter _ => true
  | .quenchClearHost _ => true
  | .quenchClearCto _ => true
  | .quenchAsk _ => true
  | .aerStatusClear _ _ _ => true
  | .quenchRelease _ => true
  | .quenchReleaseDelayExpiry _ => true
  | .hepClearCounts _ => true
  | .msixSrcWrite _ v _ => decide (v < 2048)
  | .vectorUnmask _ v => v.all fun v => decide (v < 2048)
  | .moderationExpiry _ v => decide (v < 2048)
  | .channelEvent _ ch => decide (ch < 512)
  | .loopWindowEnd _ => true
  | .loopClear _ ch => decide (ch < 512)
  | .cellFilterExpiry _ k => decide (k < 256)
  | .gpioInputEdge _ n _ => decide (n < 32)
  | .gpioPulseEnd _ n => decide (n < 32)
  | .softwareEvent _ ch => decide (ch < 512)
  | .softwareTask _ _ => true
  | .cellConfigWrite _ isCell i _ => decide (i < (if isCell then 256 else 512))
  | .stkClearCounts _ => true
  | .smbStatus _ => true
  | .smbIdent _ => true
  | .smbTemp _ => true
  | .smbPower _ => true
  | .smbAlertSrc _ => true
  | .smbAlertClr _ _ _ => true
  | .smbUnlock _ _ _ => true
  | .smbLock _ _ => true
  | .smbPage _ u _ _ => decide (u < 2)
  | .smbPtr _ u _ _ => decide (u < 2)
  | .smbLen _ u _ _ => decide (u < 2)
  | .smbDataRead _ u _ => decide (u < 2)
  | .smbDataWrite _ u _ _ _ => decide (u < 2)
  | .smbData8Read _ u _ => decide (u < 2)
  | .smbData8Write _ u _ _ => decide (u < 2)
  | .smbFetchComplete _ => true
  | .smbHeldDataExpiry _ => true
  | .regsWriteApplied _ => true
  | .alertResponse _ _ => true
  | .sessionTimeout _ => true
  | .unlockLockoutEnd _ => true
  | .smbTargetTimeout _ => true
  | .smbProtocolError _ => true
  | .smbcSendByte _ p _ => decide (p < 2)
  | .smbcWriteByte _ p _ => decide (p < 2)
  | .smbcWriteWord _ p _ => decide (p < 2)
  | .smbcReadByte _ p _ => decide (p < 2)
  | .smbcReadWord _ p _ => decide (p < 2)
  | .smbcBlockWrite _ p _ => decide (p < 2)
  | .smbcBlockRead _ p _ => decide (p < 2)
  | .smbcFixedWrite _ p _ => decide (p < 2)
  | .smbcFixedRead _ p _ => decide (p < 2)
  | .smbcComplete _ p _ _ => decide (p < 2)
  | .smbcArbRetry _ p => decide (p < 2)
  | .smbcAddrRetry _ p => decide (p < 2)
  | .smbcTimeout _ p => decide (p < 2)
  | .smbcProtocolStop _ p => decide (p < 2)
  | .smbcClearCounts _ p => decide (p < 2)
  | .smbTClearCounts _ => true
  | .unitFault _ cls n _ => clsOk cls && decide (n < unitCount cls)
  | .weldSubstitute _ cls l => clsOk cls && decide (l < 8 * perCluster cls)
  | .weldForce _ cls l => clsOk cls && decide (l < 8 * perCluster cls)
  | .weldReturn _ cls n => (clsOk cls && decide (n < unitCount cls)) || decide (cls = 3 ∧ n < 544)
  | .weldClearSuspect _ cls l => clsOk cls && decide (l < 8 * perCluster cls)
  | .weldTestSpare _ cls n => clsOk cls && decide (n < unitCount cls)
  | .spareTestDone _ cls c k _ _ => clsOk cls && decide (c < 8 ∧ k ≤ perCluster cls)
  | .spareTestPeriodic _ => true
  | .shadowCompare _ cls c _ => clsOk cls && decide (c < 8)
  | .internalError _ e => errArgOk e
  | .ingotWrite _ _ _ => true
  | .wearPeriodic _ => true
  | .hostRecordWrite _ _ _ => true
  | .hostRecordFind _ _ => true
  | .semaphoreClaim _ i _ => decide (i < 8)
  | .semaphoreRelease _ i _ => decide (i < 8)
  | .jtagInstructionUpdate _ _ _ => true
  | .configurationWrite _ _ => true
  | .lowerHalfRead _ _ => true
  | .smbBadCommand _ _ => true
  | .functionLevelResetComplete _ => true

end Sys2Proof
end

