-- ==== Sys2Proof/Config.lean ====
section
/-!
DEFINITION. What one part has fixed at its making, and the free values of the spec's open points: constants
without a body, so that no proof can see their values.
-/

namespace Sys2Proof.Config

/-- The fused serial number (ID_SERIAL, R557). [DESIGN CHOICE, log 83] -/
opaque serialNumber : BitVec 64

/-- The fused corner token rate of each power domain, TOK_CORNER of BLW_DOM (R319). [DESIGN CHOICE, log 83] -/
opaque tokCorner : Nat → BitVec 16

/-- Free values, one for each value of the counter that the step reads and advances. [DESIGN CHOICE, log 17; DEDUCED, log 82] -/
opaque freeValue : Nat → BitVec 64

end Sys2Proof.Config
end

