-- ==== Sys2Proof/Machine/RegBase.lean ====
section
/-!
DEFINITION. What a register field is: its place in BAR0, its width, its access code (R16) and its reset value (R17).
-/

namespace Sys2Proof.Machine

/-- Access codes (R16). RWS fields are listed as rw: what a reset does to them is the reset operations' matter (R18). -/
inductive Acc where
  | ro | rw | rw1c | wo | rwk
  deriving DecidableEq, Repr

/-- One register field. Instance (i, j) of its register lies at byte addr + i * s1 + j * s2 of BAR0 (R14); the field
is bits [lo + w - 1 : lo] of it; rst gives its reset value by instance. -/
structure Fld where
  addr : Nat
  s1 : Nat
  s2 : Nat
  lo : Nat
  w : Nat
  acc : Acc
  rst : Nat → Nat → Nat

/-- The key of a field in the register store: its bit address in BAR0. -/
def Fld.key (f : Fld) (i j : Nat) : Nat := 8 * (f.addr + i * f.s1 + j * f.s2) + f.lo

/-- The default reply timeouts of R44, in µs, by function code. -/
def funcTimeoutDefault (f : Nat) : Nat :=
  if f = 1 then 10000 else if f = 2 then 100000 else if f = 3 then 50000 else if f = 4 then 20000
  else if f = 5 then 100000 else if f = 6 then 100000 else if f = 7 then 1000000 else if f = 8 then 10000
  else if f = 9 then 10000000 else 0

/-- The core rail of each power domain (R313). -/
def domainRail (d : Nat) : Nat :=
  if d < 32 then 14 else if d < 40 then 8 + (d - 32) / 2 else if d < 48 then d - 40
  else if d < 52 then 12 else if d < 57 then 15 else if d = 57 then 14 else if d = 61 then 12 else 13

/-- The default class or severity of an error code: 0 correctable, 1 non-fatal, 2 fatal (R508). Reserved codes read
as correctable. -/
def errDefaultSeverity (c : Nat) : Nat :=
  if 0x10 ≤ c ∧ c ≤ 0x21 then 1 else if c = 0x30 ∨ c = 0x31 then 2 else 0

end Sys2Proof.Machine
end

