-- ==== Sys2Proof/Machine/RegsA.lean ====
section
/-!
DEFINITION. Identification, Kindle, position and trigger registers (chapters 1, 2, 3 and 19): each register field
of the spec's register tables, with its place, access code and reset value (R14, R16, R17, R555).
-/

namespace Sys2Proof.Machine.F


-- DECIDE_REPLY (chapter 01)
def DECIDE_REPLY_ARGUMENT : Fld := ⟨0x100, 0, 0, 64, 64, .wo, (fun _ _ => 0)⟩
def DECIDE_REPLY_VERDICT : Fld := ⟨0x100, 0, 0, 32, 8, .wo, (fun _ _ => 0)⟩
def DECIDE_REPLY_REQUEST_ID : Fld := ⟨0x100, 0, 0, 0, 32, .wo, (fun _ _ => 0)⟩

-- DECIDE_STATUS (chapter 01)
def DECIDE_STATUS_OVERFLOW : Fld := ⟨0x110, 0, 0, 31, 1, .rw1c, (fun _ _ => 0)⟩
def DECIDE_STATUS_HELD : Fld := ⟨0x110, 0, 0, 30, 1, .ro, (fun _ _ => 0)⟩
def DECIDE_STATUS_LAST_RESULT : Fld := ⟨0x110, 0, 0, 16, 8, .ro, (fun _ _ => 0)⟩
def DECIDE_STATUS_OPEN : Fld := ⟨0x110, 0, 0, 0, 13, .ro, (fun _ _ => 0)⟩

-- KINDLE_STATUS (chapter 02)
def KINDLE_STATUS_EARLY_WRITE : Fld := ⟨0x10000, 0, 0, 12, 1, .rw1c, (fun _ _ => 0)⟩
def KINDLE_STATUS_REJECTED_B : Fld := ⟨0x10000, 0, 0, 11, 1, .ro, (fun _ _ => 0)⟩
def KINDLE_STATUS_REJECTED_A : Fld := ⟨0x10000, 0, 0, 10, 1, .ro, (fun _ _ => 0)⟩
def KINDLE_STATUS_FLASH_FAULT : Fld := ⟨0x10000, 0, 0, 9, 1, .ro, (fun _ _ => 0)⟩
def KINDLE_STATUS_NO_IMAGE : Fld := ⟨0x10000, 0, 0, 8, 1, .ro, (fun _ _ => 0)⟩
def KINDLE_STATUS_SLOW_FLASH : Fld := ⟨0x10000, 0, 0, 7, 1, .ro, (fun _ _ => 0)⟩
def KINDLE_STATUS_FALLBACK : Fld := ⟨0x10000, 0, 0, 6, 1, .ro, (fun _ _ => 0)⟩
def KINDLE_STATUS_SLOT_USED : Fld := ⟨0x10000, 0, 0, 4, 2, .ro, (fun _ _ => 0)⟩
def KINDLE_STATUS_PHASE : Fld := ⟨0x10000, 0, 0, 0, 4, .ro, (fun _ _ => 0)⟩

-- KINDLE_SEQ (chapter 02)
def KINDLE_SEQ_SEQUENCE : Fld := ⟨0x10008, 0, 0, 0, 64, .ro, (fun _ _ => 0)⟩

-- KINDLE_TIME (chapter 02)
def KINDLE_TIME_ELAPSED_US : Fld := ⟨0x10010, 0, 0, 0, 32, .ro, (fun _ _ => 0)⟩

-- KINDLE_REJECT (chapter 02)
def KINDLE_REJECT_ENTRY : Fld := ⟨0x10020, 8, 0, 24, 32, .ro, (fun _ _ => 0)⟩
def KINDLE_REJECT_SECTION : Fld := ⟨0x10020, 8, 0, 8, 16, .ro, (fun _ _ => 0)⟩
def KINDLE_REJECT_CHECK : Fld := ⟨0x10020, 8, 0, 0, 8, .ro, (fun _ _ => 0)⟩

-- KINDLE_CTL (chapter 02)
def KINDLE_CTL_KEY : Fld := ⟨0x10040, 0, 0, 8, 8, .wo, (fun _ _ => 0)⟩
def KINDLE_CTL_FINISH : Fld := ⟨0x10040, 0, 0, 2, 1, .wo, (fun _ _ => 0)⟩
def KINDLE_CTL_REKINDLE : Fld := ⟨0x10040, 0, 0, 1, 1, .wo, (fun _ _ => 0)⟩

-- FUNC_MODE (chapter 02)
def FUNC_MODE_PENDING : Fld := ⟨0x10100, 4, 0, 31, 1, .ro, (fun _ _ => 0)⟩
def FUNC_MODE_CURRENT : Fld := ⟨0x10100, 4, 0, 16, 1, .ro, (fun _ _ => 1)⟩
def FUNC_MODE_REQUESTED : Fld := ⟨0x10100, 4, 0, 0, 1, .rw, (fun _ _ => 1)⟩

-- FUNC_TIMEOUT (chapter 02)
def FUNC_TIMEOUT_TIMEOUT_US : Fld := ⟨0x10140, 4, 0, 0, 32, .rw, (fun f _ => funcTimeoutDefault f)⟩

-- RESOURCE_CLAIM (chapter 02)
def RESOURCE_CLAIM_OWNER : Fld := ⟨0x10200, 0, 0, 32, 32, .wo, (fun _ _ => 0)⟩
def RESOURCE_CLAIM_INDEX : Fld := ⟨0x10200, 0, 0, 16, 16, .wo, (fun _ _ => 0)⟩
def RESOURCE_CLAIM_CLASS : Fld := ⟨0x10200, 0, 0, 8, 8, .wo, (fun _ _ => 0)⟩
def RESOURCE_CLAIM_OP : Fld := ⟨0x10200, 0, 0, 0, 8, .wo, (fun _ _ => 0)⟩

-- RESOURCE_RESULT (chapter 02)
def RESOURCE_RESULT_HOLDER : Fld := ⟨0x10208, 0, 0, 32, 32, .ro, (fun _ _ => 0)⟩
def RESOURCE_RESULT_RESULT : Fld := ⟨0x10208, 0, 0, 0, 8, .ro, (fun _ _ => 0)⟩

-- FLASH_ADDR (chapter 02)
def FLASH_ADDR_ADDR : Fld := ⟨0x10400, 0, 0, 0, 32, .rw, (fun _ _ => 0)⟩

-- FLASH_OP (chapter 02)
def FLASH_OP_LENGTH : Fld := ⟨0x10408, 0, 0, 8, 13, .wo, (fun _ _ => 0)⟩
def FLASH_OP_OP : Fld := ⟨0x10408, 0, 0, 0, 8, .wo, (fun _ _ => 0)⟩

-- FLASH_STATUS (chapter 02)
def FLASH_STATUS_FAULT : Fld := ⟨0x10410, 0, 0, 3, 1, .rw1c, (fun _ _ => 0)⟩
def FLASH_STATUS_DENIED : Fld := ⟨0x10410, 0, 0, 2, 1, .rw1c, (fun _ _ => 0)⟩
def FLASH_STATUS_DONE : Fld := ⟨0x10410, 0, 0, 1, 1, .rw1c, (fun _ _ => 0)⟩
def FLASH_STATUS_BUSY : Fld := ⟨0x10410, 0, 0, 0, 1, .ro, (fun _ _ => 0)⟩

-- TB_STATUS (chapter 03)
def TB_STATUS_HOLDOVER : Fld := ⟨0x40000, 0, 0, 3, 1, .ro, (fun _ _ => 0)⟩
def TB_STATUS_LOCKED_SLEW : Fld := ⟨0x40000, 0, 0, 2, 1, .ro, (fun _ _ => 0)⟩
def TB_STATUS_REF_LOST : Fld := ⟨0x40000, 0, 0, 1, 1, .rw1c, (fun _ _ => 0)⟩
def TB_STATUS_LOCKED : Fld := ⟨0x40000, 0, 0, 0, 1, .ro, (fun _ _ => 0)⟩

-- DT_NOW (chapter 03)
def DT_NOW_DT : Fld := ⟨0x40008, 0, 0, 0, 64, .ro, (fun _ _ => 0)⟩

-- ENC_CFG (chapter 03)
def ENC_CFG_FILTER_NS : Fld := ⟨0x41000, 0x40, 0, 8, 8, .rw, (fun _ _ => 0)⟩
def ENC_CFG_ZMODE : Fld := ⟨0x41000, 0x40, 0, 4, 2, .rw, (fun _ _ => 0)⟩
def ENC_CFG_Z_POL : Fld := ⟨0x41000, 0x40, 0, 3, 1, .rw, (fun _ _ => 0)⟩
def ENC_CFG_SWAP : Fld := ⟨0x41000, 0x40, 0, 2, 1, .rw, (fun _ _ => 0)⟩
def ENC_CFG_ENABLE : Fld := ⟨0x41000, 0x40, 0, 0, 1, .rw, (fun _ _ => 0)⟩

-- ENC_COUNT (chapter 03)
def ENC_COUNT_COUNT : Fld := ⟨0x41008, 0x40, 0, 0, 48, .ro, (fun _ _ => 0)⟩

-- ENC_ZPOS (chapter 03)
def ENC_ZPOS_VALUE : Fld := ⟨0x41010, 0x40, 0, 0, 48, .ro, (fun _ _ => 0)⟩

-- ENC_ZSTAMP (chapter 03)
def ENC_ZSTAMP_VALUE : Fld := ⟨0x41018, 0x40, 0, 0, 64, .ro, (fun _ _ => 0)⟩

-- ENC_STATUS (chapter 03)
def ENC_STATUS_ILLEGAL_COUNT : Fld := ⟨0x41020, 0x40, 0, 16, 16, .ro, (fun _ _ => 0)⟩
def ENC_STATUS_STALLED : Fld := ⟨0x41020, 0x40, 0, 2, 1, .ro, (fun _ _ => 0)⟩
def ENC_STATUS_Z_IGNORED : Fld := ⟨0x41020, 0x40, 0, 1, 1, .rw1c, (fun _ _ => 0)⟩
def ENC_STATUS_ILLEGAL : Fld := ⟨0x41020, 0x40, 0, 0, 1, .rw1c, (fun _ _ => 0)⟩

-- AXIS_CFG (chapter 03)
def AXIS_CFG_AVG : Fld := ⟨0x42000, 0x80, 0, 21, 3, .rw, (fun _ _ => 2)⟩
def AXIS_CFG_AUTO_SWITCH : Fld := ⟨0x42000, 0x80, 0, 20, 1, .rw, (fun _ _ => 0)⟩
def AXIS_CFG_RESUME_MODE : Fld := ⟨0x42000, 0x80, 0, 19, 1, .rw, (fun _ _ => 0)⟩
def AXIS_CFG_MODE : Fld := ⟨0x42000, 0x80, 0, 18, 1, .rw, (fun _ _ => 0)⟩
def AXIS_CFG_WINDOW : Fld := ⟨0x42000, 0x80, 0, 14, 4, .rw, (fun _ _ => 0)⟩
def AXIS_CFG_SIGN_R : Fld := ⟨0x42000, 0x80, 0, 13, 1, .rw, (fun _ _ => 0)⟩
def AXIS_CFG_SIGN_P : Fld := ⟨0x42000, 0x80, 0, 12, 1, .rw, (fun _ _ => 0)⟩
def AXIS_CFG_RED_EN : Fld := ⟨0x42000, 0x80, 0, 11, 1, .rw, (fun _ _ => 0)⟩
def AXIS_CFG_REDUNDANT : Fld := ⟨0x42000, 0x80, 0, 7, 4, .rw, (fun _ _ => 0)⟩
def AXIS_CFG_PRIMARY : Fld := ⟨0x42000, 0x80, 0, 3, 4, .rw, (fun _ _ => 0)⟩
def AXIS_CFG_ENABLE : Fld := ⟨0x42000, 0x80, 0, 0, 1, .rw, (fun _ _ => 0)⟩

-- AXIS_STALL (chapter 03)
def AXIS_STALL_STALL_NS : Fld := ⟨0x42004, 0x80, 0, 0, 32, .rw, (fun _ _ => 0xFFFFFF)⟩

-- AXIS_POS (chapter 03)
def AXIS_POS_POSITION : Fld := ⟨0x42008, 0x80, 0, 0, 56, .ro, (fun _ _ => 0)⟩

-- AXIS_RAW (chapter 03)
def AXIS_RAW_POSITION : Fld := ⟨0x42010, 0x80, 0, 0, 56, .ro, (fun _ _ => 0)⟩

-- AXIS_HWM (chapter 03)
def AXIS_HWM_POSITION : Fld := ⟨0x42018, 0x80, 0, 0, 56, .ro, (fun _ _ => 0)⟩

-- AXIS_PERIOD (chapter 03)
def AXIS_PERIOD_PERIOD_NS : Fld := ⟨0x42020, 0x80, 0, 0, 32, .ro, (fun _ _ => 0)⟩

-- AXIS_STATUS (chapter 03)
def AXIS_STATUS_SWITCHES : Fld := ⟨0x42024, 0x80, 0, 24, 8, .ro, (fun _ _ => 0)⟩
def AXIS_STATUS_RESOURCE_HELD : Fld := ⟨0x42024, 0x80, 0, 6, 1, .rw1c, (fun _ _ => 0)⟩
def AXIS_STATUS_CFG_LOCKED : Fld := ⟨0x42024, 0x80, 0, 5, 1, .rw1c, (fun _ _ => 0)⟩
def AXIS_STATUS_DISAGREE : Fld := ⟨0x42024, 0x80, 0, 4, 1, .rw1c, (fun _ _ => 0)⟩
def AXIS_STATUS_ON_REDUNDANT : Fld := ⟨0x42024, 0x80, 0, 3, 1, .ro, (fun _ _ => 0)⟩
def AXIS_STATUS_DIR : Fld := ⟨0x42024, 0x80, 0, 2, 1, .ro, (fun _ _ => 0)⟩
def AXIS_STATUS_STATE : Fld := ⟨0x42024, 0x80, 0, 0, 2, .ro, (fun _ _ => 3)⟩

-- AXIS_CTL (chapter 03)
def AXIS_CTL_USE_PRIMARY : Fld := ⟨0x42028, 0x80, 0, 2, 1, .wo, (fun _ _ => 0)⟩
def AXIS_CTL_USE_REDUNDANT : Fld := ⟨0x42028, 0x80, 0, 1, 1, .wo, (fun _ _ => 0)⟩
def AXIS_CTL_RESUME : Fld := ⟨0x42028, 0x80, 0, 0, 1, .wo, (fun _ _ => 0)⟩

-- AXIS_RED_OFFSET (chapter 03)
def AXIS_RED_OFFSET_OFFSET : Fld := ⟨0x42030, 0x80, 0, 0, 48, .ro, (fun _ _ => 0)⟩

-- CTRIG_CFG (chapter 03)
def CTRIG_CFG_REC_EN : Fld := ⟨0x44000, 0x40, 0, 27, 1, .rw, (fun _ _ => 0)⟩
def CTRIG_CFG_TROUGH : Fld := ⟨0x44000, 0x40, 0, 16, 11, .rw, (fun _ _ => 0)⟩
def CTRIG_CFG_STRIKER_OUT : Fld := ⟨0x44000, 0x40, 0, 11, 1, .rw, (fun _ _ => 0)⟩
def CTRIG_CFG_DIR_SEL : Fld := ⟨0x44000, 0x40, 0, 9, 1, .rw, (fun _ _ => 0)⟩
def CTRIG_CFG_KIND : Fld := ⟨0x44000, 0x40, 0, 8, 1, .rw, (fun _ _ => 0)⟩
def CTRIG_CFG_AXIS : Fld := ⟨0x44000, 0x40, 0, 0, 3, .rw, (fun _ _ => 0)⟩

-- CTRIG_DELAY (chapter 03)
def CTRIG_DELAY_DELAY_NS : Fld := ⟨0x44004, 0x40, 0, 0, 20, .rw, (fun _ _ => 0)⟩

-- CTRIG_START (chapter 03)
def CTRIG_START_VALUE : Fld := ⟨0x44008, 0x40, 0, 0, 56, .rw, (fun _ _ => 0)⟩

-- CTRIG_PITCH (chapter 03)
def CTRIG_PITCH_VALUE : Fld := ⟨0x44010, 0x40, 0, 0, 48, .rw, (fun _ _ => 0)⟩

-- CTRIG_FRAME (chapter 03)
def CTRIG_FRAME_FRAMES : Fld := ⟨0x44018, 0x40, 0, 48, 16, .rw, (fun _ _ => 0)⟩
def CTRIG_FRAME_FRAME_GAP : Fld := ⟨0x44018, 0x40, 0, 32, 16, .rw, (fun _ _ => 0)⟩
def CTRIG_FRAME_LINES : Fld := ⟨0x44018, 0x40, 0, 0, 17, .rw, (fun _ _ => 1)⟩

-- CTRIG_MINPER (chapter 03)
def CTRIG_MINPER_VALUE : Fld := ⟨0x44020, 0x40, 0, 0, 32, .rw, (fun _ _ => 0x14)⟩

-- CTRIG_QUOTA (chapter 03)
def CTRIG_QUOTA_VALUE : Fld := ⟨0x44024, 0x40, 0, 0, 18, .rw, (fun _ _ => 0x200)⟩

-- CTRIG_TIMEOUT (chapter 03)
def CTRIG_TIMEOUT_FRAME_TIMEOUT_US : Fld := ⟨0x44028, 0x40, 0, 32, 32, .rw, (fun _ _ => 0x989680)⟩
def CTRIG_TIMEOUT_FIRST_TIMEOUT_US : Fld := ⟨0x44028, 0x40, 0, 0, 32, .rw, (fun _ _ => 0x186A0)⟩

-- CTRIG_COUNT (chapter 03)
def CTRIG_COUNT_SKIPS : Fld := ⟨0x44030, 0x40, 0, 32, 32, .ro, (fun _ _ => 0)⟩
def CTRIG_COUNT_FRAME_NO : Fld := ⟨0x44030, 0x40, 0, 0, 32, .ro, (fun _ _ => 0)⟩

-- CTRIG_CTL (chapter 03)
def CTRIG_CTL_FLUSH : Fld := ⟨0x44038, 0x40, 0, 2, 1, .wo, (fun _ _ => 0)⟩
def CTRIG_CTL_DISARM : Fld := ⟨0x44038, 0x40, 0, 1, 1, .wo, (fun _ _ => 0)⟩
def CTRIG_CTL_ARM : Fld := ⟨0x44038, 0x40, 0, 0, 1, .wo, (fun _ _ => 0)⟩

-- CTRIG_STATUS (chapter 03)
def CTRIG_STATUS_ARMED : Fld := ⟨0x4403C, 0x40, 0, 31, 1, .ro, (fun _ _ => 0)⟩
def CTRIG_STATUS_LEDGER_FULL : Fld := ⟨0x4403C, 0x40, 0, 30, 1, .rw1c, (fun _ _ => 0)⟩
def CTRIG_STATUS_CFG_LOCKED : Fld := ⟨0x4403C, 0x40, 0, 29, 1, .rw1c, (fun _ _ => 0)⟩
def CTRIG_STATUS_SKIPPED : Fld := ⟨0x4403C, 0x40, 0, 28, 1, .rw1c, (fun _ _ => 0)⟩
def CTRIG_STATUS_RESOURCE_HELD : Fld := ⟨0x4403C, 0x40, 0, 27, 1, .rw1c, (fun _ _ => 0)⟩
def CTRIG_STATUS_ARM_REFUSED : Fld := ⟨0x4403C, 0x40, 0, 26, 1, .rw1c, (fun _ _ => 0)⟩
def CTRIG_STATUS_OPEN : Fld := ⟨0x4403C, 0x40, 0, 0, 18, .ro, (fun _ _ => 0)⟩

-- PTRIG_CFG (chapter 03)
def PTRIG_CFG_POLARITY : Fld := ⟨0x48000, 0x40, 0, 10, 1, .rw, (fun _ _ => 0)⟩
def PTRIG_CFG_DIR_SEL : Fld := ⟨0x48000, 0x40, 0, 9, 1, .rw, (fun _ _ => 0)⟩
def PTRIG_CFG_AXIS : Fld := ⟨0x48000, 0x40, 0, 0, 3, .rw, (fun _ _ => 0)⟩
def PTRIG_CFG_STRIKER_OUT : Fld := ⟨0x48000, 0x40, 0, 11, 1, .ro, (fun _ _ => 1)⟩

-- PTRIG_DELAY (chapter 03)
def PTRIG_DELAY_DELAY_NS : Fld := ⟨0x48004, 0x40, 0, 0, 20, .rw, (fun _ _ => 0)⟩

-- PTRIG_START (chapter 03)
def PTRIG_START_VALUE : Fld := ⟨0x48008, 0x40, 0, 0, 56, .rw, (fun _ _ => 0)⟩

-- PTRIG_PITCH (chapter 03)
def PTRIG_PITCH_VALUE : Fld := ⟨0x48010, 0x40, 0, 0, 48, .rw, (fun _ _ => 0)⟩

-- PTRIG_PULSE (chapter 03)
def PTRIG_PULSE_COUNT : Fld := ⟨0x48018, 0x40, 0, 32, 32, .rw, (fun _ _ => 0)⟩
def PTRIG_PULSE_WIDTH_NS : Fld := ⟨0x48018, 0x40, 0, 0, 20, .rw, (fun _ _ => 0x64)⟩

-- PTRIG_MINPER (chapter 03)
def PTRIG_MINPER_VALUE : Fld := ⟨0x48020, 0x40, 0, 0, 32, .rw, (fun _ _ => 0x14)⟩

-- PTRIG_COUNT (chapter 03)
def PTRIG_COUNT_SKIPS : Fld := ⟨0x48030, 0x40, 0, 32, 32, .ro, (fun _ _ => 0)⟩
def PTRIG_COUNT_ISSUED : Fld := ⟨0x48030, 0x40, 0, 0, 32, .ro, (fun _ _ => 0)⟩

-- PTRIG_CTL (chapter 03)
def PTRIG_CTL_FLUSH : Fld := ⟨0x48038, 0x40, 0, 2, 1, .wo, (fun _ _ => 0)⟩
def PTRIG_CTL_DISARM : Fld := ⟨0x48038, 0x40, 0, 1, 1, .wo, (fun _ _ => 0)⟩
def PTRIG_CTL_ARM : Fld := ⟨0x48038, 0x40, 0, 0, 1, .wo, (fun _ _ => 0)⟩

-- PTRIG_STATUS (chapter 03)
def PTRIG_STATUS_ARMED : Fld := ⟨0x4803C, 0x40, 0, 31, 1, .ro, (fun _ _ => 0)⟩
def PTRIG_STATUS_CFG_LOCKED : Fld := ⟨0x4803C, 0x40, 0, 29, 1, .rw1c, (fun _ _ => 0)⟩
def PTRIG_STATUS_SKIPPED : Fld := ⟨0x4803C, 0x40, 0, 28, 1, .rw1c, (fun _ _ => 0)⟩
def PTRIG_STATUS_ARM_REFUSED : Fld := ⟨0x4803C, 0x40, 0, 26, 1, .rw1c, (fun _ _ => 0)⟩

-- FIRE_CFG (chapter 03)
def FIRE_CFG_DIRS : Fld := ⟨0x49000, 0x40, 0, 9, 2, .rw, (fun _ _ => 0)⟩
def FIRE_CFG_AXIS : Fld := ⟨0x49000, 0x40, 0, 0, 3, .rw, (fun _ _ => 0)⟩

-- FIRE_DELAY_NEXT (chapter 03)
def FIRE_DELAY_NEXT_DELAY_NS : Fld := ⟨0x49004, 0x40, 0, 0, 20, .rw, (fun _ _ => 0)⟩

-- FIRE_START (chapter 03)
def FIRE_START_VALUE : Fld := ⟨0x49008, 0x40, 0, 0, 56, .rw, (fun _ _ => 0)⟩

-- FIRE_PITCH (chapter 03)
def FIRE_PITCH_VALUE : Fld := ⟨0x49010, 0x40, 0, 0, 48, .rw, (fun _ _ => 0)⟩

-- FIRE_MINPER (chapter 03)
def FIRE_MINPER_VALUE : Fld := ⟨0x49020, 0x40, 0, 0, 32, .rw, (fun _ _ => 0x1F40)⟩

-- FIRE_DELAY_NOW (chapter 03)
def FIRE_DELAY_NOW_DELAY_NS : Fld := ⟨0x49024, 0x40, 0, 0, 20, .ro, (fun _ _ => 0)⟩

-- FIRE_COUNT (chapter 03)
def FIRE_COUNT_SKIPS : Fld := ⟨0x49030, 0x40, 0, 32, 32, .ro, (fun _ _ => 0)⟩
def FIRE_COUNT_ISSUED : Fld := ⟨0x49030, 0x40, 0, 0, 32, .ro, (fun _ _ => 0)⟩

-- FIRE_CTL (chapter 03)
def FIRE_CTL_FLUSH : Fld := ⟨0x49038, 0x40, 0, 2, 1, .wo, (fun _ _ => 0)⟩
def FIRE_CTL_DISARM : Fld := ⟨0x49038, 0x40, 0, 1, 1, .wo, (fun _ _ => 0)⟩
def FIRE_CTL_ARM : Fld := ⟨0x49038, 0x40, 0, 0, 1, .wo, (fun _ _ => 0)⟩

-- FIRE_STATUS (chapter 03)
def FIRE_STATUS_ARMED : Fld := ⟨0x4903C, 0x40, 0, 31, 1, .ro, (fun _ _ => 0)⟩
def FIRE_STATUS_CFG_LOCKED : Fld := ⟨0x4903C, 0x40, 0, 29, 1, .rw1c, (fun _ _ => 0)⟩
def FIRE_STATUS_SKIPPED : Fld := ⟨0x4903C, 0x40, 0, 28, 1, .rw1c, (fun _ _ => 0)⟩
def FIRE_STATUS_ARM_REFUSED : Fld := ⟨0x4903C, 0x40, 0, 26, 1, .rw1c, (fun _ _ => 0)⟩

-- LEDGER_STATUS (chapter 03)
def LEDGER_STATUS_OPEN : Fld := ⟨0x4A000, 0, 0, 0, 18, .ro, (fun _ _ => 0)⟩

-- LEDGER_PEAK (chapter 03)
def LEDGER_PEAK_PEAK : Fld := ⟨0x4A004, 0, 0, 0, 18, .rw1c, (fun _ _ => 0)⟩

-- LEDGER_SEL (chapter 03)
def LEDGER_SEL_INDEX : Fld := ⟨0x4A008, 0, 0, 0, 17, .rw, (fun _ _ => 0)⟩

-- LEDGER_DATA (chapter 03)
def LEDGER_DATA_WORD : Fld := ⟨0x4A010, 8, 0, 0, 64, .ro, (fun _ _ => 0)⟩

-- ID_DEVICE (chapter 19)
def ID_DEVICE_FORMAT : Fld := ⟨0, 0, 0, 56, 8, .ro, (fun _ _ => 1)⟩
def ID_DEVICE_MFR_CODE : Fld := ⟨0, 0, 0, 40, 11, .ro, (fun _ _ => 0x2B5)⟩
def ID_DEVICE_REVISION : Fld := ⟨0, 0, 0, 32, 8, .ro, (fun _ _ => 0x10)⟩
def ID_DEVICE_DEVICE_ID : Fld := ⟨0, 0, 0, 16, 16, .ro, (fun _ _ => 0x5120)⟩
def ID_DEVICE_VENDOR_ID : Fld := ⟨0, 0, 0, 0, 16, .ro, (fun _ _ => 0x1F3A)⟩

-- ID_SERIAL (chapter 19)
def ID_SERIAL_SERIAL : Fld := ⟨8, 0, 0, 0, 64, .ro, (fun _ _ => Config.serialNumber.toNat)⟩

-- ID_UNITS (chapter 19)
def ID_UNITS_TROUGHS : Fld := ⟨0x10, 0, 0, 48, 16, .ro, (fun _ _ => 0x600)⟩
def ID_UNITS_CHANNELS : Fld := ⟨0x10, 0, 0, 40, 7, .ro, (fun _ _ => 0x40)⟩
def ID_UNITS_TILES : Fld := ⟨0x10, 0, 0, 32, 8, .ro, (fun _ _ => 0x88)⟩
def ID_UNITS_HEARTHS : Fld := ⟨0x10, 0, 0, 16, 9, .ro, (fun _ _ => 0x108)⟩
def ID_UNITS_LANE_SLICES : Fld := ⟨0x10, 0, 0, 0, 16, .ro, (fun _ _ => 0x220)⟩

-- ID_MEM (chapter 19)
def ID_MEM_TROUGH_POOL_KIB : Fld := ⟨0x18, 0, 0, 32, 16, .ro, (fun _ _ => 0xC000)⟩
def ID_MEM_DOT_STORE_GIB : Fld := ⟨0x18, 0, 0, 16, 8, .ro, (fun _ _ => 0)⟩
def ID_MEM_STACK_GIB : Fld := ⟨0x18, 0, 0, 8, 8, .ro, (fun _ _ => 0x18)⟩
def ID_MEM_HBM_STACKS : Fld := ⟨0x18, 0, 0, 0, 8, .ro, (fun _ _ => 4)⟩

-- ID_ROM (chapter 19)
def ID_ROM_IMAGE_FORMAT : Fld := ⟨0x20, 0, 0, 16, 16, .ro, (fun _ _ => 1)⟩
def ID_ROM_ROM_VERSION : Fld := ⟨0x20, 0, 0, 0, 16, .ro, (fun _ _ => 0x100)⟩

-- GLB_STATUS (chapter 19)
def GLB_STATUS_STALE_WRITE : Fld := ⟨0x40, 0, 0, 8, 1, .rw1c, (fun _ _ => 0)⟩
def GLB_STATUS_JOURNAL_RO : Fld := ⟨0x40, 0, 0, 7, 1, .ro, (fun _ _ => 0)⟩
def GLB_STATUS_DECIDE_OPEN : Fld := ⟨0x40, 0, 0, 6, 1, .ro, (fun _ _ => 0)⟩
def GLB_STATUS_LOOP_ANY : Fld := ⟨0x40, 0, 0, 5, 1, .ro, (fun _ _ => 0)⟩
def GLB_STATUS_FATAL_LOGGED : Fld := ⟨0x40, 0, 0, 4, 1, .ro, (fun _ _ => 0)⟩
def GLB_STATUS_THERMAL : Fld := ⟨0x40, 0, 0, 3, 1, .ro, (fun _ _ => 0)⟩
def GLB_STATUS_QUENCHED : Fld := ⟨0x40, 0, 0, 2, 1, .ro, (fun _ _ => 0)⟩
def GLB_STATUS_HOLD : Fld := ⟨0x40, 0, 0, 1, 1, .ro, (fun _ _ => 0)⟩
def GLB_STATUS_READY : Fld := ⟨0x40, 0, 0, 0, 1, .ro, (fun _ _ => 0)⟩

-- GLB_BOARD (chapter 19)
def GLB_BOARD_BOARD_TAG : Fld := ⟨0x48, 0, 0, 0, 64, .rwk, (fun _ _ => 0)⟩

-- GLB_SCRATCH (chapter 19)
def GLB_SCRATCH_VALUE : Fld := ⟨0x80, 8, 0, 0, 64, .rw, (fun _ _ => 0)⟩

-- GLB_SEM (chapter 19)
def GLB_SEM_TOKEN : Fld := ⟨0xC0, 8, 0, 32, 16, .wo, (fun _ _ => 0)⟩
def GLB_SEM_RELEASE : Fld := ⟨0xC0, 8, 0, 31, 1, .wo, (fun _ _ => 0)⟩
def GLB_SEM_OWNER : Fld := ⟨0xC0, 8, 0, 0, 16, .ro, (fun _ _ => 0)⟩

end Sys2Proof.Machine.F
end

