-- ==== Sys2Proof/Machine/RegsB.lean ====
section
/-!
DEFINITION. Lane, Cobex, Hearth and exposure registers (chapters 4 to 7): each register field
of the spec's register tables, with its place, access code and reset value (R14, R16, R17, R555).
-/

namespace Sys2Proof.Machine.F


-- LANE_CFG (chapter 04)
def LANE_CFG_ERR_LIMIT : Fld := ⟨0x100000, 0x800, 0, 24, 8, .rw, (fun _ _ => 0x40)⟩
def LANE_CFG_FOM_MIN : Fld := ⟨0x100000, 0x800, 0, 16, 8, .rw, (fun _ _ => 0x40)⟩
def LANE_CFG_SPARE_ON_LOSS : Fld := ⟨0x100000, 0x800, 0, 5, 1, .rw, (fun _ _ => 0)⟩
def LANE_CFG_TRIM_EN : Fld := ⟨0x100000, 0x800, 0, 4, 1, .rw, (fun _ _ => 1)⟩
def LANE_CFG_RATE : Fld := ⟨0x100000, 0x800, 0, 1, 2, .rw, (fun _ _ => 0)⟩
def LANE_CFG_ENABLE : Fld := ⟨0x100000, 0x800, 0, 0, 1, .rw, (fun _ _ => 0)⟩

-- LANE_STATE (chapter 04)
def LANE_STATE_LISTEN : Fld := ⟨0x100004, 0x800, 0, 15, 1, .ro, (fun _ _ => 0)⟩
def LANE_STATE_SPARE : Fld := ⟨0x100004, 0x800, 0, 14, 1, .ro, (fun s _ => if s % 17 = 16 then 1 else 0)⟩
def LANE_STATE_TRIM_FROZEN : Fld := ⟨0x100004, 0x800, 0, 13, 1, .ro, (fun _ _ => 0)⟩
def LANE_STATE_SIGNAL : Fld := ⟨0x100004, 0x800, 0, 12, 1, .ro, (fun _ _ => 0)⟩
def LANE_STATE_CDR_LOCK : Fld := ⟨0x100004, 0x800, 0, 11, 1, .ro, (fun _ _ => 0)⟩
def LANE_STATE_BLOCK_LOCK : Fld := ⟨0x100004, 0x800, 0, 10, 1, .ro, (fun _ _ => 0)⟩
def LANE_STATE_PAD : Fld := ⟨0x100004, 0x800, 0, 4, 6, .ro, (fun s _ => if s % 17 = 16 then 0x3F else s % 17)⟩
def LANE_STATE_STATE : Fld := ⟨0x100004, 0x800, 0, 0, 4, .ro, (fun _ _ => 0)⟩

-- LANE_EQ (chapter 04)
def LANE_EQ_DFE1_TRIM : Fld := ⟨0x100008, 0x800, 0, 20, 4, .ro, (fun _ _ => 0)⟩
def LANE_EQ_CTLE_TRIM : Fld := ⟨0x100008, 0x800, 0, 16, 4, .ro, (fun _ _ => 0)⟩
def LANE_EQ_DFE1 : Fld := ⟨0x100008, 0x800, 0, 8, 8, .ro, (fun _ _ => 0)⟩
def LANE_EQ_CTLE : Fld := ⟨0x100008, 0x800, 0, 0, 4, .ro, (fun _ _ => 0)⟩

-- LANE_FOM (chapter 04)
def LANE_FOM_ADAPT_RESETS : Fld := ⟨0x10000C, 0x800, 0, 16, 16, .ro, (fun _ _ => 0)⟩
def LANE_FOM_FOM_REF : Fld := ⟨0x10000C, 0x800, 0, 8, 8, .ro, (fun _ _ => 0)⟩
def LANE_FOM_FOM : Fld := ⟨0x10000C, 0x800, 0, 0, 8, .ro, (fun _ _ => 0)⟩

-- LANE_EYE (chapter 04)
def LANE_EYE_H : Fld := ⟨0x100010, 0x800, 0, 8, 6, .ro, (fun _ _ => 0)⟩
def LANE_EYE_V : Fld := ⟨0x100010, 0x800, 0, 0, 7, .ro, (fun _ _ => 0)⟩

-- LANE_ERRCNT (chapter 04)
def LANE_ERRCNT_RELOCK_FAIL : Fld := ⟨0x100018, 0x800, 0, 48, 16, .ro, (fun _ _ => 0)⟩
def LANE_ERRCNT_LOCK_LOSSES : Fld := ⟨0x100018, 0x800, 0, 32, 16, .ro, (fun _ _ => 0)⟩
def LANE_ERRCNT_INVALID_HDR : Fld := ⟨0x100018, 0x800, 0, 0, 32, .ro, (fun _ _ => 0)⟩

-- LANE_EVTCNT (chapter 04)
def LANE_EVTCNT_RATE_MISMATCH : Fld := ⟨0x100020, 0x800, 0, 48, 16, .ro, (fun _ _ => 0)⟩
def LANE_EVTCNT_EIDLE_ENTRIES : Fld := ⟨0x100020, 0x800, 0, 32, 16, .ro, (fun _ _ => 0)⟩
def LANE_EVTCNT_EXITS : Fld := ⟨0x100020, 0x800, 0, 16, 16, .ro, (fun _ _ => 0)⟩
def LANE_EVTCNT_TRAINS : Fld := ⟨0x100020, 0x800, 0, 0, 16, .ro, (fun _ _ => 0)⟩

-- LANE_STATUS (chapter 04)
def LANE_STATUS_TEST_REFUSED : Fld := ⟨0x100028, 0x800, 0, 8, 1, .rw1c, (fun _ _ => 0)⟩
def LANE_STATUS_LOS : Fld := ⟨0x100028, 0x800, 0, 7, 1, .rw1c, (fun _ _ => 0)⟩
def LANE_STATUS_EXIT_FAIL : Fld := ⟨0x100028, 0x800, 0, 6, 1, .rw1c, (fun _ _ => 0)⟩
def LANE_STATUS_CAPS_TIMEOUT : Fld := ⟨0x100028, 0x800, 0, 5, 1, .rw1c, (fun _ _ => 0)⟩
def LANE_STATUS_LOCK_TIMEOUT : Fld := ⟨0x100028, 0x800, 0, 4, 1, .rw1c, (fun _ _ => 0)⟩
def LANE_STATUS_TRAIN_TIMEOUT : Fld := ⟨0x100028, 0x800, 0, 3, 1, .rw1c, (fun _ _ => 0)⟩
def LANE_STATUS_SNAPBACK : Fld := ⟨0x100028, 0x800, 0, 2, 1, .rw1c, (fun _ _ => 0)⟩
def LANE_STATUS_LOCK_LOST : Fld := ⟨0x100028, 0x800, 0, 1, 1, .rw1c, (fun _ _ => 0)⟩

-- LANE_CTL (chapter 04)
def LANE_CTL_CLEAR_COUNTS : Fld := ⟨0x100030, 0x800, 0, 1, 1, .wo, (fun _ _ => 0)⟩
def LANE_CTL_RETRAIN : Fld := ⟨0x100030, 0x800, 0, 0, 1, .wo, (fun _ _ => 0)⟩

-- LANE_TEST (chapter 04)
def LANE_TEST_TEST_EN : Fld := ⟨0x100040, 0x800, 0, 16, 1, .rw, (fun _ _ => 0)⟩
def LANE_TEST_CHK_SYNC : Fld := ⟨0x100040, 0x800, 0, 12, 1, .ro, (fun _ _ => 0)⟩
def LANE_TEST_RX_CHECK : Fld := ⟨0x100040, 0x800, 0, 8, 3, .rw, (fun _ _ => 0)⟩
def LANE_TEST_TX_PATTERN : Fld := ⟨0x100040, 0x800, 0, 4, 3, .rw, (fun _ _ => 0)⟩
def LANE_TEST_LOOP : Fld := ⟨0x100040, 0x800, 0, 0, 2, .rw, (fun _ _ => 0)⟩

-- LANE_CHK_BITS (chapter 04)
def LANE_CHK_BITS_COUNT : Fld := ⟨0x100048, 0x800, 0, 0, 64, .ro, (fun _ _ => 0)⟩

-- LANE_CHK_ERRS (chapter 04)
def LANE_CHK_ERRS_COUNT : Fld := ⟨0x100050, 0x800, 0, 0, 64, .ro, (fun _ _ => 0)⟩

-- LANE_INJECT (chapter 04)
def LANE_INJECT_INTERVAL : Fld := ⟨0x100058, 0x800, 0, 8, 24, .rw, (fun _ _ => 1)⟩
def LANE_INJECT_FIRE : Fld := ⟨0x100058, 0x800, 0, 7, 1, .wo, (fun _ _ => 0)⟩
def LANE_INJECT_REPEAT : Fld := ⟨0x100058, 0x800, 0, 6, 1, .rw, (fun _ _ => 0)⟩
def LANE_INJECT_KIND : Fld := ⟨0x100058, 0x800, 0, 3, 3, .rw, (fun _ _ => 0)⟩
def LANE_INJECT_WHERE : Fld := ⟨0x100058, 0x800, 0, 0, 2, .rw, (fun _ _ => 0)⟩

-- LANE_INJECTED (chapter 04)
def LANE_INJECTED_INJECTED : Fld := ⟨0x10005C, 0x800, 0, 0, 32, .ro, (fun _ _ => 0)⟩

-- LGRP_MAP_LO (chapter 04)
def LGRP_MAP_LO_SLICE0 : Fld := ⟨0x280000, 0x100, 0, 0, 5, .ro, (fun _ _ => 0)⟩
def LGRP_MAP_LO_SLICE1 : Fld := ⟨0x280000, 0x100, 0, 8, 5, .ro, (fun _ _ => 1)⟩
def LGRP_MAP_LO_SLICE2 : Fld := ⟨0x280000, 0x100, 0, 16, 5, .ro, (fun _ _ => 2)⟩
def LGRP_MAP_LO_SLICE3 : Fld := ⟨0x280000, 0x100, 0, 24, 5, .ro, (fun _ _ => 3)⟩
def LGRP_MAP_LO_SLICE4 : Fld := ⟨0x280000, 0x100, 0, 32, 5, .ro, (fun _ _ => 4)⟩
def LGRP_MAP_LO_SLICE5 : Fld := ⟨0x280000, 0x100, 0, 40, 5, .ro, (fun _ _ => 5)⟩
def LGRP_MAP_LO_SLICE6 : Fld := ⟨0x280000, 0x100, 0, 48, 5, .ro, (fun _ _ => 6)⟩
def LGRP_MAP_LO_SLICE7 : Fld := ⟨0x280000, 0x100, 0, 56, 5, .ro, (fun _ _ => 7)⟩

-- LGRP_MAP_HI (chapter 04)
def LGRP_MAP_HI_SLICE0 : Fld := ⟨0x280008, 0x100, 0, 0, 5, .ro, (fun _ _ => 8)⟩
def LGRP_MAP_HI_SLICE1 : Fld := ⟨0x280008, 0x100, 0, 8, 5, .ro, (fun _ _ => 9)⟩
def LGRP_MAP_HI_SLICE2 : Fld := ⟨0x280008, 0x100, 0, 16, 5, .ro, (fun _ _ => 0xA)⟩
def LGRP_MAP_HI_SLICE3 : Fld := ⟨0x280008, 0x100, 0, 24, 5, .ro, (fun _ _ => 0xB)⟩
def LGRP_MAP_HI_SLICE4 : Fld := ⟨0x280008, 0x100, 0, 32, 5, .ro, (fun _ _ => 0xC)⟩
def LGRP_MAP_HI_SLICE5 : Fld := ⟨0x280008, 0x100, 0, 40, 5, .ro, (fun _ _ => 0xD)⟩
def LGRP_MAP_HI_SLICE6 : Fld := ⟨0x280008, 0x100, 0, 48, 5, .ro, (fun _ _ => 0xE)⟩
def LGRP_MAP_HI_SLICE7 : Fld := ⟨0x280008, 0x100, 0, 56, 5, .ro, (fun _ _ => 0xF)⟩

-- LGRP_SPARE (chapter 04)
def LGRP_SPARE_SWAPS : Fld := ⟨0x280010, 0x100, 0, 16, 16, .ro, (fun _ _ => 0)⟩
def LGRP_SPARE_LISTEN_MISMATCH : Fld := ⟨0x280010, 0x100, 0, 8, 8, .ro, (fun _ _ => 0)⟩
def LGRP_SPARE_SPARE_STATE : Fld := ⟨0x280010, 0x100, 0, 5, 3, .ro, (fun _ _ => 0)⟩
def LGRP_SPARE_SPARE_SLICE : Fld := ⟨0x280010, 0x100, 0, 0, 5, .ro, (fun _ _ => 0x10)⟩

-- LGRP_STATUS (chapter 04)
def LGRP_STATUS_BAD_ORDER : Fld := ⟨0x280014, 0x100, 0, 3, 1, .rw1c, (fun _ _ => 0)⟩
def LGRP_STATUS_SWAP_ABANDONED : Fld := ⟨0x280014, 0x100, 0, 2, 1, .rw1c, (fun _ _ => 0)⟩
def LGRP_STATUS_SWAP_DONE : Fld := ⟨0x280014, 0x100, 0, 1, 1, .rw1c, (fun _ _ => 0)⟩
def LGRP_STATUS_SPARE_EXHAUSTED : Fld := ⟨0x280014, 0x100, 0, 0, 1, .rw1c, (fun _ _ => 0)⟩

-- LGRP_CTL (chapter 04)
def LGRP_CTL_OP : Fld := ⟨0x280018, 0x100, 0, 4, 4, .wo, (fun _ _ => 0)⟩
def LGRP_CTL_PAD : Fld := ⟨0x280018, 0x100, 0, 0, 4, .wo, (fun _ _ => 0)⟩

-- COBEX_CFG (chapter 05)
def COBEX_CFG_MASTER : Fld := ⟨0x300000, 0x400, 0, 32, 16, .rw, (fun _ _ => 0)⟩
def COBEX_CFG_BOUND : Fld := ⟨0x300000, 0x400, 0, 31, 1, .rw, (fun _ _ => 0)⟩
def COBEX_CFG_HEARTH : Fld := ⟨0x300000, 0x400, 0, 16, 8, .rw, (fun _ _ => 0)⟩
def COBEX_CFG_LANE_COUNT : Fld := ⟨0x300000, 0x400, 0, 8, 5, .rw, (fun _ _ => 1)⟩
def COBEX_CFG_LANE_INDEX : Fld := ⟨0x300000, 0x400, 0, 0, 4, .rw, (fun _ _ => 0)⟩

-- COBEX_TIMING (chapter 05)
def COBEX_TIMING_CMD_TIMEOUT_US : Fld := ⟨0x300008, 0x400, 0, 16, 16, .rw, (fun _ _ => 0x3E8)⟩
def COBEX_TIMING_HB_TIMEOUT : Fld := ⟨0x300008, 0x400, 0, 0, 16, .rw, (fun _ _ => 0x64)⟩

-- COBEX_EVT (chapter 05)
def COBEX_EVT_EVT_EN : Fld := ⟨0x30000C, 0x400, 0, 31, 1, .rw, (fun _ _ => 0)⟩
def COBEX_EVT_EVT_TROUGH : Fld := ⟨0x30000C, 0x400, 0, 0, 11, .rw, (fun _ _ => 0)⟩

-- COBEX_STATE (chapter 05)
def COBEX_STATE_CAPS_REASON : Fld := ⟨0x300010, 0x400, 0, 24, 8, .ro, (fun _ _ => 0)⟩
def COBEX_STATE_ALIGN_MISS : Fld := ⟨0x300010, 0x400, 0, 16, 8, .ro, (fun _ _ => 0)⟩
def COBEX_STATE_SKEW : Fld := ⟨0x300010, 0x400, 0, 8, 8, .ro, (fun _ _ => 0)⟩
def COBEX_STATE_BOND : Fld := ⟨0x300010, 0x400, 0, 0, 3, .ro, (fun _ _ => 0)⟩

-- COBEX_STATUS (chapter 05)
def COBEX_STATUS_ALIGN_TIMEOUT : Fld := ⟨0x300014, 0x400, 0, 12, 1, .rw1c, (fun _ _ => 0)⟩
def COBEX_STATUS_SKEW_EXCESS : Fld := ⟨0x300014, 0x400, 0, 11, 1, .rw1c, (fun _ _ => 0)⟩
def COBEX_STATUS_CFG_LOCKED : Fld := ⟨0x300014, 0x400, 0, 10, 1, .rw1c, (fun _ _ => 0)⟩
def COBEX_STATUS_RESOURCE_HELD : Fld := ⟨0x300014, 0x400, 0, 9, 1, .rw1c, (fun _ _ => 0)⟩
def COBEX_STATUS_TRIG_DROPPED : Fld := ⟨0x300014, 0x400, 0, 8, 1, .rw1c, (fun _ _ => 0)⟩
def COBEX_STATUS_RSP_UNEXPECTED : Fld := ⟨0x300014, 0x400, 0, 7, 1, .rw1c, (fun _ _ => 0)⟩
def COBEX_STATUS_CMD_TIMEOUT : Fld := ⟨0x300014, 0x400, 0, 6, 1, .rw1c, (fun _ _ => 0)⟩
def COBEX_STATUS_UNKNOWN_CTL : Fld := ⟨0x300014, 0x400, 0, 5, 1, .rw1c, (fun _ _ => 0)⟩
def COBEX_STATUS_CAPS_REFUSED : Fld := ⟨0x300014, 0x400, 0, 4, 1, .rw1c, (fun _ _ => 0)⟩
def COBEX_STATUS_HB_TIMEOUT : Fld := ⟨0x300014, 0x400, 0, 3, 1, .rw1c, (fun _ _ => 0)⟩
def COBEX_STATUS_ALIGN_LOST : Fld := ⟨0x300014, 0x400, 0, 2, 1, .rw1c, (fun _ _ => 0)⟩
def COBEX_STATUS_DETACHED : Fld := ⟨0x300014, 0x400, 0, 1, 1, .rw1c, (fun _ _ => 0)⟩
def COBEX_STATUS_ATTACHED : Fld := ⟨0x300014, 0x400, 0, 0, 1, .rw1c, (fun _ _ => 0)⟩

-- COBEX_PKTCNT (chapter 05)
def COBEX_PKTCNT_CRC_ERR : Fld := ⟨0x300018, 0x400, 0, 32, 32, .ro, (fun _ _ => 0)⟩
def COBEX_PKTCNT_PACKETS : Fld := ⟨0x300018, 0x400, 0, 0, 32, .ro, (fun _ _ => 0)⟩

-- COBEX_ERRCNT (chapter 05)
def COBEX_ERRCNT_MISSING : Fld := ⟨0x300020, 0x400, 0, 48, 16, .ro, (fun _ _ => 0)⟩
def COBEX_ERRCNT_TRUNCATED : Fld := ⟨0x300020, 0x400, 0, 32, 16, .ro, (fun _ _ => 0)⟩
def COBEX_ERRCNT_STRAY : Fld := ⟨0x300020, 0x400, 0, 16, 16, .ro, (fun _ _ => 0)⟩
def COBEX_ERRCNT_GAPS : Fld := ⟨0x300020, 0x400, 0, 0, 16, .ro, (fun _ _ => 0)⟩

-- COBEX_CTL (chapter 05)
def COBEX_CTL_LINK_RESET : Fld := ⟨0x300028, 0x400, 0, 2, 1, .wo, (fun _ _ => 0)⟩
def COBEX_CTL_CLEAR_COUNTS : Fld := ⟨0x300028, 0x400, 0, 1, 1, .wo, (fun _ _ => 0)⟩

-- COBEX_CAPS (chapter 05)
def COBEX_CAPS_WORD : Fld := ⟨0x300040, 0x400, 8, 0, 64, .ro, (fun _ _ => 0)⟩

-- COBEX_CMD (chapter 05)
def COBEX_CMD_ADDR : Fld := ⟨0x300100, 0x400, 0, 32, 32, .wo, (fun _ _ => 0)⟩
def COBEX_CMD_LEN : Fld := ⟨0x300100, 0x400, 0, 16, 8, .wo, (fun _ _ => 0)⟩
def COBEX_CMD_OP : Fld := ⟨0x300100, 0x400, 0, 8, 8, .wo, (fun _ _ => 0)⟩

-- COBEX_RSP (chapter 05)
def COBEX_RSP_BUSY : Fld := ⟨0x300108, 0x400, 0, 31, 1, .ro, (fun _ _ => 0)⟩
def COBEX_RSP_DONE : Fld := ⟨0x300108, 0x400, 0, 30, 1, .rw1c, (fun _ _ => 0)⟩
def COBEX_RSP_LEN : Fld := ⟨0x300108, 0x400, 0, 16, 8, .ro, (fun _ _ => 0)⟩
def COBEX_RSP_STATUS : Fld := ⟨0x300108, 0x400, 0, 8, 8, .ro, (fun _ _ => 0)⟩
def COBEX_RSP_TAG : Fld := ⟨0x300108, 0x400, 0, 0, 8, .ro, (fun _ _ => 0)⟩

-- HEARTH_ID (chapter 06)
def HEARTH_ID_SERVING : Fld := ⟨0x400000, 0x4000, 0, 31, 1, .ro, (fun n _ => if n % 33 = 32 then 0 else 1)⟩
def HEARTH_ID_SHADOW : Fld := ⟨0x400000, 0x4000, 0, 30, 1, .ro, (fun _ _ => 0)⟩
def HEARTH_ID_CLUSTER : Fld := ⟨0x400000, 0x4000, 0, 8, 3, .ro, (fun n _ => n / 33)⟩
def HEARTH_ID_LOGICAL : Fld := ⟨0x400000, 0x4000, 0, 0, 8, .ro, (fun n _ => if n % 33 = 32 then 0 else 32 * (n / 33) + n % 33)⟩

-- HEARTH_CFG (chapter 06)
def HEARTH_CFG_ENABLE : Fld := ⟨0x400008, 0x4000, 0, 31, 1, .rw, (fun _ _ => 0)⟩
def HEARTH_CFG_COMPARE_EN : Fld := ⟨0x400008, 0x4000, 0, 30, 1, .rw, (fun _ _ => 0)⟩
def HEARTH_CFG_KIND : Fld := ⟨0x400008, 0x4000, 0, 25, 1, .rw, (fun _ _ => 0)⟩
def HEARTH_CFG_FORMAT : Fld := ⟨0x400008, 0x4000, 0, 20, 4, .rw, (fun _ _ => 4)⟩
def HEARTH_CFG_BANDS_M1 : Fld := ⟨0x400008, 0x4000, 0, 18, 2, .rw, (fun _ _ => 0)⟩
def HEARTH_CFG_WIDTH : Fld := ⟨0x400008, 0x4000, 0, 0, 17, .rw, (fun _ _ => 1)⟩

-- HEARTH_ROWS (chapter 06)
def HEARTH_ROWS_ROWS : Fld := ⟨0x40000C, 0x4000, 0, 0, 15, .rw, (fun _ _ => 1)⟩

-- HEARTH_BAND (chapter 06)
def HEARTH_BAND_DELAY0 : Fld := ⟨0x400010, 0x4000, 0, 0, 8, .rw, (fun _ _ => 0)⟩
def HEARTH_BAND_DELAY1 : Fld := ⟨0x400010, 0x4000, 0, 8, 8, .rw, (fun _ _ => 0)⟩
def HEARTH_BAND_DELAY2 : Fld := ⟨0x400010, 0x4000, 0, 16, 8, .rw, (fun _ _ => 0)⟩
def HEARTH_BAND_DELAY3 : Fld := ⟨0x400010, 0x4000, 0, 24, 8, .rw, (fun _ _ => 0)⟩

-- HEARTH_Y_ORIGIN (chapter 06)
def HEARTH_Y_ORIGIN_VALUE : Fld := ⟨0x400018, 0x4000, 0, 0, 56, .rw, (fun _ _ => 0)⟩

-- HEARTH_Y_SCALE (chapter 06)
def HEARTH_Y_SCALE_VALUE : Fld := ⟨0x400020, 0x4000, 0, 0, 48, .rw, (fun _ _ => 0x10000000000)⟩

-- HEARTH_ROW_GEOM (chapter 06)
def HEARTH_ROW_GEOM_ROW_PITCH : Fld := ⟨0x400028, 0x4000, 0, 32, 32, .rw, (fun _ _ => 0x1000000)⟩
def HEARTH_ROW_GEOM_ROW_Y0 : Fld := ⟨0x400028, 0x4000, 0, 0, 32, .rw, (fun _ _ => 0)⟩

-- HEARTH_XRES (chapter 06)
def HEARTH_XRES_X_START : Fld := ⟨0x400030, 0x4000, 0, 32, 32, .rw, (fun _ _ => 0)⟩
def HEARTH_XRES_KERNEL : Fld := ⟨0x400030, 0x4000, 0, 31, 1, .rw, (fun _ _ => 1)⟩
def HEARTH_XRES_OUT_WIDTH : Fld := ⟨0x400030, 0x4000, 0, 0, 17, .rw, (fun _ _ => 0x40)⟩

-- HEARTH_YRES (chapter 06)
def HEARTH_YRES_MAX_GAP : Fld := ⟨0x400038, 0x4000, 0, 0, 16, .rw, (fun _ _ => 0x200)⟩

-- HEARTH_TBL_BASE (chapter 06)
def HEARTH_TBL_BASE_OFFSET : Fld := ⟨0x400040, 0x4000, 0, 0, 64, .ro, (fun _ _ => 0)⟩

-- HEARTH_TBL_CTL (chapter 06)
def HEARTH_TBL_CTL_SWAP_PENDING : Fld := ⟨0x400048, 0x4000, 0, 9, 1, .ro, (fun _ _ => 0)⟩
def HEARTH_TBL_CTL_ACTIVE_BANK : Fld := ⟨0x400048, 0x4000, 0, 8, 1, .ro, (fun _ _ => 0)⟩
def HEARTH_TBL_CTL_SWAP : Fld := ⟨0x400048, 0x4000, 0, 0, 1, .wo, (fun _ _ => 0)⟩

-- HEARTH_TAG (chapter 06)
def HEARTH_TAG_TAG_EN : Fld := ⟨0x400050, 0x4000, 0, 31, 1, .rw, (fun _ _ => 0)⟩
def HEARTH_TAG_TAG_TROUGH : Fld := ⟨0x400050, 0x4000, 0, 0, 11, .rw, (fun _ _ => 0)⟩

-- HEARTH_RING (chapter 06)
def HEARTH_RING_SIZE_MIB : Fld := ⟨0x400058, 0x4000, 0, 32, 32, .ro, (fun _ _ => 0)⟩
def HEARTH_RING_BASE_MIB : Fld := ⟨0x400058, 0x4000, 0, 0, 32, .ro, (fun _ _ => 0)⟩

-- HEARTH_SCFG (chapter 06)
def HEARTH_SCFG_ENABLE : Fld := ⟨0x400100, 0x4000, 0x20, 31, 1, .rw, (fun _ _ => 0)⟩
def HEARTH_SCFG_CLASS : Fld := ⟨0x400100, 0x4000, 0x20, 30, 1, .rw, (fun _ _ => 0)⟩
def HEARTH_SCFG_TAP : Fld := ⟨0x400100, 0x4000, 0x20, 24, 3, .rw, (fun _ _ => 7)⟩
def HEARTH_SCFG_DECIM_M1 : Fld := ⟨0x400100, 0x4000, 0x20, 0, 8, .rw, (fun _ _ => 0)⟩

-- HEARTH_SREGION (chapter 06)
def HEARTH_SREGION_OFFSET_MIB : Fld := ⟨0x400108, 0x4000, 0x20, 32, 32, .ro, (fun _ _ => 0)⟩
def HEARTH_SREGION_SIZE_MIB : Fld := ⟨0x400108, 0x4000, 0x20, 0, 32, .ro, (fun _ _ => 0)⟩

-- HEARTH_LSEQ (chapter 06)
def HEARTH_LSEQ_VALUE : Fld := ⟨0x400110, 0x4000, 0x20, 0, 64, .ro, (fun _ _ => 0)⟩

-- HEARTH_SGEOM (chapter 06)
def HEARTH_SGEOM_CAPACITY : Fld := ⟨0x400118, 0x4000, 0x20, 32, 32, .ro, (fun _ _ => 0)⟩
def HEARTH_SGEOM_LINE_BYTES : Fld := ⟨0x400118, 0x4000, 0x20, 0, 32, .ro, (fun _ _ => 0)⟩

-- HEARTH_MARK_POS (chapter 06)
def HEARTH_MARK_POS_LSEQ : Fld := ⟨0x400200, 0x4000, 0x10, 0, 64, .ro, (fun _ _ => 0)⟩

-- HEARTH_MARK_STATE (chapter 06)
def HEARTH_MARK_STATE_VALID : Fld := ⟨0x400208, 0x4000, 0x10, 31, 1, .ro, (fun _ _ => 0)⟩
def HEARTH_MARK_STATE_LAPPED : Fld := ⟨0x400208, 0x4000, 0x10, 30, 1, .rw1c, (fun _ _ => 0)⟩
def HEARTH_MARK_STATE_PENDING : Fld := ⟨0x400208, 0x4000, 0x10, 29, 1, .ro, (fun _ _ => 0)⟩
def HEARTH_MARK_STATE_STREAM : Fld := ⟨0x400208, 0x4000, 0x10, 0, 2, .ro, (fun _ _ => 0)⟩

-- HEARTH_MARK_CTL (chapter 06)
def HEARTH_MARK_CTL_OP : Fld := ⟨0x400240, 0x4000, 0, 8, 2, .wo, (fun _ _ => 0)⟩
def HEARTH_MARK_CTL_STREAM : Fld := ⟨0x400240, 0x4000, 0, 4, 2, .wo, (fun _ _ => 0)⟩
def HEARTH_MARK_CTL_MARK : Fld := ⟨0x400240, 0x4000, 0, 0, 2, .wo, (fun _ _ => 0)⟩

-- HEARTH_REWIND (chapter 06)
def HEARTH_REWIND_RESULT : Fld := ⟨0x400248, 0x4000, 0, 24, 8, .ro, (fun _ _ => 0)⟩
def HEARTH_REWIND_GO : Fld := ⟨0x400248, 0x4000, 0, 8, 1, .wo, (fun _ _ => 0)⟩
def HEARTH_REWIND_MARK : Fld := ⟨0x400248, 0x4000, 0, 0, 2, .wo, (fun _ _ => 0)⟩

-- HEARTH_STATUS (chapter 06)
def HEARTH_STATUS_DROPPED : Fld := ⟨0x400300, 0x4000, 0, 12, 1, .rw1c, (fun _ _ => 0)⟩
def HEARTH_STATUS_READER_LAPPED : Fld := ⟨0x400300, 0x4000, 0, 11, 1, .rw1c, (fun _ _ => 0)⟩
def HEARTH_STATUS_MARK_LAPPED : Fld := ⟨0x400300, 0x4000, 0, 10, 1, .rw1c, (fun _ _ => 0)⟩
def HEARTH_STATUS_TBL_SWAPPED : Fld := ⟨0x400300, 0x4000, 0, 9, 1, .rw1c, (fun _ _ => 0)⟩
def HEARTH_STATUS_RESOURCE_HELD : Fld := ⟨0x400300, 0x4000, 0, 8, 1, .rw1c, (fun _ _ => 0)⟩
def HEARTH_STATUS_CFG_LOCKED : Fld := ⟨0x400300, 0x4000, 0, 7, 1, .rw1c, (fun _ _ => 0)⟩
def HEARTH_STATUS_ORDER_ERR : Fld := ⟨0x400300, 0x4000, 0, 6, 1, .rw1c, (fun _ _ => 0)⟩
def HEARTH_STATUS_NO_POSITION : Fld := ⟨0x400300, 0x4000, 0, 5, 1, .rw1c, (fun _ _ => 0)⟩
def HEARTH_STATUS_FORMAT_ERR : Fld := ⟨0x400300, 0x4000, 0, 4, 1, .rw1c, (fun _ _ => 0)⟩
def HEARTH_STATUS_ORPHAN : Fld := ⟨0x400300, 0x4000, 0, 3, 1, .rw1c, (fun _ _ => 0)⟩
def HEARTH_STATUS_LOST : Fld := ⟨0x400300, 0x4000, 0, 2, 1, .rw1c, (fun _ _ => 0)⟩
def HEARTH_STATUS_LONG : Fld := ⟨0x400300, 0x4000, 0, 1, 1, .rw1c, (fun _ _ => 0)⟩
def HEARTH_STATUS_SHORT : Fld := ⟨0x400300, 0x4000, 0, 0, 1, .rw1c, (fun _ _ => 0)⟩

-- HEARTH_FRAMES (chapter 06)
def HEARTH_FRAMES_LONG : Fld := ⟨0x400308, 0x4000, 0, 48, 16, .ro, (fun _ _ => 0)⟩
def HEARTH_FRAMES_SHORT : Fld := ⟨0x400308, 0x4000, 0, 32, 16, .ro, (fun _ _ => 0)⟩
def HEARTH_FRAMES_ENDED : Fld := ⟨0x400308, 0x4000, 0, 0, 32, .ro, (fun _ _ => 0)⟩

-- HEARTH_ERRS (chapter 06)
def HEARTH_ERRS_ORPHANS : Fld := ⟨0x400310, 0x4000, 0, 48, 16, .ro, (fun _ _ => 0)⟩
def HEARTH_ERRS_FORMAT_ERR : Fld := ⟨0x400310, 0x4000, 0, 32, 16, .ro, (fun _ _ => 0)⟩
def HEARTH_ERRS_NO_POSITION : Fld := ⟨0x400310, 0x4000, 0, 16, 16, .ro, (fun _ _ => 0)⟩
def HEARTH_ERRS_ORDER_ERR : Fld := ⟨0x400310, 0x4000, 0, 0, 16, .ro, (fun _ _ => 0)⟩

-- HEARTH_LINECNT (chapter 06)
def HEARTH_LINECNT_EXCESS : Fld := ⟨0x400318, 0x4000, 0, 32, 32, .ro, (fun _ _ => 0)⟩
def HEARTH_LINECNT_MISSING_LINES : Fld := ⟨0x400318, 0x4000, 0, 0, 32, .ro, (fun _ _ => 0)⟩

-- HEARTH_SAT (chapter 06)
def HEARTH_SAT_UNRESOLVED : Fld := ⟨0x400320, 0x4000, 0, 32, 32, .ro, (fun _ _ => 0)⟩
def HEARTH_SAT_SATURATED : Fld := ⟨0x400320, 0x4000, 0, 0, 32, .ro, (fun _ _ => 0)⟩

-- HEARTH_DROP (chapter 06)
def HEARTH_DROP_DROPPED0 : Fld := ⟨0x400328, 0x4000, 0, 0, 16, .ro, (fun _ _ => 0)⟩
def HEARTH_DROP_DROPPED1 : Fld := ⟨0x400328, 0x4000, 0, 16, 16, .ro, (fun _ _ => 0)⟩
def HEARTH_DROP_DROPPED2 : Fld := ⟨0x400328, 0x4000, 0, 32, 16, .ro, (fun _ _ => 0)⟩
def HEARTH_DROP_DROPPED3 : Fld := ⟨0x400328, 0x4000, 0, 48, 16, .ro, (fun _ _ => 0)⟩

-- HEARTH_CTL (chapter 06)
def HEARTH_CTL_CLEAR_COUNTS : Fld := ⟨0x400340, 0x4000, 0, 0, 1, .wo, (fun _ _ => 0)⟩

-- HEARTH_EXP (chapter 07)
def HEARTH_EXP_GEN : Fld := ⟨0x400400, 0x4000, 0, 48, 16, .ro, (fun _ _ => 0)⟩
def HEARTH_EXP_GAIN : Fld := ⟨0x400400, 0x4000, 0, 32, 16, .ro, (fun _ _ => 0x1000)⟩
def HEARTH_EXP_EXPOSURE_NS : Fld := ⟨0x400400, 0x4000, 0, 0, 32, .ro, (fun _ _ => 0)⟩

-- HEARTH_EXP_PEND (chapter 07)
def HEARTH_EXP_PEND_OPEN : Fld := ⟨0x400408, 0x4000, 0, 63, 1, .ro, (fun _ _ => 0)⟩
def HEARTH_EXP_PEND_ACKED : Fld := ⟨0x400408, 0x4000, 0, 62, 1, .ro, (fun _ _ => 0)⟩
def HEARTH_EXP_PEND_QUEUED : Fld := ⟨0x400408, 0x4000, 0, 61, 1, .ro, (fun _ _ => 0)⟩
def HEARTH_EXP_PEND_GEN : Fld := ⟨0x400408, 0x4000, 0, 32, 16, .ro, (fun _ _ => 0)⟩
def HEARTH_EXP_PEND_FROM_FRAME : Fld := ⟨0x400408, 0x4000, 0, 0, 32, .ro, (fun _ _ => 0)⟩

-- HEARTH_EXP_SET (chapter 07)
def HEARTH_EXP_SET_GAIN : Fld := ⟨0x400410, 0x4000, 0, 32, 16, .wo, (fun _ _ => 0x1000)⟩
def HEARTH_EXP_SET_EXPOSURE_NS : Fld := ⟨0x400410, 0x4000, 0, 0, 32, .wo, (fun _ _ => 0)⟩

-- HEARTH_EXP_INIT (chapter 07)
def HEARTH_EXP_INIT_GAIN : Fld := ⟨0x400418, 0x4000, 0, 32, 16, .rw, (fun _ _ => 0x1000)⟩
def HEARTH_EXP_INIT_EXPOSURE_NS : Fld := ⟨0x400418, 0x4000, 0, 0, 32, .rw, (fun _ _ => 0)⟩

-- HEARTH_AE (chapter 07)
def HEARTH_AE_AE_EN : Fld := ⟨0x400420, 0x4000, 0, 63, 1, .rw, (fun _ _ => 0)⟩
def HEARTH_AE_AE_FRAMES_M1 : Fld := ⟨0x400420, 0x4000, 0, 56, 4, .rw, (fun _ _ => 0)⟩
def HEARTH_AE_AE_BAND : Fld := ⟨0x400420, 0x4000, 0, 54, 2, .rw, (fun _ _ => 0)⟩
def HEARTH_AE_SAT_MAX : Fld := ⟨0x400420, 0x4000, 0, 32, 16, .rw, (fun _ _ => 0x100)⟩
def HEARTH_AE_DEADBAND : Fld := ⟨0x400420, 0x4000, 0, 16, 16, .rw, (fun _ _ => 0x400)⟩
def HEARTH_AE_TARGET : Fld := ⟨0x400420, 0x4000, 0, 0, 16, .rw, (fun _ _ => 0x8000)⟩

-- HEARTH_AE_LIM (chapter 07)
def HEARTH_AE_LIM_EXP_MAX_NS : Fld := ⟨0x400428, 0x4000, 0, 32, 32, .rw, (fun _ _ => 0xFFFFFFFF)⟩
def HEARTH_AE_LIM_EXP_MIN_NS : Fld := ⟨0x400428, 0x4000, 0, 0, 32, .rw, (fun _ _ => 0)⟩

-- HEARTH_STAT_CFG (chapter 07)
def HEARTH_STAT_CFG_STAT_EN : Fld := ⟨0x400440, 0x4000, 0, 63, 1, .rw, (fun _ _ => 0)⟩
def HEARTH_STAT_CFG_SAT_LEVEL : Fld := ⟨0x400440, 0x4000, 0, 32, 16, .rw, (fun _ _ => 0xFFFF)⟩
def HEARTH_STAT_CFG_STAT_TROUGH : Fld := ⟨0x400440, 0x4000, 0, 0, 11, .rw, (fun _ _ => 0)⟩

-- HEARTH_STAT_ROI (chapter 07)
def HEARTH_STAT_ROI_LINE_COUNT : Fld := ⟨0x400448, 0x4000, 0, 48, 16, .rw, (fun _ _ => 0)⟩
def HEARTH_STAT_ROI_LINE_FIRST : Fld := ⟨0x400448, 0x4000, 0, 32, 16, .rw, (fun _ _ => 0)⟩
def HEARTH_STAT_ROI_COL_COUNT : Fld := ⟨0x400448, 0x4000, 0, 16, 16, .rw, (fun _ _ => 0)⟩
def HEARTH_STAT_ROI_COL_FIRST : Fld := ⟨0x400448, 0x4000, 0, 0, 16, .rw, (fun _ _ => 0)⟩

-- HEARTH_EXP_STATUS (chapter 07)
def HEARTH_EXP_STATUS_RESOURCE_HELD : Fld := ⟨0x400450, 0x4000, 0, 4, 1, .rw1c, (fun _ _ => 0)⟩
def HEARTH_EXP_STATUS_AE_CLAMPED : Fld := ⟨0x400450, 0x4000, 0, 3, 1, .rw1c, (fun _ _ => 0)⟩
def HEARTH_EXP_STATUS_HIST_DEFERRED : Fld := ⟨0x400450, 0x4000, 0, 2, 1, .rw1c, (fun _ _ => 0)⟩
def HEARTH_EXP_STATUS_STRADDLE : Fld := ⟨0x400450, 0x4000, 0, 1, 1, .rw1c, (fun _ _ => 0)⟩
def HEARTH_EXP_STATUS_EXP_FAIL : Fld := ⟨0x400450, 0x4000, 0, 0, 1, .rw1c, (fun _ _ => 0)⟩

-- HEARTH_EXP_CNT (chapter 07)
def HEARTH_EXP_CNT_STRADDLED : Fld := ⟨0x400458, 0x4000, 0, 48, 16, .ro, (fun _ _ => 0)⟩
def HEARTH_EXP_CNT_QUEUE_REPLACED : Fld := ⟨0x400458, 0x4000, 0, 40, 8, .ro, (fun _ _ => 0)⟩
def HEARTH_EXP_CNT_RETRIES : Fld := ⟨0x400458, 0x4000, 0, 32, 8, .ro, (fun _ _ => 0)⟩
def HEARTH_EXP_CNT_CHANGES : Fld := ⟨0x400458, 0x4000, 0, 0, 32, .ro, (fun _ _ => 0)⟩

end Sys2Proof.Machine.F
end

