-- ==== Sys2Proof/Machine/RegsC.lean ====
section
/-!
DEFINITION. Anvil, Hammer, nozzle-context and Bellows registers (chapters 8 to 11): each register field
of the spec's register tables, with its place, access code and reset value (R14, R16, R17, R555).
-/

namespace Sys2Proof.Machine.F


-- ANVIL_ID (chapter 08)
def ANVIL_ID_SERVING : Fld := ⟨0xC00000, 0x4000, 0, 31, 1, .ro, (fun n _ => if n % 17 = 16 then 0 else 1)⟩
def ANVIL_ID_SHADOW : Fld := ⟨0xC00000, 0x4000, 0, 30, 1, .ro, (fun _ _ => 0)⟩
def ANVIL_ID_CLUSTER : Fld := ⟨0xC00000, 0x4000, 0, 8, 3, .ro, (fun n _ => n / 17)⟩
def ANVIL_ID_LOGICAL : Fld := ⟨0xC00000, 0x4000, 0, 0, 8, .ro, (fun n _ => if n % 17 = 16 then 0 else 16 * (n / 17) + n % 17)⟩

-- ANVIL_STATE (chapter 08)
def ANVIL_STATE_BUSY : Fld := ⟨0xC00008, 0x4000, 0, 63, 1, .ro, (fun _ _ => 0)⟩
def ANVIL_STATE_HEARTH : Fld := ⟨0xC00008, 0x4000, 0, 48, 8, .ro, (fun _ _ => 0)⟩
def ANVIL_STATE_BSEQ : Fld := ⟨0xC00008, 0x4000, 0, 0, 48, .ro, (fun _ _ => 0)⟩

-- ANVIL_CNT (chapter 08)
def ANVIL_CNT_BILLETS : Fld := ⟨0xC00010, 0x4000, 0, 32, 32, .ro, (fun _ _ => 0)⟩
def ANVIL_CNT_MSAMPLES : Fld := ⟨0xC00010, 0x4000, 0, 0, 32, .ro, (fun _ _ => 0)⟩

-- CMP_CFG (chapter 08)
def CMP_CFG_ENABLE : Fld := ⟨0x1200000, 0x100, 0, 63, 1, .rw, (fun _ _ => 0)⟩
def CMP_CFG_NOZZLE_EV : Fld := ⟨0x1200000, 0x100, 0, 62, 1, .rw, (fun _ _ => 0)⟩
def CMP_CFG_REG_EN : Fld := ⟨0x1200000, 0x100, 0, 61, 1, .rw, (fun _ _ => 0)⟩
def CMP_CFG_ADAPT_EN : Fld := ⟨0x1200000, 0x100, 0, 60, 1, .rw, (fun _ _ => 0)⟩
def CMP_CFG_REG_INK : Fld := ⟨0x1200000, 0x100, 0, 57, 3, .rw, (fun _ _ => 0)⟩
def CMP_CFG_REG_BAND : Fld := ⟨0x1200000, 0x100, 0, 55, 2, .rw, (fun _ _ => 0)⟩
def CMP_CFG_EV_BAND : Fld := ⟨0x1200000, 0x100, 0, 53, 2, .rw, (fun _ _ => 0)⟩
def CMP_CFG_PROFILE : Fld := ⟨0x1200000, 0x100, 0, 48, 4, .rw, (fun _ _ => 0)⟩
def CMP_CFG_INK_MASK : Fld := ⟨0x1200000, 0x100, 0, 40, 8, .rw, (fun _ _ => 0)⟩
def CMP_CFG_BILLET_COLS : Fld := ⟨0x1200000, 0x100, 0, 32, 8, .rw, (fun _ _ => 0x80)⟩
def CMP_CFG_BILLET_IDLE_MS : Fld := ⟨0x1200000, 0x100, 0, 16, 16, .rw, (fun _ _ => 0x3E8)⟩
def CMP_CFG_EVAL_BILLETS : Fld := ⟨0x1200000, 0x100, 0, 8, 8, .rw, (fun _ _ => 0x10)⟩
def CMP_CFG_DEADLINE_MS : Fld := ⟨0x1200000, 0x100, 0, 0, 6, .rw, (fun _ _ => 0x28)⟩

-- CMP_THR (chapter 08)
def CMP_THR_T_WEAK : Fld := ⟨0x1200008, 0x100, 0, 48, 16, .rw, (fun _ _ => 0x200)⟩
def CMP_THR_T_MISS : Fld := ⟨0x1200008, 0x100, 0, 32, 16, .rw, (fun _ _ => 0x300)⟩
def CMP_THR_T_HARD : Fld := ⟨0x1200008, 0x100, 0, 16, 16, .rw, (fun _ _ => 0x800)⟩
def CMP_THR_T_SOFT : Fld := ⟨0x1200008, 0x100, 0, 0, 16, .rw, (fun _ _ => 0x400)⟩

-- CMP_SCALE (chapter 08)
def CMP_SCALE_S : Fld := ⟨0x1200010, 0x100, 0, 0, 16, .rw, (fun _ _ => 0x1000)⟩

-- CMP_CELL (chapter 08)
def CMP_CELL_MAX_DEFECTS : Fld := ⟨0x1200018, 0x100, 0, 51, 13, .rw, (fun _ _ => 0x100)⟩
def CMP_CELL_MOTTLE_MIN : Fld := ⟨0x1200018, 0x100, 0, 35, 13, .rw, (fun _ _ => 0x100)⟩
def CMP_CELL_AREA_MIN : Fld := ⟨0x1200018, 0x100, 0, 19, 13, .rw, (fun _ _ => 0x40)⟩
def CMP_CELL_SPOT_MIN : Fld := ⟨0x1200018, 0x100, 0, 9, 7, .rw, (fun _ _ => 4)⟩
def CMP_CELL_STREAK_MIN : Fld := ⟨0x1200018, 0x100, 0, 0, 9, .rw, (fun _ _ => 0x40)⟩

-- CMP_ATTR (chapter 08)
def CMP_ATTR_REG_LIMIT : Fld := ⟨0x1200020, 0x100, 0, 48, 16, .rw, (fun _ _ => 0x100)⟩
def CMP_ATTR_REG_MAX_STEP_NS : Fld := ⟨0x1200020, 0x100, 0, 32, 16, .rw, (fun _ _ => 0x64)⟩
def CMP_ATTR_REG_DEADBAND : Fld := ⟨0x1200020, 0x100, 0, 24, 8, .rw, (fun _ _ => 0x10)⟩
def CMP_ATTR_REG_GAIN : Fld := ⟨0x1200020, 0x100, 0, 16, 8, .rw, (fun _ _ => 0x80)⟩
def CMP_ATTR_ATTR_MAX : Fld := ⟨0x1200020, 0x100, 0, 0, 16, .rw, (fun _ _ => 0x4000)⟩

-- CMP_OUT (chapter 08)
def CMP_OUT_EV_REC_EN : Fld := ⟨0x1200028, 0x100, 0, 63, 1, .rw, (fun _ _ => 0)⟩
def CMP_OUT_EV_TROUGH : Fld := ⟨0x1200028, 0x100, 0, 48, 11, .rw, (fun _ _ => 0)⟩
def CMP_OUT_REG_REC_EN : Fld := ⟨0x1200028, 0x100, 0, 47, 1, .rw, (fun _ _ => 0)⟩
def CMP_OUT_REG_TROUGH : Fld := ⟨0x1200028, 0x100, 0, 32, 11, .rw, (fun _ _ => 0)⟩
def CMP_OUT_DEFECT_TROUGH : Fld := ⟨0x1200028, 0x100, 0, 16, 11, .rw, (fun _ _ => 0)⟩
def CMP_OUT_BILLET_TROUGH : Fld := ⟨0x1200028, 0x100, 0, 0, 11, .rw, (fun _ _ => 0)⟩

-- CMP_STATUS (chapter 08)
def CMP_STATUS_LATE : Fld := ⟨0x1200030, 0x100, 0, 6, 1, .rw1c, (fun _ _ => 0)⟩
def CMP_STATUS_ABANDONED : Fld := ⟨0x1200030, 0x100, 0, 5, 1, .rw1c, (fun _ _ => 0)⟩
def CMP_STATUS_LAPPED : Fld := ⟨0x1200030, 0x100, 0, 4, 1, .rw1c, (fun _ _ => 0)⟩
def CMP_STATUS_DEFECT_LIMIT : Fld := ⟨0x1200030, 0x100, 0, 3, 1, .rw1c, (fun _ _ => 0)⟩
def CMP_STATUS_THR_CHANGED : Fld := ⟨0x1200030, 0x100, 0, 2, 1, .rw1c, (fun _ _ => 0)⟩
def CMP_STATUS_REG_CLAMPED : Fld := ⟨0x1200030, 0x100, 0, 1, 1, .rw1c, (fun _ _ => 0)⟩
def CMP_STATUS_RESOURCE_HELD : Fld := ⟨0x1200030, 0x100, 0, 0, 1, .rw1c, (fun _ _ => 0)⟩

-- CMP_COUNT (chapter 08)
def CMP_COUNT_NOT_COMPARED : Fld := ⟨0x1200038, 0x100, 0, 32, 32, .ro, (fun _ _ => 0)⟩
def CMP_COUNT_COMPARED : Fld := ⟨0x1200038, 0x100, 0, 0, 32, .ro, (fun _ _ => 0)⟩

-- CMP_NEXT (chapter 08)
def CMP_NEXT_BSEQ : Fld := ⟨0x1200040, 0x100, 0, 0, 64, .ro, (fun _ _ => 0)⟩

-- MODEL_CTL (chapter 08)
def MODEL_CTL_OP : Fld := ⟨0x1210000, 0, 0, 8, 2, .wo, (fun _ _ => 0)⟩
def MODEL_CTL_PROFILE : Fld := ⟨0x1210000, 0, 0, 0, 4, .wo, (fun _ _ => 0)⟩

-- MODEL_ACTIVE (chapter 08)
def MODEL_ACTIVE_BANK : Fld := ⟨0x1210008, 0, 0, 0, 16, .ro, (fun _ _ => 0)⟩

-- ANVIL_GCTL (chapter 08)
def ANVIL_GCTL_CLEAR_COUNTS : Fld := ⟨0x1210010, 0, 0, 0, 1, .wo, (fun _ _ => 0)⟩

-- REG_SOURCE (chapter 08)
def REG_SOURCE_HEARTH : Fld := ⟨0x1210100, 4, 0, 0, 9, .rw, (fun _ _ => 0x1FF)⟩

-- HAMMER_CFG (chapter 09)
def HAMMER_CFG_ENABLE : Fld := ⟨0x1400000, 0x10000, 0, 63, 1, .rw, (fun _ _ => 0)⟩
def HAMMER_CFG_GROUP : Fld := ⟨0x1400000, 0x10000, 0, 60, 3, .rw, (fun _ _ => 0)⟩
def HAMMER_CFG_INK : Fld := ⟨0x1400000, 0x10000, 0, 57, 3, .rw, (fun _ _ => 0)⟩
def HAMMER_CFG_DOT_FORMAT : Fld := ⟨0x1400000, 0x10000, 0, 54, 2, .rw, (fun _ _ => 1)⟩
def HAMMER_CFG_LEVEL_1BIT : Fld := ⟨0x1400000, 0x10000, 0, 52, 2, .rw, (fun _ _ => 3)⟩
def HAMMER_CFG_BPN : Fld := ⟨0x1400000, 0x10000, 0, 51, 1, .rw, (fun _ _ => 1)⟩
def HAMMER_CFG_DDR : Fld := ⟨0x1400000, 0x10000, 0, 50, 1, .rw, (fun _ _ => 1)⟩
def HAMMER_CFG_WIDTH : Fld := ⟨0x1400000, 0x10000, 0, 48, 2, .rw, (fun _ _ => 3)⟩
def HAMMER_CFG_LANE_MAP : Fld := ⟨0x1400000, 0x10000, 0, 47, 1, .rw, (fun _ _ => 0)⟩
def HAMMER_CFG_ORDER : Fld := ⟨0x1400000, 0x10000, 0, 46, 1, .rw, (fun _ _ => 0)⟩
def HAMMER_CFG_BIT_ORDER : Fld := ⟨0x1400000, 0x10000, 0, 45, 1, .rw, (fun _ _ => 0)⟩
def HAMMER_CFG_SCLK_DIV : Fld := ⟨0x1400000, 0x10000, 0, 32, 6, .rw, (fun _ _ => 8)⟩
def HAMMER_CFG_NOZZLES : Fld := ⟨0x1400000, 0x10000, 0, 0, 15, .rw, (fun _ _ => 0x4000)⟩

-- HAMMER_TIMING (chapter 09)
def HAMMER_TIMING_STB_TO_LAT : Fld := ⟨0x1400008, 0x10000, 0, 40, 10, .rw, (fun _ _ => 0x14)⟩
def HAMMER_TIMING_LAT_TO_STB : Fld := ⟨0x1400008, 0x10000, 0, 30, 10, .rw, (fun _ _ => 0x14)⟩
def HAMMER_TIMING_LAT_W : Fld := ⟨0x1400008, 0x10000, 0, 22, 8, .rw, (fun _ _ => 0x14)⟩
def HAMMER_TIMING_LAT_SETUP : Fld := ⟨0x1400008, 0x10000, 0, 14, 8, .rw, (fun _ _ => 8)⟩
def HAMMER_TIMING_STB_W : Fld := ⟨0x1400008, 0x10000, 0, 0, 14, .rw, (fun _ _ => 0x3E8)⟩

-- HAMMER_OFFSET (chapter 09)
def HAMMER_OFFSET_REV_OFFSET : Fld := ⟨0x1400010, 0x10000, 0, 32, 32, .rw, (fun _ _ => 0)⟩
def HAMMER_OFFSET_FWD_OFFSET : Fld := ⟨0x1400010, 0x10000, 0, 0, 32, .rw, (fun _ _ => 0)⟩

-- HAMMER_GRID (chapter 09)
def HAMMER_GRID_GRID_BASE : Fld := ⟨0x1400018, 0x10000, 0, 0, 64, .rw, (fun _ _ => 0)⟩

-- HAMMER_DOT (chapter 09)
def HAMMER_DOT_SHARE_MIB : Fld := ⟨0x1400020, 0x10000, 0, 32, 32, .rwk, (fun _ _ => 0)⟩
def HAMMER_DOT_RESERVE_LINES : Fld := ⟨0x1400020, 0x10000, 0, 0, 16, .rw, (fun _ _ => 0x100)⟩

-- HAMMER_DOTGEOM (chapter 09)
def HAMMER_DOTGEOM_SLOTS : Fld := ⟨0x1400028, 0x10000, 0, 32, 32, .ro, (fun _ _ => 0)⟩
def HAMMER_DOTGEOM_SLOT_BYTES : Fld := ⟨0x1400028, 0x10000, 0, 0, 32, .ro, (fun _ _ => 0)⟩

-- HAMMER_DOTBASE (chapter 09)
def HAMMER_DOTBASE_VALUE : Fld := ⟨0x1400030, 0x10000, 0, 0, 64, .ro, (fun _ _ => 0)⟩

-- HAMMER_FLOG (chapter 09)
def HAMMER_FLOG_VALUE : Fld := ⟨0x1400038, 0x10000, 0, 0, 64, .ro, (fun _ _ => 0)⟩

-- HAMMER_WR (chapter 09)
def HAMMER_WR_INDEX : Fld := ⟨0x1400040, 0x10000, 0, 0, 64, .ro, (fun _ _ => 0)⟩

-- HAMMER_NEXT (chapter 09)
def HAMMER_NEXT_INDEX : Fld := ⟨0x1400048, 0x10000, 0, 0, 64, .ro, (fun _ _ => 0)⟩

-- HAMMER_REL (chapter 09)
def HAMMER_REL_INDEX : Fld := ⟨0x1400050, 0x10000, 0, 0, 64, .ro, (fun _ _ => 0)⟩

-- HAMMER_LOG (chapter 09)
def HAMMER_LOG_LOG_EN : Fld := ⟨0x1400058, 0x10000, 0, 31, 1, .rw, (fun _ _ => 0)⟩
def HAMMER_LOG_LOG_TROUGH : Fld := ⟨0x1400058, 0x10000, 0, 0, 11, .rw, (fun _ _ => 0)⟩

-- HAMMER_STATE (chapter 09)
def HAMMER_STATE_ARMED : Fld := ⟨0x1400060, 0x10000, 0, 31, 1, .ro, (fun _ _ => 0)⟩
def HAMMER_STATE_HOT : Fld := ⟨0x1400060, 0x10000, 0, 30, 1, .ro, (fun _ _ => 0)⟩
def HAMMER_STATE_REFUSE : Fld := ⟨0x1400060, 0x10000, 0, 24, 4, .ro, (fun _ _ => 0)⟩
def HAMMER_STATE_MODE : Fld := ⟨0x1400060, 0x10000, 0, 0, 2, .ro, (fun _ _ => 0)⟩

-- HAMMER_STATUS (chapter 09)
def HAMMER_STATUS_CFG_LOCKED : Fld := ⟨0x1400064, 0x10000, 0, 7, 1, .rw1c, (fun _ _ => 0)⟩
def HAMMER_STATUS_RESOURCE_HELD : Fld := ⟨0x1400064, 0x10000, 0, 6, 1, .rw1c, (fun _ _ => 0)⟩
def HAMMER_STATUS_FORCED_RELEASE : Fld := ⟨0x1400064, 0x10000, 0, 5, 1, .rw1c, (fun _ _ => 0)⟩
def HAMMER_STATUS_LATE : Fld := ⟨0x1400064, 0x10000, 0, 4, 1, .rw1c, (fun _ _ => 0)⟩
def HAMMER_STATUS_SEQ_ERR : Fld := ⟨0x1400064, 0x10000, 0, 3, 1, .rw1c, (fun _ _ => 0)⟩
def HAMMER_STATUS_UNDERRUN : Fld := ⟨0x1400064, 0x10000, 0, 2, 1, .rw1c, (fun _ _ => 0)⟩
def HAMMER_STATUS_ARM_REFUSED : Fld := ⟨0x1400064, 0x10000, 0, 1, 1, .rw1c, (fun _ _ => 0)⟩
def HAMMER_STATUS_HOT_SEEN : Fld := ⟨0x1400064, 0x10000, 0, 0, 1, .rw1c, (fun _ _ => 0)⟩

-- HAMMER_FIRED (chapter 09)
def HAMMER_FIRED_FIRED : Fld := ⟨0x1400068, 0x10000, 0, 0, 64, .ro, (fun _ _ => 0)⟩

-- HAMMER_CNT (chapter 09)
def HAMMER_CNT_UNDERRUNS : Fld := ⟨0x1400070, 0x10000, 0, 48, 16, .ro, (fun _ _ => 0)⟩
def HAMMER_CNT_SEQ_ERRS : Fld := ⟨0x1400070, 0x10000, 0, 32, 16, .ro, (fun _ _ => 0)⟩
def HAMMER_CNT_LATE_LINES : Fld := ⟨0x1400070, 0x10000, 0, 16, 16, .ro, (fun _ _ => 0)⟩
def HAMMER_CNT_FORCED : Fld := ⟨0x1400070, 0x10000, 0, 0, 16, .ro, (fun _ _ => 0)⟩

-- HAMMER_CNT2 (chapter 09)
def HAMMER_CNT2_HELD : Fld := ⟨0x1400078, 0x10000, 0, 32, 32, .ro, (fun _ _ => 0)⟩
def HAMMER_CNT2_WRONG_DIR : Fld := ⟨0x1400078, 0x10000, 0, 16, 16, .ro, (fun _ _ => 0)⟩
def HAMMER_CNT2_LATE : Fld := ⟨0x1400078, 0x10000, 0, 0, 16, .ro, (fun _ _ => 0)⟩

-- HAMMER_CTL (chapter 09)
def HAMMER_CTL_FLUSH : Fld := ⟨0x1400080, 0x10000, 0, 1, 1, .wo, (fun _ _ => 0)⟩
def HAMMER_CTL_CLEAR_COUNTS : Fld := ⟨0x1400080, 0x10000, 0, 0, 1, .wo, (fun _ _ => 0)⟩

-- HGRP_CFG (chapter 09)
def HGRP_CFG_X0 : Fld := ⟨0x1408000, 0x10000, 0, 32, 32, .rw, (fun _ _ => 0)⟩
def HGRP_CFG_PASS_COLUMNS : Fld := ⟨0x1408000, 0x10000, 0, 12, 20, .rw, (fun _ _ => 1)⟩
def HGRP_CFG_PASSES : Fld := ⟨0x1408000, 0x10000, 0, 4, 7, .rw, (fun _ _ => 1)⟩
def HGRP_CFG_GEOMETRY : Fld := ⟨0x1408000, 0x10000, 0, 0, 2, .rw, (fun _ _ => 0)⟩

-- HGRP_HOT (chapter 09)
def HGRP_HOT_HOT_FILTER_NS : Fld := ⟨0x1408008, 0x10000, 0, 32, 16, .rw, (fun _ _ => 0x3E8)⟩
def HGRP_HOT_RESUME_DELAY_MS : Fld := ⟨0x1408008, 0x10000, 0, 0, 16, .rw, (fun _ _ => 0x3E8)⟩

-- HGRP_PASS (chapter 09)
def HGRP_PASS_ENDED : Fld := ⟨0x1408010, 0x10000, 0, 32, 32, .ro, (fun _ _ => 0)⟩
def HGRP_PASS_TABLE_IDX : Fld := ⟨0x1408010, 0x10000, 0, 16, 6, .ro, (fun _ _ => 0)⟩
def HGRP_PASS_OWED_DIR : Fld := ⟨0x1408010, 0x10000, 0, 9, 1, .ro, (fun _ _ => 0)⟩
def HGRP_PASS_OWED : Fld := ⟨0x1408010, 0x10000, 0, 8, 1, .ro, (fun _ _ => 0)⟩
def HGRP_PASS_MODE : Fld := ⟨0x1408010, 0x10000, 0, 0, 2, .ro, (fun _ _ => 0)⟩

-- HGRP_SWATH (chapter 09)
def HGRP_SWATH_SWATH_BASE : Fld := ⟨0x1408018, 0x10000, 0, 0, 64, .ro, (fun _ _ => 0)⟩

-- HGRP_HOLD (chapter 09)
def HGRP_HOLD_HOLD_DT : Fld := ⟨0x1408020, 0x10000, 0, 0, 64, .ro, (fun _ _ => 0)⟩

-- HGRP_STATUS (chapter 09)
def HGRP_STATUS_SHORT_PASS : Fld := ⟨0x1408028, 0x10000, 0, 3, 1, .rw1c, (fun _ _ => 0)⟩
def HGRP_STATUS_RESUMED : Fld := ⟨0x1408028, 0x10000, 0, 2, 1, .rw1c, (fun _ _ => 0)⟩
def HGRP_STATUS_SWATH_OWED : Fld := ⟨0x1408028, 0x10000, 0, 1, 1, .rw1c, (fun _ _ => 0)⟩
def HGRP_STATUS_HOLD : Fld := ⟨0x1408028, 0x10000, 0, 0, 1, .rw1c, (fun _ _ => 0)⟩

-- HGRP_CTL (chapter 09)
def HGRP_CTL_RESUME : Fld := ⟨0x1408030, 0x10000, 0, 0, 1, .wo, (fun _ _ => 0)⟩

-- HGRP_FEED (chapter 09)
def HGRP_FEED_DIR : Fld := ⟨0x1408100, 0x10000, 8, 16, 2, .rw, (fun _ _ => 0)⟩
def HGRP_FEED_FEED_LINES : Fld := ⟨0x1408100, 0x10000, 8, 0, 16, .rw, (fun _ _ => 0)⟩

-- NCTX_CFG (chapter 10)
def NCTX_CFG_EV_EN : Fld := ⟨0x1404000, 0x10000, 0, 63, 1, .rw, (fun _ _ => 0)⟩
def NCTX_CFG_TAKEOVER : Fld := ⟨0x1404000, 0x10000, 0, 58, 2, .rw, (fun _ _ => 1)⟩
def NCTX_CFG_CHAIN_M1 : Fld := ⟨0x1404000, 0x10000, 0, 56, 2, .rw, (fun _ _ => 1)⟩
def NCTX_CFG_WEAK_BOOST : Fld := ⟨0x1404000, 0x10000, 0, 55, 1, .rw, (fun _ _ => 1)⟩
def NCTX_CFG_MIN_FIRED : Fld := ⟨0x1404000, 0x10000, 0, 32, 16, .rw, (fun _ _ => 0x80)⟩
def NCTX_CFG_DECAY_AT : Fld := ⟨0x1404000, 0x10000, 0, 16, 16, .rw, (fun _ _ => 0x1000)⟩
def NCTX_CFG_HOLDOFF : Fld := ⟨0x1404000, 0x10000, 0, 0, 16, .rw, (fun _ _ => 0x10E)⟩

-- NCTX_RATIO (chapter 10)
def NCTX_RATIO_CLEAR_RATIO : Fld := ⟨0x1404008, 0x10000, 0, 48, 16, .rw, (fun _ _ => 0x1000)⟩
def NCTX_RATIO_SUSPECT_RATIO : Fld := ⟨0x1404008, 0x10000, 0, 32, 16, .rw, (fun _ _ => 0x2000)⟩
def NCTX_RATIO_WEAK_RATIO : Fld := ⟨0x1404008, 0x10000, 0, 16, 16, .rw, (fun _ _ => 0x4000)⟩
def NCTX_RATIO_DEAD_RATIO : Fld := ⟨0x1404008, 0x10000, 0, 0, 16, .rw, (fun _ _ => 0x8000)⟩

-- NCTX_MAP (chapter 10)
def NCTX_MAP_COL_BASE : Fld := ⟨0x1404010, 0x10000, 0, 32, 32, .rw, (fun _ _ => 0)⟩
def NCTX_MAP_DATA_SHIFT : Fld := ⟨0x1404010, 0x10000, 0, 24, 8, .rw, (fun _ _ => 0)⟩
def NCTX_MAP_COL_STEP : Fld := ⟨0x1404010, 0x10000, 0, 0, 4, .rw, (fun _ _ => 1)⟩

-- NCTX_LINEMAP (chapter 10)
def NCTX_LINEMAP_LINE_BASE : Fld := ⟨0x1404018, 0x10000, 0, 32, 32, .rw, (fun _ _ => 0)⟩
def NCTX_LINEMAP_LINE_STEP : Fld := ⟨0x1404018, 0x10000, 0, 0, 4, .rw, (fun _ _ => 1)⟩

-- NCTX_GEN (chapter 10)
def NCTX_GEN_CTX_GEN : Fld := ⟨0x1404020, 0x10000, 0, 0, 32, .ro, (fun _ _ => 0)⟩

-- NCTX_COUNT (chapter 10)
def NCTX_COUNT_DONORS : Fld := ⟨0x1404028, 0x10000, 0, 48, 16, .ro, (fun _ _ => 0)⟩
def NCTX_COUNT_WEAK : Fld := ⟨0x1404028, 0x10000, 0, 32, 16, .ro, (fun _ _ => 0)⟩
def NCTX_COUNT_SUSPECT : Fld := ⟨0x1404028, 0x10000, 0, 16, 16, .ro, (fun _ _ => 0)⟩
def NCTX_COUNT_UNCOMP : Fld := ⟨0x1404028, 0x10000, 0, 0, 16, .ro, (fun _ _ => 0)⟩

-- NCTX_DROPS (chapter 10)
def NCTX_DROPS_CLIPPED : Fld := ⟨0x1404030, 0x10000, 0, 44, 20, .ro, (fun _ _ => 0)⟩
def NCTX_DROPS_EXCL_LEVELS : Fld := ⟨0x1404030, 0x10000, 0, 24, 20, .ro, (fun _ _ => 0)⟩
def NCTX_DROPS_UNCOMP_LEVELS : Fld := ⟨0x1404030, 0x10000, 0, 0, 24, .ro, (fun _ _ => 0)⟩

-- NCTX_REC (chapter 10)
def NCTX_REC_REC_EN : Fld := ⟨0x1404038, 0x10000, 0, 31, 1, .rw, (fun _ _ => 0)⟩
def NCTX_REC_TROUGH : Fld := ⟨0x1404038, 0x10000, 0, 0, 11, .rw, (fun _ _ => 0)⟩

-- NCTX_HEAD (chapter 10)
def NCTX_HEAD_HEAD_TAG : Fld := ⟨0x1404040, 0x10000, 0, 0, 32, .rw, (fun _ _ => 0)⟩

-- NCTX_STATUS (chapter 10)
def NCTX_STATUS_SNAP_MISMATCH : Fld := ⟨0x1404048, 0x10000, 0, 5, 1, .rw1c, (fun _ _ => 0)⟩
def NCTX_STATUS_SNAP_DONE : Fld := ⟨0x1404048, 0x10000, 0, 4, 1, .rw1c, (fun _ _ => 0)⟩
def NCTX_STATUS_UNCOMP_NEW : Fld := ⟨0x1404048, 0x10000, 0, 3, 1, .rw1c, (fun _ _ => 0)⟩
def NCTX_STATUS_RESOURCE_HELD : Fld := ⟨0x1404048, 0x10000, 0, 2, 1, .rw1c, (fun _ _ => 0)⟩
def NCTX_STATUS_CFG_LOCKED : Fld := ⟨0x1404048, 0x10000, 0, 1, 1, .rw1c, (fun _ _ => 0)⟩
def NCTX_STATUS_BAD_WRITE : Fld := ⟨0x1404048, 0x10000, 0, 0, 1, .rw1c, (fun _ _ => 0)⟩

-- NCTX_CTL (chapter 10)
def NCTX_CTL_SNAPSHOT : Fld := ⟨0x1404050, 0x10000, 0, 1, 1, .wo, (fun _ _ => 0)⟩
def NCTX_CTL_CLEAR_COUNTS : Fld := ⟨0x1404050, 0x10000, 0, 0, 1, .wo, (fun _ _ => 0)⟩

-- NCTX_EVCNT (chapter 10)
def NCTX_EVCNT_ACCEPTED : Fld := ⟨0x1404058, 0x10000, 0, 32, 32, .ro, (fun _ _ => 0)⟩
def NCTX_EVCNT_DISCARDED : Fld := ⟨0x1404058, 0x10000, 0, 0, 32, .ro, (fun _ _ => 0)⟩

-- NCTX_SNAP (chapter 10)
def NCTX_SNAP_PERIOD_MIN : Fld := ⟨0x140C000, 0x10000, 0, 0, 16, .rw, (fun _ _ => 0x3C)⟩

-- NCTX (chapter 10)
def NCTX_EV_WEAK : Fld := ⟨0x1800000, 0x20000, 8, 52, 12, .rw, (fun _ _ => 0)⟩
def NCTX_EV_MISS : Fld := ⟨0x1800000, 0x20000, 8, 40, 12, .rw, (fun _ _ => 0)⟩
def NCTX_EV_FIRED : Fld := ⟨0x1800000, 0x20000, 8, 24, 16, .rw, (fun _ _ => 0)⟩
def NCTX_CHG_TIME : Fld := ⟨0x1800000, 0x20000, 8, 8, 16, .ro, (fun _ _ => 0)⟩
def NCTX_UNCOMP : Fld := ⟨0x1800000, 0x20000, 8, 7, 1, .ro, (fun _ _ => 0)⟩
def NCTX_HOLD : Fld := ⟨0x1800000, 0x20000, 8, 6, 1, .ro, (fun _ _ => 0)⟩
def NCTX_REQ_OPEN : Fld := ⟨0x1800000, 0x20000, 8, 5, 1, .ro, (fun _ _ => 0)⟩
def NCTX_HMASK : Fld := ⟨0x1800000, 0x20000, 8, 3, 2, .rw, (fun _ _ => 0)⟩
def NCTX_STATE : Fld := ⟨0x1800000, 0x20000, 8, 0, 3, .rw, (fun _ _ => 0)⟩

-- BLW_STATUS (chapter 11)
def BLW_STATUS_RESOURCE_HELD : Fld := ⟨0x20000, 0, 0, 9, 1, .rw1c, (fun _ _ => 0)⟩
def BLW_STATUS_CORNER_UNMET : Fld := ⟨0x20000, 0, 0, 8, 1, .rw1c, (fun _ _ => 0)⟩
def BLW_STATUS_GUARDBAND : Fld := ⟨0x20000, 0, 0, 7, 1, .rw1c, (fun _ _ => 0)⟩
def BLW_STATUS_CAP_UNMET : Fld := ⟨0x20000, 0, 0, 6, 1, .rw1c, (fun _ _ => 0)⟩
def BLW_STATUS_CAP_RAISED : Fld := ⟨0x20000, 0, 0, 5, 1, .rw1c, (fun _ _ => 0)⟩
def BLW_STATUS_REG_FAULT : Fld := ⟨0x20000, 0, 0, 4, 1, .rw1c, (fun _ _ => 0)⟩
def BLW_STATUS_NO_PMBUS : Fld := ⟨0x20000, 0, 0, 3, 1, .ro, (fun _ _ => 0)⟩
def BLW_STATUS_THERMAL : Fld := ⟨0x20000, 0, 0, 2, 1, .ro, (fun _ _ => 0)⟩
def BLW_STATUS_STATE : Fld := ⟨0x20000, 0, 0, 0, 2, .ro, (fun _ _ => 0)⟩

-- BLW_CAP (chapter 11)
def BLW_CAP_P_HYST : Fld := ⟨0x20008, 0, 0, 16, 16, .rw, (fun _ _ => 0x50)⟩
def BLW_CAP_P_CAP : Fld := ⟨0x20008, 0, 0, 0, 16, .rw, (fun _ _ => 0x1810)⟩

-- BLW_THERM (chapter 11)
def BLW_THERM_T_HYST : Fld := ⟨0x2000C, 0, 0, 16, 8, .rw, (fun _ _ => 3)⟩
def BLW_THERM_T_HOT : Fld := ⟨0x2000C, 0, 0, 0, 16, .rw, (fun _ _ => 0x6400)⟩

-- BLW_POWER (chapter 11)
def BLW_POWER_P_FIXED : Fld := ⟨0x20010, 0, 0, 48, 16, .rw, (fun _ _ => 0x2D0)⟩
def BLW_POWER_P_ALLOW : Fld := ⟨0x20010, 0, 0, 32, 16, .ro, (fun _ _ => 0x1810)⟩
def BLW_POWER_P_MEAS : Fld := ⟨0x20010, 0, 0, 16, 16, .ro, (fun _ _ => 0)⟩
def BLW_POWER_P_AVG : Fld := ⟨0x20010, 0, 0, 0, 16, .ro, (fun _ _ => 0)⟩

-- BLW_SCHED (chapter 11)
def BLW_SCHED_EPOCH : Fld := ⟨0x20018, 0, 0, 32, 32, .ro, (fun _ _ => 0)⟩
def BLW_SCHED_N_RUN : Fld := ⟨0x20018, 0, 0, 16, 8, .ro, (fun _ _ => 0x80)⟩
def BLW_SCHED_C2_FLOOR : Fld := ⟨0x20018, 0, 0, 8, 3, .ro, (fun _ _ => 0)⟩

-- BLW_GAP (chapter 11)
def BLW_GAP_STAT_EN : Fld := ⟨0x20020, 0, 0, 63, 1, .rw, (fun _ _ => 0)⟩
def BLW_GAP_STAT_TROUGH : Fld := ⟨0x20020, 0, 0, 48, 11, .rw, (fun _ _ => 0)⟩
def BLW_GAP_COV_EN : Fld := ⟨0x20020, 0, 0, 47, 1, .rw, (fun _ _ => 0)⟩
def BLW_GAP_COV_TROUGH : Fld := ⟨0x20020, 0, 0, 32, 11, .rw, (fun _ _ => 0)⟩

-- BLW_CNT (chapter 11)
def BLW_CNT_ABANDONED : Fld := ⟨0x20028, 0, 0, 32, 32, .ro, (fun _ _ => 0)⟩
def BLW_CNT_C2_DROPPED : Fld := ⟨0x20028, 0, 0, 16, 16, .ro, (fun _ _ => 0)⟩
def BLW_CNT_GUARD_ACTIONS : Fld := ⟨0x20028, 0, 0, 0, 16, .ro, (fun _ _ => 0)⟩

-- BLW_CTL (chapter 11)
def BLW_CTL_CLEAR_PEAKS : Fld := ⟨0x20030, 0, 0, 1, 1, .wo, (fun _ _ => 0)⟩
def BLW_CTL_CLEAR_COUNTS : Fld := ⟨0x20030, 0, 0, 0, 1, .wo, (fun _ _ => 0)⟩

-- BLW_EST (chapter 11)
def BLW_EST_P_TILE : Fld := ⟨0x20038, 0, 0, 48, 16, .ro, (fun _ _ => 0)⟩
def BLW_EST_P_C2 : Fld := ⟨0x20038, 0, 0, 32, 16, .ro, (fun _ _ => 0)⟩
def BLW_EST_BACKLOG_US : Fld := ⟨0x20038, 0, 0, 0, 32, .ro, (fun _ _ => 0)⟩

-- BLW_TEMP (chapter 11)
def BLW_TEMP_PEAK : Fld := ⟨0x20100, 4, 0, 16, 16, .ro, (fun _ _ => 0)⟩
def BLW_TEMP_TEMP : Fld := ⟨0x20100, 4, 0, 0, 16, .ro, (fun _ _ => 0)⟩

-- BLW_RAIL (chapter 11)
def BLW_RAIL_ADDR : Fld := ⟨0x20200, 0x10, 0, 48, 7, .rwk, (fun _ _ => 0)⟩
def BLW_RAIL_PAGE : Fld := ⟨0x20200, 0x10, 0, 40, 8, .rwk, (fun _ _ => 0xFF)⟩
def BLW_RAIL_PEC : Fld := ⟨0x20200, 0x10, 0, 39, 1, .rwk, (fun _ _ => 0)⟩
def BLW_RAIL_CEIL_MV : Fld := ⟨0x20200, 0x10, 0, 16, 16, .rw, (fun k _ => if k < 14 then 0x0352 else 0x02EE)⟩
def BLW_RAIL_FLOOR_MV : Fld := ⟨0x20200, 0x10, 0, 0, 16, .rw, (fun k _ => if k < 8 then 0x01F4 else if k < 14 then 0x026C else 0x02EE)⟩

-- BLW_RAIL_STATE (chapter 11)
def BLW_RAIL_STATE_IOUT : Fld := ⟨0x20208, 0x10, 0, 48, 16, .ro, (fun _ _ => 0)⟩
def BLW_RAIL_STATE_VOUT_MV : Fld := ⟨0x20208, 0x10, 0, 32, 16, .ro, (fun _ _ => 0)⟩
def BLW_RAIL_STATE_SET_MV : Fld := ⟨0x20208, 0x10, 0, 16, 16, .ro, (fun _ _ => 0)⟩
def BLW_RAIL_STATE_MODE_ERR : Fld := ⟨0x20208, 0x10, 0, 2, 1, .ro, (fun _ _ => 0)⟩
def BLW_RAIL_STATE_FAULT : Fld := ⟨0x20208, 0x10, 0, 1, 1, .ro, (fun _ _ => 0)⟩
def BLW_RAIL_STATE_GUARDBAND : Fld := ⟨0x20208, 0x10, 0, 0, 1, .ro, (fun _ _ => 0)⟩

-- BLW_DOM (chapter 11)
def BLW_DOM_TOK_CORNER : Fld := ⟨0x20400, 8, 0, 48, 16, .ro, (fun d _ => if domainRail d < 14 then (Config.tokCorner d).toNat else 0)⟩
def BLW_DOM_TOK : Fld := ⟨0x20400, 8, 0, 32, 16, .ro, (fun _ _ => 0)⟩
def BLW_DOM_RAIL : Fld := ⟨0x20400, 8, 0, 4, 4, .ro, (fun d _ => domainRail d)⟩
def BLW_DOM_LEVEL : Fld := ⟨0x20400, 8, 0, 0, 3, .ro, (fun _ _ => 0)⟩

-- BLW_WAKE (chapter 11)
def BLW_WAKE_IDLE_US : Fld := ⟨0x20600, 8, 0, 32, 32, .rw, (fun _ _ => 0x3E8)⟩
def BLW_WAKE_WAKE_NS : Fld := ⟨0x20600, 8, 0, 0, 32, .rw, (fun _ _ => 0)⟩

-- BLW_C2 (chapter 11)
def BLW_C2_WAIT_MS : Fld := ⟨0x20800, 8, 0, 32, 32, .ro, (fun _ _ => 0)⟩
def BLW_C2_PRIO : Fld := ⟨0x20800, 8, 0, 24, 2, .rw, (fun _ _ => 0)⟩
def BLW_C2_MAX_WAIT_MS : Fld := ⟨0x20800, 8, 0, 0, 24, .rw, (fun _ _ => 0x3E8)⟩

end Sys2Proof.Machine.F
end

