-- ==== Sys2Proof/Machine/RegsD.lean ====
section
/-!
DEFINITION. Trough, Tongs, host-port, Striker, SMBus and Weld registers (chapters 12 to 17): each register field
of the spec's register tables, with its place, access code and reset value (R14, R16, R17, R555).
-/

namespace Sys2Proof.Machine.F


-- TRGH_CFG (chapter 12)
def TRGH_CFG_ENABLE : Fld := ⟨0x2000000, 0x800, 0, 63, 1, .rw, (fun _ _ => 0)⟩
def TRGH_CFG_MODE : Fld := ⟨0x2000000, 0x800, 0, 62, 1, .rw, (fun _ _ => 0)⟩
def TRGH_CFG_PRIORITY : Fld := ⟨0x2000000, 0x800, 0, 59, 3, .rw, (fun _ _ => 0)⟩
def TRGH_CFG_READER : Fld := ⟨0x2000000, 0x800, 0, 48, 11, .rw, (fun _ _ => 0x440)⟩
def TRGH_CFG_BASE : Fld := ⟨0x2000000, 0x800, 0, 20, 20, .ro, (fun _ _ => 0)⟩
def TRGH_CFG_SIZE : Fld := ⟨0x2000000, 0x800, 0, 0, 17, .rwk, (fun _ _ => 0)⟩

-- TRGH_WM (chapter 12)
def TRGH_WM_WM_EN : Fld := ⟨0x2000008, 0x800, 0, 63, 1, .rw, (fun _ _ => 0)⟩
def TRGH_WM_LOW_WM : Fld := ⟨0x2000008, 0x800, 0, 32, 17, .rw, (fun _ _ => 0)⟩
def TRGH_WM_HIGH_WM : Fld := ⟨0x2000008, 0x800, 0, 0, 17, .rw, (fun _ _ => 0x10000)⟩

-- TRGH_DEPTH (chapter 12)
def TRGH_DEPTH_COUNT : Fld := ⟨0x2000010, 0x800, 0, 32, 17, .ro, (fun _ _ => 0)⟩
def TRGH_DEPTH_DEPTH : Fld := ⟨0x2000010, 0x800, 0, 0, 17, .ro, (fun _ _ => 0)⟩

-- TRGH_PEAK (chapter 12)
def TRGH_PEAK_PEAK : Fld := ⟨0x2000018, 0x800, 0, 0, 17, .rw1c, (fun _ _ => 0)⟩

-- TRGH_STATUS (chapter 12)
def TRGH_STATUS_ABOVE : Fld := ⟨0x2000020, 0x800, 0, 31, 1, .ro, (fun _ _ => 0)⟩
def TRGH_STATUS_FLUSH_PENDING : Fld := ⟨0x2000020, 0x800, 0, 30, 1, .ro, (fun _ _ => 0)⟩
def TRGH_STATUS_BAD_WRITE : Fld := ⟨0x2000020, 0x800, 0, 6, 1, .rw1c, (fun _ _ => 0)⟩
def TRGH_STATUS_CFG_LOCKED : Fld := ⟨0x2000020, 0x800, 0, 5, 1, .rw1c, (fun _ _ => 0)⟩
def TRGH_STATUS_TAG_ERR : Fld := ⟨0x2000020, 0x800, 0, 4, 1, .rw1c, (fun _ _ => 0)⟩
def TRGH_STATUS_POISON : Fld := ⟨0x2000020, 0x800, 0, 3, 1, .rw1c, (fun _ _ => 0)⟩
def TRGH_STATUS_MARK_REFUSED : Fld := ⟨0x2000020, 0x800, 0, 2, 1, .rw1c, (fun _ _ => 0)⟩
def TRGH_STATUS_OVERRUN : Fld := ⟨0x2000020, 0x800, 0, 1, 1, .rw1c, (fun _ _ => 0)⟩
def TRGH_STATUS_FULL : Fld := ⟨0x2000020, 0x800, 0, 0, 1, .rw1c, (fun _ _ => 0)⟩

-- TRGH_CNT (chapter 12)
def TRGH_CNT_POPPED : Fld := ⟨0x2000028, 0x800, 0, 32, 32, .ro, (fun _ _ => 0)⟩
def TRGH_CNT_PUSHED : Fld := ⟨0x2000028, 0x800, 0, 0, 32, .ro, (fun _ _ => 0)⟩

-- TRGH_CNT2 (chapter 12)
def TRGH_CNT2_DROPPED : Fld := ⟨0x2000030, 0x800, 0, 32, 32, .ro, (fun _ _ => 0)⟩
def TRGH_CNT2_FLUSHED : Fld := ⟨0x2000030, 0x800, 0, 16, 16, .ro, (fun _ _ => 0)⟩
def TRGH_CNT2_POISONED : Fld := ⟨0x2000030, 0x800, 0, 0, 16, .ro, (fun _ _ => 0)⟩

-- TRGH_CTL (chapter 12)
def TRGH_CTL_INJECT : Fld := ⟨0x2000038, 0x800, 0, 3, 1, .wo, (fun _ _ => 0)⟩
def TRGH_CTL_MARK : Fld := ⟨0x2000038, 0x800, 0, 2, 1, .wo, (fun _ _ => 0)⟩
def TRGH_CTL_FLUSH : Fld := ⟨0x2000038, 0x800, 0, 1, 1, .wo, (fun _ _ => 0)⟩
def TRGH_CTL_CLEAR_COUNTS : Fld := ⟨0x2000038, 0x800, 0, 0, 1, .wo, (fun _ _ => 0)⟩

-- TRGH_MARKSEQ (chapter 12)
def TRGH_MARKSEQ_MARK_SEQ : Fld := ⟨0x2000040, 0x800, 0, 0, 32, .ro, (fun _ _ => 0)⟩

-- TRGH_POOL (chapter 12)
def TRGH_POOL_FREE_UNITS : Fld := ⟨0x2300000, 0, 0, 32, 32, .ro, (fun _ _ => 0xC0000)⟩
def TRGH_POOL_USED_UNITS : Fld := ⟨0x2300000, 0, 0, 0, 32, .ro, (fun _ _ => 0)⟩

-- TONGS_CFG (chapter 13)
def TONGS_CFG_ENABLE : Fld := ⟨0x2400000, 0x800, 0, 63, 1, .rw, (fun _ _ => 0)⟩
def TONGS_CFG_GANGED : Fld := ⟨0x2400000, 0x800, 0, 62, 1, .rw, (fun _ _ => 0)⟩
def TONGS_CFG_NS_EN : Fld := ⟨0x2400000, 0x800, 0, 61, 1, .rw, (fun _ _ => 0)⟩
def TONGS_CFG_RATE_EN : Fld := ⟨0x2400000, 0x800, 0, 60, 1, .rw, (fun _ _ => 0)⟩
def TONGS_CFG_PACE : Fld := ⟨0x2400000, 0x800, 0, 58, 2, .rw, (fun _ _ => 0)⟩
def TONGS_CFG_ROLE : Fld := ⟨0x2400000, 0x800, 0, 56, 2, .ro, (fun ch _ => if ch < 1024 then 0 else if ch < 1088 then 1 else 2)⟩
def TONGS_CFG_CLOSE_US : Fld := ⟨0x2400000, 0x800, 0, 32, 16, .rw, (fun _ _ => 0)⟩
def TONGS_CFG_MAX_READS_M1 : Fld := ⟨0x2400000, 0x800, 0, 16, 6, .rw, (fun _ _ => 7)⟩

-- TONGS_HEAD (chapter 13)
def TONGS_HEAD_ADDR : Fld := ⟨0x2400008, 0x800, 0, 0, 64, .rw, (fun _ _ => 0)⟩

-- TONGS_DOORBELL (chapter 13)
def TONGS_DOORBELL_VALUE : Fld := ⟨0x2400010, 0x800, 0, 0, 32, .wo, (fun _ _ => 0)⟩

-- TONGS_CQ_BASE (chapter 13)
def TONGS_CQ_BASE_ADDR : Fld := ⟨0x2400018, 0x800, 0, 0, 64, .rw, (fun _ _ => 0)⟩

-- TONGS_CQ_CFG (chapter 13)
def TONGS_CQ_CFG_PHASE : Fld := ⟨0x2400020, 0x800, 0, 31, 1, .ro, (fun _ _ => 1)⟩
def TONGS_CQ_CFG_LOG2 : Fld := ⟨0x2400020, 0x800, 0, 20, 5, .rw, (fun _ _ => 4)⟩
def TONGS_CQ_CFG_WR : Fld := ⟨0x2400020, 0x800, 0, 0, 20, .ro, (fun _ _ => 0)⟩

-- TONGS_CQ_RD (chapter 13)
def TONGS_CQ_RD_RD : Fld := ⟨0x2400024, 0x800, 0, 0, 20, .rw, (fun _ _ => 0)⟩

-- TONGS_PACE (chapter 13)
def TONGS_PACE_RATE : Fld := ⟨0x2400028, 0x800, 0, 48, 16, .rw, (fun _ _ => 0x100)⟩
def TONGS_PACE_BURST : Fld := ⟨0x2400028, 0x800, 0, 32, 16, .rw, (fun _ _ => 0x400)⟩
def TONGS_PACE_HOLD_US : Fld := ⟨0x2400028, 0x800, 0, 0, 32, .rw, (fun _ _ => 0)⟩

-- TONGS_STATE (chapter 13)
def TONGS_STATE_CUR_DESC : Fld := ⟨0x2400030, 0x800, 0, 5, 59, .ro, (fun _ _ => 0)⟩
def TONGS_STATE_REFETCH : Fld := ⟨0x2400030, 0x800, 0, 4, 1, .ro, (fun _ _ => 0)⟩
def TONGS_STATE_STATE : Fld := ⟨0x2400030, 0x800, 0, 0, 4, .ro, (fun _ _ => 0)⟩

-- TONGS_STATUS (chapter 13)
def TONGS_STATUS_HALT_CODE : Fld := ⟨0x2400038, 0x800, 0, 24, 8, .ro, (fun _ _ => 0)⟩
def TONGS_STATUS_CFG_LOCKED : Fld := ⟨0x2400038, 0x800, 0, 7, 1, .rw1c, (fun _ _ => 0)⟩
def TONGS_STATUS_LATE : Fld := ⟨0x2400038, 0x800, 0, 6, 1, .rw1c, (fun _ _ => 0)⟩
def TONGS_STATUS_POISON : Fld := ⟨0x2400038, 0x800, 0, 5, 1, .rw1c, (fun _ _ => 0)⟩
def TONGS_STATUS_LAPPED : Fld := ⟨0x2400038, 0x800, 0, 4, 1, .rw1c, (fun _ _ => 0)⟩
def TONGS_STATUS_TRUNCATED : Fld := ⟨0x2400038, 0x800, 0, 3, 1, .rw1c, (fun _ _ => 0)⟩
def TONGS_STATUS_DROP : Fld := ⟨0x2400038, 0x800, 0, 2, 1, .rw1c, (fun _ _ => 0)⟩
def TONGS_STATUS_CQ_WAIT : Fld := ⟨0x2400038, 0x800, 0, 1, 1, .rw1c, (fun _ _ => 0)⟩
def TONGS_STATUS_HALTED : Fld := ⟨0x2400038, 0x800, 0, 0, 1, .rw1c, (fun _ _ => 0)⟩

-- TONGS_CNT (chapter 13)
def TONGS_CNT_CLOSED : Fld := ⟨0x2400040, 0x800, 0, 32, 32, .ro, (fun _ _ => 0)⟩
def TONGS_CNT_KBYTES : Fld := ⟨0x2400040, 0x800, 0, 0, 32, .ro, (fun _ _ => 0)⟩

-- TONGS_POS (chapter 13)
def TONGS_POS_POSITION : Fld := ⟨0x2400048, 0x800, 0, 0, 64, .ro, (fun _ _ => 0)⟩

-- TONGS_CTL (chapter 13)
def TONGS_CTL_CLEAR_COUNTS : Fld := ⟨0x2400050, 0x800, 0, 0, 1, .wo, (fun _ _ => 0)⟩

-- TONGS_TAGS (chapter 13)
def TONGS_TAGS_PEAK : Fld := ⟨0x27F0000, 0, 0, 16, 13, .rw1c, (fun _ _ => 0)⟩
def TONGS_TAGS_IN_USE : Fld := ⟨0x27F0000, 0, 0, 0, 13, .ro, (fun _ _ => 0)⟩

-- HEP_LINK (chapter 14)
def HEP_LINK_L0P : Fld := ⟨0xD0000, 0, 0, 22, 1, .ro, (fun _ _ => 0)⟩
def HEP_LINK_FLIT : Fld := ⟨0xD0000, 0, 0, 21, 1, .ro, (fun _ _ => 0)⟩
def HEP_LINK_DL_ACTIVE : Fld := ⟨0xD0000, 0, 0, 20, 1, .ro, (fun _ _ => 0)⟩
def HEP_LINK_SPEED : Fld := ⟨0xD0000, 0, 0, 16, 4, .ro, (fun _ _ => 0)⟩
def HEP_LINK_WIDTH : Fld := ⟨0xD0000, 0, 0, 8, 8, .ro, (fun _ _ => 0)⟩
def HEP_LINK_ACTIVE_WIDTH : Fld := ⟨0xD0000, 0, 0, 0, 8, .ro, (fun _ _ => 0)⟩

-- HEP_LINK_CFG (chapter 14)
def HEP_LINK_CFG_MAX_WIDTH : Fld := ⟨0xD0004, 0, 0, 8, 8, .rw, (fun _ _ => 0x10)⟩
def HEP_LINK_CFG_MAX_SPEED : Fld := ⟨0xD0004, 0, 0, 0, 4, .rw, (fun _ _ => 6)⟩

-- HEP_STATUS (chapter 14)
def HEP_STATUS_BAR4_BAD : Fld := ⟨0xD0008, 0, 0, 8, 1, .rw1c, (fun _ _ => 0)⟩
def HEP_STATUS_HOST_RESET : Fld := ⟨0xD0008, 0, 0, 7, 1, .rw1c, (fun _ _ => 0)⟩
def HEP_STATUS_QUENCH_ENTERED : Fld := ⟨0xD0008, 0, 0, 6, 1, .rw1c, (fun _ _ => 0)⟩
def HEP_STATUS_QUENCH_RELEASED : Fld := ⟨0xD0008, 0, 0, 5, 1, .rw1c, (fun _ _ => 0)⟩
def HEP_STATUS_RESOURCE_HELD : Fld := ⟨0xD0008, 0, 0, 4, 1, .rw1c, (fun _ _ => 0)⟩
def HEP_STATUS_LATE_CPL : Fld := ⟨0xD0008, 0, 0, 3, 1, .rw1c, (fun _ _ => 0)⟩
def HEP_STATUS_CTO : Fld := ⟨0xD0008, 0, 0, 2, 1, .rw1c, (fun _ _ => 0)⟩
def HEP_STATUS_APER_REFUSED : Fld := ⟨0xD0008, 0, 0, 1, 1, .rw1c, (fun _ _ => 0)⟩
def HEP_STATUS_BAR0_BAD : Fld := ⟨0xD0008, 0, 0, 0, 1, .rw1c, (fun _ _ => 0)⟩

-- HEP_TAGS (chapter 14)
def HEP_TAGS_QUARANTINED : Fld := ⟨0xD0010, 0, 0, 16, 13, .ro, (fun _ _ => 0)⟩
def HEP_TAGS_LIMIT : Fld := ⟨0xD0010, 0, 0, 0, 13, .ro, (fun _ _ => 0x20)⟩

-- HEP_CPL (chapter 14)
def HEP_CPL_CTO : Fld := ⟨0xD0018, 0, 0, 48, 16, .ro, (fun _ _ => 0)⟩
def HEP_CPL_LATE_CPL : Fld := ⟨0xD0018, 0, 0, 32, 16, .ro, (fun _ _ => 0)⟩
def HEP_CPL_QUAR_EXPIRED : Fld := ⟨0xD0018, 0, 0, 16, 16, .ro, (fun _ _ => 0)⟩
def HEP_CPL_UNEXPECTED : Fld := ⟨0xD0018, 0, 0, 0, 16, .ro, (fun _ _ => 0)⟩

-- HEP_QUENCH (chapter 14)
def HEP_QUENCH_REQUEST_ID : Fld := ⟨0xD0020, 0, 0, 32, 32, .ro, (fun _ _ => 0)⟩
def HEP_QUENCH_SEEN : Fld := ⟨0xD0020, 0, 0, 16, 3, .ro, (fun _ _ => 0)⟩
def HEP_QUENCH_CAUSE : Fld := ⟨0xD0020, 0, 0, 8, 3, .ro, (fun _ _ => 0)⟩
def HEP_QUENCH_RELEASE_PENDING : Fld := ⟨0xD0020, 0, 0, 1, 1, .ro, (fun _ _ => 0)⟩
def HEP_QUENCH_QUENCHED : Fld := ⟨0xD0020, 0, 0, 0, 1, .ro, (fun _ _ => 0)⟩

-- HEP_QUENCH_DT (chapter 14)
def HEP_QUENCH_DT_ENTRY_DT : Fld := ⟨0xD0028, 0, 0, 0, 64, .ro, (fun _ _ => 0)⟩

-- HEP_QUENCH_CTL (chapter 14)
def HEP_QUENCH_CTL_KEY : Fld := ⟨0xD0030, 0, 0, 8, 8, .wo, (fun _ _ => 0)⟩
def HEP_QUENCH_CTL_ASK : Fld := ⟨0xD0030, 0, 0, 3, 1, .wo, (fun _ _ => 0)⟩
def HEP_QUENCH_CTL_CLEAR_HOST : Fld := ⟨0xD0030, 0, 0, 2, 1, .wo, (fun _ _ => 0)⟩
def HEP_QUENCH_CTL_CLEAR_CTO : Fld := ⟨0xD0030, 0, 0, 1, 1, .wo, (fun _ _ => 0)⟩
def HEP_QUENCH_CTL_ENTER : Fld := ⟨0xD0030, 0, 0, 0, 1, .wo, (fun _ _ => 0)⟩

-- HEP_QUENCH_CFG (chapter 14)
def HEP_QUENCH_CFG_CTO_LIMIT : Fld := ⟨0xD0034, 0, 0, 0, 8, .rw, (fun _ _ => 4)⟩

-- HEP_QCNT (chapter 14)
def HEP_QCNT_ENTRIES : Fld := ⟨0xD0038, 0, 0, 48, 16, .ro, (fun _ _ => 0)⟩
def HEP_QCNT_QDROP_WRITES : Fld := ⟨0xD0038, 0, 0, 24, 24, .ro, (fun _ _ => 0)⟩
def HEP_QCNT_QDROP_BAR2 : Fld := ⟨0xD0038, 0, 0, 0, 24, .ro, (fun _ _ => 0)⟩

-- HEP_RESET (chapter 14)
def HEP_RESET_FLRS : Fld := ⟨0xD0040, 0, 0, 24, 8, .ro, (fun _ _ => 0)⟩
def HEP_RESET_HOT_RESETS : Fld := ⟨0xD0040, 0, 0, 16, 8, .ro, (fun _ _ => 0)⟩
def HEP_RESET_PERSTS : Fld := ⟨0xD0040, 0, 0, 8, 8, .ro, (fun _ _ => 0)⟩
def HEP_RESET_LAST : Fld := ⟨0xD0040, 0, 0, 2, 3, .ro, (fun _ _ => 0)⟩
def HEP_RESET_PERST_SCOPE : Fld := ⟨0xD0040, 0, 0, 0, 1, .rwk, (fun _ _ => 0)⟩

-- HEP_LPM (chapter 14)
def HEP_LPM_LTR_US : Fld := ⟨0xD0048, 0, 0, 16, 16, .rw, (fun _ _ => 0xA)⟩
def HEP_LPM_L1_OK : Fld := ⟨0xD0048, 0, 0, 1, 1, .ro, (fun _ _ => 0)⟩
def HEP_LPM_L0P_OK : Fld := ⟨0xD0048, 0, 0, 0, 1, .ro, (fun _ _ => 0)⟩

-- HEP_CTL (chapter 14)
def HEP_CTL_CLEAR_COUNTS : Fld := ⟨0xD0060, 0, 0, 0, 1, .wo, (fun _ _ => 0)⟩

-- HEP_QREQ (chapter 14)
def HEP_QREQ_WORD : Fld := ⟨0xD0080, 8, 0, 0, 64, .ro, (fun _ _ => 0)⟩

-- HEP_APER_ACT (chapter 14)
def HEP_APER_ACT_ENABLE : Fld := ⟨0xD1000, 0x20, 0, 63, 1, .ro, (fun _ _ => 0)⟩
def HEP_APER_ACT_WR_EN : Fld := ⟨0xD1000, 0x20, 0, 62, 1, .ro, (fun _ _ => 0)⟩
def HEP_APER_ACT_RD_EN : Fld := ⟨0xD1000, 0x20, 0, 61, 1, .ro, (fun _ _ => 0)⟩
def HEP_APER_ACT_SIZE_MIB : Fld := ⟨0xD1000, 0x20, 0, 32, 14, .ro, (fun _ _ => 0)⟩
def HEP_APER_ACT_BASE_MIB : Fld := ⟨0xD1000, 0x20, 0, 0, 17, .ro, (fun _ _ => 0)⟩

-- HEP_APER_SHD (chapter 14)
def HEP_APER_SHD_ENABLE : Fld := ⟨0xD1008, 0x20, 0, 63, 1, .rw, (fun _ _ => 0)⟩
def HEP_APER_SHD_WR_EN : Fld := ⟨0xD1008, 0x20, 0, 62, 1, .rw, (fun _ _ => 0)⟩
def HEP_APER_SHD_RD_EN : Fld := ⟨0xD1008, 0x20, 0, 61, 1, .rw, (fun _ _ => 0)⟩
def HEP_APER_SHD_SIZE_MIB : Fld := ⟨0xD1008, 0x20, 0, 32, 14, .rw, (fun _ _ => 0)⟩
def HEP_APER_SHD_BASE_MIB : Fld := ⟨0xD1008, 0x20, 0, 0, 17, .rw, (fun _ _ => 0)⟩

-- HEP_APER_CTL (chapter 14)
def HEP_APER_CTL_COMMIT : Fld := ⟨0xD1010, 0x20, 0, 0, 1, .wo, (fun _ _ => 0)⟩

-- HEP_APER_STAT (chapter 14)
def HEP_APER_STAT_COMMIT_GEN : Fld := ⟨0xD1018, 0x20, 0, 32, 32, .ro, (fun _ _ => 0)⟩
def HEP_APER_STAT_INFLIGHT_OLD : Fld := ⟨0xD1018, 0x20, 0, 16, 16, .ro, (fun _ _ => 0)⟩
def HEP_APER_STAT_RESULT : Fld := ⟨0xD1018, 0x20, 0, 0, 8, .ro, (fun _ _ => 0)⟩

-- HEP_MSIX_SRC (chapter 14)
def HEP_MSIX_SRC_ENABLE : Fld := ⟨0xD4000, 4, 0, 31, 1, .rw, (fun _ _ => 0)⟩
def HEP_MSIX_SRC_MODERATE_US : Fld := ⟨0xD4000, 4, 0, 16, 10, .rw, (fun _ _ => 0)⟩
def HEP_MSIX_SRC_CHANNEL : Fld := ⟨0xD4000, 4, 0, 0, 9, .rw, (fun _ _ => 0)⟩

-- STK_STATUS (chapter 15)
def STK_STATUS_LOOP_ANY : Fld := ⟨0x80000, 0, 0, 3, 1, .ro, (fun _ _ => 0)⟩
def STK_STATUS_CYCLE_REFUSED : Fld := ⟨0x80000, 0, 0, 2, 1, .rw1c, (fun _ _ => 0)⟩
def STK_STATUS_BAD_WRITE : Fld := ⟨0x80000, 0, 0, 1, 1, .rw1c, (fun _ _ => 0)⟩
def STK_STATUS_RESOURCE_HELD : Fld := ⟨0x80000, 0, 0, 0, 1, .rw1c, (fun _ _ => 0)⟩

-- STK_GROUP (chapter 15)
def STK_GROUP_ON : Fld := ⟨0x80008, 0, 0, 0, 32, .rw, (fun _ _ => 0xFFFFFFFF)⟩

-- STK_SWEVT (chapter 15)
def STK_SWEVT_CHANNEL : Fld := ⟨0x80010, 0, 0, 0, 9, .wo, (fun _ _ => 0)⟩

-- STK_TASK_SW (chapter 15)
def STK_TASK_SW_TASK : Fld := ⟨0x80014, 0, 0, 0, 10, .wo, (fun _ _ => 0)⟩

-- STK_CTL (chapter 15)
def STK_CTL_CLEAR_COUNTS : Fld := ⟨0x80018, 0, 0, 0, 1, .wo, (fun _ _ => 0)⟩

-- STK_WATCH (chapter 15)
def STK_WATCH_FLAG : Fld := ⟨0x80100, 4, 0, 0, 32, .rw1c, (fun _ _ => 0)⟩

-- STK_CH_CFG (chapter 15)
def STK_CH_CFG_ENABLE : Fld := ⟨0x81000, 0x10, 0, 63, 1, .rw, (fun _ _ => 0)⟩
def STK_CH_CFG_KIND : Fld := ⟨0x81000, 0x10, 0, 55, 1, .ro, (fun _ _ => 0)⟩
def STK_CH_CFG_EDGE : Fld := ⟨0x81000, 0x10, 0, 50, 2, .rw, (fun _ _ => 1)⟩
def STK_CH_CFG_GROUP : Fld := ⟨0x81000, 0x10, 0, 40, 5, .rw, (fun _ _ => 0)⟩
def STK_CH_CFG_SOURCE : Fld := ⟨0x81000, 0x10, 0, 0, 20, .rw, (fun _ _ => 0)⟩

-- STK_CH_STAT (chapter 15)
def STK_CH_STAT_LOOP : Fld := ⟨0x81008, 0x10, 0, 63, 1, .rw1c, (fun _ _ => 0)⟩
def STK_CH_STAT_VALUE : Fld := ⟨0x81008, 0x10, 0, 62, 1, .ro, (fun _ _ => 0)⟩
def STK_CH_STAT_MERGED : Fld := ⟨0x81008, 0x10, 0, 32, 16, .ro, (fun _ _ => 0)⟩
def STK_CH_STAT_EVENTS : Fld := ⟨0x81008, 0x10, 0, 0, 32, .ro, (fun _ _ => 0)⟩

-- STK_CH_LAST (chapter 15)
def STK_CH_LAST_DT : Fld := ⟨0x84000, 8, 0, 0, 64, .ro, (fun _ _ => 0)⟩

-- STK_CELL (chapter 15)
def STK_CELL_TRUTH : Fld := ⟨0x86000, 0x10, 0, 48, 16, .rw, (fun _ _ => 0)⟩
def STK_CELL_SEL3 : Fld := ⟨0x86000, 0x10, 0, 38, 10, .rw, (fun _ _ => 0x3FF)⟩
def STK_CELL_SEL2 : Fld := ⟨0x86000, 0x10, 0, 28, 10, .rw, (fun _ _ => 0x3FF)⟩
def STK_CELL_SEL1 : Fld := ⟨0x86000, 0x10, 0, 18, 10, .rw, (fun _ _ => 0x3FF)⟩
def STK_CELL_SEL0 : Fld := ⟨0x86000, 0x10, 0, 8, 10, .rw, (fun _ _ => 0x3FF)⟩
def STK_CELL_REG : Fld := ⟨0x86000, 0x10, 0, 7, 1, .rw, (fun _ _ => 0)⟩
def STK_CELL_INIT : Fld := ⟨0x86000, 0x10, 0, 6, 1, .rw, (fun _ _ => 0)⟩
def STK_CELL_FILT_MODE : Fld := ⟨0x86000, 0x10, 0, 4, 2, .rw, (fun _ _ => 0)⟩

-- STK_CELL_F (chapter 15)
def STK_CELL_F_OUT : Fld := ⟨0x86008, 0x10, 0, 31, 1, .ro, (fun _ _ => 0)⟩
def STK_CELL_F_FILT_N : Fld := ⟨0x86008, 0x10, 0, 0, 10, .rw, (fun _ _ => 1)⟩

-- STK_TASK (chapter 15)
def STK_TASK_EN_A : Fld := ⟨0x88000, 0x10, 0, 63, 1, .rw, (fun _ _ => 0)⟩
def STK_TASK_EN_B : Fld := ⟨0x88000, 0x10, 0, 62, 1, .rw, (fun _ _ => 0)⟩
def STK_TASK_MODE : Fld := ⟨0x88000, 0x10, 0, 61, 1, .rw, (fun _ _ => 0)⟩
def STK_TASK_CH_B : Fld := ⟨0x88000, 0x10, 0, 32, 9, .rw, (fun _ _ => 0)⟩
def STK_TASK_CH_A : Fld := ⟨0x88000, 0x10, 0, 0, 9, .rw, (fun _ _ => 0)⟩

-- STK_TASK_STAT (chapter 15)
def STK_TASK_STAT_OVERRUN : Fld := ⟨0x88008, 0x10, 0, 63, 1, .rw1c, (fun _ _ => 0)⟩
def STK_TASK_STAT_RESOURCE_HELD : Fld := ⟨0x88008, 0x10, 0, 62, 1, .rw1c, (fun _ _ => 0)⟩
def STK_TASK_STAT_OVERRUNS : Fld := ⟨0x88008, 0x10, 0, 32, 16, .ro, (fun _ _ => 0)⟩
def STK_TASK_STAT_COINCIDE : Fld := ⟨0x88008, 0x10, 0, 0, 16, .ro, (fun _ _ => 0)⟩

-- STK_CNT (chapter 15)
def STK_CNT_COUNT : Fld := ⟨0x8C000, 0x10, 0, 0, 48, .rw, (fun _ _ => 0)⟩

-- STK_CNT_CMP (chapter 15)
def STK_CNT_CMP_AUTO_CLEAR : Fld := ⟨0x8C008, 0x10, 0, 63, 1, .rw, (fun _ _ => 0)⟩
def STK_CNT_CMP_COMPARE : Fld := ⟨0x8C008, 0x10, 0, 0, 48, .rw, (fun _ _ => 0)⟩

-- STK_CAP (chapter 15)
def STK_CAP_DT : Fld := ⟨0x8D000, 0x10, 0, 0, 64, .ro, (fun _ _ => 0)⟩

-- STK_CAP_STAT (chapter 15)
def STK_CAP_STAT_FULL : Fld := ⟨0x8D008, 0x10, 0, 31, 1, .rw1c, (fun _ _ => 0)⟩
def STK_CAP_STAT_FROM_B : Fld := ⟨0x8D008, 0x10, 0, 30, 1, .ro, (fun _ _ => 0)⟩
def STK_CAP_STAT_FROM_SW : Fld := ⟨0x8D008, 0x10, 0, 29, 1, .ro, (fun _ _ => 0)⟩

-- STK_GPIO (chapter 15)
def STK_GPIO_DIR : Fld := ⟨0x8E000, 0x10, 0, 62, 2, .rw, (fun _ _ => 0)⟩
def STK_GPIO_POL : Fld := ⟨0x8E000, 0x10, 0, 61, 1, .rw, (fun _ _ => 0)⟩
def STK_GPIO_PULSE : Fld := ⟨0x8E000, 0x10, 0, 60, 1, .rw, (fun _ _ => 0)⟩
def STK_GPIO_CHANNEL : Fld := ⟨0x8E000, 0x10, 0, 40, 9, .rw, (fun _ _ => 0)⟩
def STK_GPIO_WIDTH_NS : Fld := ⟨0x8E000, 0x10, 0, 8, 20, .rw, (fun _ _ => 0x64)⟩
def STK_GPIO_FILTER_NS : Fld := ⟨0x8E000, 0x10, 0, 0, 8, .rw, (fun _ _ => 0)⟩

-- STK_GPIO_STAT (chapter 15)
def STK_GPIO_STAT_IN : Fld := ⟨0x8E008, 0x10, 0, 31, 1, .ro, (fun _ _ => 0)⟩
def STK_GPIO_STAT_DRIVING : Fld := ⟨0x8E008, 0x10, 0, 2, 1, .ro, (fun _ _ => 0)⟩
def STK_GPIO_STAT_RESOURCE_HELD : Fld := ⟨0x8E008, 0x10, 0, 1, 1, .rw1c, (fun _ _ => 0)⟩
def STK_GPIO_STAT_OVERRUN : Fld := ⟨0x8E008, 0x10, 0, 0, 1, .rw1c, (fun _ _ => 0)⟩

-- SMB_T_CFG (chapter 16)
def SMB_T_CFG_PEC_REQ : Fld := ⟨0xC0000, 0, 0, 31, 1, .rw, (fun _ _ => 0)⟩
def SMB_T_CFG_CLEAR_COUNTS : Fld := ⟨0xC0000, 0, 0, 24, 1, .wo, (fun _ _ => 0)⟩
def SMB_T_CFG_ADDR : Fld := ⟨0xC0000, 0, 0, 0, 7, .ro, (fun _ _ => 0x58)⟩

-- SMB_T_KEY (chapter 16)
def SMB_T_KEY_KEY : Fld := ⟨0xC0004, 0, 0, 0, 16, .rwk, (fun _ _ => 0)⟩

-- SMB_T_STATUS (chapter 16)
def SMB_T_STATUS_WR_BUSY : Fld := ⟨0xC0008, 0, 0, 8, 1, .ro, (fun _ _ => 0)⟩
def SMB_T_STATUS_PRIV : Fld := ⟨0xC0008, 0, 0, 7, 1, .ro, (fun _ _ => 0)⟩
def SMB_T_STATUS_LOCKOUT : Fld := ⟨0xC0008, 0, 0, 6, 1, .ro, (fun _ _ => 0)⟩
def SMB_T_STATUS_KEY_FAIL : Fld := ⟨0xC0008, 0, 0, 5, 1, .rw1c, (fun _ _ => 0)⟩
def SMB_T_STATUS_TIMEOUT : Fld := ⟨0xC0008, 0, 0, 4, 1, .rw1c, (fun _ _ => 0)⟩
def SMB_T_STATUS_PEC_ERR : Fld := ⟨0xC0008, 0, 0, 3, 1, .rw1c, (fun _ _ => 0)⟩
def SMB_T_STATUS_PROTO_ERR : Fld := ⟨0xC0008, 0, 0, 2, 1, .rw1c, (fun _ _ => 0)⟩
def SMB_T_STATUS_BAD_CMD : Fld := ⟨0xC0008, 0, 0, 1, 1, .rw1c, (fun _ _ => 0)⟩

-- SMB_T_CNT (chapter 16)
def SMB_T_CNT_PROTO_ERRS : Fld := ⟨0xC0010, 0, 0, 48, 16, .ro, (fun _ _ => 0)⟩
def SMB_T_CNT_PEC_ERRS : Fld := ⟨0xC0010, 0, 0, 32, 16, .ro, (fun _ _ => 0)⟩
def SMB_T_CNT_WAKE_NACKS : Fld := ⟨0xC0010, 0, 0, 16, 16, .ro, (fun _ _ => 0)⟩
def SMB_T_CNT_KEY_FAILS : Fld := ⟨0xC0010, 0, 0, 0, 16, .ro, (fun _ _ => 0)⟩

-- SMB_ALERT (chapter 16)
def SMB_ALERT_ASSERTED : Fld := ⟨0xC0018, 0, 0, 31, 1, .ro, (fun _ _ => 0)⟩
def SMB_ALERT_EN : Fld := ⟨0xC0018, 0, 0, 8, 8, .rw, (fun _ _ => 0)⟩
def SMB_ALERT_SRC : Fld := ⟨0xC0018, 0, 0, 0, 8, .rw1c, (fun _ _ => 0)⟩

-- SMB_T_TIMING (chapter 16)
def SMB_T_TIMING_SESSION_S : Fld := ⟨0xC001C, 0, 0, 16, 16, .rw, (fun _ _ => 0x258)⟩
def SMB_T_TIMING_HOLD_MS : Fld := ⟨0xC001C, 0, 0, 0, 8, .rw, (fun _ _ => 0x32)⟩

-- SMBC_CFG (chapter 16)
def SMBC_CFG_ENABLE : Fld := ⟨0xC1000, 0x100, 0, 31, 1, .rw, (fun _ _ => 0)⟩
def SMBC_CFG_RETRIES : Fld := ⟨0xC1000, 0x100, 0, 28, 3, .rw, (fun _ _ => 3)⟩
def SMBC_CFG_SPEED : Fld := ⟨0xC1000, 0x100, 0, 26, 2, .rw, (fun _ _ => 1)⟩
def SMBC_CFG_CLEAR_COUNTS : Fld := ⟨0xC1000, 0x100, 0, 25, 1, .wo, (fun _ _ => 0)⟩
def SMBC_CFG_DAT_LOW_MS : Fld := ⟨0xC1000, 0x100, 0, 8, 8, .rw, (fun _ _ => 0x23)⟩
def SMBC_CFG_RETRY_GAP_US : Fld := ⟨0xC1000, 0x100, 0, 0, 8, .rw, (fun _ _ => 0x64)⟩

-- SMBC_CMD (chapter 16)
def SMBC_CMD_PEC : Fld := ⟨0xC1008, 0x100, 0, 40, 1, .wo, (fun _ _ => 0)⟩
def SMBC_CMD_RLEN : Fld := ⟨0xC1008, 0x100, 0, 32, 8, .wo, (fun _ _ => 0)⟩
def SMBC_CMD_WLEN : Fld := ⟨0xC1008, 0x100, 0, 24, 8, .wo, (fun _ _ => 0)⟩
def SMBC_CMD_CODE : Fld := ⟨0xC1008, 0x100, 0, 16, 8, .wo, (fun _ _ => 0)⟩
def SMBC_CMD_ADDR : Fld := ⟨0xC1008, 0x100, 0, 9, 7, .wo, (fun _ _ => 0)⟩
def SMBC_CMD_OP : Fld := ⟨0xC1008, 0x100, 0, 0, 4, .wo, (fun _ _ => 0)⟩

-- SMBC_RSLT (chapter 16)
def SMBC_RSLT_BUSY : Fld := ⟨0xC1010, 0x100, 0, 31, 1, .ro, (fun _ _ => 0)⟩
def SMBC_RSLT_DONE : Fld := ⟨0xC1010, 0x100, 0, 30, 1, .rw1c, (fun _ _ => 0)⟩
def SMBC_RSLT_ATTEMPTS : Fld := ⟨0xC1010, 0x100, 0, 24, 3, .ro, (fun _ _ => 0)⟩
def SMBC_RSLT_RLEN : Fld := ⟨0xC1010, 0x100, 0, 16, 8, .ro, (fun _ _ => 0)⟩
def SMBC_RSLT_STATUS : Fld := ⟨0xC1010, 0x100, 0, 0, 8, .ro, (fun _ _ => 0)⟩

-- SMBC_CNT (chapter 16)
def SMBC_CNT_ARB_LOST : Fld := ⟨0xC1018, 0x100, 0, 48, 16, .ro, (fun _ _ => 0)⟩
def SMBC_CNT_ADDR_NACKS : Fld := ⟨0xC1018, 0x100, 0, 32, 16, .ro, (fun _ _ => 0)⟩
def SMBC_CNT_TIMEOUTS : Fld := ⟨0xC1018, 0x100, 0, 16, 16, .ro, (fun _ _ => 0)⟩
def SMBC_CNT_CLEARS : Fld := ⟨0xC1018, 0x100, 0, 0, 16, .ro, (fun _ _ => 0)⟩

-- WELD_STATUS (chapter 17)
def WELD_STATUS_FATAL_LOGGED : Fld := ⟨0x30000, 0, 0, 5, 1, .rw1c, (fun _ _ => 0)⟩
def WELD_STATUS_LOG_OVERFLOW : Fld := ⟨0x30000, 0, 0, 4, 1, .rw1c, (fun _ _ => 0)⟩
def WELD_STATUS_JOURNAL_FAULT : Fld := ⟨0x30000, 0, 0, 3, 1, .rw1c, (fun _ _ => 0)⟩
def WELD_STATUS_RESOURCE_HELD : Fld := ⟨0x30000, 0, 0, 2, 1, .rw1c, (fun _ _ => 0)⟩
def WELD_STATUS_SPARE_EXHAUSTED : Fld := ⟨0x30000, 0, 0, 1, 1, .rw1c, (fun _ _ => 0)⟩
def WELD_STATUS_READ_ONLY : Fld := ⟨0x30000, 0, 0, 0, 1, .ro, (fun _ _ => 0)⟩

-- WELD_OUT (chapter 17)
def WELD_OUT_ERR_EN : Fld := ⟨0x30008, 0, 0, 63, 1, .rw, (fun _ _ => 0)⟩
def WELD_OUT_ERR_TROUGH : Fld := ⟨0x30008, 0, 0, 48, 11, .rw, (fun _ _ => 0)⟩
def WELD_OUT_SUB_EN : Fld := ⟨0x30008, 0, 0, 47, 1, .rw, (fun _ _ => 0)⟩
def WELD_OUT_SUB_TROUGH : Fld := ⟨0x30008, 0, 0, 32, 11, .rw, (fun _ _ => 0)⟩

-- WELD_LIMITS (chapter 17)
def WELD_LIMITS_CE_LIMIT : Fld := ⟨0x30010, 0, 0, 48, 16, .rw, (fun _ _ => 0x10)⟩
def WELD_LIMITS_CE_WINDOW_S : Fld := ⟨0x30010, 0, 0, 32, 16, .rw, (fun _ _ => 0xE10)⟩
def WELD_LIMITS_SPARE_TEST_MIN : Fld := ⟨0x30010, 0, 0, 16, 16, .rw, (fun _ _ => 0x3C)⟩
def WELD_LIMITS_WEAR_MIN : Fld := ⟨0x30010, 0, 0, 0, 16, .rw, (fun _ _ => 0x3C)⟩

-- WELD_CTL (chapter 17)
def WELD_CTL_OP : Fld := ⟨0x30018, 0, 0, 28, 4, .wo, (fun _ _ => 0)⟩
def WELD_CTL_CLASS : Fld := ⟨0x30018, 0, 0, 24, 4, .wo, (fun _ _ => 0)⟩
def WELD_CTL_INDEX : Fld := ⟨0x30018, 0, 0, 0, 10, .wo, (fun _ _ => 0)⟩

-- WELD_MEM (chapter 17)
def WELD_MEM_HBM_ROW_CE : Fld := ⟨0x30020, 0, 0, 8, 8, .rw, (fun _ _ => 4)⟩
def WELD_MEM_HBM_LANE_ERR : Fld := ⟨0x30020, 0, 0, 0, 8, .rw, (fun _ _ => 0x10)⟩

-- WELD_HCL (chapter 17)
def WELD_HCL_SUB_STATE : Fld := ⟨0x30100, 0x10, 0, 60, 4, .ro, (fun _ _ => 0)⟩
def WELD_HCL_ATTEMPT : Fld := ⟨0x30100, 0x10, 0, 58, 2, .ro, (fun _ _ => 0)⟩
def WELD_HCL_FROM_K : Fld := ⟨0x30100, 0x10, 0, 48, 8, .ro, (fun _ _ => 0xFF)⟩
def WELD_HCL_SPARE_K : Fld := ⟨0x30100, 0x10, 0, 40, 8, .ro, (fun _ _ => 0x20)⟩
def WELD_HCL_FAILED : Fld := ⟨0x30100, 0x10, 0, 0, 33, .ro, (fun _ _ => 0)⟩

-- WELD_HSUSP (chapter 17)
def WELD_HSUSP_SUSPECT : Fld := ⟨0x30108, 0x10, 0, 0, 33, .ro, (fun _ _ => 0)⟩

-- WELD_ACL (chapter 17)
def WELD_ACL_SUB_STATE : Fld := ⟨0x30180, 0x10, 0, 60, 4, .ro, (fun _ _ => 0)⟩
def WELD_ACL_ATTEMPT : Fld := ⟨0x30180, 0x10, 0, 58, 2, .ro, (fun _ _ => 0)⟩
def WELD_ACL_FROM_K : Fld := ⟨0x30180, 0x10, 0, 48, 8, .ro, (fun _ _ => 0xFF)⟩
def WELD_ACL_SPARE_K : Fld := ⟨0x30180, 0x10, 0, 40, 8, .ro, (fun _ _ => 0x10)⟩
def WELD_ACL_FAILED : Fld := ⟨0x30180, 0x10, 0, 0, 33, .ro, (fun _ _ => 0)⟩

-- WELD_ASUSP (chapter 17)
def WELD_ASUSP_SUSPECT : Fld := ⟨0x30188, 0x10, 0, 0, 33, .ro, (fun _ _ => 0)⟩

-- WELD_ERR_CFG (chapter 17)
def WELD_ERR_CFG_JOURNAL : Fld := ⟨0x30400, 4, 0, 7, 1, .rw, (fun c _ => if errDefaultSeverity c = 0 then 0 else 1)⟩
def WELD_ERR_CFG_ROUTE : Fld := ⟨0x30400, 4, 0, 6, 1, .rw, (fun c _ => if errDefaultSeverity c = 2 then 1 else 0)⟩
def WELD_ERR_CFG_MASK : Fld := ⟨0x30400, 4, 0, 5, 1, .rw, (fun _ _ => 0)⟩
def WELD_ERR_CFG_SEVERITY : Fld := ⟨0x30400, 4, 0, 0, 2, .rw, (fun c _ => errDefaultSeverity c)⟩

-- WELD_ERR_CNT (chapter 17)
def WELD_ERR_CNT_COUNT : Fld := ⟨0x30500, 4, 0, 0, 32, .rw1c, (fun _ _ => 0)⟩

-- WELD_LOG_PTR (chapter 17)
def WELD_LOG_PTR_TOTAL : Fld := ⟨0x30600, 0, 0, 32, 32, .ro, (fun _ _ => 0)⟩
def WELD_LOG_PTR_OVERFLOWS : Fld := ⟨0x30600, 0, 0, 16, 16, .ro, (fun _ _ => 0)⟩
def WELD_LOG_PTR_RD : Fld := ⟨0x30600, 0, 0, 8, 8, .rw, (fun _ _ => 0)⟩
def WELD_LOG_PTR_WR : Fld := ⟨0x30600, 0, 0, 0, 8, .ro, (fun _ _ => 0)⟩

-- WELD_FIRST_FATAL (chapter 17)
def WELD_FIRST_FATAL_WORD : Fld := ⟨0x30700, 8, 0, 0, 64, .ro, (fun _ _ => 0)⟩

-- WELD_JRNL (chapter 17)
def WELD_JRNL_SECTORS : Fld := ⟨0x30800, 0, 0, 48, 16, .ro, (fun _ _ => 0)⟩
def WELD_JRNL_ERASED : Fld := ⟨0x30800, 0, 0, 32, 16, .ro, (fun _ _ => 0)⟩
def WELD_JRNL_USED : Fld := ⟨0x30800, 0, 0, 24, 8, .ro, (fun _ _ => 0)⟩
def WELD_JRNL_RETIRED : Fld := ⟨0x30800, 0, 0, 16, 8, .ro, (fun _ _ => 0)⟩
def WELD_JRNL_RECLAIMS : Fld := ⟨0x30800, 0, 0, 0, 16, .ro, (fun _ _ => 0)⟩

-- WELD_JSEQ (chapter 17)
def WELD_JSEQ_SEQ : Fld := ⟨0x30808, 0, 0, 0, 64, .ro, (fun _ _ => 0)⟩

-- WELD_JERR (chapter 17)
def WELD_JERR_DISCARDED : Fld := ⟨0x30810, 0, 0, 32, 32, .ro, (fun _ _ => 0)⟩
def WELD_JERR_UNCOMMITTED : Fld := ⟨0x30810, 0, 0, 0, 32, .ro, (fun _ _ => 0)⟩

-- WELD_WEAR (chapter 17)
def WELD_WEAR_VALUE : Fld := ⟨0x30A00, 8, 0, 0, 64, .ro, (fun _ _ => 0)⟩

-- WELD_HOST_CTL (chapter 17)
def WELD_HOST_CTL_WRITE : Fld := ⟨0x30C00, 0, 0, 31, 1, .wo, (fun _ _ => 0)⟩
def WELD_HOST_CTL_BUSY : Fld := ⟨0x30C00, 0, 0, 30, 1, .ro, (fun _ _ => 0)⟩
def WELD_HOST_CTL_DONE : Fld := ⟨0x30C00, 0, 0, 29, 1, .rw1c, (fun _ _ => 0)⟩
def WELD_HOST_CTL_FAIL : Fld := ⟨0x30C00, 0, 0, 28, 1, .rw1c, (fun _ _ => 0)⟩
def WELD_HOST_CTL_LEN : Fld := ⟨0x30C00, 0, 0, 16, 11, .rw, (fun _ _ => 0)⟩
def WELD_HOST_CTL_TAG : Fld := ⟨0x30C00, 0, 0, 0, 8, .rw, (fun _ _ => 0)⟩

-- WELD_HOST_FIND (chapter 17)
def WELD_HOST_FIND_ADDR : Fld := ⟨0x30C08, 0, 0, 32, 32, .ro, (fun _ _ => 0xFFFFFFFF)⟩
def WELD_HOST_FIND_TAG : Fld := ⟨0x30C08, 0, 0, 0, 8, .rw, (fun _ _ => 0)⟩

end Sys2Proof.Machine.F
end

