-- ==== Sys2Proof/Machine/RegMap.lean ====
section
/-!
DEFINITION. The registers of BAR0 (R555): each name, its place, its instances and its fields.
-/

namespace Sys2Proof.Machine

/-- Every register that a table of the spec defines (R14). -/
inductive R where
  | DECIDE_REPLY | DECIDE_STATUS | KINDLE_STATUS | KINDLE_SEQ | KINDLE_TIME | KINDLE_REJECT
  | KINDLE_CTL | FUNC_MODE | FUNC_TIMEOUT | RESOURCE_CLAIM | RESOURCE_RESULT | FLASH_ADDR
  | FLASH_OP | FLASH_STATUS | TB_STATUS | DT_NOW | ENC_CFG | ENC_COUNT | ENC_ZPOS | ENC_ZSTAMP
  | ENC_STATUS | AXIS_CFG | AXIS_STALL | AXIS_POS | AXIS_RAW | AXIS_HWM | AXIS_PERIOD | AXIS_STATUS
  | AXIS_CTL | AXIS_RED_OFFSET | CTRIG_CFG | CTRIG_DELAY | CTRIG_START | CTRIG_PITCH | CTRIG_FRAME
  | CTRIG_MINPER | CTRIG_QUOTA | CTRIG_TIMEOUT | CTRIG_COUNT | CTRIG_CTL | CTRIG_STATUS | PTRIG_CFG
  | PTRIG_DELAY | PTRIG_START | PTRIG_PITCH | PTRIG_PULSE | PTRIG_MINPER | PTRIG_COUNT | PTRIG_CTL
  | PTRIG_STATUS | FIRE_CFG | FIRE_DELAY_NEXT | FIRE_START | FIRE_PITCH | FIRE_MINPER
  | FIRE_DELAY_NOW | FIRE_COUNT | FIRE_CTL | FIRE_STATUS | LEDGER_STATUS | LEDGER_PEAK | LEDGER_SEL
  | LEDGER_DATA | LANE_CFG | LANE_STATE | LANE_EQ | LANE_FOM | LANE_EYE | LANE_ERRCNT | LANE_EVTCNT
  | LANE_STATUS | LANE_CTL | LANE_TEST | LANE_CHK_BITS | LANE_CHK_ERRS | LANE_INJECT
  | LANE_INJECTED | LGRP_MAP_LO | LGRP_MAP_HI | LGRP_SPARE | LGRP_STATUS | LGRP_CTL | COBEX_CFG
  | COBEX_TIMING | COBEX_EVT | COBEX_STATE | COBEX_STATUS | COBEX_PKTCNT | COBEX_ERRCNT | COBEX_CTL
  | COBEX_CAPS | COBEX_CMD | COBEX_RSP | HEARTH_ID | HEARTH_CFG | HEARTH_ROWS | HEARTH_BAND
  | HEARTH_Y_ORIGIN | HEARTH_Y_SCALE | HEARTH_ROW_GEOM | HEARTH_XRES | HEARTH_YRES
  | HEARTH_TBL_BASE | HEARTH_TBL_CTL | HEARTH_TAG | HEARTH_RING | HEARTH_SCFG | HEARTH_SREGION
  | HEARTH_LSEQ | HEARTH_SGEOM | HEARTH_MARK_POS | HEARTH_MARK_STATE | HEARTH_MARK_CTL
  | HEARTH_REWIND | HEARTH_STATUS | HEARTH_FRAMES | HEARTH_ERRS | HEARTH_LINECNT | HEARTH_SAT
  | HEARTH_DROP | HEARTH_CTL | HEARTH_EXP | HEARTH_EXP_PEND | HEARTH_EXP_SET | HEARTH_EXP_INIT
  | HEARTH_AE | HEARTH_AE_LIM | HEARTH_STAT_CFG | HEARTH_STAT_ROI | HEARTH_EXP_STATUS
  | HEARTH_EXP_CNT | ANVIL_ID | ANVIL_STATE | ANVIL_CNT | CMP_CFG | CMP_THR | CMP_SCALE | CMP_CELL
  | CMP_ATTR | CMP_OUT | CMP_STATUS | CMP_COUNT | CMP_NEXT | MODEL_CTL | MODEL_ACTIVE | ANVIL_GCTL
  | REG_SOURCE | HAMMER_CFG | HAMMER_TIMING | HAMMER_OFFSET | HAMMER_GRID | HAMMER_DOT
  | HAMMER_DOTGEOM | HAMMER_DOTBASE | HAMMER_FLOG | HAMMER_WR | HAMMER_NEXT | HAMMER_REL
  | HAMMER_LOG | HAMMER_STATE | HAMMER_STATUS | HAMMER_FIRED | HAMMER_CNT | HAMMER_CNT2
  | HAMMER_CTL | HGRP_CFG | HGRP_HOT | HGRP_PASS | HGRP_SWATH | HGRP_HOLD | HGRP_STATUS | HGRP_CTL
  | HGRP_FEED | NCTX_CFG | NCTX_RATIO | NCTX_MAP | NCTX_LINEMAP | NCTX_GEN | NCTX_COUNT
  | NCTX_DROPS | NCTX_REC | NCTX_HEAD | NCTX_STATUS | NCTX_CTL | NCTX_EVCNT | NCTX_SNAP | NCTX
  | BLW_STATUS | BLW_CAP | BLW_THERM | BLW_POWER | BLW_SCHED | BLW_GAP | BLW_CNT | BLW_CTL
  | BLW_EST | BLW_TEMP | BLW_RAIL | BLW_RAIL_STATE | BLW_DOM | BLW_WAKE | BLW_C2 | TRGH_CFG
  | TRGH_WM | TRGH_DEPTH | TRGH_PEAK | TRGH_STATUS | TRGH_CNT | TRGH_CNT2 | TRGH_CTL | TRGH_MARKSEQ
  | TRGH_POOL | TONGS_CFG | TONGS_HEAD | TONGS_DOORBELL | TONGS_CQ_BASE | TONGS_CQ_CFG
  | TONGS_CQ_RD | TONGS_PACE | TONGS_STATE | TONGS_STATUS | TONGS_CNT | TONGS_POS | TONGS_CTL
  | TONGS_TAGS | HEP_LINK | HEP_LINK_CFG | HEP_STATUS | HEP_TAGS | HEP_CPL | HEP_QUENCH
  | HEP_QUENCH_DT | HEP_QUENCH_CTL | HEP_QUENCH_CFG | HEP_QCNT | HEP_RESET | HEP_LPM | HEP_CTL
  | HEP_QREQ | HEP_APER_ACT | HEP_APER_SHD | HEP_APER_CTL | HEP_APER_STAT | HEP_MSIX_SRC
  | STK_STATUS | STK_GROUP | STK_SWEVT | STK_TASK_SW | STK_CTL | STK_WATCH | STK_CH_CFG
  | STK_CH_STAT | STK_CH_LAST | STK_CELL | STK_CELL_F | STK_TASK | STK_TASK_STAT | STK_CNT
  | STK_CNT_CMP | STK_CAP | STK_CAP_STAT | STK_GPIO | STK_GPIO_STAT | SMB_T_CFG | SMB_T_KEY
  | SMB_T_STATUS | SMB_T_CNT | SMB_ALERT | SMB_T_TIMING | SMBC_CFG | SMBC_CMD | SMBC_RSLT
  | SMBC_CNT | WELD_STATUS | WELD_OUT | WELD_LIMITS | WELD_CTL | WELD_MEM | WELD_HCL | WELD_HSUSP
  | WELD_ACL | WELD_ASUSP | WELD_ERR_CFG | WELD_ERR_CNT | WELD_LOG_PTR | WELD_FIRST_FATAL
  | WELD_JRNL | WELD_JSEQ | WELD_JERR | WELD_WEAR | WELD_HOST_CTL | WELD_HOST_FIND | ID_DEVICE
  | ID_SERIAL | ID_UNITS | ID_MEM | ID_ROM | GLB_STATUS | GLB_BOARD | GLB_SCRATCH | GLB_SEM
  deriving DecidableEq, Repr

/-- Where a register lies and what it holds: instance (i, j), i from i0 with count n1 and stride s1, j from 0 with
count n2 and stride s2, lies at addr + i * s1 + j * s2 and is `bytes` bytes wide (R14, R555). -/
structure Reg where
  addr : Nat
  i0 : Nat
  n1 : Nat
  s1 : Nat
  n2 : Nat
  s2 : Nat
  bytes : Nat
  flds : List Fld

/-- The place and fields of each register. -/
def R.desc : R → Reg
  | .DECIDE_REPLY => ⟨0x100, 0, 1, 0, 1, 0, 16,
    [F.DECIDE_REPLY_ARGUMENT, F.DECIDE_REPLY_VERDICT, F.DECIDE_REPLY_REQUEST_ID]⟩
  | .DECIDE_STATUS => ⟨0x110, 0, 1, 0, 1, 0, 4,
    [F.DECIDE_STATUS_OVERFLOW, F.DECIDE_STATUS_HELD, F.DECIDE_STATUS_LAST_RESULT, F.DECIDE_STATUS_OPEN]⟩
  | .KINDLE_STATUS => ⟨0x10000, 0, 1, 0, 1, 0, 4,
    [F.KINDLE_STATUS_EARLY_WRITE, F.KINDLE_STATUS_REJECTED_B, F.KINDLE_STATUS_REJECTED_A, F.KINDLE_STATUS_FLASH_FAULT, F.KINDLE_STATUS_NO_IMAGE, F.KINDLE_STATUS_SLOW_FLASH, F.KINDLE_STATUS_FALLBACK, F.KINDLE_STATUS_SLOT_USED, F.KINDLE_STATUS_PHASE]⟩
  | .KINDLE_SEQ => ⟨0x10008, 0, 1, 0, 1, 0, 8,
    [F.KINDLE_SEQ_SEQUENCE]⟩
  | .KINDLE_TIME => ⟨0x10010, 0, 1, 0, 1, 0, 4,
    [F.KINDLE_TIME_ELAPSED_US]⟩
  | .KINDLE_REJECT => ⟨0x10020, 0, 3, 8, 1, 0, 8,
    [F.KINDLE_REJECT_ENTRY, F.KINDLE_REJECT_SECTION, F.KINDLE_REJECT_CHECK]⟩
  | .KINDLE_CTL => ⟨0x10040, 0, 1, 0, 1, 0, 4,
    [F.KINDLE_CTL_KEY, F.KINDLE_CTL_FINISH, F.KINDLE_CTL_REKINDLE]⟩
  | .FUNC_MODE => ⟨0x10100, 1, 9, 4, 1, 0, 4,
    [F.FUNC_MODE_PENDING, F.FUNC_MODE_CURRENT, F.FUNC_MODE_REQUESTED]⟩
  | .FUNC_TIMEOUT => ⟨0x10140, 1, 9, 4, 1, 0, 4,
    [F.FUNC_TIMEOUT_TIMEOUT_US]⟩
  | .RESOURCE_CLAIM => ⟨0x10200, 0, 1, 0, 1, 0, 8,
    [F.RESOURCE_CLAIM_OWNER, F.RESOURCE_CLAIM_INDEX, F.RESOURCE_CLAIM_CLASS, F.RESOURCE_CLAIM_OP]⟩
  | .RESOURCE_RESULT => ⟨0x10208, 0, 1, 0, 1, 0, 8,
    [F.RESOURCE_RESULT_HOLDER, F.RESOURCE_RESULT_RESULT]⟩
  | .FLASH_ADDR => ⟨0x10400, 0, 1, 0, 1, 0, 4,
    [F.FLASH_ADDR_ADDR]⟩
  | .FLASH_OP => ⟨0x10408, 0, 1, 0, 1, 0, 4,
    [F.FLASH_OP_LENGTH, F.FLASH_OP_OP]⟩
  | .FLASH_STATUS => ⟨0x10410, 0, 1, 0, 1, 0, 4,
    [F.FLASH_STATUS_FAULT, F.FLASH_STATUS_DENIED, F.FLASH_STATUS_DONE, F.FLASH_STATUS_BUSY]⟩
  | .TB_STATUS => ⟨0x40000, 0, 1, 0, 1, 0, 4,
    [F.TB_STATUS_HOLDOVER, F.TB_STATUS_LOCKED_SLEW, F.TB_STATUS_REF_LOST, F.TB_STATUS_LOCKED]⟩
  | .DT_NOW => ⟨0x40008, 0, 1, 0, 1, 0, 8,
    [F.DT_NOW_DT]⟩
  | .ENC_CFG => ⟨0x41000, 0, 16, 0x40, 1, 0, 4,
    [F.ENC_CFG_FILTER_NS, F.ENC_CFG_ZMODE, F.ENC_CFG_Z_POL, F.ENC_CFG_SWAP, F.ENC_CFG_ENABLE]⟩
  | .ENC_COUNT => ⟨0x41008, 0, 16, 0x40, 1, 0, 8,
    [F.ENC_COUNT_COUNT]⟩
  | .ENC_ZPOS => ⟨0x41010, 0, 16, 0x40, 1, 0, 8,
    [F.ENC_ZPOS_VALUE]⟩
  | .ENC_ZSTAMP => ⟨0x41018, 0, 16, 0x40, 1, 0, 8,
    [F.ENC_ZSTAMP_VALUE]⟩
  | .ENC_STATUS => ⟨0x41020, 0, 16, 0x40, 1, 0, 4,
    [F.ENC_STATUS_ILLEGAL_COUNT, F.ENC_STATUS_STALLED, F.ENC_STATUS_Z_IGNORED, F.ENC_STATUS_ILLEGAL]⟩
  | .AXIS_CFG => ⟨0x42000, 0, 8, 0x80, 1, 0, 4,
    [F.AXIS_CFG_AVG, F.AXIS_CFG_AUTO_SWITCH, F.AXIS_CFG_RESUME_MODE, F.AXIS_CFG_MODE, F.AXIS_CFG_WINDOW, F.AXIS_CFG_SIGN_R, F.AXIS_CFG_SIGN_P, F.AXIS_CFG_RED_EN, F.AXIS_CFG_REDUNDANT, F.AXIS_CFG_PRIMARY, F.AXIS_CFG_ENABLE]⟩
  | .AXIS_STALL => ⟨0x42004, 0, 8, 0x80, 1, 0, 4,
    [F.AXIS_STALL_STALL_NS]⟩
  | .AXIS_POS => ⟨0x42008, 0, 8, 0x80, 1, 0, 8,
    [F.AXIS_POS_POSITION]⟩
  | .AXIS_RAW => ⟨0x42010, 0, 8, 0x80, 1, 0, 8,
    [F.AXIS_RAW_POSITION]⟩
  | .AXIS_HWM => ⟨0x42018, 0, 8, 0x80, 1, 0, 8,
    [F.AXIS_HWM_POSITION]⟩
  | .AXIS_PERIOD => ⟨0x42020, 0, 8, 0x80, 1, 0, 4,
    [F.AXIS_PERIOD_PERIOD_NS]⟩
  | .AXIS_STATUS => ⟨0x42024, 0, 8, 0x80, 1, 0, 4,
    [F.AXIS_STATUS_SWITCHES, F.AXIS_STATUS_RESOURCE_HELD, F.AXIS_STATUS_CFG_LOCKED, F.AXIS_STATUS_DISAGREE, F.AXIS_STATUS_ON_REDUNDANT, F.AXIS_STATUS_DIR, F.AXIS_STATUS_STATE]⟩
  | .AXIS_CTL => ⟨0x42028, 0, 8, 0x80, 1, 0, 4,
    [F.AXIS_CTL_USE_PRIMARY, F.AXIS_CTL_USE_REDUNDANT, F.AXIS_CTL_RESUME]⟩
  | .AXIS_RED_OFFSET => ⟨0x42030, 0, 8, 0x80, 1, 0, 8,
    [F.AXIS_RED_OFFSET_OFFSET]⟩
  | .CTRIG_CFG => ⟨0x44000, 0, 256, 0x40, 1, 0, 4,
    [F.CTRIG_CFG_REC_EN, F.CTRIG_CFG_TROUGH, F.CTRIG_CFG_STRIKER_OUT, F.CTRIG_CFG_DIR_SEL, F.CTRIG_CFG_KIND, F.CTRIG_CFG_AXIS]⟩
  | .CTRIG_DELAY => ⟨0x44004, 0, 256, 0x40, 1, 0, 4,
    [F.CTRIG_DELAY_DELAY_NS]⟩
  | .CTRIG_START => ⟨0x44008, 0, 256, 0x40, 1, 0, 8,
    [F.CTRIG_START_VALUE]⟩
  | .CTRIG_PITCH => ⟨0x44010, 0, 256, 0x40, 1, 0, 8,
    [F.CTRIG_PITCH_VALUE]⟩
  | .CTRIG_FRAME => ⟨0x44018, 0, 256, 0x40, 1, 0, 8,
    [F.CTRIG_FRAME_FRAMES, F.CTRIG_FRAME_FRAME_GAP, F.CTRIG_FRAME_LINES]⟩
  | .CTRIG_MINPER => ⟨0x44020, 0, 256, 0x40, 1, 0, 4,
    [F.CTRIG_MINPER_VALUE]⟩
  | .CTRIG_QUOTA => ⟨0x44024, 0, 256, 0x40, 1, 0, 4,
    [F.CTRIG_QUOTA_VALUE]⟩
  | .CTRIG_TIMEOUT => ⟨0x44028, 0, 256, 0x40, 1, 0, 8,
    [F.CTRIG_TIMEOUT_FRAME_TIMEOUT_US, F.CTRIG_TIMEOUT_FIRST_TIMEOUT_US]⟩
  | .CTRIG_COUNT => ⟨0x44030, 0, 256, 0x40, 1, 0, 8,
    [F.CTRIG_COUNT_SKIPS, F.CTRIG_COUNT_FRAME_NO]⟩
  | .CTRIG_CTL => ⟨0x44038, 0, 256, 0x40, 1, 0, 4,
    [F.CTRIG_CTL_FLUSH, F.CTRIG_CTL_DISARM, F.CTRIG_CTL_ARM]⟩
  | .CTRIG_STATUS => ⟨0x4403C, 0, 256, 0x40, 1, 0, 4,
    [F.CTRIG_STATUS_ARMED, F.CTRIG_STATUS_LEDGER_FULL, F.CTRIG_STATUS_CFG_LOCKED, F.CTRIG_STATUS_SKIPPED, F.CTRIG_STATUS_RESOURCE_HELD, F.CTRIG_STATUS_ARM_REFUSED, F.CTRIG_STATUS_OPEN]⟩
  | .PTRIG_CFG => ⟨0x48000, 0, 32, 0x40, 1, 0, 4,
    [F.PTRIG_CFG_POLARITY, F.PTRIG_CFG_DIR_SEL, F.PTRIG_CFG_AXIS, F.PTRIG_CFG_STRIKER_OUT]⟩
  | .PTRIG_DELAY => ⟨0x48004, 0, 32, 0x40, 1, 0, 4,
    [F.PTRIG_DELAY_DELAY_NS]⟩
  | .PTRIG_START => ⟨0x48008, 0, 32, 0x40, 1, 0, 8,
    [F.PTRIG_START_VALUE]⟩
  | .PTRIG_PITCH => ⟨0x48010, 0, 32, 0x40, 1, 0, 8,
    [F.PTRIG_PITCH_VALUE]⟩
  | .PTRIG_PULSE => ⟨0x48018, 0, 32, 0x40, 1, 0, 8,
    [F.PTRIG_PULSE_COUNT, F.PTRIG_PULSE_WIDTH_NS]⟩
  | .PTRIG_MINPER => ⟨0x48020, 0, 32, 0x40, 1, 0, 4,
    [F.PTRIG_MINPER_VALUE]⟩
  | .PTRIG_COUNT => ⟨0x48030, 0, 32, 0x40, 1, 0, 8,
    [F.PTRIG_COUNT_SKIPS, F.PTRIG_COUNT_ISSUED]⟩
  | .PTRIG_CTL => ⟨0x48038, 0, 32, 0x40, 1, 0, 4,
    [F.PTRIG_CTL_FLUSH, F.PTRIG_CTL_DISARM, F.PTRIG_CTL_ARM]⟩
  | .PTRIG_STATUS => ⟨0x4803C, 0, 32, 0x40, 1, 0, 4,
    [F.PTRIG_STATUS_ARMED, F.PTRIG_STATUS_CFG_LOCKED, F.PTRIG_STATUS_SKIPPED, F.PTRIG_STATUS_ARM_REFUSED]⟩
  | .FIRE_CFG => ⟨0x49000, 0, 64, 0x40, 1, 0, 4,
    [F.FIRE_CFG_DIRS, F.FIRE_CFG_AXIS]⟩
  | .FIRE_DELAY_NEXT => ⟨0x49004, 0, 64, 0x40, 1, 0, 4,
    [F.FIRE_DELAY_NEXT_DELAY_NS]⟩
  | .FIRE_START => ⟨0x49008, 0, 64, 0x40, 1, 0, 8,
    [F.FIRE_START_VALUE]⟩
  | .FIRE_PITCH => ⟨0x49010, 0, 64, 0x40, 1, 0, 8,
    [F.FIRE_PITCH_VALUE]⟩
  | .FIRE_MINPER => ⟨0x49020, 0, 64, 0x40, 1, 0, 4,
    [F.FIRE_MINPER_VALUE]⟩
  | .FIRE_DELAY_NOW => ⟨0x49024, 0, 64, 0x40, 1, 0, 4,
    [F.FIRE_DELAY_NOW_DELAY_NS]⟩
  | .FIRE_COUNT => ⟨0x49030, 0, 64, 0x40, 1, 0, 8,
    [F.FIRE_COUNT_SKIPS, F.FIRE_COUNT_ISSUED]⟩
  | .FIRE_CTL => ⟨0x49038, 0, 64, 0x40, 1, 0, 4,
    [F.FIRE_CTL_FLUSH, F.FIRE_CTL_DISARM, F.FIRE_CTL_ARM]⟩
  | .FIRE_STATUS => ⟨0x4903C, 0, 64, 0x40, 1, 0, 4,
    [F.FIRE_STATUS_ARMED, F.FIRE_STATUS_CFG_LOCKED, F.FIRE_STATUS_SKIPPED, F.FIRE_STATUS_ARM_REFUSED]⟩
  | .LEDGER_STATUS => ⟨0x4A000, 0, 1, 0, 1, 0, 4,
    [F.LEDGER_STATUS_OPEN]⟩
  | .LEDGER_PEAK => ⟨0x4A004, 0, 1, 0, 1, 0, 4,
    [F.LEDGER_PEAK_PEAK]⟩
  | .LEDGER_SEL => ⟨0x4A008, 0, 1, 0, 1, 0, 4,
    [F.LEDGER_SEL_INDEX]⟩
  | .LEDGER_DATA => ⟨0x4A010, 0, 4, 8, 1, 0, 8,
    [F.LEDGER_DATA_WORD]⟩
  | .LANE_CFG => ⟨0x100000, 0, 544, 0x800, 1, 0, 4,
    [F.LANE_CFG_ERR_LIMIT, F.LANE_CFG_FOM_MIN, F.LANE_CFG_SPARE_ON_LOSS, F.LANE_CFG_TRIM_EN, F.LANE_CFG_RATE, F.LANE_CFG_ENABLE]⟩
  | .LANE_STATE => ⟨0x100004, 0, 544, 0x800, 1, 0, 4,
    [F.LANE_STATE_LISTEN, F.LANE_STATE_SPARE, F.LANE_STATE_TRIM_FROZEN, F.LANE_STATE_SIGNAL, F.LANE_STATE_CDR_LOCK, F.LANE_STATE_BLOCK_LOCK, F.LANE_STATE_PAD, F.LANE_STATE_STATE]⟩
  | .LANE_EQ => ⟨0x100008, 0, 544, 0x800, 1, 0, 4,
    [F.LANE_EQ_DFE1_TRIM, F.LANE_EQ_CTLE_TRIM, F.LANE_EQ_DFE1, F.LANE_EQ_CTLE]⟩
  | .LANE_FOM => ⟨0x10000C, 0, 544, 0x800, 1, 0, 4,
    [F.LANE_FOM_ADAPT_RESETS, F.LANE_FOM_FOM_REF, F.LANE_FOM_FOM]⟩
  | .LANE_EYE => ⟨0x100010, 0, 544, 0x800, 1, 0, 4,
    [F.LANE_EYE_H, F.LANE_EYE_V]⟩
  | .LANE_ERRCNT => ⟨0x100018, 0, 544, 0x800, 1, 0, 8,
    [F.LANE_ERRCNT_RELOCK_FAIL, F.LANE_ERRCNT_LOCK_LOSSES, F.LANE_ERRCNT_INVALID_HDR]⟩
  | .LANE_EVTCNT => ⟨0x100020, 0, 544, 0x800, 1, 0, 8,
    [F.LANE_EVTCNT_RATE_MISMATCH, F.LANE_EVTCNT_EIDLE_ENTRIES, F.LANE_EVTCNT_EXITS, F.LANE_EVTCNT_TRAINS]⟩
  | .LANE_STATUS => ⟨0x100028, 0, 544, 0x800, 1, 0, 4,
    [F.LANE_STATUS_TEST_REFUSED, F.LANE_STATUS_LOS, F.LANE_STATUS_EXIT_FAIL, F.LANE_STATUS_CAPS_TIMEOUT, F.LANE_STATUS_LOCK_TIMEOUT, F.LANE_STATUS_TRAIN_TIMEOUT, F.LANE_STATUS_SNAPBACK, F.LANE_STATUS_LOCK_LOST]⟩
  | .LANE_CTL => ⟨0x100030, 0, 544, 0x800, 1, 0, 4,
    [F.LANE_CTL_CLEAR_COUNTS, F.LANE_CTL_RETRAIN]⟩
  | .LANE_TEST => ⟨0x100040, 0, 544, 0x800, 1, 0, 4,
    [F.LANE_TEST_TEST_EN, F.LANE_TEST_CHK_SYNC, F.LANE_TEST_RX_CHECK, F.LANE_TEST_TX_PATTERN, F.LANE_TEST_LOOP]⟩
  | .LANE_CHK_BITS => ⟨0x100048, 0, 544, 0x800, 1, 0, 8,
    [F.LANE_CHK_BITS_COUNT]⟩
  | .LANE_CHK_ERRS => ⟨0x100050, 0, 544, 0x800, 1, 0, 8,
    [F.LANE_CHK_ERRS_COUNT]⟩
  | .LANE_INJECT => ⟨0x100058, 0, 544, 0x800, 1, 0, 4,
    [F.LANE_INJECT_INTERVAL, F.LANE_INJECT_FIRE, F.LANE_INJECT_REPEAT, F.LANE_INJECT_KIND, F.LANE_INJECT_WHERE]⟩
  | .LANE_INJECTED => ⟨0x10005C, 0, 544, 0x800, 1, 0, 4,
    [F.LANE_INJECTED_INJECTED]⟩
  | .LGRP_MAP_LO => ⟨0x280000, 0, 32, 0x100, 1, 0, 8,
    [F.LGRP_MAP_LO_SLICE0, F.LGRP_MAP_LO_SLICE1, F.LGRP_MAP_LO_SLICE2, F.LGRP_MAP_LO_SLICE3, F.LGRP_MAP_LO_SLICE4, F.LGRP_MAP_LO_SLICE5, F.LGRP_MAP_LO_SLICE6, F.LGRP_MAP_LO_SLICE7]⟩
  | .LGRP_MAP_HI => ⟨0x280008, 0, 32, 0x100, 1, 0, 8,
    [F.LGRP_MAP_HI_SLICE0, F.LGRP_MAP_HI_SLICE1, F.LGRP_MAP_HI_SLICE2, F.LGRP_MAP_HI_SLICE3, F.LGRP_MAP_HI_SLICE4, F.LGRP_MAP_HI_SLICE5, F.LGRP_MAP_HI_SLICE6, F.LGRP_MAP_HI_SLICE7]⟩
  | .LGRP_SPARE => ⟨0x280010, 0, 32, 0x100, 1, 0, 4,
    [F.LGRP_SPARE_SWAPS, F.LGRP_SPARE_LISTEN_MISMATCH, F.LGRP_SPARE_SPARE_STATE, F.LGRP_SPARE_SPARE_SLICE]⟩
  | .LGRP_STATUS => ⟨0x280014, 0, 32, 0x100, 1, 0, 4,
    [F.LGRP_STATUS_BAD_ORDER, F.LGRP_STATUS_SWAP_ABANDONED, F.LGRP_STATUS_SWAP_DONE, F.LGRP_STATUS_SPARE_EXHAUSTED]⟩
  | .LGRP_CTL => ⟨0x280018, 0, 32, 0x100, 1, 0, 4,
    [F.LGRP_CTL_OP, F.LGRP_CTL_PAD]⟩
  | .COBEX_CFG => ⟨0x300000, 0, 512, 0x400, 1, 0, 8,
    [F.COBEX_CFG_MASTER, F.COBEX_CFG_BOUND, F.COBEX_CFG_HEARTH, F.COBEX_CFG_LANE_COUNT, F.COBEX_CFG_LANE_INDEX]⟩
  | .COBEX_TIMING => ⟨0x300008, 0, 512, 0x400, 1, 0, 4,
    [F.COBEX_TIMING_CMD_TIMEOUT_US, F.COBEX_TIMING_HB_TIMEOUT]⟩
  | .COBEX_EVT => ⟨0x30000C, 0, 512, 0x400, 1, 0, 4,
    [F.COBEX_EVT_EVT_EN, F.COBEX_EVT_EVT_TROUGH]⟩
  | .COBEX_STATE => ⟨0x300010, 0, 512, 0x400, 1, 0, 4,
    [F.COBEX_STATE_CAPS_REASON, F.COBEX_STATE_ALIGN_MISS, F.COBEX_STATE_SKEW, F.COBEX_STATE_BOND]⟩
  | .COBEX_STATUS => ⟨0x300014, 0, 512, 0x400, 1, 0, 4,
    [F.COBEX_STATUS_ALIGN_TIMEOUT, F.COBEX_STATUS_SKEW_EXCESS, F.COBEX_STATUS_CFG_LOCKED, F.COBEX_STATUS_RESOURCE_HELD, F.COBEX_STATUS_TRIG_DROPPED, F.COBEX_STATUS_RSP_UNEXPECTED, F.COBEX_STATUS_CMD_TIMEOUT, F.COBEX_STATUS_UNKNOWN_CTL, F.COBEX_STATUS_CAPS_REFUSED, F.COBEX_STATUS_HB_TIMEOUT, F.COBEX_STATUS_ALIGN_LOST, F.COBEX_STATUS_DETACHED, F.COBEX_STATUS_ATTACHED]⟩
  | .COBEX_PKTCNT => ⟨0x300018, 0, 512, 0x400, 1, 0, 8,
    [F.COBEX_PKTCNT_CRC_ERR, F.COBEX_PKTCNT_PACKETS]⟩
  | .COBEX_ERRCNT => ⟨0x300020, 0, 512, 0x400, 1, 0, 8,
    [F.COBEX_ERRCNT_MISSING, F.COBEX_ERRCNT_TRUNCATED, F.COBEX_ERRCNT_STRAY, F.COBEX_ERRCNT_GAPS]⟩
  | .COBEX_CTL => ⟨0x300028, 0, 512, 0x400, 1, 0, 4,
    [F.COBEX_CTL_LINK_RESET, F.COBEX_CTL_CLEAR_COUNTS]⟩
  | .COBEX_CAPS => ⟨0x300040, 0, 512, 0x400, 8, 8, 8,
    [F.COBEX_CAPS_WORD]⟩
  | .COBEX_CMD => ⟨0x300100, 0, 512, 0x400, 1, 0, 8,
    [F.COBEX_CMD_ADDR, F.COBEX_CMD_LEN, F.COBEX_CMD_OP]⟩
  | .COBEX_RSP => ⟨0x300108, 0, 512, 0x400, 1, 0, 4,
    [F.COBEX_RSP_BUSY, F.COBEX_RSP_DONE, F.COBEX_RSP_LEN, F.COBEX_RSP_STATUS, F.COBEX_RSP_TAG]⟩
  | .HEARTH_ID => ⟨0x400000, 0, 264, 0x4000, 1, 0, 4,
    [F.HEARTH_ID_SERVING, F.HEARTH_ID_SHADOW, F.HEARTH_ID_CLUSTER, F.HEARTH_ID_LOGICAL]⟩
  | .HEARTH_CFG => ⟨0x400008, 0, 264, 0x4000, 1, 0, 4,
    [F.HEARTH_CFG_ENABLE, F.HEARTH_CFG_COMPARE_EN, F.HEARTH_CFG_KIND, F.HEARTH_CFG_FORMAT, F.HEARTH_CFG_BANDS_M1, F.HEARTH_CFG_WIDTH]⟩
  | .HEARTH_ROWS => ⟨0x40000C, 0, 264, 0x4000, 1, 0, 4,
    [F.HEARTH_ROWS_ROWS]⟩
  | .HEARTH_BAND => ⟨0x400010, 0, 264, 0x4000, 1, 0, 4,
    [F.HEARTH_BAND_DELAY0, F.HEARTH_BAND_DELAY1, F.HEARTH_BAND_DELAY2, F.HEARTH_BAND_DELAY3]⟩
  | .HEARTH_Y_ORIGIN => ⟨0x400018, 0, 264, 0x4000, 1, 0, 8,
    [F.HEARTH_Y_ORIGIN_VALUE]⟩
  | .HEARTH_Y_SCALE => ⟨0x400020, 0, 264, 0x4000, 1, 0, 8,
    [F.HEARTH_Y_SCALE_VALUE]⟩
  | .HEARTH_ROW_GEOM => ⟨0x400028, 0, 264, 0x4000, 1, 0, 8,
    [F.HEARTH_ROW_GEOM_ROW_PITCH, F.HEARTH_ROW_GEOM_ROW_Y0]⟩
  | .HEARTH_XRES => ⟨0x400030, 0, 264, 0x4000, 1, 0, 8,
    [F.HEARTH_XRES_X_START, F.HEARTH_XRES_KERNEL, F.HEARTH_XRES_OUT_WIDTH]⟩
  | .HEARTH_YRES => ⟨0x400038, 0, 264, 0x4000, 1, 0, 4,
    [F.HEARTH_YRES_MAX_GAP]⟩
  | .HEARTH_TBL_BASE => ⟨0x400040, 0, 264, 0x4000, 1, 0, 8,
    [F.HEARTH_TBL_BASE_OFFSET]⟩
  | .HEARTH_TBL_CTL => ⟨0x400048, 0, 264, 0x4000, 1, 0, 4,
    [F.HEARTH_TBL_CTL_SWAP_PENDING, F.HEARTH_TBL_CTL_ACTIVE_BANK, F.HEARTH_TBL_CTL_SWAP]⟩
  | .HEARTH_TAG => ⟨0x400050, 0, 264, 0x4000, 1, 0, 4,
    [F.HEARTH_TAG_TAG_EN, F.HEARTH_TAG_TAG_TROUGH]⟩
  | .HEARTH_RING => ⟨0x400058, 0, 264, 0x4000, 1, 0, 8,
    [F.HEARTH_RING_SIZE_MIB, F.HEARTH_RING_BASE_MIB]⟩
  | .HEARTH_SCFG => ⟨0x400100, 0, 264, 0x4000, 4, 0x20, 4,
    [F.HEARTH_SCFG_ENABLE, F.HEARTH_SCFG_CLASS, F.HEARTH_SCFG_TAP, F.HEARTH_SCFG_DECIM_M1]⟩
  | .HEARTH_SREGION => ⟨0x400108, 0, 264, 0x4000, 4, 0x20, 8,
    [F.HEARTH_SREGION_OFFSET_MIB, F.HEARTH_SREGION_SIZE_MIB]⟩
  | .HEARTH_LSEQ => ⟨0x400110, 0, 264, 0x4000, 4, 0x20, 8,
    [F.HEARTH_LSEQ_VALUE]⟩
  | .HEARTH_SGEOM => ⟨0x400118, 0, 264, 0x4000, 4, 0x20, 8,
    [F.HEARTH_SGEOM_CAPACITY, F.HEARTH_SGEOM_LINE_BYTES]⟩
  | .HEARTH_MARK_POS => ⟨0x400200, 0, 264, 0x4000, 4, 0x10, 8,
    [F.HEARTH_MARK_POS_LSEQ]⟩
  | .HEARTH_MARK_STATE => ⟨0x400208, 0, 264, 0x4000, 4, 0x10, 4,
    [F.HEARTH_MARK_STATE_VALID, F.HEARTH_MARK_STATE_LAPPED, F.HEARTH_MARK_STATE_PENDING, F.HEARTH_MARK_STATE_STREAM]⟩
  | .HEARTH_MARK_CTL => ⟨0x400240, 0, 264, 0x4000, 1, 0, 4,
    [F.HEARTH_MARK_CTL_OP, F.HEARTH_MARK_CTL_STREAM, F.HEARTH_MARK_CTL_MARK]⟩
  | .HEARTH_REWIND => ⟨0x400248, 0, 264, 0x4000, 1, 0, 4,
    [F.HEARTH_REWIND_RESULT, F.HEARTH_REWIND_GO, F.HEARTH_REWIND_MARK]⟩
  | .HEARTH_STATUS => ⟨0x400300, 0, 264, 0x4000, 1, 0, 4,
    [F.HEARTH_STATUS_DROPPED, F.HEARTH_STATUS_READER_LAPPED, F.HEARTH_STATUS_MARK_LAPPED, F.HEARTH_STATUS_TBL_SWAPPED, F.HEARTH_STATUS_RESOURCE_HELD, F.HEARTH_STATUS_CFG_LOCKED, F.HEARTH_STATUS_ORDER_ERR, F.HEARTH_STATUS_NO_POSITION, F.HEARTH_STATUS_FORMAT_ERR, F.HEARTH_STATUS_ORPHAN, F.HEARTH_STATUS_LOST, F.HEARTH_STATUS_LONG, F.HEARTH_STATUS_SHORT]⟩
  | .HEARTH_FRAMES => ⟨0x400308, 0, 264, 0x4000, 1, 0, 8,
    [F.HEARTH_FRAMES_LONG, F.HEARTH_FRAMES_SHORT, F.HEARTH_FRAMES_ENDED]⟩
  | .HEARTH_ERRS => ⟨0x400310, 0, 264, 0x4000, 1, 0, 8,
    [F.HEARTH_ERRS_ORPHANS, F.HEARTH_ERRS_FORMAT_ERR, F.HEARTH_ERRS_NO_POSITION, F.HEARTH_ERRS_ORDER_ERR]⟩
  | .HEARTH_LINECNT => ⟨0x400318, 0, 264, 0x4000, 1, 0, 8,
    [F.HEARTH_LINECNT_EXCESS, F.HEARTH_LINECNT_MISSING_LINES]⟩
  | .HEARTH_SAT => ⟨0x400320, 0, 264, 0x4000, 1, 0, 8,
    [F.HEARTH_SAT_UNRESOLVED, F.HEARTH_SAT_SATURATED]⟩
  | .HEARTH_DROP => ⟨0x400328, 0, 264, 0x4000, 1, 0, 8,
    [F.HEARTH_DROP_DROPPED0, F.HEARTH_DROP_DROPPED1, F.HEARTH_DROP_DROPPED2, F.HEARTH_DROP_DROPPED3]⟩
  | .HEARTH_CTL => ⟨0x400340, 0, 264, 0x4000, 1, 0, 4,
    [F.HEARTH_CTL_CLEAR_COUNTS]⟩
  | .HEARTH_EXP => ⟨0x400400, 0, 264, 0x4000, 1, 0, 8,
    [F.HEARTH_EXP_GEN, F.HEARTH_EXP_GAIN, F.HEARTH_EXP_EXPOSURE_NS]⟩
  | .HEARTH_EXP_PEND => ⟨0x400408, 0, 264, 0x4000, 1, 0, 8,
    [F.HEARTH_EXP_PEND_OPEN, F.HEARTH_EXP_PEND_ACKED, F.HEARTH_EXP_PEND_QUEUED, F.HEARTH_EXP_PEND_GEN, F.HEARTH_EXP_PEND_FROM_FRAME]⟩
  | .HEARTH_EXP_SET => ⟨0x400410, 0, 264, 0x4000, 1, 0, 8,
    [F.HEARTH_EXP_SET_GAIN, F.HEARTH_EXP_SET_EXPOSURE_NS]⟩
  | .HEARTH_EXP_INIT => ⟨0x400418, 0, 264, 0x4000, 1, 0, 8,
    [F.HEARTH_EXP_INIT_GAIN, F.HEARTH_EXP_INIT_EXPOSURE_NS]⟩
  | .HEARTH_AE => ⟨0x400420, 0, 264, 0x4000, 1, 0, 8,
    [F.HEARTH_AE_AE_EN, F.HEARTH_AE_AE_FRAMES_M1, F.HEARTH_AE_AE_BAND, F.HEARTH_AE_SAT_MAX, F.HEARTH_AE_DEADBAND, F.HEARTH_AE_TARGET]⟩
  | .HEARTH_AE_LIM => ⟨0x400428, 0, 264, 0x4000, 1, 0, 8,
    [F.HEARTH_AE_LIM_EXP_MAX_NS, F.HEARTH_AE_LIM_EXP_MIN_NS]⟩
  | .HEARTH_STAT_CFG => ⟨0x400440, 0, 264, 0x4000, 1, 0, 8,
    [F.HEARTH_STAT_CFG_STAT_EN, F.HEARTH_STAT_CFG_SAT_LEVEL, F.HEARTH_STAT_CFG_STAT_TROUGH]⟩
  | .HEARTH_STAT_ROI => ⟨0x400448, 0, 264, 0x4000, 1, 0, 8,
    [F.HEARTH_STAT_ROI_LINE_COUNT, F.HEARTH_STAT_ROI_LINE_FIRST, F.HEARTH_STAT_ROI_COL_COUNT, F.HEARTH_STAT_ROI_COL_FIRST]⟩
  | .HEARTH_EXP_STATUS => ⟨0x400450, 0, 264, 0x4000, 1, 0, 4,
    [F.HEARTH_EXP_STATUS_RESOURCE_HELD, F.HEARTH_EXP_STATUS_AE_CLAMPED, F.HEARTH_EXP_STATUS_HIST_DEFERRED, F.HEARTH_EXP_STATUS_STRADDLE, F.HEARTH_EXP_STATUS_EXP_FAIL]⟩
  | .HEARTH_EXP_CNT => ⟨0x400458, 0, 264, 0x4000, 1, 0, 8,
    [F.HEARTH_EXP_CNT_STRADDLED, F.HEARTH_EXP_CNT_QUEUE_REPLACED, F.HEARTH_EXP_CNT_RETRIES, F.HEARTH_EXP_CNT_CHANGES]⟩
  | .ANVIL_ID => ⟨0xC00000, 0, 136, 0x4000, 1, 0, 4,
    [F.ANVIL_ID_SERVING, F.ANVIL_ID_SHADOW, F.ANVIL_ID_CLUSTER, F.ANVIL_ID_LOGICAL]⟩
  | .ANVIL_STATE => ⟨0xC00008, 0, 136, 0x4000, 1, 0, 8,
    [F.ANVIL_STATE_BUSY, F.ANVIL_STATE_HEARTH, F.ANVIL_STATE_BSEQ]⟩
  | .ANVIL_CNT => ⟨0xC00010, 0, 136, 0x4000, 1, 0, 8,
    [F.ANVIL_CNT_BILLETS, F.ANVIL_CNT_MSAMPLES]⟩
  | .CMP_CFG => ⟨0x1200000, 0, 256, 0x100, 1, 0, 8,
    [F.CMP_CFG_ENABLE, F.CMP_CFG_NOZZLE_EV, F.CMP_CFG_REG_EN, F.CMP_CFG_ADAPT_EN, F.CMP_CFG_REG_INK, F.CMP_CFG_REG_BAND, F.CMP_CFG_EV_BAND, F.CMP_CFG_PROFILE, F.CMP_CFG_INK_MASK, F.CMP_CFG_BILLET_COLS, F.CMP_CFG_BILLET_IDLE_MS, F.CMP_CFG_EVAL_BILLETS, F.CMP_CFG_DEADLINE_MS]⟩
  | .CMP_THR => ⟨0x1200008, 0, 256, 0x100, 1, 0, 8,
    [F.CMP_THR_T_WEAK, F.CMP_THR_T_MISS, F.CMP_THR_T_HARD, F.CMP_THR_T_SOFT]⟩
  | .CMP_SCALE => ⟨0x1200010, 0, 256, 0x100, 1, 0, 4,
    [F.CMP_SCALE_S]⟩
  | .CMP_CELL => ⟨0x1200018, 0, 256, 0x100, 1, 0, 8,
    [F.CMP_CELL_MAX_DEFECTS, F.CMP_CELL_MOTTLE_MIN, F.CMP_CELL_AREA_MIN, F.CMP_CELL_SPOT_MIN, F.CMP_CELL_STREAK_MIN]⟩
  | .CMP_ATTR => ⟨0x1200020, 0, 256, 0x100, 1, 0, 8,
    [F.CMP_ATTR_REG_LIMIT, F.CMP_ATTR_REG_MAX_STEP_NS, F.CMP_ATTR_REG_DEADBAND, F.CMP_ATTR_REG_GAIN, F.CMP_ATTR_ATTR_MAX]⟩
  | .CMP_OUT => ⟨0x1200028, 0, 256, 0x100, 1, 0, 8,
    [F.CMP_OUT_EV_REC_EN, F.CMP_OUT_EV_TROUGH, F.CMP_OUT_REG_REC_EN, F.CMP_OUT_REG_TROUGH, F.CMP_OUT_DEFECT_TROUGH, F.CMP_OUT_BILLET_TROUGH]⟩
  | .CMP_STATUS => ⟨0x1200030, 0, 256, 0x100, 1, 0, 4,
    [F.CMP_STATUS_LATE, F.CMP_STATUS_ABANDONED, F.CMP_STATUS_LAPPED, F.CMP_STATUS_DEFECT_LIMIT, F.CMP_STATUS_THR_CHANGED, F.CMP_STATUS_REG_CLAMPED, F.CMP_STATUS_RESOURCE_HELD]⟩
  | .CMP_COUNT => ⟨0x1200038, 0, 256, 0x100, 1, 0, 8,
    [F.CMP_COUNT_NOT_COMPARED, F.CMP_COUNT_COMPARED]⟩
  | .CMP_NEXT => ⟨0x1200040, 0, 256, 0x100, 1, 0, 8,
    [F.CMP_NEXT_BSEQ]⟩
  | .MODEL_CTL => ⟨0x1210000, 0, 1, 0, 1, 0, 4,
    [F.MODEL_CTL_OP, F.MODEL_CTL_PROFILE]⟩
  | .MODEL_ACTIVE => ⟨0x1210008, 0, 1, 0, 1, 0, 4,
    [F.MODEL_ACTIVE_BANK]⟩
  | .ANVIL_GCTL => ⟨0x1210010, 0, 1, 0, 1, 0, 4,
    [F.ANVIL_GCTL_CLEAR_COUNTS]⟩
  | .REG_SOURCE => ⟨0x1210100, 0, 64, 4, 1, 0, 4,
    [F.REG_SOURCE_HEARTH]⟩
  | .HAMMER_CFG => ⟨0x1400000, 0, 64, 0x10000, 1, 0, 8,
    [F.HAMMER_CFG_ENABLE, F.HAMMER_CFG_GROUP, F.HAMMER_CFG_INK, F.HAMMER_CFG_DOT_FORMAT, F.HAMMER_CFG_LEVEL_1BIT, F.HAMMER_CFG_BPN, F.HAMMER_CFG_DDR, F.HAMMER_CFG_WIDTH, F.HAMMER_CFG_LANE_MAP, F.HAMMER_CFG_ORDER, F.HAMMER_CFG_BIT_ORDER, F.HAMMER_CFG_SCLK_DIV, F.HAMMER_CFG_NOZZLES]⟩
  | .HAMMER_TIMING => ⟨0x1400008, 0, 64, 0x10000, 1, 0, 8,
    [F.HAMMER_TIMING_STB_TO_LAT, F.HAMMER_TIMING_LAT_TO_STB, F.HAMMER_TIMING_LAT_W, F.HAMMER_TIMING_LAT_SETUP, F.HAMMER_TIMING_STB_W]⟩
  | .HAMMER_OFFSET => ⟨0x1400010, 0, 64, 0x10000, 1, 0, 8,
    [F.HAMMER_OFFSET_REV_OFFSET, F.HAMMER_OFFSET_FWD_OFFSET]⟩
  | .HAMMER_GRID => ⟨0x1400018, 0, 64, 0x10000, 1, 0, 8,
    [F.HAMMER_GRID_GRID_BASE]⟩
  | .HAMMER_DOT => ⟨0x1400020, 0, 64, 0x10000, 1, 0, 8,
    [F.HAMMER_DOT_SHARE_MIB, F.HAMMER_DOT_RESERVE_LINES]⟩
  | .HAMMER_DOTGEOM => ⟨0x1400028, 0, 64, 0x10000, 1, 0, 8,
    [F.HAMMER_DOTGEOM_SLOTS, F.HAMMER_DOTGEOM_SLOT_BYTES]⟩
  | .HAMMER_DOTBASE => ⟨0x1400030, 0, 64, 0x10000, 1, 0, 8,
    [F.HAMMER_DOTBASE_VALUE]⟩
  | .HAMMER_FLOG => ⟨0x1400038, 0, 64, 0x10000, 1, 0, 8,
    [F.HAMMER_FLOG_VALUE]⟩
  | .HAMMER_WR => ⟨0x1400040, 0, 64, 0x10000, 1, 0, 8,
    [F.HAMMER_WR_INDEX]⟩
  | .HAMMER_NEXT => ⟨0x1400048, 0, 64, 0x10000, 1, 0, 8,
    [F.HAMMER_NEXT_INDEX]⟩
  | .HAMMER_REL => ⟨0x1400050, 0, 64, 0x10000, 1, 0, 8,
    [F.HAMMER_REL_INDEX]⟩
  | .HAMMER_LOG => ⟨0x1400058, 0, 64, 0x10000, 1, 0, 4,
    [F.HAMMER_LOG_LOG_EN, F.HAMMER_LOG_LOG_TROUGH]⟩
  | .HAMMER_STATE => ⟨0x1400060, 0, 64, 0x10000, 1, 0, 4,
    [F.HAMMER_STATE_ARMED, F.HAMMER_STATE_HOT, F.HAMMER_STATE_REFUSE, F.HAMMER_STATE_MODE]⟩
  | .HAMMER_STATUS => ⟨0x1400064, 0, 64, 0x10000, 1, 0, 4,
    [F.HAMMER_STATUS_CFG_LOCKED, F.HAMMER_STATUS_RESOURCE_HELD, F.HAMMER_STATUS_FORCED_RELEASE, F.HAMMER_STATUS_LATE, F.HAMMER_STATUS_SEQ_ERR, F.HAMMER_STATUS_UNDERRUN, F.HAMMER_STATUS_ARM_REFUSED, F.HAMMER_STATUS_HOT_SEEN]⟩
  | .HAMMER_FIRED => ⟨0x1400068, 0, 64, 0x10000, 1, 0, 8,
    [F.HAMMER_FIRED_FIRED]⟩
  | .HAMMER_CNT => ⟨0x1400070, 0, 64, 0x10000, 1, 0, 8,
    [F.HAMMER_CNT_UNDERRUNS, F.HAMMER_CNT_SEQ_ERRS, F.HAMMER_CNT_LATE_LINES, F.HAMMER_CNT_FORCED]⟩
  | .HAMMER_CNT2 => ⟨0x1400078, 0, 64, 0x10000, 1, 0, 8,
    [F.HAMMER_CNT2_HELD, F.HAMMER_CNT2_WRONG_DIR, F.HAMMER_CNT2_LATE]⟩
  | .HAMMER_CTL => ⟨0x1400080, 0, 64, 0x10000, 1, 0, 4,
    [F.HAMMER_CTL_FLUSH, F.HAMMER_CTL_CLEAR_COUNTS]⟩
  | .HGRP_CFG => ⟨0x1408000, 0, 8, 0x10000, 1, 0, 8,
    [F.HGRP_CFG_X0, F.HGRP_CFG_PASS_COLUMNS, F.HGRP_CFG_PASSES, F.HGRP_CFG_GEOMETRY]⟩
  | .HGRP_HOT => ⟨0x1408008, 0, 8, 0x10000, 1, 0, 8,
    [F.HGRP_HOT_HOT_FILTER_NS, F.HGRP_HOT_RESUME_DELAY_MS]⟩
  | .HGRP_PASS => ⟨0x1408010, 0, 8, 0x10000, 1, 0, 8,
    [F.HGRP_PASS_ENDED, F.HGRP_PASS_TABLE_IDX, F.HGRP_PASS_OWED_DIR, F.HGRP_PASS_OWED, F.HGRP_PASS_MODE]⟩
  | .HGRP_SWATH => ⟨0x1408018, 0, 8, 0x10000, 1, 0, 8,
    [F.HGRP_SWATH_SWATH_BASE]⟩
  | .HGRP_HOLD => ⟨0x1408020, 0, 8, 0x10000, 1, 0, 8,
    [F.HGRP_HOLD_HOLD_DT]⟩
  | .HGRP_STATUS => ⟨0x1408028, 0, 8, 0x10000, 1, 0, 4,
    [F.HGRP_STATUS_SHORT_PASS, F.HGRP_STATUS_RESUMED, F.HGRP_STATUS_SWATH_OWED, F.HGRP_STATUS_HOLD]⟩
  | .HGRP_CTL => ⟨0x1408030, 0, 8, 0x10000, 1, 0, 4,
    [F.HGRP_CTL_RESUME]⟩
  | .HGRP_FEED => ⟨0x1408100, 0, 8, 0x10000, 64, 8, 8,
    [F.HGRP_FEED_DIR, F.HGRP_FEED_FEED_LINES]⟩
  | .NCTX_CFG => ⟨0x1404000, 0, 64, 0x10000, 1, 0, 8,
    [F.NCTX_CFG_EV_EN, F.NCTX_CFG_TAKEOVER, F.NCTX_CFG_CHAIN_M1, F.NCTX_CFG_WEAK_BOOST, F.NCTX_CFG_MIN_FIRED, F.NCTX_CFG_DECAY_AT, F.NCTX_CFG_HOLDOFF]⟩
  | .NCTX_RATIO => ⟨0x1404008, 0, 64, 0x10000, 1, 0, 8,
    [F.NCTX_RATIO_CLEAR_RATIO, F.NCTX_RATIO_SUSPECT_RATIO, F.NCTX_RATIO_WEAK_RATIO, F.NCTX_RATIO_DEAD_RATIO]⟩
  | .NCTX_MAP => ⟨0x1404010, 0, 64, 0x10000, 1, 0, 8,
    [F.NCTX_MAP_COL_BASE, F.NCTX_MAP_DATA_SHIFT, F.NCTX_MAP_COL_STEP]⟩
  | .NCTX_LINEMAP => ⟨0x1404018, 0, 64, 0x10000, 1, 0, 8,
    [F.NCTX_LINEMAP_LINE_BASE, F.NCTX_LINEMAP_LINE_STEP]⟩
  | .NCTX_GEN => ⟨0x1404020, 0, 64, 0x10000, 1, 0, 4,
    [F.NCTX_GEN_CTX_GEN]⟩
  | .NCTX_COUNT => ⟨0x1404028, 0, 64, 0x10000, 1, 0, 8,
    [F.NCTX_COUNT_DONORS, F.NCTX_COUNT_WEAK, F.NCTX_COUNT_SUSPECT, F.NCTX_COUNT_UNCOMP]⟩
  | .NCTX_DROPS => ⟨0x1404030, 0, 64, 0x10000, 1, 0, 8,
    [F.NCTX_DROPS_CLIPPED, F.NCTX_DROPS_EXCL_LEVELS, F.NCTX_DROPS_UNCOMP_LEVELS]⟩
  | .NCTX_REC => ⟨0x1404038, 0, 64, 0x10000, 1, 0, 4,
    [F.NCTX_REC_REC_EN, F.NCTX_REC_TROUGH]⟩
  | .NCTX_HEAD => ⟨0x1404040, 0, 64, 0x10000, 1, 0, 4,
    [F.NCTX_HEAD_HEAD_TAG]⟩
  | .NCTX_STATUS => ⟨0x1404048, 0, 64, 0x10000, 1, 0, 4,
    [F.NCTX_STATUS_SNAP_MISMATCH, F.NCTX_STATUS_SNAP_DONE, F.NCTX_STATUS_UNCOMP_NEW, F.NCTX_STATUS_RESOURCE_HELD, F.NCTX_STATUS_CFG_LOCKED, F.NCTX_STATUS_BAD_WRITE]⟩
  | .NCTX_CTL => ⟨0x1404050, 0, 64, 0x10000, 1, 0, 4,
    [F.NCTX_CTL_SNAPSHOT, F.NCTX_CTL_CLEAR_COUNTS]⟩
  | .NCTX_EVCNT => ⟨0x1404058, 0, 64, 0x10000, 1, 0, 8,
    [F.NCTX_EVCNT_ACCEPTED, F.NCTX_EVCNT_DISCARDED]⟩
  | .NCTX_SNAP => ⟨0x140C000, 0, 1, 0x10000, 1, 0, 4,
    [F.NCTX_SNAP_PERIOD_MIN]⟩
  | .NCTX => ⟨0x1800000, 0, 64, 0x20000, 16384, 8, 8,
    [F.NCTX_EV_WEAK, F.NCTX_EV_MISS, F.NCTX_EV_FIRED, F.NCTX_CHG_TIME, F.NCTX_UNCOMP, F.NCTX_HOLD, F.NCTX_REQ_OPEN, F.NCTX_HMASK, F.NCTX_STATE]⟩
  | .BLW_STATUS => ⟨0x20000, 0, 1, 0, 1, 0, 4,
    [F.BLW_STATUS_RESOURCE_HELD, F.BLW_STATUS_CORNER_UNMET, F.BLW_STATUS_GUARDBAND, F.BLW_STATUS_CAP_UNMET, F.BLW_STATUS_CAP_RAISED, F.BLW_STATUS_REG_FAULT, F.BLW_STATUS_NO_PMBUS, F.BLW_STATUS_THERMAL, F.BLW_STATUS_STATE]⟩
  | .BLW_CAP => ⟨0x20008, 0, 1, 0, 1, 0, 4,
    [F.BLW_CAP_P_HYST, F.BLW_CAP_P_CAP]⟩
  | .BLW_THERM => ⟨0x2000C, 0, 1, 0, 1, 0, 4,
    [F.BLW_THERM_T_HYST, F.BLW_THERM_T_HOT]⟩
  | .BLW_POWER => ⟨0x20010, 0, 1, 0, 1, 0, 8,
    [F.BLW_POWER_P_FIXED, F.BLW_POWER_P_ALLOW, F.BLW_POWER_P_MEAS, F.BLW_POWER_P_AVG]⟩
  | .BLW_SCHED => ⟨0x20018, 0, 1, 0, 1, 0, 8,
    [F.BLW_SCHED_EPOCH, F.BLW_SCHED_N_RUN, F.BLW_SCHED_C2_FLOOR]⟩
  | .BLW_GAP => ⟨0x20020, 0, 1, 0, 1, 0, 8,
    [F.BLW_GAP_STAT_EN, F.BLW_GAP_STAT_TROUGH, F.BLW_GAP_COV_EN, F.BLW_GAP_COV_TROUGH]⟩
  | .BLW_CNT => ⟨0x20028, 0, 1, 0, 1, 0, 8,
    [F.BLW_CNT_ABANDONED, F.BLW_CNT_C2_DROPPED, F.BLW_CNT_GUARD_ACTIONS]⟩
  | .BLW_CTL => ⟨0x20030, 0, 1, 0, 1, 0, 4,
    [F.BLW_CTL_CLEAR_PEAKS, F.BLW_CTL_CLEAR_COUNTS]⟩
  | .BLW_EST => ⟨0x20038, 0, 1, 0, 1, 0, 8,
    [F.BLW_EST_P_TILE, F.BLW_EST_P_C2, F.BLW_EST_BACKLOG_US]⟩
  | .BLW_TEMP => ⟨0x20100, 0, 32, 4, 1, 0, 4,
    [F.BLW_TEMP_PEAK, F.BLW_TEMP_TEMP]⟩
  | .BLW_RAIL => ⟨0x20200, 0, 16, 0x10, 1, 0, 8,
    [F.BLW_RAIL_ADDR, F.BLW_RAIL_PAGE, F.BLW_RAIL_PEC, F.BLW_RAIL_CEIL_MV, F.BLW_RAIL_FLOOR_MV]⟩
  | .BLW_RAIL_STATE => ⟨0x20208, 0, 16, 0x10, 1, 0, 8,
    [F.BLW_RAIL_STATE_IOUT, F.BLW_RAIL_STATE_VOUT_MV, F.BLW_RAIL_STATE_SET_MV, F.BLW_RAIL_STATE_MODE_ERR, F.BLW_RAIL_STATE_FAULT, F.BLW_RAIL_STATE_GUARDBAND]⟩
  | .BLW_DOM => ⟨0x20400, 0, 64, 8, 1, 0, 8,
    [F.BLW_DOM_TOK_CORNER, F.BLW_DOM_TOK, F.BLW_DOM_RAIL, F.BLW_DOM_LEVEL]⟩
  | .BLW_WAKE => ⟨0x20600, 0, 6, 8, 1, 0, 8,
    [F.BLW_WAKE_IDLE_US, F.BLW_WAKE_WAKE_NS]⟩
  | .BLW_C2 => ⟨0x20800, 0, 256, 8, 1, 0, 8,
    [F.BLW_C2_WAIT_MS, F.BLW_C2_PRIO, F.BLW_C2_MAX_WAIT_MS]⟩
  | .TRGH_CFG => ⟨0x2000000, 0, 1536, 0x800, 1, 0, 8,
    [F.TRGH_CFG_ENABLE, F.TRGH_CFG_MODE, F.TRGH_CFG_PRIORITY, F.TRGH_CFG_READER, F.TRGH_CFG_BASE, F.TRGH_CFG_SIZE]⟩
  | .TRGH_WM => ⟨0x2000008, 0, 1536, 0x800, 1, 0, 8,
    [F.TRGH_WM_WM_EN, F.TRGH_WM_LOW_WM, F.TRGH_WM_HIGH_WM]⟩
  | .TRGH_DEPTH => ⟨0x2000010, 0, 1536, 0x800, 1, 0, 8,
    [F.TRGH_DEPTH_COUNT, F.TRGH_DEPTH_DEPTH]⟩
  | .TRGH_PEAK => ⟨0x2000018, 0, 1536, 0x800, 1, 0, 4,
    [F.TRGH_PEAK_PEAK]⟩
  | .TRGH_STATUS => ⟨0x2000020, 0, 1536, 0x800, 1, 0, 4,
    [F.TRGH_STATUS_ABOVE, F.TRGH_STATUS_FLUSH_PENDING, F.TRGH_STATUS_BAD_WRITE, F.TRGH_STATUS_CFG_LOCKED, F.TRGH_STATUS_TAG_ERR, F.TRGH_STATUS_POISON, F.TRGH_STATUS_MARK_REFUSED, F.TRGH_STATUS_OVERRUN, F.TRGH_STATUS_FULL]⟩
  | .TRGH_CNT => ⟨0x2000028, 0, 1536, 0x800, 1, 0, 8,
    [F.TRGH_CNT_POPPED, F.TRGH_CNT_PUSHED]⟩
  | .TRGH_CNT2 => ⟨0x2000030, 0, 1536, 0x800, 1, 0, 8,
    [F.TRGH_CNT2_DROPPED, F.TRGH_CNT2_FLUSHED, F.TRGH_CNT2_POISONED]⟩
  | .TRGH_CTL => ⟨0x2000038, 0, 1536, 0x800, 1, 0, 4,
    [F.TRGH_CTL_INJECT, F.TRGH_CTL_MARK, F.TRGH_CTL_FLUSH, F.TRGH_CTL_CLEAR_COUNTS]⟩
  | .TRGH_MARKSEQ => ⟨0x2000040, 0, 1536, 0x800, 1, 0, 4,
    [F.TRGH_MARKSEQ_MARK_SEQ]⟩
  | .TRGH_POOL => ⟨0x2300000, 0, 1, 0, 1, 0, 8,
    [F.TRGH_POOL_FREE_UNITS, F.TRGH_POOL_USED_UNITS]⟩
  | .TONGS_CFG => ⟨0x2400000, 0, 1152, 0x800, 1, 0, 8,
    [F.TONGS_CFG_ENABLE, F.TONGS_CFG_GANGED, F.TONGS_CFG_NS_EN, F.TONGS_CFG_RATE_EN, F.TONGS_CFG_PACE, F.TONGS_CFG_ROLE, F.TONGS_CFG_CLOSE_US, F.TONGS_CFG_MAX_READS_M1]⟩
  | .TONGS_HEAD => ⟨0x2400008, 0, 1152, 0x800, 1, 0, 8,
    [F.TONGS_HEAD_ADDR]⟩
  | .TONGS_DOORBELL => ⟨0x2400010, 0, 1152, 0x800, 1, 0, 4,
    [F.TONGS_DOORBELL_VALUE]⟩
  | .TONGS_CQ_BASE => ⟨0x2400018, 0, 1152, 0x800, 1, 0, 8,
    [F.TONGS_CQ_BASE_ADDR]⟩
  | .TONGS_CQ_CFG => ⟨0x2400020, 0, 1152, 0x800, 1, 0, 4,
    [F.TONGS_CQ_CFG_PHASE, F.TONGS_CQ_CFG_LOG2, F.TONGS_CQ_CFG_WR]⟩
  | .TONGS_CQ_RD => ⟨0x2400024, 0, 1152, 0x800, 1, 0, 4,
    [F.TONGS_CQ_RD_RD]⟩
  | .TONGS_PACE => ⟨0x2400028, 0, 1152, 0x800, 1, 0, 8,
    [F.TONGS_PACE_RATE, F.TONGS_PACE_BURST, F.TONGS_PACE_HOLD_US]⟩
  | .TONGS_STATE => ⟨0x2400030, 0, 1152, 0x800, 1, 0, 8,
    [F.TONGS_STATE_CUR_DESC, F.TONGS_STATE_REFETCH, F.TONGS_STATE_STATE]⟩
  | .TONGS_STATUS => ⟨0x2400038, 0, 1152, 0x800, 1, 0, 4,
    [F.TONGS_STATUS_HALT_CODE, F.TONGS_STATUS_CFG_LOCKED, F.TONGS_STATUS_LATE, F.TONGS_STATUS_POISON, F.TONGS_STATUS_LAPPED, F.TONGS_STATUS_TRUNCATED, F.TONGS_STATUS_DROP, F.TONGS_STATUS_CQ_WAIT, F.TONGS_STATUS_HALTED]⟩
  | .TONGS_CNT => ⟨0x2400040, 0, 1152, 0x800, 1, 0, 8,
    [F.TONGS_CNT_CLOSED, F.TONGS_CNT_KBYTES]⟩
  | .TONGS_POS => ⟨0x2400048, 0, 1152, 0x800, 1, 0, 8,
    [F.TONGS_POS_POSITION]⟩
  | .TONGS_CTL => ⟨0x2400050, 0, 1152, 0x800, 1, 0, 4,
    [F.TONGS_CTL_CLEAR_COUNTS]⟩
  | .TONGS_TAGS => ⟨0x27F0000, 0, 1, 0, 1, 0, 4,
    [F.TONGS_TAGS_PEAK, F.TONGS_TAGS_IN_USE]⟩
  | .HEP_LINK => ⟨0xD0000, 0, 1, 0, 1, 0, 4,
    [F.HEP_LINK_L0P, F.HEP_LINK_FLIT, F.HEP_LINK_DL_ACTIVE, F.HEP_LINK_SPEED, F.HEP_LINK_WIDTH, F.HEP_LINK_ACTIVE_WIDTH]⟩
  | .HEP_LINK_CFG => ⟨0xD0004, 0, 1, 0, 1, 0, 4,
    [F.HEP_LINK_CFG_MAX_WIDTH, F.HEP_LINK_CFG_MAX_SPEED]⟩
  | .HEP_STATUS => ⟨0xD0008, 0, 1, 0, 1, 0, 4,
    [F.HEP_STATUS_BAR4_BAD, F.HEP_STATUS_HOST_RESET, F.HEP_STATUS_QUENCH_ENTERED, F.HEP_STATUS_QUENCH_RELEASED, F.HEP_STATUS_RESOURCE_HELD, F.HEP_STATUS_LATE_CPL, F.HEP_STATUS_CTO, F.HEP_STATUS_APER_REFUSED, F.HEP_STATUS_BAR0_BAD]⟩
  | .HEP_TAGS => ⟨0xD0010, 0, 1, 0, 1, 0, 4,
    [F.HEP_TAGS_QUARANTINED, F.HEP_TAGS_LIMIT]⟩
  | .HEP_CPL => ⟨0xD0018, 0, 1, 0, 1, 0, 8,
    [F.HEP_CPL_CTO, F.HEP_CPL_LATE_CPL, F.HEP_CPL_QUAR_EXPIRED, F.HEP_CPL_UNEXPECTED]⟩
  | .HEP_QUENCH => ⟨0xD0020, 0, 1, 0, 1, 0, 8,
    [F.HEP_QUENCH_REQUEST_ID, F.HEP_QUENCH_SEEN, F.HEP_QUENCH_CAUSE, F.HEP_QUENCH_RELEASE_PENDING, F.HEP_QUENCH_QUENCHED]⟩
  | .HEP_QUENCH_DT => ⟨0xD0028, 0, 1, 0, 1, 0, 8,
    [F.HEP_QUENCH_DT_ENTRY_DT]⟩
  | .HEP_QUENCH_CTL => ⟨0xD0030, 0, 1, 0, 1, 0, 4,
    [F.HEP_QUENCH_CTL_KEY, F.HEP_QUENCH_CTL_ASK, F.HEP_QUENCH_CTL_CLEAR_HOST, F.HEP_QUENCH_CTL_CLEAR_CTO, F.HEP_QUENCH_CTL_ENTER]⟩
  | .HEP_QUENCH_CFG => ⟨0xD0034, 0, 1, 0, 1, 0, 4,
    [F.HEP_QUENCH_CFG_CTO_LIMIT]⟩
  | .HEP_QCNT => ⟨0xD0038, 0, 1, 0, 1, 0, 8,
    [F.HEP_QCNT_ENTRIES, F.HEP_QCNT_QDROP_WRITES, F.HEP_QCNT_QDROP_BAR2]⟩
  | .HEP_RESET => ⟨0xD0040, 0, 1, 0, 1, 0, 4,
    [F.HEP_RESET_FLRS, F.HEP_RESET_HOT_RESETS, F.HEP_RESET_PERSTS, F.HEP_RESET_LAST, F.HEP_RESET_PERST_SCOPE]⟩
  | .HEP_LPM => ⟨0xD0048, 0, 1, 0, 1, 0, 4,
    [F.HEP_LPM_LTR_US, F.HEP_LPM_L1_OK, F.HEP_LPM_L0P_OK]⟩
  | .HEP_CTL => ⟨0xD0060, 0, 1, 0, 1, 0, 4,
    [F.HEP_CTL_CLEAR_COUNTS]⟩
  | .HEP_QREQ => ⟨0xD0080, 0, 4, 8, 1, 0, 8,
    [F.HEP_QREQ_WORD]⟩
  | .HEP_APER_ACT => ⟨0xD1000, 0, 16, 0x20, 1, 0, 8,
    [F.HEP_APER_ACT_ENABLE, F.HEP_APER_ACT_WR_EN, F.HEP_APER_ACT_RD_EN, F.HEP_APER_ACT_SIZE_MIB, F.HEP_APER_ACT_BASE_MIB]⟩
  | .HEP_APER_SHD => ⟨0xD1008, 0, 16, 0x20, 1, 0, 8,
    [F.HEP_APER_SHD_ENABLE, F.HEP_APER_SHD_WR_EN, F.HEP_APER_SHD_RD_EN, F.HEP_APER_SHD_SIZE_MIB, F.HEP_APER_SHD_BASE_MIB]⟩
  | .HEP_APER_CTL => ⟨0xD1010, 0, 16, 0x20, 1, 0, 4,
    [F.HEP_APER_CTL_COMMIT]⟩
  | .HEP_APER_STAT => ⟨0xD1018, 0, 16, 0x20, 1, 0, 8,
    [F.HEP_APER_STAT_COMMIT_GEN, F.HEP_APER_STAT_INFLIGHT_OLD, F.HEP_APER_STAT_RESULT]⟩
  | .HEP_MSIX_SRC => ⟨0xD4000, 0, 2048, 4, 1, 0, 4,
    [F.HEP_MSIX_SRC_ENABLE, F.HEP_MSIX_SRC_MODERATE_US, F.HEP_MSIX_SRC_CHANNEL]⟩
  | .STK_STATUS => ⟨0x80000, 0, 1, 0, 1, 0, 4,
    [F.STK_STATUS_LOOP_ANY, F.STK_STATUS_CYCLE_REFUSED, F.STK_STATUS_BAD_WRITE, F.STK_STATUS_RESOURCE_HELD]⟩
  | .STK_GROUP => ⟨0x80008, 0, 1, 0, 1, 0, 4,
    [F.STK_GROUP_ON]⟩
  | .STK_SWEVT => ⟨0x80010, 0, 1, 0, 1, 0, 4,
    [F.STK_SWEVT_CHANNEL]⟩
  | .STK_TASK_SW => ⟨0x80014, 0, 1, 0, 1, 0, 4,
    [F.STK_TASK_SW_TASK]⟩
  | .STK_CTL => ⟨0x80018, 0, 1, 0, 1, 0, 4,
    [F.STK_CTL_CLEAR_COUNTS]⟩
  | .STK_WATCH => ⟨0x80100, 0, 16, 4, 1, 0, 4,
    [F.STK_WATCH_FLAG]⟩
  | .STK_CH_CFG => ⟨0x81000, 0, 512, 0x10, 1, 0, 8,
    [F.STK_CH_CFG_ENABLE, F.STK_CH_CFG_KIND, F.STK_CH_CFG_EDGE, F.STK_CH_CFG_GROUP, F.STK_CH_CFG_SOURCE]⟩
  | .STK_CH_STAT => ⟨0x81008, 0, 512, 0x10, 1, 0, 8,
    [F.STK_CH_STAT_LOOP, F.STK_CH_STAT_VALUE, F.STK_CH_STAT_MERGED, F.STK_CH_STAT_EVENTS]⟩
  | .STK_CH_LAST => ⟨0x84000, 0, 512, 8, 1, 0, 8,
    [F.STK_CH_LAST_DT]⟩
  | .STK_CELL => ⟨0x86000, 0, 256, 0x10, 1, 0, 8,
    [F.STK_CELL_TRUTH, F.STK_CELL_SEL3, F.STK_CELL_SEL2, F.STK_CELL_SEL1, F.STK_CELL_SEL0, F.STK_CELL_REG, F.STK_CELL_INIT, F.STK_CELL_FILT_MODE]⟩
  | .STK_CELL_F => ⟨0x86008, 0, 256, 0x10, 1, 0, 4,
    [F.STK_CELL_F_OUT, F.STK_CELL_F_FILT_N]⟩
  | .STK_TASK => ⟨0x88000, 0, 768, 0x10, 1, 0, 8,
    [F.STK_TASK_EN_A, F.STK_TASK_EN_B, F.STK_TASK_MODE, F.STK_TASK_CH_B, F.STK_TASK_CH_A]⟩
  | .STK_TASK_STAT => ⟨0x88008, 0, 768, 0x10, 1, 0, 8,
    [F.STK_TASK_STAT_OVERRUN, F.STK_TASK_STAT_RESOURCE_HELD, F.STK_TASK_STAT_OVERRUNS, F.STK_TASK_STAT_COINCIDE]⟩
  | .STK_CNT => ⟨0x8C000, 0, 64, 0x10, 1, 0, 8,
    [F.STK_CNT_COUNT]⟩
  | .STK_CNT_CMP => ⟨0x8C008, 0, 64, 0x10, 1, 0, 8,
    [F.STK_CNT_CMP_AUTO_CLEAR, F.STK_CNT_CMP_COMPARE]⟩
  | .STK_CAP => ⟨0x8D000, 0, 64, 0x10, 1, 0, 8,
    [F.STK_CAP_DT]⟩
  | .STK_CAP_STAT => ⟨0x8D008, 0, 64, 0x10, 1, 0, 4,
    [F.STK_CAP_STAT_FULL, F.STK_CAP_STAT_FROM_B, F.STK_CAP_STAT_FROM_SW]⟩
  | .STK_GPIO => ⟨0x8E000, 0, 32, 0x10, 1, 0, 8,
    [F.STK_GPIO_DIR, F.STK_GPIO_POL, F.STK_GPIO_PULSE, F.STK_GPIO_CHANNEL, F.STK_GPIO_WIDTH_NS, F.STK_GPIO_FILTER_NS]⟩
  | .STK_GPIO_STAT => ⟨0x8E008, 0, 32, 0x10, 1, 0, 4,
    [F.STK_GPIO_STAT_IN, F.STK_GPIO_STAT_DRIVING, F.STK_GPIO_STAT_RESOURCE_HELD, F.STK_GPIO_STAT_OVERRUN]⟩
  | .SMB_T_CFG => ⟨0xC0000, 0, 1, 0, 1, 0, 4,
    [F.SMB_T_CFG_PEC_REQ, F.SMB_T_CFG_CLEAR_COUNTS, F.SMB_T_CFG_ADDR]⟩
  | .SMB_T_KEY => ⟨0xC0004, 0, 1, 0, 1, 0, 4,
    [F.SMB_T_KEY_KEY]⟩
  | .SMB_T_STATUS => ⟨0xC0008, 0, 1, 0, 1, 0, 4,
    [F.SMB_T_STATUS_WR_BUSY, F.SMB_T_STATUS_PRIV, F.SMB_T_STATUS_LOCKOUT, F.SMB_T_STATUS_KEY_FAIL, F.SMB_T_STATUS_TIMEOUT, F.SMB_T_STATUS_PEC_ERR, F.SMB_T_STATUS_PROTO_ERR, F.SMB_T_STATUS_BAD_CMD]⟩
  | .SMB_T_CNT => ⟨0xC0010, 0, 1, 0, 1, 0, 8,
    [F.SMB_T_CNT_PROTO_ERRS, F.SMB_T_CNT_PEC_ERRS, F.SMB_T_CNT_WAKE_NACKS, F.SMB_T_CNT_KEY_FAILS]⟩
  | .SMB_ALERT => ⟨0xC0018, 0, 1, 0, 1, 0, 4,
    [F.SMB_ALERT_ASSERTED, F.SMB_ALERT_EN, F.SMB_ALERT_SRC]⟩
  | .SMB_T_TIMING => ⟨0xC001C, 0, 1, 0, 1, 0, 4,
    [F.SMB_T_TIMING_SESSION_S, F.SMB_T_TIMING_HOLD_MS]⟩
  | .SMBC_CFG => ⟨0xC1000, 0, 2, 0x100, 1, 0, 4,
    [F.SMBC_CFG_ENABLE, F.SMBC_CFG_RETRIES, F.SMBC_CFG_SPEED, F.SMBC_CFG_CLEAR_COUNTS, F.SMBC_CFG_DAT_LOW_MS, F.SMBC_CFG_RETRY_GAP_US]⟩
  | .SMBC_CMD => ⟨0xC1008, 0, 2, 0x100, 1, 0, 8,
    [F.SMBC_CMD_PEC, F.SMBC_CMD_RLEN, F.SMBC_CMD_WLEN, F.SMBC_CMD_CODE, F.SMBC_CMD_ADDR, F.SMBC_CMD_OP]⟩
  | .SMBC_RSLT => ⟨0xC1010, 0, 2, 0x100, 1, 0, 4,
    [F.SMBC_RSLT_BUSY, F.SMBC_RSLT_DONE, F.SMBC_RSLT_ATTEMPTS, F.SMBC_RSLT_RLEN, F.SMBC_RSLT_STATUS]⟩
  | .SMBC_CNT => ⟨0xC1018, 0, 2, 0x100, 1, 0, 8,
    [F.SMBC_CNT_ARB_LOST, F.SMBC_CNT_ADDR_NACKS, F.SMBC_CNT_TIMEOUTS, F.SMBC_CNT_CLEARS]⟩
  | .WELD_STATUS => ⟨0x30000, 0, 1, 0, 1, 0, 4,
    [F.WELD_STATUS_FATAL_LOGGED, F.WELD_STATUS_LOG_OVERFLOW, F.WELD_STATUS_JOURNAL_FAULT, F.WELD_STATUS_RESOURCE_HELD, F.WELD_STATUS_SPARE_EXHAUSTED, F.WELD_STATUS_READ_ONLY]⟩
  | .WELD_OUT => ⟨0x30008, 0, 1, 0, 1, 0, 8,
    [F.WELD_OUT_ERR_EN, F.WELD_OUT_ERR_TROUGH, F.WELD_OUT_SUB_EN, F.WELD_OUT_SUB_TROUGH]⟩
  | .WELD_LIMITS => ⟨0x30010, 0, 1, 0, 1, 0, 8,
    [F.WELD_LIMITS_CE_LIMIT, F.WELD_LIMITS_CE_WINDOW_S, F.WELD_LIMITS_SPARE_TEST_MIN, F.WELD_LIMITS_WEAR_MIN]⟩
  | .WELD_CTL => ⟨0x30018, 0, 1, 0, 1, 0, 4,
    [F.WELD_CTL_OP, F.WELD_CTL_CLASS, F.WELD_CTL_INDEX]⟩
  | .WELD_MEM => ⟨0x30020, 0, 1, 0, 1, 0, 4,
    [F.WELD_MEM_HBM_ROW_CE, F.WELD_MEM_HBM_LANE_ERR]⟩
  | .WELD_HCL => ⟨0x30100, 0, 8, 0x10, 1, 0, 8,
    [F.WELD_HCL_SUB_STATE, F.WELD_HCL_ATTEMPT, F.WELD_HCL_FROM_K, F.WELD_HCL_SPARE_K, F.WELD_HCL_FAILED]⟩
  | .WELD_HSUSP => ⟨0x30108, 0, 8, 0x10, 1, 0, 8,
    [F.WELD_HSUSP_SUSPECT]⟩
  | .WELD_ACL => ⟨0x30180, 0, 8, 0x10, 1, 0, 8,
    [F.WELD_ACL_SUB_STATE, F.WELD_ACL_ATTEMPT, F.WELD_ACL_FROM_K, F.WELD_ACL_SPARE_K, F.WELD_ACL_FAILED]⟩
  | .WELD_ASUSP => ⟨0x30188, 0, 8, 0x10, 1, 0, 8,
    [F.WELD_ASUSP_SUSPECT]⟩
  | .WELD_ERR_CFG => ⟨0x30400, 0, 64, 4, 1, 0, 4,
    [F.WELD_ERR_CFG_JOURNAL, F.WELD_ERR_CFG_ROUTE, F.WELD_ERR_CFG_MASK, F.WELD_ERR_CFG_SEVERITY]⟩
  | .WELD_ERR_CNT => ⟨0x30500, 0, 64, 4, 1, 0, 4,
    [F.WELD_ERR_CNT_COUNT]⟩
  | .WELD_LOG_PTR => ⟨0x30600, 0, 1, 0, 1, 0, 8,
    [F.WELD_LOG_PTR_TOTAL, F.WELD_LOG_PTR_OVERFLOWS, F.WELD_LOG_PTR_RD, F.WELD_LOG_PTR_WR]⟩
  | .WELD_FIRST_FATAL => ⟨0x30700, 0, 8, 8, 1, 0, 8,
    [F.WELD_FIRST_FATAL_WORD]⟩
  | .WELD_JRNL => ⟨0x30800, 0, 1, 0, 1, 0, 8,
    [F.WELD_JRNL_SECTORS, F.WELD_JRNL_ERASED, F.WELD_JRNL_USED, F.WELD_JRNL_RETIRED, F.WELD_JRNL_RECLAIMS]⟩
  | .WELD_JSEQ => ⟨0x30808, 0, 1, 0, 1, 0, 8,
    [F.WELD_JSEQ_SEQ]⟩
  | .WELD_JERR => ⟨0x30810, 0, 1, 0, 1, 0, 8,
    [F.WELD_JERR_DISCARDED, F.WELD_JERR_UNCOMMITTED]⟩
  | .WELD_WEAR => ⟨0x30A00, 0, 8, 8, 1, 0, 8,
    [F.WELD_WEAR_VALUE]⟩
  | .WELD_HOST_CTL => ⟨0x30C00, 0, 1, 0, 1, 0, 4,
    [F.WELD_HOST_CTL_WRITE, F.WELD_HOST_CTL_BUSY, F.WELD_HOST_CTL_DONE, F.WELD_HOST_CTL_FAIL, F.WELD_HOST_CTL_LEN, F.WELD_HOST_CTL_TAG]⟩
  | .WELD_HOST_FIND => ⟨0x30C08, 0, 1, 0, 1, 0, 8,
    [F.WELD_HOST_FIND_ADDR, F.WELD_HOST_FIND_TAG]⟩
  | .ID_DEVICE => ⟨0, 0, 1, 0, 1, 0, 8,
    [F.ID_DEVICE_FORMAT, F.ID_DEVICE_MFR_CODE, F.ID_DEVICE_REVISION, F.ID_DEVICE_DEVICE_ID, F.ID_DEVICE_VENDOR_ID]⟩
  | .ID_SERIAL => ⟨8, 0, 1, 0, 1, 0, 8,
    [F.ID_SERIAL_SERIAL]⟩
  | .ID_UNITS => ⟨0x10, 0, 1, 0, 1, 0, 8,
    [F.ID_UNITS_TROUGHS, F.ID_UNITS_CHANNELS, F.ID_UNITS_TILES, F.ID_UNITS_HEARTHS, F.ID_UNITS_LANE_SLICES]⟩
  | .ID_MEM => ⟨0x18, 0, 1, 0, 1, 0, 8,
    [F.ID_MEM_TROUGH_POOL_KIB, F.ID_MEM_DOT_STORE_GIB, F.ID_MEM_STACK_GIB, F.ID_MEM_HBM_STACKS]⟩
  | .ID_ROM => ⟨0x20, 0, 1, 0, 1, 0, 4,
    [F.ID_ROM_IMAGE_FORMAT, F.ID_ROM_ROM_VERSION]⟩
  | .GLB_STATUS => ⟨0x40, 0, 1, 0, 1, 0, 4,
    [F.GLB_STATUS_STALE_WRITE, F.GLB_STATUS_JOURNAL_RO, F.GLB_STATUS_DECIDE_OPEN, F.GLB_STATUS_LOOP_ANY, F.GLB_STATUS_FATAL_LOGGED, F.GLB_STATUS_THERMAL, F.GLB_STATUS_QUENCHED, F.GLB_STATUS_HOLD, F.GLB_STATUS_READY]⟩
  | .GLB_BOARD => ⟨0x48, 0, 1, 0, 1, 0, 8,
    [F.GLB_BOARD_BOARD_TAG]⟩
  | .GLB_SCRATCH => ⟨0x80, 0, 4, 8, 1, 0, 8,
    [F.GLB_SCRATCH_VALUE]⟩
  | .GLB_SEM => ⟨0xC0, 0, 8, 8, 1, 0, 8,
    [F.GLB_SEM_TOKEN, F.GLB_SEM_RELEASE, F.GLB_SEM_OWNER]⟩

/-- Registers, part 0. -/
def R.part0 : List R := [.DECIDE_REPLY, .DECIDE_STATUS, .KINDLE_STATUS, .KINDLE_SEQ, .KINDLE_TIME, .KINDLE_REJECT, .KINDLE_CTL, .FUNC_MODE, .FUNC_TIMEOUT, .RESOURCE_CLAIM, .RESOURCE_RESULT, .FLASH_ADDR, .FLASH_OP, .FLASH_STATUS, .TB_STATUS, .DT_NOW, .ENC_CFG, .ENC_COUNT, .ENC_ZPOS, .ENC_ZSTAMP, .ENC_STATUS, .AXIS_CFG, .AXIS_STALL, .AXIS_POS, .AXIS_RAW, .AXIS_HWM, .AXIS_PERIOD, .AXIS_STATUS, .AXIS_CTL, .AXIS_RED_OFFSET]
/-- Registers, part 1. -/
def R.part1 : List R := [.CTRIG_CFG, .CTRIG_DELAY, .CTRIG_START, .CTRIG_PITCH, .CTRIG_FRAME, .CTRIG_MINPER, .CTRIG_QUOTA, .CTRIG_TIMEOUT, .CTRIG_COUNT, .CTRIG_CTL, .CTRIG_STATUS, .PTRIG_CFG, .PTRIG_DELAY, .PTRIG_START, .PTRIG_PITCH, .PTRIG_PULSE, .PTRIG_MINPER, .PTRIG_COUNT, .PTRIG_CTL, .PTRIG_STATUS, .FIRE_CFG, .FIRE_DELAY_NEXT, .FIRE_START, .FIRE_PITCH, .FIRE_MINPER, .FIRE_DELAY_NOW, .FIRE_COUNT, .FIRE_CTL, .FIRE_STATUS, .LEDGER_STATUS]
/-- Registers, part 2. -/
def R.part2 : List R := [.LEDGER_PEAK, .LEDGER_SEL, .LEDGER_DATA, .LANE_CFG, .LANE_STATE, .LANE_EQ, .LANE_FOM, .LANE_EYE, .LANE_ERRCNT, .LANE_EVTCNT, .LANE_STATUS, .LANE_CTL, .LANE_TEST, .LANE_CHK_BITS, .LANE_CHK_ERRS, .LANE_INJECT, .LANE_INJECTED, .LGRP_MAP_LO, .LGRP_MAP_HI, .LGRP_SPARE, .LGRP_STATUS, .LGRP_CTL, .COBEX_CFG, .COBEX_TIMING, .COBEX_EVT, .COBEX_STATE, .COBEX_STATUS, .COBEX_PKTCNT, .COBEX_ERRCNT, .COBEX_CTL]
/-- Registers, part 3. -/
def R.part3 : List R := [.COBEX_CAPS, .COBEX_CMD, .COBEX_RSP, .HEARTH_ID, .HEARTH_CFG, .HEARTH_ROWS, .HEARTH_BAND, .HEARTH_Y_ORIGIN, .HEARTH_Y_SCALE, .HEARTH_ROW_GEOM, .HEARTH_XRES, .HEARTH_YRES, .HEARTH_TBL_BASE, .HEARTH_TBL_CTL, .HEARTH_TAG, .HEARTH_RING, .HEARTH_SCFG, .HEARTH_SREGION, .HEARTH_LSEQ, .HEARTH_SGEOM, .HEARTH_MARK_POS, .HEARTH_MARK_STATE, .HEARTH_MARK_CTL, .HEARTH_REWIND, .HEARTH_STATUS, .HEARTH_FRAMES, .HEARTH_ERRS, .HEARTH_LINECNT, .HEARTH_SAT, .HEARTH_DROP]
/-- Registers, part 4. -/
def R.part4 : List R := [.HEARTH_CTL, .HEARTH_EXP, .HEARTH_EXP_PEND, .HEARTH_EXP_SET, .HEARTH_EXP_INIT, .HEARTH_AE, .HEARTH_AE_LIM, .HEARTH_STAT_CFG, .HEARTH_STAT_ROI, .HEARTH_EXP_STATUS, .HEARTH_EXP_CNT, .ANVIL_ID, .ANVIL_STATE, .ANVIL_CNT, .CMP_CFG, .CMP_THR, .CMP_SCALE, .CMP_CELL, .CMP_ATTR, .CMP_OUT, .CMP_STATUS, .CMP_COUNT, .CMP_NEXT, .MODEL_CTL, .MODEL_ACTIVE, .ANVIL_GCTL, .REG_SOURCE, .HAMMER_CFG, .HAMMER_TIMING, .HAMMER_OFFSET]
/-- Registers, part 5. -/
def R.part5 : List R := [.HAMMER_GRID, .HAMMER_DOT, .HAMMER_DOTGEOM, .HAMMER_DOTBASE, .HAMMER_FLOG, .HAMMER_WR, .HAMMER_NEXT, .HAMMER_REL, .HAMMER_LOG, .HAMMER_STATE, .HAMMER_STATUS, .HAMMER_FIRED, .HAMMER_CNT, .HAMMER_CNT2, .HAMMER_CTL, .HGRP_CFG, .HGRP_HOT, .HGRP_PASS, .HGRP_SWATH, .HGRP_HOLD, .HGRP_STATUS, .HGRP_CTL, .HGRP_FEED, .NCTX_CFG, .NCTX_RATIO, .NCTX_MAP, .NCTX_LINEMAP, .NCTX_GEN, .NCTX_COUNT, .NCTX_DROPS]
/-- Registers, part 6. -/
def R.part6 : List R := [.NCTX_REC, .NCTX_HEAD, .NCTX_STATUS, .NCTX_CTL, .NCTX_EVCNT, .NCTX_SNAP, .NCTX, .BLW_STATUS, .BLW_CAP, .BLW_THERM, .BLW_POWER, .BLW_SCHED, .BLW_GAP, .BLW_CNT, .BLW_CTL, .BLW_EST, .BLW_TEMP, .BLW_RAIL, .BLW_RAIL_STATE, .BLW_DOM, .BLW_WAKE, .BLW_C2, .TRGH_CFG, .TRGH_WM, .TRGH_DEPTH, .TRGH_PEAK, .TRGH_STATUS, .TRGH_CNT, .TRGH_CNT2, .TRGH_CTL]
/-- Registers, part 7. -/
def R.part7 : List R := [.TRGH_MARKSEQ, .TRGH_POOL, .TONGS_CFG, .TONGS_HEAD, .TONGS_DOORBELL, .TONGS_CQ_BASE, .TONGS_CQ_CFG, .TONGS_CQ_RD, .TONGS_PACE, .TONGS_STATE, .TONGS_STATUS, .TONGS_CNT, .TONGS_POS, .TONGS_CTL, .TONGS_TAGS, .HEP_LINK, .HEP_LINK_CFG, .HEP_STATUS, .HEP_TAGS, .HEP_CPL, .HEP_QUENCH, .HEP_QUENCH_DT, .HEP_QUENCH_CTL, .HEP_QUENCH_CFG, .HEP_QCNT, .HEP_RESET, .HEP_LPM, .HEP_CTL, .HEP_QREQ, .HEP_APER_ACT]
/-- Registers, part 8. -/
def R.part8 : List R := [.HEP_APER_SHD, .HEP_APER_CTL, .HEP_APER_STAT, .HEP_MSIX_SRC, .STK_STATUS, .STK_GROUP, .STK_SWEVT, .STK_TASK_SW, .STK_CTL, .STK_WATCH, .STK_CH_CFG, .STK_CH_STAT, .STK_CH_LAST, .STK_CELL, .STK_CELL_F, .STK_TASK, .STK_TASK_STAT, .STK_CNT, .STK_CNT_CMP, .STK_CAP, .STK_CAP_STAT, .STK_GPIO, .STK_GPIO_STAT, .SMB_T_CFG, .SMB_T_KEY, .SMB_T_STATUS, .SMB_T_CNT, .SMB_ALERT, .SMB_T_TIMING, .SMBC_CFG]
/-- Registers, part 9. -/
def R.part9 : List R := [.SMBC_CMD, .SMBC_RSLT, .SMBC_CNT, .WELD_STATUS, .WELD_OUT, .WELD_LIMITS, .WELD_CTL, .WELD_MEM, .WELD_HCL, .WELD_HSUSP, .WELD_ACL, .WELD_ASUSP, .WELD_ERR_CFG, .WELD_ERR_CNT, .WELD_LOG_PTR, .WELD_FIRST_FATAL, .WELD_JRNL, .WELD_JSEQ, .WELD_JERR, .WELD_WEAR, .WELD_HOST_CTL, .WELD_HOST_FIND, .ID_DEVICE, .ID_SERIAL, .ID_UNITS, .ID_MEM, .ID_ROM, .GLB_STATUS, .GLB_BOARD, .GLB_SCRATCH]
/-- Registers, part 10. -/
def R.part10 : List R := [.GLB_SEM]

/-- Every register, in the order of the spec's chapters. -/
def R.all : List R := R.part0 ++ R.part1 ++ R.part2 ++ R.part3 ++ R.part4 ++ R.part5 ++ R.part6 ++ R.part7 ++ R.part8 ++ R.part9 ++ R.part10

end Sys2Proof.Machine
end

