-- ==== Sys2Proof/Machine/Assoc.lean ====
section
/-!
DEFINITION. Sparse stores: lists of (key, value) pairs in one canonical form, keys strictly rising and no
entry equal to what an unlisted key reads as.
-/

namespace Sys2Proof.Machine

/-- A sparse store with natural-number keys. -/
abbrev Assoc (α : Type) := List (Nat × α)

namespace Assoc

variable {α : Type}

/-- The listed value of a key. -/
def find (k : Nat) : Assoc α → Option α
  | [] => none
  | (k', v) :: m => if k = k' then some v else find k m

/-- The value of a key; d is what an unlisted key reads as. -/
def getD (m : Assoc α) (k : Nat) (d : α) : α := (find k m).getD d

/-- The store without a key. -/
def del (k : Nat) : Assoc α → Assoc α
  | [] => []
  | (k', v) :: m => if k = k' then del k m else (k', v) :: del k m

/-- The store with a key listed at a value, in its place. -/
def ins (k : Nat) (v : α) : Assoc α → Assoc α
  | [] => [(k, v)]
  | (k', v') :: m => if k ≤ k' then (k, v) :: del k ((k', v') :: m) else (k', v') :: ins k v m

/-- A write: a value equal to the default d of the key is not listed. -/
def put [DecidableEq α] (m : Assoc α) (k : Nat) (v d : α) : Assoc α :=
  if v = d then del k m else ins k v m

/-- Keys strictly rising, all above lo. -/
def sortedFrom : Nat → Assoc α → Bool
  | _, [] => true
  | lo, (k, _) :: m => decide (lo ≤ k) && sortedFrom (k + 1) m

/-- The canonical form for one fixed default value. -/
def wf [DecidableEq α] (d : α) (m : Assoc α) : Bool :=
  sortedFrom 0 m && m.all (fun e => decide (e.2 ≠ d))

/-- Remove every key of a range [a, b). -/
def delRange (a b : Nat) (m : Assoc α) : Assoc α := m.filter (fun e => decide (e.1 < a) || decide (b ≤ e.1))

end Assoc

/-- A sparse byte memory: what Host.Cell lists. -/
abbrev Mem := Assoc Byte

namespace Mem

/-- Read n bytes from an address; d is what an unlisted address reads as. -/
def read (m : Mem) (d : Byte) (a : Nat) : Nat → Bytes
  | 0 => []
  | n + 1 => Assoc.getD m a d :: read m d (a + 1) n

/-- Write a byte string at an address. -/
def write (m : Mem) (d : Byte) : Nat → Bytes → Mem
  | _, [] => m
  | a, b :: bs => write (Assoc.put m a b d) d (a + 1) bs

end Mem

end Sys2Proof.Machine
end

