-- ==== Sys2Proof/Machine/TypesA.lean ====
section
/-!
DEFINITION. What the state holds beside its registers, by block: output, power, decisions, Kindle, position,
Striker, Troughs, Weld, SMBus and the host port.
-/

namespace Sys2Proof.Machine

/-- What leaves the device: the trace that the model keeps of it, oldest first. [DESIGN CHOICE, log 86] -/
inductive Out where
  /-- A posted write to host memory (Tongs, R379). -/
  | hostWrite (ch addr : Nat) (data : Bytes) (ro ns : Bool)
  /-- A read request to host memory. -/
  | hostRead (ch tag addr len : Nat) (ro ns : Bool)
  /-- A request record handed to host memory (R37). -/
  | request (rec : Bytes)
  /-- JTAG_TDO while a data register shifts (R550, R551). -/
  | tdo (bits : List Bool)
  /-- The pins follow the boundary-scan register under an instruction (R552). -/
  | scanPins (ir latch : Nat)
  /-- An MSI-X message (R443). -/
  | msix (v addr data : Nat)
  /-- A completion of a received request: 0 success, 1 UR, 2 CA, 3 Request Retry Status; poisoned or not. -/
  | completion (status : Nat) (data : Bytes) (poisoned : Bool)
  /-- An error message: 0 ERR_COR, 1 ERR_NONFATAL, 2 ERR_FATAL (R423). -/
  | errMsg (sev : Nat)
  /-- A Latency Tolerance Reporting message (R431). -/
  | ltr (us : Nat)
  /-- A block on the transmit pair of a logical lane (R111, R112): header and payload as they stand on the line, and the start of its
  first bit in units of 10 ps of DT. -/
  | block (lane hdr payload at_ : Nat)
  /-- So many like blocks in a row on a transmit pair, from a start in 10 ps of DT: control blocks with this payload before the
  scrambler. The SEQ of TRAIN blocks counts on from the first (R113, R118). -/
  | fill (lane payload n at_ : Nat)
  /-- So many 66-bit groups of a raw test pattern on a transmit pair (R132). -/
  | pattern (lane code n at_ : Nat)
  /-- A transmit pair goes into electrical idle, from a start in 10 ps of DT (R129). -/
  | quiet (lane at_ : Nat)
  /-- A strobe of a Hammer channel: rise DT and width. -/
  | strobe (c dt width : Nat)
  /-- A latch load shifts into a head: DT of the first rising edge of HD_SCLK at the ball, its period SCLK_DIV and its cycles, after which it
  stays low, and the bits of each of the 8 data lines, first bit first; a line not in use has none and is low (R260, R263, R264, R267). -/
  | shift (c dt div cycles : Nat) (lines : List (List Nat))
  /-- A latch pulse of a Hammer channel: DT of its leading edge and width. -/
  | latch (c dt width : Nat)
  /-- The answer of the SMBus target to a read, and the PEC byte that it supplies when one byte more is clocked (R469). -/
  | smbData (data : Bytes) (pec : Nat)
  /-- The SMBus target does not acknowledge (a command byte, an address or a PEC byte). -/
  | smbNack
  /-- A controller port starts a transaction: port, operation, address, code, the bytes written after the code with the PEC, SPEED, and the
  clock before which it does not start. -/
  | smbc (port op addr code : Nat) (data : Bytes) (speed at_ : Nat)
  /-- A pulse of a pin generator as its Striker event: DT of the rise and width. -/
  | pulse (p dt width : Nat)
  deriving DecidableEq, Repr

/-- Power and reset balls (chapter 18). -/
structure PowerS where
  /-- SUPPLY_OK holds and the internal power-on reset has run (R542). -/
  on : Bool := true
  /-- PERST_N is asserted. -/
  perst : Bool := true
  /-- A READY has been reached since power-on (R427). -/
  everReady : Bool := false
  /-- POWER_ONS counts this power-on already (R518). -/
  counted : Bool := false
  /-- The address straps SMB_ADDR as sampled (R464). -/
  straps : Nat := 0
  /-- PERST_SCOPE in effect: 1 whole-device (R427). -/
  scope : Nat := 1
  /-- The boundary-scan register holds the pins (R552). -/
  jtagTest : Bool := false
  /-- The instruction in the JTAG instruction register; IDCODE after reset. -/
  jtagIr : Nat := 1
  /-- What the boundary-scan register holds for the pins; its last cell, at JTAG_TDO, is bit 0 (R551). -/
  scanLatch : Nat := 0
  deriving DecidableEq, Repr, Inhabited

/-- An open decision request (R37). -/
structure Request where
  id : Nat
  func : Nat
  unit : Nat
  reason : Nat
  proposal : Bytes
  /-- Elapsed-time clock at the posting. -/
  at_ : Nat
  timeoutUs : Nat
  repost : Bool
  deriving DecidableEq, Repr, Inhabited

/-- A request held under R39, not yet posted. -/
structure HeldReq where
  func : Nat
  unit : Nat
  reason : Nat
  proposal : Bytes
  repost : Bool
  deriving DecidableEq, Repr, Inhabited

/-- The decision arbiter: requests and the reply mailbox (R36 to R45). -/
structure DecideS where
  /-- Identifier of the next request, and whether it has wrapped (R37). -/
  nextId : Nat := 1
  wrapped : Bool := false
  open_ : List Request := []
  held : List HeldReq := []
  /-- Bytes of the reply sequence written so far (R40). -/
  seqBytes : Bytes := []
  /-- The sequence is broken: the next commit is rejected (R40). -/
  broken : Bool := false
  /-- Request records that the host port cannot send yet, oldest first (R37, R435). -/
  outbox : List Bytes := []
  deriving DecidableEq, Repr, Inhabited

/-- Function-mode changes under way (R65, R67). -/
structure ModeS where
  /-- Units whose mode now differs from CURRENT of their function: (function, unit). -/
  taken : List (Nat × Nat) := []
  deriving DecidableEq, Repr, Inhabited

/-- An operation of the flash arbiter (R75). -/
inductive FlashOp where
  | read (addr len : Nat)
  | program (addr len : Nat)
  | erase (addr : Nat)
  | smbRead (addr len : Nat)
  | ingot
  deriving DecidableEq, Repr

/-- The configuration memory and its arbiter (R46 to R48, R75). [DESIGN CHOICE, log 12] -/
structure FlashS where
  /-- Content; an unlisted byte reads as erased, 0xFF. -/
  mem : Mem := []
  /-- Size in 64 KiB sectors; 4096 for a 2 Gbit device (R48). -/
  sectors : Nat := 4096
  waiting : List FlashOp := []
  busy : Option FlashOp := none
  deriving DecidableEq, Repr, Inhabited

/-- A configuration write held back until READY (R106, R401, R462): address, size and value. -/
structure HeldWrite where
  addr : Nat
  size : Nat
  value : Nat
  deriving DecidableEq, Repr, Inhabited

/-- Kindle (chapter 2). -/
structure KindleS where
  /-- Kindle is running: from PERST_N release or an accepted REKINDLE until READY or HOLD. -/
  running : Bool := false
  /-- Elapsed-time clock at the PERST_N release or REKINDLE that started it. -/
  startClk : Nat := 0
  /-- CFG_HOLD_N was sampled low (R69). -/
  cfgHold : Bool := false
  /-- The flash passed R46 and R47. -/
  flashOk : Bool := false
  /-- Candidate slots still to verify, in order (R53); 0 is slot A, 1 is slot B. -/
  cands : List Nat := []
  /-- The slot that passed verification. -/
  passed : Option Nat := none
  applied : Bool := false
  /-- A finding has ended this Kindle: it enters HOLD next. -/
  holdDue : Bool := false
  journalRead : Bool := false
  hbmTrained : Bool := false
  /-- An HBM stack failed its training (R505). -/
  hbmFailed : Bool := false
  heldWrites : List HeldWrite := []
  /-- The restore copies: the applied configuration of the power domains (R70). -/
  restore : Assoc Nat := []
  /-- The journal has been scanned in this Kindle, so that Ingots can be written (R520). -/
  journalScanned : Bool := false
  deriving DecidableEq, Repr, Inhabited

/-- One input of an encoder (R79). -/
structure EncIn where
  /-- The level that the last cycle sampled, and the DT of the first cycle that sampled it. -/
  raw : Nat := 0
  since : Nat := 0
  /-- The accepted level. -/
  lev : Nat := 0
  deriving DecidableEq, Repr, Inhabited

/-- One encoder front end (R79 to R81). -/
structure EncS where
  a : EncIn := {}
  b : EncIn := {}
  z : EncIn := {}
  /-- DT of the last accepted edge of A or B. -/
  edgeAt : Nat := 0
  /-- One reset of the count is armed (R81, ZMODE 0b10). -/
  zArmed : Bool := false
  deriving DecidableEq, Repr, Inhabited

/-- One axis beside its registers (R83 to R91). -/
structure AxisS where
  /-- Raw count of the primary encoder as the axis counts it, modulo 2^48 (R83). -/
  prim : Nat := 0
  /-- Raw count of the redundant encoder without RED_OFFSET, modulo 2^48 (R90). -/
  red : Nat := 0
  /-- DT of the count update to the present count (R85). -/
  tu : Nat := 0
  /-- DT of the last count update of any direction (R84). -/
  lastUpd : Nat := 0
  /-- The last intervals in the current direction, newest first, at most 16 (R84). -/
  ivals : List Nat := []
  /-- A count update in the current direction has been seen since P_est last became invalid. -/
  seen : Bool := false
  /-- RESUME has been written since FROZEN was entered (R88). -/
  resume : Bool := false
  /-- The axis is stalled (R84). -/
  stalled : Bool := false
  /-- The primary recorded an illegal transition since the last clear of DISAGREE (R91). -/
  illegal : Bool := false
  /-- Edges of the redundant encoder since the primary last counted, and since the last clear of DISAGREE (R91). -/
  redEdges : Nat := 0
  /-- Since the last clear of DISAGREE, the primary was stalled while the redundant encoder counted at least 3 edges (R91). -/
  stallSeen : Bool := false
  /-- DT of the last count update of the primary encoder (R91). -/
  primTu : Nat := 0
  deriving DecidableEq, Repr, Inhabited

/-- A crossing that waits out its delay (R94, R95). -/
structure Crossing where
  /-- DT of the issue. -/
  at_ : Nat
  /-- P_eff at the crossing, uQ48.8. -/
  pos : Nat
  /-- Target index k of the grid. -/
  k : Int
  /-- Direction of travel: 1 reverse. -/
  dir : Nat
  /-- Line index in the frame; 0 is the frame trigger (R93). -/
  line : Nat
  /-- A skipped fire point: it only appears in the fire log (R95, R98). -/
  skipped : Bool
  /-- Lines of the frame skipped before its entry opens (R95). -/
  skips : Nat
  /-- DELAY_NS in force for the crossing (R99). -/
  delay : Nat := 0
  deriving DecidableEq, Repr, Inhabited

/-- One trigger generator beside its registers (R92 to R98). -/
structure GenS where
  /-- Grid index of the next target. -/
  k : Int := 0
  waiting : List Crossing := []
  /-- DT of the previous issue. -/
  last : Option Nat := none
  /-- Frames counted toward FRAMES, or pulses toward COUNT, since ARM. -/
  count : Nat := 0
  /-- Lines crossed of the frame in progress; 0 when none is (R93). -/
  line : Nat := 0
  /-- The frame in progress is suppressed: its frame trigger was skipped (R95). -/
  suppressed : Bool := false
  /-- The frame being issued was refused (R101). -/
  refused : Bool := false
  /-- The frame being issued sends no trigger block: its frame trigger found no camera (R173). -/
  dropped : Bool := false
  /-- Ledger entry and FRAME_NO of the frame being issued. -/
  entry : Option (Nat × Nat) := none
  /-- Direction in which the targets were last laid: 1 reverse. -/
  dir : Nat := 0
  /-- DT at which the running pulse ends (pin generators). -/
  pulseEnd : Option Nat := none
  deriving DecidableEq, Repr, Inhabited

/-- One exposure-ledger entry (R102). -/
structure LedgerE where
  dt : Nat
  pos : Nat
  axis : Nat
  dir : Nat
  /-- 1 open, 2 receiving (R102). -/
  state : Nat
  frameNo : Nat
  gen : Nat
  expGen : Nat
  lines : Nat
  skipped : Nat
  deriving DecidableEq, Repr, Inhabited

/-- A notice of a Hearth on its way to the ledger (R103): the physical Hearth that sent it, the entry's index, generator and FRAME_NO, and
whether it is a frame-tag notice. -/
structure Notice where
  hearth : Nat
  idx : Nat
  gen : Nat
  frameNo : Nat
  tag : Bool
  deriving DecidableEq, Repr, Inhabited

/-- The position block (chapter 3). -/
structure PosS where
  enc : Assoc EncS := []
  axis : Assoc AxisS := []
  ctrig : Assoc GenS := []
  ptrig : Assoc GenS := []
  fire : Assoc GenS := []
  ledger : Assoc LedgerE := []
  /-- Notices of the Hearths on their way to the ledger, in the order sent (R103). -/
  notices : List Notice := []
  deriving DecidableEq, Repr, Inhabited

/-- A LUT cell beside its registers (R453). -/
structure CellS where
  /-- LUT value, and the cycle of its last change. -/
  lut : Nat := 0
  since : Nat := 0
  /-- Filter output. -/
  filt : Nat := 0
  /-- Flip-flop (REG = 1). -/
  ff : Nat := 0
  /-- STRETCH: the first cycle in which the filter output is 0 again. -/
  until_ : Nat := 0
  /-- Changes under way in a DELAY filter: (cycle, value). -/
  hist : List (Nat × Nat) := []
  /-- Cycle in which the cell's inputs or its own output have changed and that it has not evaluated yet. -/
  due : Option Nat := none
  deriving DecidableEq, Repr, Inhabited

/-- What a task input took in its last cycle (R456). -/
structure TaskS where
  cycle : Nat := 0
  /-- Passing sources in that cycle. -/
  n : Nat := 0
  deriving DecidableEq, Repr, Inhabited

/-- A GPIO ball at its input sampler (R79, R461): the level of its samples, and the cycle in which that level is accepted unless it
changes before. -/
structure GpioPin where
  level : Nat := 0
  due : Option Nat := none
  deriving DecidableEq, Repr, Inhabited

/-- Striker (chapter 15). -/
structure StrikerS where
  /-- GPIO input samplers, by ball. -/
  pins : Assoc GpioPin := []
  /-- Values latched for a channel and not yet presented: channel, cycle, and 0 or 1 for the value of a LEVEL channel or 2
  for an event of a PULSE channel; oldest first. -/
  latched : List (Nat × Nat × Nat) := []
  /-- LEVEL events now at 1, by event ID. -/
  levels : Assoc Nat := []
  /-- One more than the cycle in which a PULSE channel last presented 1. -/
  pulses : Assoc Nat := []
  cells : Assoc CellS := []
  tasks : Assoc TaskS := []
  /-- Group switches ordered by tasks: cycle, group, 1 for on (R451). -/
  switches : List (Nat × Nat × Nat) := []
  /-- The loop-guard window, and the events of each channel in it (R452). -/
  window : Nat := 0
  win : Assoc Nat := []
  /-- End of a running GPIO output pulse, by ball. -/
  pulseEnd : Assoc Nat := []
  deriving DecidableEq, Repr, Inhabited

/-- A record in a Trough (R347). -/
structure TRec where
  data : Bytes
  dropGap : Nat
  /-- Push sequence (R365). -/
  seq : Nat
  committed : Bool
  /-- Units already popped. -/
  popped : Nat
  /-- Units whose word 0 carries inverted parity (R368). -/
  bad : List Nat
  /-- Clock at which it committed. -/
  at_ : Nat
  deriving DecidableEq, Repr, Inhabited

/-- One Trough beside its registers (chapter 12). -/
structure TroughS where
  /-- Records in the order of admission, oldest first. -/
  recs : List TRec := []
  /-- Pending drop count (R350, R352). -/
  pend : Nat := 0
  /-- PKT_SEQ of the next push attempt (R365). -/
  seq : Nat := 0
  /-- Totals since Kindle for marks (R363). -/
  pushed : Nat := 0
  dropped : Nat := 0
  flushed : Nat := 0
  /-- Parity of word 0 of the next unit written is inverted (R368). -/
  inject : Bool := false
  /-- Its oldest record has waited HOLD_US (R389). -/
  overdue : Bool := false
  deriving DecidableEq, Repr, Inhabited

/-- An Ingot waiting to be written: kind and payload (R514, R516). -/
structure IngotReq where
  kind : Nat
  payload : Bytes
  /-- The error code whose ERROR Ingot it is, or the host record's marker. -/
  tag : Nat
  deriving DecidableEq, Repr, Inhabited

/-- A substitution under way in a cluster (R491 to R500). -/
structure SubS where
  /-- Position of the unit being replaced. -/
  fromK : Nat
  spareK : Nat
  /-- Logical unit. -/
  logical : Nat
  /-- CAUSE of R506: 1 UNIT_FAULT, 2 CE_RATE, 3 HOST. -/
  cause : Nat
  err : Nat
  ceCount : Nat
  trigDt : Nat
  /-- First suspect FRAME_NO or BSEQ. -/
  first : Nat
  /-- 1 testing, 2 waiting for a boundary to shadow, 3 shadow running, 4 passed (switch due), 5 request open. -/
  stage : Nat
  attempt : Nat
  /-- Ordered by FORCE: it switches without a shadow run (R498). -/
  force : Bool
  /-- A whole shadow frame or billet of this attempt has ended (R493, R494). -/
  ran : Bool
  /-- Boundaries still to pass before the switch (VERDICT 0x03). -/
  after : Nat
  deriving DecidableEq, Repr, Inhabited

/-- A trigger that waits for its cluster's spare (R501). -/
structure PendSub where
  logical : Nat
  cause : Nat
  err : Nat
  first : Nat
  force : Bool
  deriving DecidableEq, Repr, Inhabited

/-- Weld beside its registers (chapter 17). Clusters are keyed 8 * class + cluster, class 1 Hearth, 2 tile. -/
structure WeldS where
  subs : Assoc SubS := []
  waitSub : Assoc (List PendSub) := []
  /-- Test running on a spare or a returned unit: key 64 * (8 * class + cluster) + k, value the cause of R506. -/
  testing : Assoc Nat := []
  /-- First suspect FRAME_NO or BSEQ of a SUSPECT unit, by 64 * (8 * class + cluster) + k. -/
  suspFirst : Assoc Nat := []
  /-- Corrected errors of a unit: clock times, by 64 * (8 * class + cluster) + k. -/
  ce : Assoc (List Nat) := []
  ingots : List IngotReq := []
  /-- Clock of the last ERROR Ingot of a code, and entries suppressed since (R511). -/
  errLast : Assoc Nat := []
  errSupp : Assoc Nat := []
  /-- Unread entries of WELD_LOG, 0 to 256 (R510). -/
  unread : Nat := 0
  /-- Sectors that hold Ingots, oldest first: sector index and next free offset; the last is the open one (R519). -/
  used : List (Nat × Nat) := []
  retired : List Nat := []
  /-- Repairs recorded: type, macro or stack, row (R504, R505). -/
  repairs : List (Nat × Nat × Nat) := []
  /-- Corrected errors of a row: (macro or stack key, row) as one key, with the words and times seen. -/
  rowCe : Assoc (List (Nat × Nat)) := []
  /-- The last change of the spare ledger: bytes 16 to 63 of its substitution record (R517). -/
  lastChange : Bytes := []
  /-- States of lane slices: key 17 * g + k, 1 parked, 2 SUSPECT, 3 FAILED; others serving (R517). -/
  slice : Assoc Nat := []
  /-- Unavailability: intervals open now, by cause key, and the clock at which the union began (R523). -/
  unavail : List Nat := []
  unavailSince : Nat := 0
  /-- Clock up to which unavailability has been counted, the latest end that a timed interval asks for while others are
  open, and nanoseconds not yet a whole microsecond. -/
  unavailTo : Nat := 0
  unavailWant : Nat := 0
  unavailNs : Nat := 0
  /-- Clock up to which POWERED_MIN and HOT_MIN count, of the last WEAR Ingot, and of the last periodic spare test. -/
  lastWear : Nat := 0
  wearClk : Nat := 0
  lastSpareTest : Nat := 0
  /-- HBM data lanes recorded for lane repair, and the errors seen on a lane: clock times (R505). -/
  laneErrs : Assoc (List Nat) := []
  deriving DecidableEq, Repr, Inhabited

/-- A transaction of a controller port (R484). -/
structure SmbcTx where
  op : Nat
  addr : Nat
  code : Nat
  data : Bytes
  rlen : Nat
  pec : Bool
  /-- Started by Bellows (R322), for the rail named. -/
  bellows : Option Nat
  losses : Nat
  retries : Nat
  deriving DecidableEq, Repr, Inhabited

/-- Data fetched by the SMBus target and held (R474). -/
structure SmbHeld where
  code : Nat
  unit : Nat
  page : Nat
  ptr : Nat
  len : Nat
  data : Option Bytes
  /-- Clock at which the fetch completed. -/
  at_ : Nat
  deriving DecidableEq, Repr, Inhabited

/-- The SMBus ports (chapter 16). [DESIGN CHOICE, log 20] -/
structure SmbS where
  page : Assoc Nat := []
  ptr : Assoc Nat := []
  len : Assoc Nat := []
  /-- Clock of the last privileged command of the open session. -/
  lastPriv : Nat := 0
  /-- Clock at which the UNLOCK lockout began. -/
  lockAt : Nat := 0
  /-- Alert sources covered by a won alert response (R481 to R483). -/
  covered : Nat := 0
  held : Option SmbHeld := none
  /-- The accesses of a REGS write held at a wake gate (R475), in order. -/
  gate : List HeldWrite := []
  tx : Assoc SmbcTx := []
  deriving DecidableEq, Repr, Inhabited

/-- Advanced Error Reporting (R422). [PRESUMED, log 9] -/
structure AerS where
  unc : Nat := 0
  cor : Nat := 0
  uncMask : Nat := 0x400000
  corMask : Nat := 0xE000
  uncSev : Nat := 0x462030
  /-- Logged headers, oldest first, at most 4. -/
  headers : List (Nat × Bytes) := []
  deriving DecidableEq, Repr, Inhabited

/-- A non-posted request of the device (R417 to R421). -/
structure TagS where
  ch : Nat
  /-- 0 descriptor, 1 link word, 2 dot data, 3 a read that its channel no longer waits for since it halted (R382, R383). -/
  kind : Nat
  addr : Nat
  len : Nat
  /-- Bytes received. -/
  got : Bytes
  /-- Clock of the issue, or of the timeout when quarantined. -/
  at_ : Nat
  quarantined : Bool
  deriving DecidableEq, Repr, Inhabited

/-- The fixed values of the configuration header that no register of the block holds (R402, R404, R439). -/
structure CfgHeader where
  deviceId : Nat := 0x5120
  classCode : Nat := 0x118000
  subsystemId : Nat := 0x5120
  /-- Type 0. -/
  headerType : Nat := 0
  interruptPin : Nat := 0
  msixTableSize : Nat := 2047
  /-- Bar indicator and offsets of the MSI-X table and the Pending Bit Array. -/
  msixBir : Nat := 4
  msixTableOffset : Nat := 0
  msixPbaOffset : Nat := 0x8000
  noSoftReset : Nat := 1
  pmeSupport : Nat := 0
  deriving DecidableEq, Repr, Inhabited

/-- A BAR2 request that still runs (R413): its aperture, the COMMIT_GEN it was matched under, and the clock at which it completes. -/
structure InflightS where
  aper : Nat
  gen : Nat
  until_ : Nat
  deriving DecidableEq, Repr, Inhabited

/-- The host port beside its registers (chapter 14). -/
structure HepS where
  header : CfgHeader := {}
  /-- BAR2 requests that have arrived and not completed (R413). -/
  inflight : List InflightS := []
  cfg : CfgSpace := {}
  aer : AerS := {}
  /-- MSI-X table words by 4 * vector + word; unlisted 0, but 1 (masked) for word 3. -/
  table : Assoc Nat := []
  /-- Vectors with their pending bit set. -/
  pba : Assoc Nat := []
  /-- Clock of the last message of a vector. -/
  lastMsg : Assoc Nat := []
  d3hot : Bool := false
  /-- A function-level reset is running (R427). -/
  flr : Bool := false
  /-- A host-port reset has begun and not yet ended (R428); the power-on reset is one. -/
  resetting : Bool := true
  /-- Clock times of the last completion timeouts (R432). -/
  ctos : List Nat := []
  /-- Clock at which a delayed release is due (R435). -/
  releaseAt : Option Nat := none
  /-- A request of function 0x07 has been posted since CAUSE last became 0 (R435). -/
  asked : Bool := false
  /-- Counts since Quench entry, for R436: BAR2 refusals, Trough refusals, laps, and the clock of entry. -/
  qBar2 : Nat := 0
  qOverruns : Nat := 0
  qLaps : Nat := 0
  qClk : Nat := 0
  tags : Assoc TagS := []
  /-- Channel from which the present round of the tag rotation goes on (R381). -/
  tagNext : Nat := 0
  /-- The link is in L1. -/
  l1 : Bool := false
  deriving DecidableEq, Repr, Inhabited

end Sys2Proof.Machine
end

