-- ==== Sys2Proof/Machine/TypesB.lean ====
section
/-!
DEFINITION. What the Hammer channels and print groups hold beside their registers (chapter 9).
-/

namespace Sys2Proof.Machine

/-- A line in the line buffer: what the slot check of R270 fetched. -/
structure Fetched where
  /-- Dot index D. -/
  d : Nat
  /-- DT of the check. -/
  at_ : Nat
  under : Bool
  seq : Bool
  /-- Data bytes of the line; empty for a blank line and for one shifted as all level 0. -/
  data : Bytes
  deriving DecidableEq, Repr, Inhabited

/-- The latch load in progress, or the one whose line waits for its strobe (R262, R263). -/
structure LoadS where
  d : Nat
  /-- LOAD_DT. -/
  dt : Nat
  /-- CTX_GEN sampled at LOAD_DT. -/
  gen : Nat
  under : Bool
  seq : Bool
  deriving DecidableEq, Repr, Inhabited

/-- A fire point that waits for its latch load to begin (R271). -/
structure FirePt where
  /-- Issue DT. -/
  dt : Nat
  pos : Nat
  dir : Nat
  /-- 0 to be fired (LATE), 1 skipped, 2 held. -/
  kind : Nat
  /-- FIRE_DELAY_NOW in force for the fire point (R272). -/
  delay : Nat
  deriving DecidableEq, Repr, Inhabited

/-- A slot that is not FREE: 1 LOADED, 2 LATCHED, 3 RETAINED (R269). -/
structure SlotS where
  state : Nat := 0
  d : Nat := 0
  deriving DecidableEq, Repr, Inhabited

/-- A fire-log entry that is not released (R277), with what the fired-drop view of Swage needs of it (R227, R301): the
states, masks and column map of the entry's CTX_GEN are already applied in its levels. -/
structure RetE where
  d : Nat
  /-- STATE of the entry: 0 FIRED, 1 SKIPPED, 2 HELD; a reprint of a column fired before counts as HELD (R272). -/
  st : Nat
  /-- CTX_GEN sampled at LOAD_DT. -/
  gen : Nat
  /-- Issue DT; 0 for a MISSING_COLUMN entry. -/
  issue : Nat
  /-- The entry belongs to a scanning pass. -/
  scan : Bool
  /-- Grid line of the fire, or SWATH_BASE of the pass. -/
  line : Int
  /-- Print-grid column of a scanning fire. -/
  col : Nat
  /-- Column map: COL_BASE and COL_STEP, or LINE_BASE and LINE_STEP. -/
  base : Int
  step : Int
  /-- Nozzles of the channel. -/
  nozzles : Nat
  /-- Levels fired, by nozzle; empty where nothing was. -/
  levels : List Nat
  deriving DecidableEq, Repr, Inhabited

/-- A written FIRE_DELAY that no latch load has committed (R99): the DT of the write, its value, and the logical Hearth whose correction it is,
if it is one (R245). -/
structure DelayW where
  at_ : Nat
  value : Nat
  by_ : Option Nat
  deriving DecidableEq, Repr, Inhabited

/-- One Hammer channel beside its registers. -/
structure HammerS where
  /-- Committed FWD_OFFSET and REV_OFFSET (R276), sQ24.8. -/
  fwd : Nat := 0
  rev : Nat := 0
  /-- Committed COL_BASE and DATA_SHIFT (R296). -/
  colBase : Nat := 0
  dataShift : Nat := 0
  /-- Fire points handled since ARM, the fire index of the next one. -/
  nextK : Nat := 0
  load : Option LoadS := none
  /-- Compensated levels of the line in the head or on its way to it. -/
  levels : List Nat := []
  /-- DT at which the next latch load begins when no fire point begins it (R262). -/
  loadAt : Option Nat := none
  buf : List Fetched := []
  slots : Assoc SlotS := []
  pend : List FirePt := []
  ret : List RetE := []
  /-- Columns of the pass that this channel has handled; none before its first (R274). -/
  j : Option Nat := none
  /-- Direction of the pass: 1 reverse. -/
  passDir : Nat := 0
  /-- Dot index of the first line of the pass, or of the owed swath (R283). -/
  passD : Nat := 0
  /-- Columns of the pass under way that were fired. -/
  fired : List Nat := []
  /-- Columns fired in the earlier attempts of the owed swath (R283). -/
  earlier : List Nat := []
  /-- The first dot index that the hot channel of a single-pass hold no longer strobes (R281). -/
  holdD : Option Nat := none
  /-- Writes of FIRE_DELAY, of HAMMER_OFFSET (DT, FWD_OFFSET, REV_OFFSET) and of NCTX_MAP (DT, COL_BASE, DATA_SHIFT) that no latch load has
  committed, oldest first (R99, R276, R296). -/
  wDelay : List DelayW := []
  wOffset : List (Nat × Nat × Nat) := []
  wMap : List (Nat × Nat × Nat) := []
  /-- HD_HOT_N as it was last sampled (true is high), and the clock since which it has been sampled so (R280). -/
  pinHigh : Bool := true
  pinAt : Nat := 0
  /-- The slot image whose write by Tongs is under way (R269). -/
  writing : Option Bytes := none
  /-- Flushes of the dot store so far (R397). -/
  flushes : Nat := 0
  deriving DecidableEq, Repr, Inhabited

/-- One print group beside its registers. -/
structure HgrpS where
  /-- Channels accepted low during the hold (R284). -/
  hotMask : Nat := 0
  /-- Fire points held during the hold. -/
  held : Nat := 0
  /-- DT from which fire points are held (R281, R282). -/
  heldFrom : Nat := 0
  /-- Clock at which the group resumes (R283, R284). -/
  resumeAt : Option Nat := none
  /-- A pass is under way, and its direction. -/
  pass : Option Nat := none
  /-- A hold began in the pass under way, or the pass began in one (R282). -/
  heldInPass : Bool := false
  /-- The pass under way is the reprint of the owed swath. -/
  reprint : Bool := false
  deriving DecidableEq, Repr, Inhabited

end Sys2Proof.Machine
end

