-- ==== Sys2Proof/Machine/TypesC.lean ====
section
/-!
DEFINITION. What lanes, lane groups, Cobex ports and Hearths hold beside their registers (chapters 4 to 7), and the
open rows and billets of compare (chapter 8).
-/

namespace Sys2Proof.Machine

/-- A block as the link holds it (R111): its header, 0 for an error block (R114, R148); its payload, descrambled; its arrival DT. -/
abbrev Blk := Nat × Nat × Nat

/-- The transmitter of a lane slice (R112, R118, R129 to R135). Times of its block starts are in units of 10 ps of the elapsed time. -/
structure TxS where
  /-- What it sends while nothing else is due: 0 nothing; 1 IDLE; 2 TRAIN; 4 the square wave; 8 + n PRBS code n (R118, R132). -/
  fill : Nat := 0
  /-- It drives the pad pair: the near loops do not (R133). -/
  pads : Bool := false
  /-- RX_LOCKED of the TRAIN blocks that it sends (R113, R118). -/
  locked : Bool := false
  /-- Start of its next block. -/
  next : Nat := 0
  /-- SEQ of its next TRAIN block (R113). -/
  seq : Nat := 0
  /-- The last 58 line bits of its payloads, the newest in bit 57 (R112). -/
  hist : Nat := 0
  /-- The last bits of its PRBS generator, the newest in bit 0 (R132). -/
  prbs : Nat := 0
  /-- Blocks that an armed injection still corrupts (R135). -/
  inject : Nat := 0
  /-- Blocks sent since the last repeated injection (R135). -/
  sent : Nat := 0
  /-- The upstream direction is in electrical idle (R129). -/
  idle : Bool := false
  deriving DecidableEq, Repr, Inhabited

/-- One physical lane slice (R111 to R135). -/
structure LaneS where
  /-- Clock of the entry to the present state. -/
  since : Nat := 0
  /-- RATE code in force since the last entry to TRAIN. -/
  rate : Nat := 0
  /-- The last 58 received payload bits, the newest in bit 57 (R112). -/
  hist : Nat := 0
  /-- The descrambler is synchronised (R112). -/
  synced : Bool := false
  /-- Consecutive TRAIN blocks received with RX_LOCKED = 1 (R117). -/
  trainRun : Nat := 0
  /-- EIDLE flags of the last three blocks, newest first (R129). -/
  eidle : List Bool := []
  /-- A snap-back has occurred since ACTIVE was entered from CAPS (R136). -/
  snapped : Bool := false
  /-- Consecutive FOM values below FOM_MIN (R136). -/
  lowFom : Nat := 0
  /-- Invalid headers since entering ACTIVE and in the present measurement period; lock losses since entering ACTIVE. -/
  invActive : Nat := 0
  invPeriod : Nat := 0
  lossActive : Nat := 0
  /-- The next FOM becomes FOM_REF (R125). -/
  needRef : Bool := false
  /-- Received blocks that an armed injection still corrupts (R135). -/
  inject : Nat := 0
  /-- The last bits of a PRBS checker's reference, newest in bit 0, or one more than the SEQ that a check of TRAIN blocks expects,
  0 for none; the checker's error-free run, and the bits and errors of its present window of 1,024 bits (R132). -/
  chkHist : Nat := 0
  chkRun : Nat := 0
  chkBits : Nat := 0
  chkErrs : Nat := 0
  /-- Logical lane that the slice served last (R506). -/
  lastLane : Nat := 0
  /-- Line bits received and not yet framed, the first in bit 0; how many they are; and a slip that waits for the next bit (R115). -/
  buf : Nat := 0
  bufBits : Nat := 0
  skip : Bool := false
  /-- Valid headers in a row of the hunt (R115). -/
  good : Nat := 0
  /-- Blocks and invalid headers of the present window of R116, and a window that has ended with 16 or more. -/
  winN : Nat := 0
  winBad : Nat := 0
  winFail : Bool := false
  /-- Blocks received in the present measurement period (R124). -/
  fomN : Nat := 0
  /-- Data blocks of the present trim decision (R126), and consecutive IDLE blocks (R127). -/
  trimN : Nat := 0
  idleRun : Nat := 0
  /-- Blocks received since the last repeated injection (R135). -/
  injN : Nat := 0
  /-- Clock of the last loss of lock in ACTIVE, and positions that have passed to the link as error blocks since (R120, R148). -/
  lossClk : Nat := 0
  lossN : Nat := 0
  tx : TxS := {}
  deriving DecidableEq, Repr, Inhabited

/-- One lane group (R136 to R140). -/
structure GroupS where
  /-- Pad pair that has claimed the spare (R139). -/
  pad : Option Nat := none
  restarts : Nat := 0
  /-- The listen began on a loss of lock (R138). -/
  byLoss : Bool := false
  /-- Cause of the substitution in R506: 3 ordered by the host, 4 degraded or lost. -/
  cause : Nat := 4
  /-- Pad pairs whose proposal is made again after their next EXIT (R139). -/
  again : List Nat := []
  /-- Clock at which the spare was claimed (R139). -/
  claimAt : Nat := 0
  /-- Blocks of the serving slice and of the listening spare: before their alignment the last ones, newest first; after it the ones
  still to compare, oldest first (R137). -/
  serveQ : List (Nat × Nat) := []
  spareQ : List (Nat × Nat) := []
  aligned : Bool := false
  /-- Blocks compared, mismatches among them, and an invalid header of the spare among them (R137). -/
  cmpN : Nat := 0
  cmpDiff : Nat := 0
  cmpBad : Bool := false
  /-- Physical slice whose SUSPECT test runs, and the clock of its start (R140, R503). -/
  test : Option (Nat × Nat) := none
  deriving DecidableEq, Repr, Inhabited

/-- An open command of a bond (R163 to R167). -/
structure CmdS where
  tag : Nat
  op : Nat
  /-- 0 host, 1 EXPOSE of the Hearth, 2 banking. -/
  owner : Nat
  /-- Clock at which its PKT_END was sent. -/
  at_ : Nat
  deriving DecidableEq, Repr, Inhabited

/-- An image packet as its blocks have arrived (R156, R158). -/
structure ImgS where
  /-- Payload of IMG_SOP. -/
  sop : Nat
  /-- Bytes of its data blocks. -/
  blocks : Bytes := []
  /-- An error block lies in it (R148). -/
  err : Bool := false
  /-- Payload of its IMG_EOP; none when another IMG_SOP or a frame marker came first. -/
  eop : Option Nat := none
  /-- DT of the arrival of its first and of its last block. -/
  first : Nat
  last : Nat
  deriving DecidableEq, Repr, Inhabited

/-- An RSP packet as its blocks arrive: the payload of its RSP block, its data, and an error block in it (R163). -/
structure RspS where
  head : Nat
  data : Bytes := []
  err : Bool := false
  deriving DecidableEq, Repr, Inhabited

/-- What the rebuilt stream of a bond has delivered and no command has taken yet (R154): payloads of single blocks with their arrival
DT, image packets, and responses with the check of their CRC. -/
inductive Item where
  | frameStart (pay dt : Nat)
  | frameEnd (pay dt : Nat)
  | image (k : ImgS)
  | rsp (k : RspS) (crcOk : Bool)
  | event (pay dt : Nat)
  | beat
  deriving DecidableEq, Repr

/-- What waits at the upstream block selector of a master port (R162). -/
structure UpS where
  /-- Trigger blocks: start in units of 10 ps of the elapsed time, and payload (R161). -/
  trigs : List (Nat × Nat) := []
  /-- A HEARTBEAT. -/
  beat : Bool := false
  /-- Blocks of CMD packets: header, payload, and one more than the TAG on the last block of a packet. -/
  cmds : List (Nat × Nat × Nat) := []
  deriving DecidableEq, Repr, Inhabited

/-- One Cobex port; the bond's state lies in its master port (R146 to R173). -/
structure PortS where
  /-- Capabilities of this lane are accepted (R153). -/
  capsOk : Bool := false
  /-- Expected MARKER_SEQ, misses in a row, and sets lined up in a row (R147 to R149). -/
  marker : Option Nat := none
  misses : Nat := 0
  lined : Nat := 0
  /-- Clock of the entry to ALIGNING. -/
  alignAt : Nat := 0
  /-- Clock of the last LINK_RESET that the link sent of itself, and whether one waits (R150). -/
  lastReset : Option Nat := none
  resetWaits : Bool := false
  cmds : List CmdS := []
  nextTag : Nat := 0
  /-- Tags of LINK_RESET commands whose RSP is discarded in silence (R150). -/
  quiet : List Nat := []
  /-- Clock of the last downstream HEARTBEAT, and of the last upstream one (R169, R170). -/
  hbAt : Nat := 0
  hbSent : Nat := 0
  /-- Clock at which the next CAPS_REQ may go (R151). -/
  capsReqAt : Nat := 0
  /-- The lane has entered CAPS since the bond went DOWN (R149). -/
  entered : Bool := false
  /-- A member lane has gone into electrical idle since the bond entered IDLE (R149). -/
  idled : Bool := false
  /-- Next PKT_SEQ (R158). -/
  pktSeq : Option Nat := none
  /-- The link discards a frame of a reserved FORMAT (R155). -/
  dropFrame : Bool := false
  /-- DT of the entry to ACTIVE (R171). -/
  attachDt : Nat := 0
  /-- Blocks of this lane that the link holds for its bond, oldest first, and a gap since the last marker set (R147, R148). -/
  rx : List Blk := []
  gap : Bool := false
  /-- Blocks of the CAPS packet that arrives on this lane, oldest first (R151). -/
  caps : List Blk := []
  /-- Stripes taken since the last marker set, and the lane index of the next block of the stream (R146). -/
  row : Nat := 0
  turn : Nat := 0
  /-- The image packet and the response under way in the rebuilt stream, and what it has delivered (R154). -/
  img : Option ImgS := none
  rsp : Option RspS := none
  inbox : List Item := []
  /-- The upstream block selector of a master port (R162). -/
  up : UpS := {}
  deriving DecidableEq, Repr, Inhabited

/-- Stamp and position of one line trigger, as passed to the Hearth (R94, R189). -/
structure LineTrig where
  frameLo : Nat
  line : Nat
  dt : Nat
  pos : Nat
  dir : Nat
  deriving DecidableEq, Repr, Inhabited

/-- A part of one stream's data of the current line (R156). -/
structure Part where
  stream : Nat
  offset : Nat
  data : Bytes
  first : Bool
  last : Bool
  deriving DecidableEq, Repr, Inhabited

/-- A sample and whether it, or one that contributes to it, saturated at a stage so far (R198). -/
structure Smp where
  v : Nat
  sat : Bool
  deriving DecidableEq, Repr, Inhabited

/-- A closed camera line in the band-delay history: T4 samples of each band (R186). -/
structure HistLine where
  line : Nat
  bands : List (List Smp)
  /-- The camera line is MISSING (R182). -/
  miss : Bool
  /-- Arrival DT of the line's first block. -/
  arrival : Nat
  deriving DecidableEq, Repr, Inhabited

/-- The values of one band of a line with its valid span (R187). -/
structure Plane where
  vals : List Smp
  first : Nat
  count : Nat
  deriving DecidableEq, Repr, Inhabited

/-- A down-web bracket: an aligned line after cross-web resampling (R190). -/
structure Bracket where
  y : Int
  line : Nat
  stamp : Nat
  missing : Bool
  /-- X_START of its columns. -/
  x0 : Nat
  planes : List Plane
  deriving DecidableEq, Repr, Inhabited

/-- Statistics of one band of the open frame (R215, R216). -/
structure StatS where
  count : Nat := 0
  sat : Nat := 0
  sum : Nat := 0
  min : Nat := 0xFFFF
  max : Nat := 0
  lines : Nat := 0
  hist : List Nat := List.replicate 16 0
  deriving DecidableEq, Repr, Inhabited

/-- The open frame of a Hearth (R178 to R182). -/
structure FrameS where
  frameNo : Nat
  /-- Ledger index and the entry's fields. -/
  idx : Nat
  trigDt : Nat
  /-- Ledger bytes 8 to 15 with STATE 0 (R203). -/
  posWord : Nat
  expGen : Nat
  lines : Nat
  skipped : Nat
  firstDt : Nat
  /-- Arrival of the last block of the last line so far. -/
  lastDt : Option Nat := none
  /-- Current line, its parts, and the arrival of its first block. -/
  cur : Option Nat := none
  parts : List Part := []
  curFirst : Nat := 0
  /-- One above the highest line that has been current (R182). -/
  nextLine : Nat := 0
  received : Nat := 0
  /-- Distinct line indices discarded (R180). -/
  excess : List Nat := []
  missing : Bool := false
  /-- Down-web gaps recorded in the frame: lowest grid line, and number of grid lines (R190). -/
  gaps : List (Int × Nat) := []
  deferred : Bool := false
  /-- Next aligned line (R186), and the closed lines that aligned lines may still need. -/
  nextK : Nat := 0
  hist : List HistLine := []
  lseqFirst : List (Option Nat) := [none, none, none, none]
  slines : List Nat := [0, 0, 0, 0]
  stats : List StatS := []
  /-- The C2 item: 0 ordinary, 1 promoted and admitted, 2 dropped; its streams that lost lines, and whether its histogram
  is deferred (R334, R335). -/
  c2 : Nat := 0
  c2Lost : Nat := 0
  c2Hist : Bool := false
  /-- Wait at promotion, in ms (R338). -/
  c2Wait : Nat := 0
  /-- The settings of the frame are unsure (R211). -/
  unsure : Bool := false
  deriving DecidableEq, Repr, Inhabited

/-- A frame that has ended, whose records wait for the ledger's answer to its frame-tag notice (R203, R216). -/
structure EndedS where
  frame : FrameS
  /-- Logical Hearth at the end. -/
  logical : Nat
  /-- DT at which the frame ended: STAMP of its records. -/
  at_ : Nat
  skipped : Nat
  /-- LAST_DT. -/
  last : Nat
  /-- Bytes 54 to 55 of the frame tag record, without what the answer adds. -/
  flags : Nat
  /-- LINES_SENT, when a FRAME_END of the frame ended it. -/
  sent : Option Nat
  deriving DecidableEq, Repr, Inhabited

/-- One change order of the exposure (R209). -/
structure ExpOrder where
  ns : Nat
  gain : Nat
  deriving DecidableEq, Repr, Inhabited

/-- An open EXPOSE: its generation, settings and the attempts made (R209, R211). -/
structure OpenExpose where
  gen : Nat
  set : ExpOrder
  attempts : Nat
  deriving DecidableEq, Repr, Inhabited

/-- Exposure control of one Hearth (R206 to R219). -/
structure ExpS where
  /-- Next generation number (R206). -/
  next : Nat := 1
  open_ : Option OpenExpose := none
  /-- The order that waits, for a frame boundary or for the EXPOSE under way (R209). -/
  queue : Option ExpOrder := none
  /-- An acknowledgement on its way to the position block: GEN and FROM_FRAME (R211). -/
  notice : Option (Nat × Nat) := none
  /-- Settings of the acknowledged generation that is not in force yet. -/
  acked : Option ExpOrder := none
  /-- An abandoned EXPOSE may have been applied (R211). -/
  unsure : Bool := false
  /-- The acknowledgement applied last: its DT, the generation that was in force before it, and its FROM_FRAME (R212). -/
  applied : Option (Nat × Nat × Nat) := none
  /-- Straddled frames: first frame number and count (R213). -/
  straddle : List (Nat × Nat) := []
  /-- Records of the evaluation: count, SUM, COUNT, SATCNT, last frame (R217). -/
  n : Nat := 0
  sum : Nat := 0
  cnt : Nat := 0
  sat : Nat := 0
  lastFrame : Nat := 0
  deriving DecidableEq, Repr, Inhabited

/-- One physical Hearth (chapters 6 and 7). -/
structure HearthS where
  frame : Option FrameS := none
  /-- Frames whose frame-tag notice has no answer yet, oldest first (R203). -/
  ended : List EndedS := []
  /-- Stamps and positions of the last 4,096 line triggers, newest first (R189). -/
  trigs : List LineTrig := []
  prev : Option Bracket := none
  /-- DIR of the last line that entered down-web resampling (R190, R191). -/
  dir : Nat := 0
  /-- Next grid line that stream 0 will write (R277). -/
  next0 : Option Int := none
  /-- Streams in force since the last frame boundary: SCFG words (R194). -/
  scfg : List Nat := [0x07000000, 0x07000000, 0x07000000, 0x07000000]
  /-- Window in force since the last frame boundary: STAT_ROI word (R215). -/
  roi : Nat := 0
  /-- Marks that wait for the first line of the present frame, one bit each (R199). -/
  armedMarks : Nat := 0
  /-- FRAME_NO of the last frame accepted (R499). -/
  lastFrame : Nat := 0
  /-- Clock at which the last frame ended (R344). -/
  idleAt : Nat := 0
  exp : ExpS := {}
  deriving DecidableEq, Repr, Inhabited

/-- A grid line that a billet holds (R222, R226). -/
structure BLine where
  n : Int
  lseq : Nat
  stamp : Nat
  frameNo : Nat
  missing : Bool
  dir : Nat
  lapped : Bool
  deriving DecidableEq, Repr, Inhabited

/-- An open row of billets: all column slices of (h, r) (R223, R224). -/
structure RowS where
  h : Nat
  r : Int
  part : Nat
  rep : Bool
  lines : List BLine
  /-- Clock at which its last line became visible. -/
  at_ : Nat
  deriving DecidableEq, Repr, Inhabited

/-- A billet that is ready or runs (R222 to R226). -/
structure BilletS where
  h : Nat
  r : Int
  j : Nat
  part : Nat
  rep : Bool
  lines : List BLine
  bseq : Nat
  readyDt : Nat
  deadline : Nat
  /-- Columns of the slice. -/
  first : Nat
  cols : Nat
  /-- Once started: START_DT, profile and bank as 2 * profile + bank, S, and the words of CMP_THR, CMP_CELL and CMP_ATTR
  (R233, R242). -/
  start : Nat
  bank : Nat
  scale : Nat
  thr : Nat
  cell : Nat
  attr : Nat
  deriving DecidableEq, Repr, Inhabited

/-- What compare keeps for one logical Hearth (R240, R245). -/
structure CmpS where
  /-- Next BSEQ (R225). -/
  bseq : Nat := 0
  /-- Rows already closed: (r, PART, grid lines held) of the newest part of each row (R224). -/
  closed : List (Int × Nat × List Int) := []
  /-- Billets since the last evaluation, billets summed, and their SUM_Z2 and Z2_COUNT (R240). -/
  nb : Nat := 0
  billets : Nat := 0
  sum : Nat := 0
  cnt : Nat := 0
  /-- Channels of the last correction that have not committed it, and the DT of its last commit (R245). -/
  uncommitted : List Nat := []
  settled : Nat := 0
  /-- The corrections that the open request of function 0x03 proposes (R246). -/
  deltas : List (Nat × Int) := []
  deriving DecidableEq, Repr, Inhabited

/-- Compare (chapter 8). -/
structure AnvilS where
  rows : List RowS := []
  ready : List BilletS := []
  /-- Running billet of a physical tile. -/
  running : Assoc BilletS := []
  /-- BSEQ of the last billet that a physical tile took (R499). -/
  lastB : Assoc Nat := []
  /-- Samples compared by a physical tile beyond the whole units of MSAMPLES. -/
  part : Assoc Nat := []
  cmp : Assoc CmpS := []
  deriving DecidableEq, Repr, Inhabited

end Sys2Proof.Machine
end

