-- ==== Sys2Proof/Machine/TypesD.lean ====
section
/-!
DEFINITION. What the nozzle-context store holds beside its registers (chapter 10).
-/

namespace Sys2Proof.Machine

/-- An evidence message on its way to the nozzle-context store (R248). -/
structure EvMsg where
  nozzle : Nat
  ink : Nat
  fired : Nat
  miss : Nat
  weak : Nat
  hearth : Nat
  bseq : Nat
  readyDt : Nat
  deriving DecidableEq, Repr, Inhabited

/-- The nozzle-context store of one channel. -/
structure NozzleS where
  /-- CTX_GEN at the last snapshot (R307). -/
  snapGen : Nat := 0
  /-- Messages not yet applied, in the order of their arrival. -/
  msgs : List EvMsg := []
  /-- Commits that a latch load of their cycle does not carry yet, newest first: commit DT, CTX_GEN before, and the
  STATE and HMASK that the nozzles had (R300). -/
  undo : List (Nat × Nat × List (Nat × Nat × Nat)) := []
  /-- Generation of the last column-map commit, when there was one (R296, R300). -/
  mapGen : Option Nat := none
  deriving DecidableEq, Repr, Inhabited

end Sys2Proof.Machine
end

