-- ==== Sys2Proof/Machine/TypesE.lean ====
section
/-!
DEFINITION. What Bellows holds beside its registers (chapter 11).
-/

namespace Sys2Proof.Machine

/-- A schedule (R339): STATE, C2_FLOOR, N_RUN and the set points of rails 0 to 13 in mV; 0 for a rail whose set point is
not to change. -/
structure Sched where
  state : Nat
  floor : Nat
  nRun : Nat
  rails : List Nat
  deriving DecidableEq, Repr, Inhabited

/-- A PMBus command of Bellows (R323): rail, command code, and the value that it writes: mV for VOUT_COMMAND. -/
structure BlwTx where
  rail : Nat
  code : Nat
  value : Nat
  /-- The command that a PAGE write precedes; the command's own code else. -/
  for_ : Nat
  deriving DecidableEq, Repr, Inhabited

/-- Work that waits at the wake gate of a domain (R343): a register write. -/
structure GateWrite where
  domain : Nat
  write : HeldWrite
  deriving DecidableEq, Repr, Inhabited

/-- Bellows. -/
structure BlwS where
  /-- The last ten values of P_EST, newest first, 1/16 W (R318). -/
  samples : List Nat := []
  /-- THERMTRIP_N is asserted (R329). -/
  thermtrip : Bool := false
  /-- Clock at READY (R334). -/
  readyClk : Nat := 0
  /-- Clock of the FRAME_END of the last C2 item that ran, and that item's power in 1/16 W, by logical Hearth (R334, R335). -/
  c2Ran : Assoc Nat := []
  c2Pow : Assoc Nat := []
  /-- P_AVG when C2 work was last withheld, and the checks since, up to ten (R328). -/
  shedFrom : Option (Nat × Nat) := none
  /-- The schedule proposed at the last epoch, the one that the last request of function 0x08 carried, and a reply's schedule
  for the next epoch (R341). -/
  proposal : Option Sched := none
  posted : Option Sched := none
  reply : Option Sched := none
  /-- Scale of the activity model, in 1/65,536; the unscaled estimates since it last moved, their sum and their number; and whether a round of
  telemetry is under way (R318). -/
  scale : Nat := 65536
  actSum : Nat := 0
  actN : Nat := 0
  round : Bool := false
  /-- C0 rails at CEIL_MV that read below TOK_CORNER (R321). -/
  unmet : List Nat := []
  /-- Set points of rails 0 to 15 that an accepted schedule asks for, in mV; 0 for none (R325, R339). -/
  target : Assoc Nat := []
  /-- PMBus commands that wait, and the one on the bus (R323). -/
  queue : List BlwTx := []
  busy : Option BlwTx := none
  /-- VOUT_MODE read from a rail, plus 1; 0 before it is read. -/
  vmode : Assoc Nat := []
  /-- The set point that guardband raises have left on a rail, which stays its minimum (R321). -/
  guard : Assoc Nat := []
  /-- Set points commanded and not yet acknowledged, in mV; 0 for none. -/
  cmd : Assoc Nat := []
  /-- Domains whose exit has begun, with its clock plus 1 (R345). -/
  exits : Assoc Nat := []
  /-- Register writes held at wake gates, oldest first (R343). -/
  gate : List GateWrite := []
  deriving DecidableEq, Repr, Inhabited

end Sys2Proof.Machine
end

