-- ==== Sys2Proof/Machine/TypesF.lean ====
section
/-!
DEFINITION. What a Tongs channel holds beside its registers (chapter 13).
-/

namespace Sys2Proof.Machine

/-- A descriptor as fetched (R374), with its own host address. -/
structure Desc where
  at_ : Nat
  addr : Nat
  last : Bool
  next : Nat
  len : Nat
  irq : Bool
  relaxed : Bool
  ns : Bool
  blank : Bool
  layout : Nat
  lines : Nat
  cookie : Nat
  deriving DecidableEq, Repr, Inhabited

/-- A read request that a channel has formed and that waits for a tag (R381): 0 descriptor, 1 link word, 2 dot data. -/
structure ReadReq where
  kind : Nat
  addr : Nat
  len : Nat
  deriving DecidableEq, Repr, Inhabited

/-- What the delivery record of the buffer in hand reports (R392). -/
structure BufS where
  /-- Bytes of whole items, items, and lines skipped or lost. -/
  bytes : Nat := 0
  items : Nat := 0
  first : Option Nat := none
  skipped : Nat := 0
  poisonAt : Option Nat := none
  /-- Byte 57 of the record. -/
  flags : Nat := 0
  /-- Clock at which the last item was written (R384). -/
  lastAt : Nat := 0
  deriving DecidableEq, Repr, Inhabited

/-- A record that a GENERAL channel is popping (R386). -/
structure PopS where
  trough : Nat
  /-- Units of the whole record, and those popped so far with the indices of the poisoned ones. -/
  units : Nat
  data : Bytes
  poison : List Nat
  dropGap : Nat
  seq : Nat
  deriving DecidableEq, Repr, Inhabited

/-- One Tongs channel beside its registers. -/
structure TongsS where
  /-- STATE without its QUENCHED overlay: 0 DISABLED, 1 FETCH, 2 ACTIVE, 3 WAIT_SLOT, 4 WAIT_CQ, 5 PARKED, 6 DRAINING,
  7 HALTED. -/
  st : Nat := 0
  /-- A write of ENABLE = 0 waits for the item boundary or for the end of DRAINING, and a later ENABLE = 1 restarts the
  channel then (R398). -/
  stop : Bool := false
  restart : Bool := false
  /-- TONGS_HEAD has been written since the last enable. -/
  headNew : Bool := false
  /-- The descriptor in hand, and the last one closed. -/
  desc : Option Desc := none
  closed : Option Desc := none
  buf : BufS := {}
  /-- A fetched descriptor or link word that the channel has not acted on yet: the request and its bytes. -/
  fetched : Option (ReadReq × Bytes) := none
  /-- Read requests that wait for a tag, oldest first. -/
  want : List ReadReq := []
  /-- STATUS of the close that waits for an entry of the completion ring (R393). -/
  closing : Option Nat := none
  /-- A held HALTED record, and whether it raises TONGS_DONE (R383). -/
  heldRec : Option (Bytes × Bool) := none
  /-- The record being popped. -/
  pop : Option PopS := none
  /-- Tokens of the rate limiter in 1/256,000 units, and the clock to which they are counted (R390). -/
  tokens : Int := 0
  tokenClk : Nat := 0
  /-- The line that a STREAM reader expects, and a rewind that no buffer has reported yet (R385). -/
  expect : Nat := 0
  rewound : Bool := false
  /-- DOT: lines of the descriptor that are done, the read of the line under way, its bytes so far by offset, and the flush
  counts of the members at its start. -/
  line : Nat := 0
  reading : Bool := false
  got : Mem := []
  flushes : List Nat := []
  /-- DOT: members whose slot write is under way, and whether any member has committed the present line. -/
  commits : List Nat := []
  lineGood : Bool := false
  /-- Bytes moved beyond the whole units of KBYTES. -/
  part : Nat := 0
  deriving DecidableEq, Repr, Inhabited

end Sys2Proof.Machine
end

