-- ==== Sys2Proof/Machine/State.lean ====
section
/-!
DEFINITION. The state of the block: plain data, holding every piece of state the spec gives the machine.
Register fields live in `regs`; what the spec describes beside its registers has a structure per block (TypesA and on).
-/

namespace Sys2Proof.Machine

/-- Why a step stops. [DESIGN CHOICE, log 5] -/
inductive Fault where
  /-- A command names a unit, an instance or an error code that the block does not have (R32, R65, R508, R555). Raised by every
  meaning whose operands are ill-formed, and by nothing else. Safe: the hardware has no such unit to act on. -/
  | noSuchUnit
  deriving DecidableEq, Repr

/-- Why a command has no meaning. -/
inductive Refusal where
  /-- The command has no meaning in this model yet. Raised by a refused arm of exec only. Safe: the run stops. -/
  | notModelled (mnemonic : String)
  deriving DecidableEq, Repr

/-- The whole machine. -/
structure State where
  /-- Register fields by bit address in BAR0; an unlisted field holds its reset value. -/
  regs : Assoc Nat := []
  /-- Byte buffers of BAR0 by byte address; unlisted bytes hold 0x00. -/
  buf : Mem := []
  /-- Held lower halves of 64-bit registers, by byte address (R564). -/
  held : Assoc Nat := []
  /-- Bit addresses of the RW1C status bits that the hardware has set in this nanosecond (R21). -/
  sets : List Nat := []
  /-- Latched upper halves, by byte address of the register (R107). -/
  upper : Assoc Nat := []
  /-- HBM by byte address; unlisted bytes read 0x00. -/
  hbm : Mem := []
  /-- 64-byte HBM blocks marked uncorrectable (R505), by block number. -/
  poison : Assoc Nat := []
  /-- Owners of shared resources, by 65536 * class + index; unlisted is free (R58). -/
  owners : Assoc Nat := []
  /-- Elapsed time in ns since the model's start: what durations are measured against. -/
  clk : Nat := 0
  /-- Device time (R7, R76). -/
  dt : Nat := 0
  /-- The timebase has locked in this epoch and DT counts (R76). -/
  running : Bool := false
  /-- Free values taken so far. -/
  free : Nat := 0
  out : List Out := []
  power : PowerS := {}
  dcs : DecideS := {}
  modes : ModeS := {}
  flash : FlashS := {}
  kindle : KindleS := {}
  pos : PosS := {}
  stk : StrikerS := {}
  trough : Assoc TroughS := []
  weld : WeldS := {}
  smb : SmbS := {}
  hep : HepS := {}
  /-- Hammer channels and print groups. -/
  hammer : Assoc HammerS := []
  hgrp : Assoc HgrpS := []
  /-- Nozzle-context stores by channel, and the clock of the last periodic snapshot. -/
  nozzle : Assoc NozzleS := []
  snapClk : Nat := 0
  /-- Lane slices by physical slice, lane groups, Cobex ports. -/
  lanes : Assoc LaneS := []
  groups : Assoc GroupS := []
  ports : Assoc PortS := []
  /-- Entries of section 0x0011: 8 bytes from 8 * e (R123); unlisted bytes hold 0x00. -/
  eqTable : Mem := []
  /-- Hearths by physical Hearth. -/
  hearths : Assoc HearthS := []
  anvil : AnvilS := {}
  blw : BlwS := {}
  /-- Tongs readers of stream rings: next LSEQ by 4 * logical Hearth + stream (R196, R385). -/
  readers : Assoc Nat := []
  /-- Tongs channels. -/
  tongs : Assoc TongsS := []
  /-- Commands waiting, first in, first out. -/
  pending : List Instr := []
  deriving DecidableEq, Repr, Inhabited

/-- The block right after its internal power-on reset: supplies good, PERST_N asserted, every register at its reset
value, no command waiting (R17, R542). [DESIGN CHOICE, log 10] -/
def State.reset : State := {}

end Sys2Proof.Machine
end

