-- ==== Sys2Proof/Machine/Ops.lean ====
section
/-!
DEFINITION. The named operations that every family uses: register fields, memories, elapsed time, ownership,
Striker events (R446 to R449), Trough pushes (R350), SMBus alerts (R481), AER and Quench causes (R423, R432),
internal errors (R507 to R511) and decision requests (R36 to R39).
-/

namespace Sys2Proof.Machine

/-! ### Register fields -/

/-- The value of a register field. -/
def State.rd (s : State) (f : Fld) (i : Nat := 0) (j : Nat := 0) : Nat := s.regs.getD (f.key i j) (f.rst i j)

/-- Set a register field, cut to its width. -/
def State.wr (s : State) (f : Fld) (v : Nat) (i : Nat := 0) (j : Nat := 0) : State :=
  { s with regs := s.regs.put (f.key i j) (v % 2 ^ f.w) (f.rst i j) }

/-- The hardware sets a status bit. The bits set in this nanosecond are kept, so that a clear that overlaps the set loses no event
(R21). [DESIGN CHOICE, log 89] -/
def State.flag (s : State) (f : Fld) (i : Nat := 0) (j : Nat := 0) : State :=
  { s.wr f 1 i j with sets := s.sets.insert (f.key i j) }

/-- Whether a one-bit field reads 1. -/
def State.on (s : State) (f : Fld) (i : Nat := 0) (j : Nat := 0) : Bool := decide (s.rd f i j ≠ 0)

/-- Add to a saturating counter. -/
def State.inc (s : State) (f : Fld) (i : Nat := 0) (j : Nat := 0) (n : Nat := 1) : State :=
  s.wr f (min (s.rd f i j + n) (2 ^ f.w - 1)) i j

/-- Return a field to its reset value. -/
def State.clr (s : State) (f : Fld) (i : Nat := 0) (j : Nat := 0) : State := s.wr f (f.rst i j) i j

/-- Clear a list of counters of one instance. -/
def State.clrAll (s : State) (fs : List Fld) (i : Nat := 0) (j : Nat := 0) : State :=
  fs.foldl (fun s f => s.clr f i j) s

/-- A register word as its fields hold it; write-only fields read 0 (R16). -/
def State.word (s : State) (fs : List Fld) (i j : Nat) : Nat :=
  (fs.map fun f => if f.acc = .wo then 0 else s.rd f i j * 2 ^ f.lo).sum

/-- The instances i (below n, j = 0) of a field whose listed value is v; v must not be the field's reset value. -/
def State.instances (s : State) (f : Fld) (n v : Nat) : List Nat :=
  s.regs.filterMap (fun e =>
    let base := 8 * f.addr + f.lo
    let i := (e.1 - base) / (8 * f.s1)
    if base ≤ e.1 ∧ i < n ∧ e.1 = base + 8 * f.s1 * i ∧ e.2 = v then some i else none)

/-- Return every register field of a BAR0 range, with its buffers and held halves, to its reset value. -/
def State.resetRange (s : State) (a b : Nat) : State :=
  { s with regs := s.regs.delRange (8 * a) (8 * b), buf := s.buf.delRange a b,
           held := s.held.delRange a b, upper := s.upper.delRange a b }

/-! ### Byte buffers, HBM and flash -/

/-- Read bytes of a BAR0 buffer; bytes never written hold 0x00. [DESIGN CHOICE, log 13] -/
def State.bufRead (s : State) (a n : Nat) : Bytes := s.buf.read 0 a n

/-- Write bytes of a BAR0 buffer. -/
def State.bufWrite (s : State) (a : Nat) (bs : Bytes) : State := { s with buf := s.buf.write 0 a bs }

/-- Read bytes of HBM. [DESIGN CHOICE, log 11] -/
def State.hbmRead (s : State) (a n : Nat) : Bytes := s.hbm.read 0 a n

/-- Write bytes of HBM; a block written whole loses its uncorrectable mark (R505). -/
def State.hbmWrite (s : State) (a : Nat) (bs : Bytes) : State :=
  { s with hbm := s.hbm.write 0 a bs,
           poison := s.poison.filter (fun e => !(decide (a ≤ 64 * e.1) && decide (64 * e.1 + 64 ≤ a + bs.length))) }

/-- Whether a byte range of HBM meets a block marked uncorrectable. -/
def State.hbmBad (s : State) (a n : Nat) : Bool :=
  s.poison.any (fun e => decide (64 * e.1 < a + n) && decide (a < 64 * e.1 + 64))

/-- Mark the 64-byte blocks of a byte range uncorrectable (R415, R505). -/
def State.hbmMark (s : State) (a n : Nat) : State :=
  { s with poison := (upto (a / 64) (cdiv (a + n) 64 - a / 64)).foldl (fun p b => p.put b 1 0) s.poison }

/-- Read bytes of the configuration memory; erased bytes read 0xFF. [DESIGN CHOICE, log 12] -/
def State.flashRead (s : State) (a n : Nat) : Bytes := s.flash.mem.read 0xFF a n

/-- Program bytes of the configuration memory: bits go from 1 to 0 only. -/
def State.flashProgram (s : State) (a : Nat) (bs : Bytes) : State :=
  let old := s.flashRead a bs.length
  { s with flash := { s.flash with mem := s.flash.mem.write 0xFF a (List.zipWith (· &&& ·) old bs) } }

/-- Erase a 64 KiB sector. -/
def State.flashErase (s : State) (sector : Nat) : State :=
  { s with flash := { s.flash with mem := s.flash.mem.delRange (65536 * sector) (65536 * sector + 65536) } }

/-! ### Time, free values, output, ownership -/

/-- Whether n ns have passed since a clock reading. [DESIGN CHOICE, log 3] -/
def State.due (s : State) (since n : Nat) : Bool := decide (since + n ≤ s.clk)

/-- A free value of w bits: nothing constrains it. [DEDUCED, log 82] -/
def State.fresh (s : State) (w : Nat) : Nat × State :=
  ((Config.freeValue s.free).toNat % 2 ^ w, { s with free := s.free + 1 })

/-- Something leaves the device; while the boundary-scan register holds the pins, nothing does (R552).
[DESIGN CHOICE, log 36; DESIGN CHOICE, log 86] -/
def State.emit (s : State) (o : Out) : State := if s.power.jtagTest then s else { s with out := s.out ++ [o] }

/-- Host software as an owner (R58). -/
def hostOwner : Nat := 0xFFFFFFFF

/-- The owner of a resource; 0 when free (R58). -/
def State.owner (s : State) (cls idx : Nat) : Nat := s.owners.getD (65536 * cls + idx) 0

/-- Source number of a unit (R32). -/
def srcNo (cls i : Nat) : Nat := cls * 2 ^ 24 + i

/-- Whether PHASE of KINDLE_STATUS is READY (R70). -/
def State.ready (s : State) : Bool := decide (s.rd F.KINDLE_STATUS_PHASE = 4)

/-- Whether a decision function is in hardware mode now for a unit: CURRENT, unless the unit has taken the other mode
while a change is pending (R65). [DESIGN CHOICE, log 39] -/
def State.hwMode (s : State) (f unit : Nat) : Bool :=
  let cur := s.rd F.FUNC_MODE_CURRENT f
  decide ((if (f, unit) ∈ s.modes.taken then 1 - cur else cur) = 0)

/-! ### Striker: raising events -/

/-- An event ID (R448). [DESIGN CHOICE, log 79] -/
def ev (kind idx : Nat) : Nat := 4096 * kind + idx

/-- The nature of an event ID: LEVEL or PULSE (R448). -/
def evLevel (e : Nat) : Bool :=
  let k := e / 4096
  decide (k = 0x06 ∨ k = 0x19 ∨ k = 0x1A)

/-- The instances of a KIND, or 0 where the KIND is reserved (R448). [DESIGN CHOICE, log 79] -/
def evCount (k : Nat) : Nat :=
  if k = 0x00 then 1 else if k = 0x01 then 11 else if k = 0x02 ∨ k = 0x03 ∨ k = 0x1C then 8
  else if k = 0x04 then 16 else if k = 0x05 then 256 else if k = 0x06 ∨ k = 0x19 then 32
  else if 0x07 ≤ k ∧ k ≤ 0x0A then 256 else if 0x0B ≤ k ∧ k ≤ 0x0F then 64
  else if 0x10 ≤ k ∧ k ≤ 0x13 then 8 else if 0x14 ≤ k ∧ k ≤ 0x16 then 1536
  else if k = 0x17 ∨ k = 0x18 then 1152 else if k = 0x1A then 256 else if k = 0x1B then 64 else 0

/-- Channels whose SOURCE names an event and whose ENABLE is 1 (R449). -/
def State.listeners (s : State) (e : Nat) : List Nat :=
  if e = 0 then [] else
    (s.instances F.STK_CH_CFG_SOURCE 512 e).filter (fun ch => s.on F.STK_CH_CFG_ENABLE ch)

/-- A channel is on: enabled, its group on, LOOP clear (R449, R451, R452). -/
def State.chanOn (s : State) (ch : Nat) : Bool :=
  s.on F.STK_CH_CFG_ENABLE ch && decide (bit (s.rd F.STK_GROUP_ON) (s.rd F.STK_CH_CFG_GROUP ch) = 1)
    && !s.on F.STK_CH_STAT_LOOP ch

def State.setStk (s : State) (x : StrikerS) : State := { s with stk := x }

/-- Latch an event for a PULSE channel in a cycle; a second one in the same cycle merges into it (R448, R450). -/
def State.latch (s : State) (ch cycle : Nat) : State :=
  if (ch, cycle, 2) ∈ s.stk.latched then s.inc F.STK_CH_STAT_MERGED ch
  else s.setStk { s.stk with latched := s.stk.latched ++ [(ch, cycle, 2)] }

/-- Raise a PULSE event that its channels carry in a cycle (R446 to R449). -/
def State.raiseAt (s : State) (e cycle : Nat) : State := (s.listeners e).foldl (fun s ch => s.latch ch cycle) s

/-- Raise an event of a clockless producer: 2 ns to enter Striker, carried 1 ns after (R24, R447). [DEDUCED, log 80] -/
def State.raise (s : State) (e : Nat) : State := s.raiseAt e (s.dt + 3)

/-- Raise an event of a producer in the timebase domain: carried in the next cycle (R447). [DEDUCED, log 80] -/
def State.raiseT (s : State) (e : Nat) : State := s.raiseAt e (s.dt + 1)

/-- The level of a LEVEL event. -/
def State.level (s : State) (e : Nat) : Nat := s.stk.levels.getD e 0

/-- Set a LEVEL event: its channels present the value from a cycle on (R449). A later value for the same cycle replaces an
earlier one. -/
def State.setLevelAt (s : State) (e v cycle : Nat) : State :=
  if s.level e = v then s else
    let s := s.setStk { s.stk with levels := s.stk.levels.put e v 0 }
    (s.listeners e).foldl (fun s ch =>
      let old := s.stk.latched.filter fun l => !decide (l.1 = ch ∧ l.2.1 = cycle)
      s.setStk { s.stk with latched := old ++ [(ch, cycle, v)] }) s

/-- Set a LEVEL event of a producer in the timebase domain (R447). -/
def State.setLevel (s : State) (e v : Nat) : State := s.setLevelAt e v (s.dt + 1)

/-- The level of GPIO ball n is accepted in a cycle: after POL it is GPIO_IN, which its channels carry in the next (R447, R461). -/
def State.gpioAccept (s : State) (n level cycle : Nat) : State :=
  let v := (level + s.rd F.STK_GPIO_POL n) % 2
  (s.wr F.STK_GPIO_STAT_IN v n).setLevelAt (ev 0x19 n) v (cycle + 1)

/-- GPIO levels whose filter has run out are accepted, each in its cycle (R79, R461). -/
def State.runPins (s : State) : State :=
  s.stk.pins.foldl (fun s e =>
    match e.2.due with
    | none => s
    | some c => if s.dt < c then s else
      (s.setStk { s.stk with pins := s.stk.pins.ins e.1 { e.2 with due := none } }).gpioAccept e.1 e.2.level c) s

/-! ### Striker: cells and groups -/

/-- The value that a channel presents in a cycle (R449, R451). -/
def State.chanValue (s : State) (ch cycle : Nat) : Nat :=
  if !s.chanOn ch then 0
  else if evLevel (s.rd F.STK_CH_CFG_SOURCE ch) then s.rd F.STK_CH_STAT_VALUE ch
  else b2n (decide (s.stk.pulses.getD ch 0 = cycle + 1))

/-- The SEL fields of a cell. -/
def selFlds : List Fld := [F.STK_CELL_SEL0, F.STK_CELL_SEL1, F.STK_CELL_SEL2, F.STK_CELL_SEL3]

def State.cell (s : State) (k : Nat) : CellS := s.stk.cells.getD k {}
def State.setCell (s : State) (k : Nat) (x : CellS) : State := s.setStk { s.stk with cells := s.stk.cells.put k x {} }

/-- A cell must evaluate in a cycle. -/
def State.cellDue (s : State) (cycle k : Nat) : State :=
  let x := s.cell k
  s.setCell k { x with due := some (match x.due with
    | some c => min c cycle
    | none => cycle) }

/-- Every cell that reads a channel must evaluate in a cycle. -/
def State.readersDue (s : State) (ch cycle : Nat) : State :=
  (selFlds.flatMap fun f => s.instances f 256 ch).foldl (fun s k => s.cellDue cycle k) s

/-- Input i of a cell in a cycle (R453). -/
def State.cellIn (s : State) (k cycle : Nat) (f : Fld) : Nat :=
  let sel := s.rd f k
  if sel < 512 then s.chanValue sel cycle else if sel = 0x3FE then (s.cell k).ff else 0

/-- The filter of a cell takes its LUT value of a cycle (R453). -/
def CellS.filter (x : CellS) (mode n v cycle : Nat) : CellS :=
  let moved := decide (v ≠ x.lut)
  let since := if moved then cycle else x.since
  let until_ := if moved && decide (v = 0) then cycle - 1 + n else x.until_
  let hist := if moved && decide (mode = 3) then x.hist ++ [(cycle + n, v)] else x.hist
  let filt :=
    if mode = 0 then v
    else if mode = 1 then (if n ≤ cycle + 1 - since then v else x.filt)
    else if mode = 2 then (if v = 1 then 1 else b2n (decide (cycle < until_)))
    else ((hist.filter fun h => decide (h.1 ≤ cycle)).getLast?.map Prod.snd).getD x.filt
  { x with lut := v, since := since, until_ := until_, filt := filt,
           hist := hist.filter fun h => decide (cycle < h.1) }

/-- Cell k evaluates in a cycle; its output reaches its channels in the next cycle, or one later through its flip-flop
(R447, R453). It evaluates again in the next cycle while an input is a pulse or its own output has changed. -/
def State.evalCell (s : State) (k cycle : Nat) : State :=
  let ins := selFlds.map fun f => s.cellIn k cycle f
  let i := (ins.zipIdx.map fun e => e.1 * 2 ^ e.2).sum
  let x := s.cell k
  let reg := s.on F.STK_CELL_REG k
  let y := x.filter (s.rd F.STK_CELL_FILT_MODE k) (s.rd F.STK_CELL_F_FILT_N k) (bit (s.rd F.STK_CELL_TRUTH k) i) cycle
  let pulse := selFlds.any fun f => decide (s.rd f k < 512) && decide (s.stk.pulses.getD (s.rd f k) 0 = cycle + 1)
  let own := reg && decide (y.filt ≠ x.ff) && selFlds.any fun f => decide (s.rd f k = 0x3FE)
  let s := s.setCell k { y with ff := y.filt, due := if pulse || own then some (cycle + 1) else none }
  (s.wr F.STK_CELL_F_OUT y.filt k).setLevelAt (ev 0x1A k) y.filt (cycle + (if reg then 2 else 1))

/-- The cell that is due first, before a cycle. -/
def State.nextCell (s : State) (before : Nat) : Option (Nat × Nat) :=
  s.stk.cells.foldl (fun (best : Option (Nat × Nat)) e =>
    match e.2.due with
    | none => best
    | some c => if decide (c < before) && best.all (fun b => decide (c < b.2)) then some (e.1, c) else best) none

/-- Cells evaluate cycle by cycle, up to a cycle that is not over. [DESIGN CHOICE, log 56] -/
def State.runCells (s : State) (before : Nat) : Nat → State
  | 0 => s
  | fuel + 1 =>
    match s.nextCell before with
    | none => s
    | some (k, c) => (s.evalCell k c).runCells before fuel

/-- After a channel has gone on or off, or its source or its group has changed: a LEVEL channel presents its source's level
or 0, without an edge (R449, R451). -/
def State.refreshChan (s : State) (ch : Nat) : State :=
  let e := s.rd F.STK_CH_CFG_SOURCE ch
  let v := if s.chanOn ch && evLevel e then s.level e else 0
  let s := s.wr F.STK_CH_STAT_VALUE v ch
  let s := s.setStk { s.stk with latched := s.stk.latched.filter fun l => !(decide (l.1 = ch) && decide (l.2.2 ≠ 2)) }
  s.readersDue ch s.dt

/-- Channels that have been configured. -/
def State.chansOn (s : State) : List Nat := s.instances F.STK_CH_CFG_ENABLE 512 1

/-- Set the group states (R451). -/
def State.setGroups (s : State) (v : Nat) : State :=
  let old := s.rd F.STK_GROUP_ON
  let s := s.wr F.STK_GROUP_ON v
  s.chansOn.foldl (fun s ch =>
    let g := s.rd F.STK_CH_CFG_GROUP ch
    if bit old g = bit v g then s else s.refreshChan ch) s

/-- Group switches of tasks whose cycle is over take effect; off wins over on (R451). -/
def State.runSwitches (s : State) (before : Nat) : State :=
  let now := s.stk.switches.filter fun w => decide (w.1 < before)
  if now.isEmpty then s
  else
    let s := s.setStk { s.stk with switches := s.stk.switches.filter fun w => !decide (w.1 < before) }
    let on := (now.filter fun w => w.2.2 = 1).foldl (fun m w => m ||| 2 ^ w.2.1) (s.rd F.STK_GROUP_ON)
    s.setGroups ((now.filter fun w => w.2.2 = 0).foldl (fun m w => m - (m &&& 2 ^ w.2.1)) on)

/-- Time moves on: DT counts only while the timebase runs (R76). [DESIGN CHOICE, log 1; DESIGN CHOICE, log 88] -/
def State.tick (s : State) (d : Nat) : State :=
  { s with clk := s.clk + d, dt := if s.running then (s.dt + d) % 2 ^ 64 else s.dt, sets := if d = 0 then s.sets else [] }

/-- d nanoseconds pass: GPIO levels whose filter has run out are accepted, and the cycles of Striker that are then over end with their
cell evaluations and group switches (R446, R461). [DESIGN CHOICE, log 1] -/
def State.after (s : State) (d : Nat) : State :=
  let s := (s.tick d).runPins
  (s.runCells s.dt ((d + 1) * (s.stk.cells.length + 1))).runSwitches s.dt

/-! ### SMBus alert sources -/

/-- A source of SMB_ALERT sets: it drives the alert line again even when a response covered it (R481, R483). [DESIGN CHOICE, log 87] -/
def State.alert (s : State) (b : Nat) : State :=
  let src := s.rd F.SMB_ALERT_SRC
  let s := s.wr F.SMB_ALERT_SRC (src ||| 2 ^ b)
  if bit src b = 1 then s else
    { s with smb := { s.smb with covered := s.smb.covered &&& (0xFF - 2 ^ b) } }

/-- SMB_T_ALERT_N is driven low: a source set in SRC and EN that no won response covers (R481). -/
def State.alertLow (s : State) : Bool :=
  decide ((s.rd F.SMB_ALERT_SRC &&& s.rd F.SMB_ALERT_EN) &&& (0xFF - s.smb.covered) ≠ 0)

/-! ### SMBus controller ports -/

def State.setTx (s : State) (p : Nat) (x : SmbcTx) : State := { s with smb := { s.smb with tx := s.smb.tx.ins p x } }

/-- A transaction reads (R484). -/
def SmbcTx.reads (x : SmbcTx) : Bool := decide (x.op ∈ [4, 5, 7, 9])

/-- The bytes that a port sends: address, code, count of a Block Write, data, and the address of the read phase (R463, R484). -/
def SmbcTx.sent (x : SmbcTx) : Bytes :=
  le 1 (2 * x.addr) ++ le 1 x.code ++ (if x.op = 6 then le 1 x.data.length else []) ++ x.data
    ++ (if x.reads then le 1 (2 * x.addr + 1) else [])

/-- The PEC byte of a write that carries one (R463). -/
def SmbcTx.pecByte (x : SmbcTx) : Bytes := if x.pec && !x.reads then le 1 (crc8 x.sent) else []

/-- Port p sends the transaction from its first bit, at the SPEED of its bus and not before a clock (R463, R484 to R486). -/
def State.smbcSend (s : State) (p : Nat) (x : SmbcTx) (at_ : Nat) : State :=
  s.emit (.smbc p x.op x.addr x.code (x.data ++ x.pecByte) (s.rd F.SMBC_CFG_SPEED p) at_)

/-! ### Records and Troughs -/

/-- The record header of R36. -/
def header (typ units src stamp : Nat) : Bytes := le 2 typ ++ le 2 units ++ le 4 src ++ le 8 stamp

/-- A whole record: header and body, padded to whole units (R11, R36). -/
def record (typ src stamp : Nat) (body : Bytes) : Bytes :=
  let n := cdiv (16 + body.length) 64
  padTo 64 (header typ n src stamp ++ body)

/-- One Trough beside its registers. -/
def State.tr (s : State) (t : Nat) : TroughS := s.trough.getD t {}

/-- Update one Trough. -/
def State.setTr (s : State) (t : Nat) (x : TroughS) : State := { s with trough := s.trough.put t x {} }

/-- Units of a record not yet popped. -/
def TRec.left (r : TRec) : Nat := r.data.length / 64 - r.popped

/-- DEPTH: units reserved or held and not popped (R348). -/
def TroughS.depth (x : TroughS) : Nat := (x.recs.map TRec.left).sum

/-- COUNT: committed records not fully popped (R348). A record behind an earlier one still being written counts only
once that one has committed (R351). [DESIGN CHOICE, log 48] -/
def TroughS.count (x : TroughS) : Nat := (x.recs.takeWhile (·.committed)).length

/-- The watermark test of R359. -/
def State.watermark (s : State) (t : Nat) : State :=
  if s.on F.TRGH_WM_WM_EN t then
    let d := (s.tr t).depth
    if s.on F.TRGH_STATUS_ABOVE t then
      if d ≤ s.rd F.TRGH_WM_LOW_WM t then (s.wr F.TRGH_STATUS_ABOVE 0 t).raise (ev 0x15 t) else s
    else if s.rd F.TRGH_WM_HIGH_WM t ≤ d then (s.wr F.TRGH_STATUS_ABOVE 1 t).raise (ev 0x14 t) else s
  else s.wr F.TRGH_STATUS_ABOVE 0 t

/-- After DEPTH has changed: PEAK, FULL when DEPTH reaches SIZE (R353), and the watermark test. -/
def State.depthMoved (s : State) (t : Nat) : State :=
  let d := (s.tr t).depth
  let s := s.wr F.TRGH_PEAK_PEAK (max (s.rd F.TRGH_PEAK_PEAK t) d) t
  let s := if d = s.rd F.TRGH_CFG_SIZE t ∧ d ≠ 0 then s.flag F.TRGH_STATUS_FULL t else s
  s.watermark t

/-- Whether a push of n units is admitted (R350). -/
def State.admits (s : State) (t n : Nat) : Bool :=
  s.on F.TRGH_CFG_ENABLE t && decide ((s.tr t).depth + n ≤ s.rd F.TRGH_CFG_SIZE t)

/-- Push a whole record at the occupancy arbiter (R350 to R353, R365). -/
def State.push (s : State) (t : Nat) (data : Bytes) : State :=
  let x := s.tr t
  let n := data.length / 64
  let seq := (x.seq + 1) % 65536
  if s.admits t n then
    let r : TRec := ⟨data, min x.pend 65535, x.seq, false, 0, [], 0⟩
    (s.setTr t { x with recs := x.recs ++ [r], pend := 0, seq := seq }).depthMoved t
  else
    let s := s.setTr t { x with pend := x.pend + 1, seq := seq, dropped := x.dropped + 1 }
    let s := s.inc F.TRGH_CNT2_DROPPED t
    let s := (s.flag F.TRGH_STATUS_OVERRUN t).flag F.TRGH_STATUS_FULL t
    let s := s.raise (ev 0x16 t)
    { s with hep := { s.hep with qOverruns := s.hep.qOverruns + (if s.on F.HEP_QUENCH_QUENCHED then 1 else 0) } }

/-- A producer's push: only into a Trough it owns (R349). Answers whether it was the owner. -/
def State.pushAs (s : State) (src t : Nat) (data : Bytes) : Bool × State :=
  if s.owner 6 t = src then (true, s.push t data) else (false, s)

/-- A producer's push that sets a RESOURCE_HELD flag of its own when it does not own the Trough. -/
def State.pushOr (s : State) (src t : Nat) (data : Bytes) (f : Fld) (i : Nat := 0) : State :=
  let r := s.pushAs src t data
  if r.1 then r.2 else r.2.flag f i

/-! ### Decision requests -/

/-- The request record of R37. -/
def requestRecord (r : Request) (stamp : Nat) : Bytes :=
  header 0x0040 1 r.unit stamp ++ le 4 r.id ++ le 1 r.func ++ le 1 r.reason ++ le 2 (b2n r.repost)
    ++ le 4 r.timeoutUs ++ le 4 0 ++ fitTo 32 r.proposal

/-- The next request identifier: it skips 0 on wrap (R37). -/
def nextReqId (n : Nat) : Nat := if (n + 1) % 2 ^ 32 = 0 then 1 else (n + 1) % 2 ^ 32

/-- Requests of the device to the host do not start: Quench, Bus Master Enable clear, or D3hot (R400). -/
def State.hostBlocked (s : State) : Bool :=
  s.on F.HEP_QUENCH_QUENCHED || !s.hep.cfg.bme || s.hep.d3hot

/-- Request records that waited reach host memory once the port sends requests again, in their order (R37, R435). [DESIGN CHOICE, log 94] -/
def State.sendRequests (s : State) : State :=
  if s.hostBlocked then s
  else s.dcs.outbox.foldl (fun s r => s.emit (.request r)) { s with dcs := { s.dcs with outbox := [] } }

/-- Post a request unconditionally: the record is written and DECIDE_POSTED raised (R37). The spec names no Trough, no channel and no
address for the record: it leaves the device as an output of its own, and waits while the port sends no requests (R435).
[DESIGN CHOICE, log 94] -/
def State.postNow (s : State) (func unit reason : Nat) (proposal : Bytes) (repost : Bool) : State :=
  let r : Request := ⟨s.dcs.nextId, func, unit, reason, fitTo 32 proposal, s.clk,
    s.rd F.FUNC_TIMEOUT_TIMEOUT_US func, repost⟩
  let n := nextReqId s.dcs.nextId
  let s := { s with dcs := { s.dcs with nextId := n, wrapped := s.dcs.wrapped || decide (n = 1),
                                        open_ := s.dcs.open_ ++ [r], outbox := s.dcs.outbox ++ [requestRecord r s.dt] } }
  s.sendRequests.raise (ev 0x01 2)

/-- Hold a refused request (R39): the newer one replaces an older one of the same unit in its place. [DESIGN CHOICE, log 58] -/
def State.holdReq (s : State) (h : HeldReq) : State :=
  let same := fun (x : HeldReq) => decide (x.func = h.func ∧ x.unit = h.unit)
  let held := if s.dcs.held.any same then s.dcs.held.map (fun x => if same x then h else x)
    else s.dcs.held ++ [h]
  { s with dcs := { s.dcs with held := held } }

/-- Discard the held request of a unit (R39). -/
def State.dropHeld (s : State) (func unit : Nat) : State :=
  { s with dcs := { s.dcs with held := s.dcs.held.filter (fun x => !decide (x.func = func ∧ x.unit = unit)) } }

/-- Post a request, or not (R38, R39). Answers false when the function must take its timeout action at once. [DESIGN CHOICE, log 58] -/
def State.post (s : State) (func unit reason : Nat) (proposal : Bytes) (repost : Bool := false) : Bool × State :=
  if s.dcs.open_.length < 4096 then (true, s.postNow func unit reason proposal repost)
  else
    let s := s.flag F.DECIDE_STATUS_OVERFLOW
    if func = 7 ∨ func = 9 then (true, s.holdReq ⟨func, unit, reason, proposal, repost⟩) else (false, s)

/-- Close every open request of a unit of a function: a later reply is STALE (R41). -/
def State.closeReqs (s : State) (func unit : Nat) : State :=
  { s with dcs := { s.dcs with open_ := s.dcs.open_.filter (fun r => !decide (r.func = func ∧ r.unit = unit)) } }

/-- Whether a unit of a function has an open request. -/
def State.reqOpen (s : State) (func unit : Nat) : Bool :=
  s.dcs.open_.any (fun r => decide (r.func = func ∧ r.unit = unit))

/-! ### Quench causes and AER -/

/-- A Quench cause sets (R432): entry, or one more cause while quenched; it closes or cancels a release (R435). -/
def State.quenchCause (s : State) (b : Nat) : State :=
  let s := ((s.closeReqs 7 (srcNo 0x0E 0)).dropHeld 7 (srcNo 0x0E 0)).wr F.HEP_QUENCH_RELEASE_PENDING 0
  let s := { s with hep := { s.hep with releaseAt := none, asked := false } }
  if s.on F.HEP_QUENCH_QUENCHED then
    (s.wr F.HEP_QUENCH_CAUSE (s.rd F.HEP_QUENCH_CAUSE ||| 2 ^ b)).wr F.HEP_QUENCH_SEEN (s.rd F.HEP_QUENCH_SEEN ||| 2 ^ b)
  else
    let s := (s.wr F.HEP_QUENCH_CAUSE (2 ^ b)).wr F.HEP_QUENCH_SEEN (2 ^ b)
    let s := (s.wr F.HEP_QUENCH_QUENCHED 1).wr F.HEP_QUENCH_DT_ENTRY_DT s.dt
    let s := (s.inc F.HEP_QCNT_ENTRIES).flag F.HEP_STATUS_QUENCH_ENTERED
    let s := { s with hep := { s.hep with qBar2 := 0, qOverruns := 0, qLaps := 0, qClk := s.clk } }
    (s.raise (ev 0x01 8)).alert 2

/-- Errors that the endpoint detects (R423). -/
inductive HostErr where
  | receiver | badTlp | badDllp | replayTimer | replayRollover | headerLogOverflow | correctedInternal
  | dlProtocol | fcProtocol | receiverOverflow | malformedTlp
  | poisonedTlp | completionTimeout | unexpectedCompletion | unsupportedRequest | completerAbort | uncorrectableInternal
  deriving DecidableEq, Repr

/-- Whether an error is in the correctable class (R423). -/
def HostErr.correctable : HostErr → Bool
  | .receiver | .badTlp | .badDllp | .replayTimer | .replayRollover | .headerLogOverflow | .correctedInternal => true
  | _ => false

/-- The bit of an error in its AER status register. PRESUMED: the positions of the PCI Express Base Specification,
which R422 names (log 9). [PRESUMED, log 9] -/
def HostErr.aerBit : HostErr → Nat
  | .receiver => 0 | .badTlp => 6 | .badDllp => 7 | .replayRollover => 8 | .replayTimer => 12
  | .correctedInternal => 14 | .headerLogOverflow => 15
  | .dlProtocol => 4 | .poisonedTlp => 12 | .fcProtocol => 13 | .completionTimeout => 14 | .completerAbort => 15
  | .unexpectedCompletion => 16 | .receiverOverflow => 17 | .malformedTlp => 18 | .unsupportedRequest => 20
  | .uncorrectableInternal => 22

/-- The bit of Advisory Non-Fatal Error in the correctable status register (log 9). [PRESUMED, log 9] -/
def aerAdvisoryBit : Nat := 13

/-! ### Weld: error log -/

/-- Queue an Ingot (R514). -/
def State.queueIngot (s : State) (kind : Nat) (payload : Bytes) (tag : Nat := 0) : State :=
  { s with weld := { s.weld with ingots := s.weld.ingots ++ [⟨kind, payload, tag⟩] } }

/-- The class or severity in force of an internal error code (R507). -/
def State.errClass (s : State) (code : Nat) : Nat :=
  if errDefaultSeverity code = 0 then 0 else s.rd F.WELD_ERR_CFG_SEVERITY code

/-- Append a 64-byte entry to WELD_LOG (R510). -/
def State.logEntry (s : State) (e : Bytes) : State :=
  let w := s.rd F.WELD_LOG_PTR_WR
  let s := s.bufWrite (0x32000 + 64 * w) (fitTo 64 e)
  let s := (s.wr F.WELD_LOG_PTR_WR (w + 1)).inc F.WELD_LOG_PTR_TOTAL
  if s.weld.unread < 256 then { s with weld := { s.weld with unread := s.weld.unread + 1 } }
  else (s.inc F.WELD_LOG_PTR_OVERFLOWS).flag F.WELD_STATUS_LOG_OVERFLOW

/-- Latch the first fatal entry (R510). -/
def State.latchFatal (s : State) (e : Bytes) : State :=
  if s.on F.WELD_STATUS_FATAL_LOGGED then s else
    (List.range 8).foldl (fun s i => s.wr F.WELD_FIRST_FATAL_WORD (leAt e (8 * i) 8) i)
      (s.flag F.WELD_STATUS_FATAL_LOGGED)

/-- Begin an interval of unavailability (R523); the union over causes accumulates. -/
def State.unavailBegin (s : State) (key : Nat) : State :=
  if key ∈ s.weld.unavail then s else
    { s with weld := { s.weld with
        unavailSince := if s.weld.unavail.isEmpty then s.clk else s.weld.unavailSince,
        unavail := s.weld.unavail ++ [key] } }

/-- Count ns of unavailability in UNAVAIL_US (R523). -/
def State.unavailCount (s : State) (ns : Nat) : State :=
  let t := s.weld.unavailNs + ns
  ({ s with weld := { s.weld with unavailNs := t % 1000 } }).inc F.WELD_WEAR_VALUE 4 0 (t / 1000)

/-- End an interval of unavailability (R523). [DESIGN CHOICE, log 34] -/
def State.unavailEnd (s : State) (key : Nat) : State :=
  if key ∈ s.weld.unavail then
    let w := s.weld
    let rest := w.unavail.filter (· ≠ key)
    if rest.isEmpty then
      let hi := max s.clk w.unavailWant
      let s := { s with weld := { w with unavail := rest, unavailTo := max w.unavailTo hi, unavailWant := 0 } }
      s.unavailCount (hi - max w.unavailSince w.unavailTo)
    else { s with weld := { w with unavail := rest } }
  else s

/-- An interval of unavailability of ns from now on (R523). -/
def State.unavailFor (s : State) (ns : Nat) : State :=
  let w := s.weld
  let hi := s.clk + ns
  if w.unavail.isEmpty then
    ({ s with weld := { w with unavailTo := max w.unavailTo hi } }).unavailCount (hi - max s.clk w.unavailTo)
  else { s with weld := { w with unavailWant := max w.unavailWant hi } }

/-- Write one internal error into the log and route it to the Trough, the alert and the journal (R507 to R511).
Answers whether it is signalled to the host. [DESIGN CHOICE, log 43] -/
def State.logErr (s : State) (code cls src : Nat) (detail : Bytes) : Bool × State :=
  let s := s.inc F.WELD_ERR_CNT_COUNT code
  let masked := s.on F.WELD_ERR_CFG_MASK code
  let routed := !masked && s.on F.WELD_ERR_CFG_ROUTE code && !decide (code = 0x06 ∨ code = 0x21)
  let wantJ := s.on F.WELD_ERR_CFG_JOURNAL code
  let last := s.weld.errLast.find code
  let late := match last with
    | some c => s.due c 1000000000
    | none => true
  let j := wantJ && late
  let lost := decide (s.weld.unread = 256)
  let e := header 0x0900 1 src s.dt ++ le 2 code ++ le 1 cls
    ++ le 1 (b2n masked + 2 * b2n routed + 4 * b2n j + 8 * b2n lost) ++ le 4 (s.rd F.WELD_ERR_CNT_COUNT code)
    ++ fitTo 40 detail
  let s := s.logEntry e
  let s := if cls = 2 then (s.latchFatal e).unavailBegin 0 else s
  let s := if s.on F.WELD_OUT_ERR_EN && !masked then
    s.pushOr (srcNo 0x12 0) (s.rd F.WELD_OUT_ERR_TROUGH) e F.WELD_STATUS_RESOURCE_HELD else s
  let s := if !masked && decide (cls = 1) then s.alert 4 else if !masked && decide (cls = 2) then s.alert 5 else s
  let s := if j then
      let supp := s.weld.errSupp.getD code 0
      let s := s.queueIngot 4 (e ++ le 8 supp) code
      { s with weld := { s.weld with errLast := s.weld.errLast.ins code s.clk, errSupp := s.weld.errSupp.put code 0 0 } }
    else if wantJ then
      { s with weld := { s.weld with errSupp := s.weld.errSupp.put code (s.weld.errSupp.getD code 0 + 1) 0 } }
    else s
  (routed, s)

/-- Send an error message when its reporting is enabled (R423). -/
def State.errMessage (s : State) (sev : Nat) : State :=
  let c := s.hep.cfg
  if (sev = 0 ∧ c.corEn) ∨ (sev = 1 ∧ c.nfEn) ∨ (sev = 2 ∧ c.fatEn) then s.emit (.errMsg sev) else s

/-- Log a header in AER; a fifth is a Header Log Overflow (R422, R423). [DESIGN CHOICE, log 45] -/
def AerS.logHeader (a : AerS) (b : Nat) (hdr : Bytes) : AerS :=
  if a.headers.length < 4 then { a with headers := a.headers ++ [(b, hdr)] }
  else { a with cor := a.cor ||| 2 ^ HostErr.aerBit .headerLogOverflow }

/-- A host-port error: AER status, message, Weld's log (R424) and the FATAL cause of Quench (R432). An error that the
Base Specification lets the endpoint report as advisory is signalled as correctable when its severity is non-fatal. [DESIGN CHOICE, log 45] -/
def State.hostErr (s : State) (e : HostErr) (advisory : Bool) (hdr : Bytes) : State :=
  let a := s.hep.aer
  let b := e.aerBit
  if e.correctable then
    let s := { s with hep := { s.hep with aer := { a with cor := a.cor ||| 2 ^ b } } }
    let s := if bit a.corMask b = 0 then s.errMessage 0 else s
    (s.logErr 0x06 0 (srcNo 0x0E 0) (le 8 b ++ hdr)).2
  else
    let fatal := decide (bit a.uncSev b = 1)
    let masked := decide (bit a.uncMask b = 1)
    let adv := advisory && !fatal
    let a' := { a with unc := a.unc ||| 2 ^ b, cor := if adv then a.cor ||| 2 ^ aerAdvisoryBit else a.cor }
    let a' := if masked then a' else a'.logHeader b hdr
    let s := { s with hep := { s.hep with aer := a' } }
    let s := if masked then s
      else if adv then (if bit a.corMask aerAdvisoryBit = 0 then s.errMessage 0 else s)
      else s.errMessage (if fatal then 2 else 1)
    let s := if adv then (s.logErr 0x06 0 (srcNo 0x0E 0) (le 8 b ++ hdr)).2
      else (s.logErr 0x21 (if fatal then 2 else 1) (srcNo 0x0E 0) (le 8 b ++ hdr)).2
    if fatal && !masked then s.quenchCause 0 else s

/-- An internal error of any block (R507): logged, and signalled to the host when routed (R511). -/
def State.err (s : State) (code src : Nat) (detail : Bytes) : State :=
  let cls := s.errClass code
  let r := s.logErr code cls src detail
  if r.1 then r.2.hostErr (if cls = 0 then .correctedInternal else .uncorrectableInternal) false [] else r.2

/-! ### Outcome helpers -/

/-- What no command touches: the queue is the step's, the clock moves by d, and what has left the device stays in the trace. `t` is
the state that the command left, with its own output alone. -/
def State.closeCmd (s : State) (d : Nat) (t : State) : State :=
  { t with pending := s.pending, clk := s.clk + d, out := s.out ++ t.out }

/-- The state as a command finds it that comes d ns after the one before: what runs by time has gone on, and nothing has left yet.
[DESIGN CHOICE, log 1; DESIGN CHOICE, log 88] -/
def State.atCmd (s : State) (d : Nat) : State := ({ s with out := [] }).after d

/-- The outcome of a command whose operands name units that exist: d ns pass, then the command acts.
[DESIGN CHOICE, log 1; DESIGN CHOICE, log 5; DESIGN CHOICE, log 90] -/
def cmd (ok : Bool) (d : Nat) (s : State) (f : State → State) : Host.Outcome State Fault Refusal :=
  if ok then .next (s.closeCmd d (f (s.atCmd d))) else .fault .noSuchUnit

/-- An event of the press side: before READY the press blocks are at rest and the event has no effect (R545). [DESIGN CHOICE, log 57] -/
def State.press (s : State) (f : State → State) : State := if s.power.on && s.ready then f s else s

/-- An effect that needs power only. -/
def State.powered (s : State) (f : State → State) : State := if s.power.on then f s else s

end Sys2Proof.Machine
end

