-- ==== Sys2Proof/Machine/Gate.lean ====
section
/-!
DEFINITION. Which host writes reach a register block (R71, R429, R433, R472, R562).
-/

namespace Sys2Proof.Machine

/-- Where a register write comes from. [DEDUCED, log 46] -/
inductive Via where
  /-- A BAR0 write of host software. -/
  | bar0
  /-- A REGS write of the management controller (R472). -/
  | smb
  /-- An entry of a register list that Kindle applies. -/
  | kindle
  deriving DecidableEq, Repr

/-- Whether an address lies in a block that accepts writes while Kindle runs (R71). -/
def earlyBlock (a : Nat) : Bool := decide (a < 0x20000)

/-- Whether an address lies in a block that accepts BAR0 writes during Quench (R433). -/
def quenchBlock (a : Nat) : Bool :=
  decide (a < 0x10000) || within 0x30000 a 0x3FFFF || within 0xD0000 a 0xDFFFF

/-- Whether an address lies in the block of a physical Hearth or tile that does not serve (R562). -/
def State.staleBlock (s : State) (a : Nat) : Bool :=
  (within 0x400000 a 0x81FFFF && !s.on F.HEARTH_ID_SERVING ((a - 0x400000) / 0x4000))
    || (within 0xC00000 a 0xE1FFFF && !s.on F.ANVIL_ID_SERVING ((a - 0xC00000) / 0x4000))

/-- The power domain that holds a register (R313); none for the HBM and global blocks. -/
def regDomain (a : Nat) : Option Nat :=
  if within 0x100000 a 0x20FFFF then some ((a - 0x100000) / 0x800 / 17)
  else if within 0x280000 a 0x281FFF then some ((a - 0x280000) / 0x100)
  else if within 0x400000 a 0x81FFFF then some (32 + (a - 0x400000) / 0x4000 / 33)
  else if within 0xC00000 a 0xE1FFFF then some (40 + (a - 0xC00000) / 0x4000 / 17)
  else if within 0x1400000 a 0x17FFFFF then
    let o := (a - 0x1400000) % 0x10000
    if within 0x4000 o 0x7FFF ∨ 0xC000 ≤ o then some 61 else some (48 + (a - 0x1400000) / 0x10000 / 16)
  else if within 0x1800000 a 0x1FFFFFF then some 61
  else if within 0x2000000 a 0x23FFFFF then some (if (a - 0x2000000) / 0x800 < 768 then 59 else 60)
  else if within 0x2400000 a 0x27FFFFF then some (if (a - 0x2400000) / 0x800 < 576 then 59 else 60)
  else if within 0x10000 a 0x1FFFF ∨ within 0xC0000 a 0xCFFFF then some 58
  else if within 0xD0000 a 0xDFFFF then some 56
  else if within 0x30000 a 0x3FFFF then some 63
  else none

/-- Exit latency of a banking level, in ns (R342). -/
def exitLatency (level : Nat) : Nat :=
  if level ≤ 1 then 0 else if level = 2 then 1000 else if level = 3 then 25000 else 2000000

/-- An exit of a domain begins; a domain at B1 or above needs none (R342, R345). -/
def State.beginExit (s : State) (dom : Nat) : State :=
  let lv := s.rd F.BLW_DOM_LEVEL dom
  if lv = 0 then s
  else if lv = 1 then s.wr F.BLW_DOM_LEVEL 0 dom
  else if (s.blw.exits.find dom).isSome then s
  else { s with blw := { s.blw with exits := s.blw.exits.put dom (s.clk + 1) 0 } }

/-- The wake gate of the domain of a write: a write to a banked domain starts the exit and is held until the exit is over
(R343, R475); Kindle's own writes come before any banking. [DESIGN CHOICE, log 47] -/
def State.wakeGate (s : State) (v : Via) (w : HeldWrite) (f : State → State) : State :=
  match regDomain w.addr with
  | none => f s
  | some dom =>
    let deep := decide (2 ≤ s.rd F.BLW_DOM_LEVEL dom)
    let s := s.beginExit dom
    if !deep ∨ v = .kindle then f s
    else if v = .smb then { s with smb := { s.smb with gate := s.smb.gate ++ [w] } }
    else { s with blw := { s.blw with gate := s.blw.gate ++ [⟨dom, w⟩] } }

/-- A write that reaches the register arbiter acts, or is ignored with the flag its rule names: EARLY_WRITE while
Kindle runs (R71), a discard during Quench (R433), an Unsupported Request in D3hot (R429), STALE_WRITE (R562). [DEDUCED, log 46] -/
def State.gate (s : State) (v : Via) (w : HeldWrite) (f : State → State) : State :=
  let a := w.addr
  if !s.power.on then s
  else if v = .kindle then f s
  else if v = .bar0 ∧ s.hep.d3hot then s.hostErr .unsupportedRequest true []
  else if s.kindle.running && !earlyBlock a then s.flag F.KINDLE_STATUS_EARLY_WRITE
  else if v = .bar0 ∧ s.on F.HEP_QUENCH_QUENCHED ∧ !quenchBlock a then s.inc F.HEP_QCNT_QDROP_WRITES
  else if s.staleBlock a then s.flag F.GLB_STATUS_STALE_WRITE
  else s.wakeGate v w f

/-- A BAR0 write of host software, held at the wake gate of a banked domain (R343). [DESIGN CHOICE, log 47] -/
def State.hostHold (s : State) (a size value : Nat) (f : State → State) : State := s.gate .bar0 ⟨a, size, value⟩ f

/-- A BAR0 write of host software to a register of a domain that is never banked below B1 (R313). -/
def State.hostWrite (s : State) (a : Nat) (f : State → State) : State := s.hostHold a 4 0 f

/-- The byte address of instance (i, j) of the register of a field. -/
def Fld.at_ (f : Fld) (i : Nat := 0) (j : Nat := 0) : Nat := f.addr + i * f.s1 + j * f.s2

end Sys2Proof.Machine
end

