-- ==== Sys2Proof/Machine/WeldOps.lean ====
section
/-!
DEFINITION. What several blocks ask of Weld: the map of physical units (R174, R220), substitution records (R506) and
the spare-ledger Ingot (R517).
-/

namespace Sys2Proof.Machine

/-- The physical Hearth at position k of a cluster (R174). -/
def hearthPhys (c k : Nat) : Nat := 33 * c + k

/-- The physical tile at position k of a cluster (R220). -/
def tilePhys (c k : Nat) : Nat := 17 * c + k

/-- The physical Hearth that serves a logical Hearth, when one does (R174). -/
def State.hearthOf (s : State) (h : Nat) : Option Nat :=
  (upto (33 * (h / 32)) 33).find? (fun n => s.on F.HEARTH_ID_SERVING n && decide (s.rd F.HEARTH_ID_LOGICAL n = h))

/-- The physical tile that serves a logical tile, when one does (R220). -/
def State.tileOf (s : State) (t : Nat) : Option Nat :=
  (upto (17 * (t / 16)) 17).find? (fun n => s.on F.ANVIL_ID_SERVING n && decide (s.rd F.ANVIL_ID_LOGICAL n = t))

/-- The state byte of one position in the spare ledger: the logical position served, 0x40 parked, 0x80 FAILED (R517). -/
def ledgerByte (failed serving : Bool) (logicalPos : Nat) : Byte :=
  BitVec.ofNat 8 (if failed then 0x80 else if serving then logicalPos else 0x40)

/-- The map field of pad pair p of a lane group: LGRP_MAP_LO for pads 0 to 7, LGRP_MAP_HI from 8. -/
def lgrpMap (p : Nat) : Fld := ⟨0x280000, 0x100, 0, 8 * p, 5, .ro, fun _ _ => p⟩

/-- State of slice k of lane group g as R517 codes it; slice 16 starts parked (R517). -/
def State.sliceState (s : State) (g k : Nat) : Nat := s.weld.slice.getD (17 * g + k) (if k = 16 then 1 else 0)

/-- Set the state of a slice. -/
def State.setSlice (s : State) (g k v : Nat) : State :=
  { s with weld := { s.weld with slice := s.weld.slice.put (17 * g + k) v (if k = 16 then 1 else 0) } }

/-- The SPARE_LEDGER payload, 2,944 bytes (R517). -/
def State.spareLedger (s : State) : Bytes :=
  let groups := (List.range 32).flatMap (fun g =>
    (List.range 16).map (fun p => BitVec.ofNat 8 (s.rd (lgrpMap p) g))
      ++ (List.range 17).map (fun k => BitVec.ofNat 8 (s.sliceState g k)) ++ zeros 31)
  let hearths := (List.range 8).flatMap (fun c =>
    (List.range 33).map (fun k => ledgerByte (decide (bit (s.rd F.WELD_HCL_FAILED c) k = 1))
        (s.on F.HEARTH_ID_SERVING (hearthPhys c k)) (s.rd F.HEARTH_ID_LOGICAL (hearthPhys c k) % 32)) ++ zeros 31)
  let tiles := (List.range 8).flatMap (fun c =>
    (List.range 17).map (fun k => ledgerByte (decide (bit (s.rd F.WELD_ACL_FAILED c) k = 1))
        (s.on F.ANVIL_ID_SERVING (tilePhys c k)) (s.rd F.ANVIL_ID_LOGICAL (tilePhys c k) % 16)) ++ zeros 15)
  let axes := (List.range 8).map (fun a => BitVec.ofNat 8 (s.rd F.AXIS_STATUS_ON_REDUNDANT a))
  fitTo 2880 (groups ++ hearths ++ tiles ++ axes) ++ fitTo 64 s.weld.lastChange

/-- Bytes 16 to 63 of a substitution record (R506). -/
def subBody (event cause frm into logical attempt first last error : Nat) : Bytes :=
  fitTo 48 (le 1 event ++ le 1 cause ++ le 1 frm ++ le 1 into ++ le 2 logical ++ le 1 attempt ++ le 1 0
    ++ le 8 first ++ le 8 last ++ le 2 error)

/-- Write a substitution record when SUB_EN is set (R506). -/
def State.subRecord (s : State) (src : Nat) (body : Bytes) : State :=
  if s.on F.WELD_OUT_SUB_EN then
    s.pushOr (srcNo 0x12 0) (s.rd F.WELD_OUT_SUB_TROUGH) (header 0x0910 1 src s.dt ++ body) F.WELD_STATUS_RESOURCE_HELD
  else s

/-- A change of the spare ledger: its SPARE_LEDGER Ingot (R516, R517), and one more swap when it is one (R518). -/
def State.ledgerChange (s : State) (body : Bytes) (swap : Bool) : State :=
  let s := { s with weld := { s.weld with lastChange := body } }
  let s := if swap then s.inc F.WELD_WEAR_VALUE 5 else s
  s.queueIngot 1 s.spareLedger

end Sys2Proof.Machine
end

