-- ==== Sys2Proof/Machine/Modes.lean ====
section
/-!
DEFINITION. Function modes as the blocks see them (R43, R44, R65 to R67): which units of a function are in service, and the safe points
at which a unit takes a pending mode.
-/

namespace Sys2Proof.Machine

/-! ### What tells whether a unit is in service -/

/-- The physical slice that serves a logical lane (R108). -/
def State.sliceOf (s : State) (l : Nat) : Nat := 17 * (l / 16) + s.rd (lgrpMap (l % 16)) (l / 16)

/-- State of the lane of a port (R117). -/
def State.laneState (s : State) (l : Nat) : Nat := s.rd F.LANE_STATE_STATE (s.sliceOf l)

/-- The master port of a logical Hearth, when a camera is bound to it (R142). -/
def State.masterOf (s : State) (h : Nat) : Option Nat :=
  (s.instances F.COBEX_CFG_BOUND 512 1).find? fun p =>
    decide (s.rd F.COBEX_CFG_HEARTH p = h ∧ s.rd F.COBEX_CFG_LANE_INDEX p = 0)

/-- State of a bond (R149), read at its master port. -/
def State.bond (s : State) (p : Nat) : Nat := s.rd F.COBEX_STATE_BOND p

/-- The bond of a logical Hearth is ACTIVE. -/
def State.bondActive (s : State) (h : Nat) : Bool :=
  match s.masterOf h with
  | some p => decide (s.bond p = 3)
  | none => false

/-- Offset of the registers of a kind from those of the camera generators (chapter 3, Registers). -/
def genOff : GenKind → Nat
  | .ctrig => 0
  | .ptrig => 0x4000
  | .fire => 0x5000

/-- The register field of a kind that lies where a camera generator has f. -/
def gf (k : GenKind) (f : Fld) : Fld := { f with addr := f.addr + genOff k }

/-- Whether a generator is armed. -/
def State.armed (s : State) (k : GenKind) (g : Nat) : Bool := s.on (gf k F.CTRIG_STATUS_ARMED) g

/-- Logical tiles in service. -/
def State.tilesInService (s : State) : List Nat := (List.range 128).filter fun t => (s.tileOf t).isSome

/-- The run set: the N_RUN lowest logical tiles in service (R330). -/
def State.runSet (s : State) : List Nat := s.tilesInService.take (s.rd F.BLW_SCHED_N_RUN)

/-! ### Safe points -/

/-- A unit of a function is in service (R65). [DESIGN CHOICE, log 38] -/
def State.inService (s : State) (f u : Nat) : Bool :=
  match f with
  | 1 => decide (s.laneState u = 5)
  | 2 => s.bondActive u
  | 3 | 4 => s.armed .fire u
  | 5 => s.on F.CMP_CFG_ENABLE u
  | 6 => if u < 256 then s.bondActive u else decide (u - 256 ∈ s.runSet)
  | 7 => s.on F.HEP_QUENCH_QUENCHED
  | 8 => s.ready
  | _ => decide (2 ≤ s.rd F.HGRP_PASS_MODE u)

/-- The mode of a unit: 0 hardware, 1 host-assisted (R65). -/
def State.modeOf (s : State) (f u : Nat) : Nat := if s.hwMode f u then 0 else 1

/-- A unit in service still waits for its safe point. [DESIGN CHOICE, log 37] -/
def State.modeWaits (s : State) (f : Nat) : Bool :=
  (List.range (fnUnits f)).any fun u => s.inService f u && decide (s.modeOf f u ≠ s.rd F.FUNC_MODE_REQUESTED f)

/-- PENDING follows the units that wait; when it clears, MODE_CHANGED is raised (R65). [DESIGN CHOICE, log 37] -/
def State.settleMode (s : State) (f : Nat) : State :=
  if s.modeWaits f then s.wr F.FUNC_MODE_PENDING 1 f
  else
    let want := s.rd F.FUNC_MODE_REQUESTED f
    let moved := s.on F.FUNC_MODE_PENDING f || decide (s.rd F.FUNC_MODE_CURRENT f ≠ want)
    let s := (s.wr F.FUNC_MODE_CURRENT want f).wr F.FUNC_MODE_PENDING 0 f
    let s := { s with modes := { s.modes with taken := s.modes.taken.filter fun e => decide (e.1 ≠ f) } }
    if moved then s.raise (ev 0x01 1) else s

/-- A unit takes the other mode than CURRENT, or returns to CURRENT (R65). -/
def State.flipMode (s : State) (f u : Nat) : State :=
  let l := s.modes.taken
  let l := if (f, u) ∈ l then l.filter fun e => decide (e ≠ (f, u)) else l ++ [(f, u)]
  { s with modes := { s.modes with taken := l } }

/-- Close one request. -/
def State.closeId (s : State) (id : Nat) : State :=
  { s with dcs := { s.dcs with open_ := s.dcs.open_.filter fun r => !decide (r.id = id) } }

/-- Requests of function 0x03 that name a channel in CHANNELS (R246). -/
def State.regReqs (s : State) (c : Nat) : List Request :=
  s.dcs.open_.filter fun r => decide (r.func = 3) && decide (bit (leAt r.proposal 16 8) c = 1)

/-- A unit is at its safe point: while a change is pending it takes REQUESTED (R43, R44, R65, R67). `afresh` is what its function does
when it passes to hardware mode: its open requests close, and it decides anew. [DESIGN CHOICE, log 37] -/
def State.safePoint (s : State) (f u : Nat) (afresh : State → State) : State :=
  let want := s.rd F.FUNC_MODE_REQUESTED f
  if s.on F.FUNC_MODE_PENDING f && decide (s.modeOf f u ≠ want) then
    let s := s.flipMode f u
    (if want = 0 then afresh s else s).settleMode f
  else s

end Sys2Proof.Machine
end

