-- ==== Sys2Proof/Machine/Axis.lean ====
section
/-!
DEFINITION. Encoder inputs and axes (R79 to R91): counts, backlash and reversal, the high-water mark, interpolation,
redundant encoders.
-/

namespace Sys2Proof.Machine

/-- One axis beside its registers. -/
def State.ax (s : State) (a : Nat) : AxisS := s.pos.axis.getD a {}

/-- Update one axis. -/
def State.setAx (s : State) (a : Nat) (x : AxisS) : State :=
  { s with pos := { s.pos with axis := s.pos.axis.put a x {} } }

/-- One encoder beside its registers. -/
def State.encoder (s : State) (e : Nat) : EncS := s.pos.enc.getD e {}

/-- Update one encoder. -/
def State.setEncoder (s : State) (e : Nat) (x : EncS) : State :=
  { s with pos := { s.pos with enc := s.pos.enc.put e x {} } }

/-- A signed change of a 48-bit count, modulo 2^48 (R82). -/
def addCount (c : Nat) (d : Int) : Nat := uOf 48 ((c : Int) + d)

/-- The difference of two counts, modulo 2^48 and signed (R82). -/
def countDiff (a b : Nat) : Int := sOf 48 (a + (2 ^ 48 - b % 2 ^ 48))

/-- The difference of two uQ48.8 positions, modulo 2^56 and signed (R82). -/
def posDiff (a b : Nat) : Int := sOf 56 (a + (2 ^ 56 - b % 2 ^ 56))

/-- P_est, or 0 while it is invalid: the floor of the mean of the last 2^AVG intervals (R84). -/
def State.period (s : State) (a : Nat) : Nat :=
  let n := 2 ^ (s.rd F.AXIS_CFG_AVG a)
  let iv := (s.ax a).ivals
  if n ≤ iv.length then (iv.take n).sum / n else 0

/-- The raw count of an axis (R83, R91). -/
def State.axRaw (s : State) (a : Nat) : Nat :=
  if s.on F.AXIS_STATUS_ON_REDUNDANT a then ((s.ax a).red + s.rd F.AXIS_RED_OFFSET_OFFSET a) % 2 ^ 48 else (s.ax a).prim

/-- P_eff in cycle t of the present count, uQ48.8 (R85, R87, R89). -/
def State.axPosAt (s : State) (a t : Nat) : Nat :=
  let h := s.rd F.AXIS_HWM_POSITION a
  if s.rd F.AXIS_STATUS_STATE a = 0 then
    let p := s.period a
    let f := if p = 0 then 0 else min 255 (256 * (t - (s.ax a).tu) / p)
    if s.on F.AXIS_STATUS_DIR a then
      let q := (s.axRaw a * 256 + (2 ^ 56 - f)) % 2 ^ 56
      if posDiff q h < 0 then q else h
    else
      let q := (s.axRaw a * 256 + f) % 2 ^ 56
      if 0 < posDiff q h then q else h
  else h

/-- P_eff now, uQ48.8. -/
def State.axPos (s : State) (a : Nat) : Nat := s.axPosAt a s.dt

/-- The high-water mark follows P_eff (R87); a bidirectional axis keeps its extreme (R89). -/
def State.settle (s : State) (a : Nat) : State := s.wr F.AXIS_HWM_POSITION (s.axPos a) a

/-- The high-water mark or the extreme as the cycle before this one left it: a fraction counts only until the next update (R85). -/
def State.settleBefore (s : State) (a : Nat) : State := s.wr F.AXIS_HWM_POSITION (s.axPosAt a (s.dt - 1)) a

/-- P_est becomes invalid (R84). `counted` tells whether the present count update starts the next interval. -/
def State.axRestart (s : State) (a : Nat) (counted : Bool) : State :=
  s.setAx a { s.ax a with ivals := [], seen := counted, tu := s.dt }

/-- A count update in the current direction in TRACK: its interval, its DT, and the high-water mark (R84, R85). -/
def State.axAdvance (s : State) (a : Nat) : State :=
  let x := s.ax a
  let iv := if x.seen then ((s.dt - x.tu) :: x.ivals).take 16 else []
  (s.setAx a { x with ivals := iv, seen := true, tu := s.dt }).settle a

/-- Entering TRACK from ABSORB or FROZEN: fraction 0, P_est invalid, HWM at least the raw count (R84, R87). -/
def State.axTrack (s : State) (a : Nat) (counted : Bool) : State :=
  ((s.wr F.AXIS_STATUS_STATE 0 a).axRestart a counted).settle a

/-- The backlash and reversal rules after a count update of a unidirectional axis (R87, R88). -/
def State.axMoveUni (s : State) (a : Nat) : State :=
  let d := countDiff (s.axRaw a) (s.rd F.AXIS_HWM_POSITION a / 256)
  let st := s.rd F.AXIS_STATUS_STATE a
  if 0 ≤ d then
    if st = 0 then s.axAdvance a
    else if st = 2 ∧ s.on F.AXIS_CFG_RESUME_MODE a ∧ !(s.ax a).resume then s
    else s.axTrack a true
  else if st = 2 then s
  else if -d ≤ (s.rd F.AXIS_CFG_WINDOW a : Int) then s.wr F.AXIS_STATUS_STATE 1 a
  else
    let s := s.wr F.AXIS_STATUS_STATE 2 a
    (s.setAx a { s.ax a with resume := false }).raiseT (ev 0x02 a)

/-- The turn rules after a count update of a bidirectional axis (R89). Answers whether it turned. [DESIGN CHOICE, log 59] -/
def State.axMoveBi (s : State) (a : Nat) : Bool × State :=
  let h := s.rd F.AXIS_HWM_POSITION a
  let c := s.axRaw a
  let rev := s.on F.AXIS_STATUS_DIR a
  let d : Int := if rev then -(countDiff c ((h + 255) / 256)) else countDiff c (h / 256)
  if 0 ≤ d then (false, if s.rd F.AXIS_STATUS_STATE a = 0 then s.axAdvance a else s.axTrack a true)
  else if -d ≤ (s.rd F.AXIS_CFG_WINDOW a : Int) then (false, s.wr F.AXIS_STATUS_STATE 1 a)
  else
    let s := (s.wr F.AXIS_STATUS_DIR (if rev then 0 else 1) a).wr F.AXIS_HWM_POSITION (c * 256) a
    (true, (s.axTrack a true).raiseT (ev 0x1C a))

/-- The rules of R87 or R89 after a count update of the encoder an axis counts from. Answers whether it turned. -/
def State.axMove (s : State) (a : Nat) : Bool × State :=
  let s := s.setAx a { s.ax a with lastUpd := s.dt, stalled := false }
  if s.on F.AXIS_CFG_MODE a then s.axMoveBi a else (false, s.axMoveUni a)

/-- Whether an axis owns an encoder (resource class 0x09, R58, R83). -/
def State.axOwns (s : State) (a e : Nat) : Bool := decide (s.owner 0x09 e = srcNo 1 a)

/-- The change that a cycle's accepted edges make to the count of encoder e. -/
def deltaOf (dl : List (Nat × Int)) (e : Nat) : Int := (dl.lookup e).getD 0

/-- The primary is stalled while the redundant encoder has counted at least 3 edges, as of cycle t (R91). [DESIGN CHOICE, log 59] -/
def State.primStalled (s : State) (a t : Nat) : Bool :=
  decide ((s.ax a).primTu + s.rd F.AXIS_STALL_STALL_NS a ≤ t) && decide (3 ≤ (s.ax a).redEdges)

/-- The stall of R91 is kept from the cycle in which it holds until the next clear of DISAGREE. -/
def State.noteStall (s : State) (a t : Nat) : State :=
  if s.primStalled a t then s.setAx a { s.ax a with stallSeen := true } else s

/-- The accepted edges of one cycle as axis a counts them (R83, R90). Answers whether the axis turned. -/
def State.axCount (s : State) (dl : List (Nat × Int)) (a : Nat) : Bool × State :=
  let p := s.rd F.AXIS_CFG_PRIMARY a
  let r := s.rd F.AXIS_CFG_REDUNDANT a
  let dp := deltaOf dl p
  let dr := if s.on F.AXIS_CFG_RED_EN a then deltaOf dl r else 0
  if !s.on F.AXIS_CFG_ENABLE a || (decide (dp = 0) && decide (dr = 0)) then (false, s)
  else
    let held := (decide (dp ≠ 0) && !s.axOwns a p) || (decide (dr ≠ 0) && !s.axOwns a r)
    let dp := if s.axOwns a p then (if s.on F.AXIS_CFG_SIGN_P a then -dp else dp) else 0
    let dr := if s.axOwns a r then (if s.on F.AXIS_CFG_SIGN_R a then -dr else dr) else 0
    let s := if held then s.flag F.AXIS_STATUS_RESOURCE_HELD a else s
    let moved := if s.on F.AXIS_STATUS_ON_REDUNDANT a then decide (dr ≠ 0) else decide (dp ≠ 0)
    let s := if moved then s.settleBefore a else s
    let s := if dp = 0 then s else
      let s := s.noteStall a (s.dt - 1)
      s.setAx a { s.ax a with prim := addCount (s.ax a).prim dp, primTu := s.dt, redEdges := 0 }
    let s := if dr = 0 then s else
      let s := s.setAx a { s.ax a with red := addCount (s.ax a).red dr, redEdges := (s.ax a).redEdges + 1 }
      s.noteStall a s.dt
    if moved then s.axMove a else (false, s)

/-- Switch an axis between its encoders: the raw count, HWM and P_eff stay, RED_OFFSET is recomputed, P_est becomes
invalid, and Weld records the switch (R84, R91, R506, R517). -/
def State.axSwitch (s : State) (a : Nat) (toRed : Bool) (cause error : Nat) : State :=
  let s := s.settle a
  let raw := s.axRaw a
  let x := s.ax a
  let s := s.setAx a { x with prim := if toRed then x.prim else raw }
  let s := s.wr F.AXIS_RED_OFFSET_OFFSET (raw + (2 ^ 48 - x.red)) a
  let s := (s.wr F.AXIS_STATUS_ON_REDUNDANT (b2n toRed) a).inc F.AXIS_STATUS_SWITCHES a
  let s := s.axRestart a false
  let p := s.rd F.AXIS_CFG_PRIMARY a
  let r := s.rd F.AXIS_CFG_REDUNDANT a
  let body := subBody 0x0A cause (if toRed then p else r) (if toRed then r else p) a 0 0 0 error
  (s.subRecord (srcNo 1 a) body).ledgerChange body true

/-- The disagreement test of R90 in one cycle, after the counts and the axis rules, and the automatic switch of R91. The cycle in which
DISAGREE is set is the first one of a disagreement. [DESIGN CHOICE, log 59] -/
def State.axDisagree (s : State) (a : Nat) : State :=
  if s.on F.AXIS_CFG_ENABLE a && s.on F.AXIS_CFG_RED_EN a && !s.on F.AXIS_STATUS_DISAGREE a then
    let x := s.ax a
    let red := (x.red + s.rd F.AXIS_RED_OFFSET_OFFSET a) % 2 ^ 48
    let d := countDiff x.prim red
    if 2 < d ∨ d < -2 then
      let s := s.flag F.AXIS_STATUS_DISAGREE a
      let s := (s.err 0x11 (srcNo 1 a) (le 8 a ++ le 8 x.prim ++ le 8 red)).raiseT (ev 0x03 a)
      let stalled := x.stallSeen || s.primStalled a s.dt
      if s.on F.AXIS_CFG_AUTO_SWITCH a && !s.on F.AXIS_STATUS_ON_REDUNDANT a && (x.illegal || stalled)
      then s.axSwitch a true 5 0x11 else s
    else s
  else s

/-- RED_OFFSET is recorded as the primary raw count minus the redundant raw count (R90). -/
def State.recordRedOffset (s : State) (a : Nat) : State :=
  s.wr F.AXIS_RED_OFFSET_OFFSET ((s.ax a).prim + (2 ^ 48 - (s.ax a).red)) a

/-- The count of an encoder with the axis sign (R83). -/
def State.signedCount (s : State) (e : Nat) (neg : Bool) : Nat :=
  let c := s.rd F.ENC_COUNT_COUNT e
  if neg then (2 ^ 48 - c) % 2 ^ 48 else c

/-- AXIS_CFG.ENABLE takes 1: the raw count follows the primary encoder and HWM is set to it (R83, R87). [DESIGN CHOICE, log 59] -/
def State.axEnable (s : State) (a : Nat) : State :=
  let p := s.signedCount (s.rd F.AXIS_CFG_PRIMARY a) (s.on F.AXIS_CFG_SIGN_P a)
  let r := s.signedCount (s.rd F.AXIS_CFG_REDUNDANT a) (s.on F.AXIS_CFG_SIGN_R a)
  let s := s.setAx a { prim := p, red := r, tu := s.dt, lastUpd := s.dt, primTu := s.dt }
  let s := ((s.wr F.AXIS_STATUS_ON_REDUNDANT 0 a).wr F.AXIS_STATUS_DIR 0 a).wr F.AXIS_HWM_POSITION (p * 256) a
  let s := if s.on F.AXIS_CFG_RED_EN a then s.recordRedOffset a else s
  let held := !s.axOwns a (s.rd F.AXIS_CFG_PRIMARY a)
    || (s.on F.AXIS_CFG_RED_EN a && !s.axOwns a (s.rd F.AXIS_CFG_REDUNDANT a))
  let s := if held then s.flag F.AXIS_STATUS_RESOURCE_HELD a else s
  s.wr F.AXIS_STATUS_STATE 0 a

/-- AXIS_CFG.ENABLE takes 0 (R87). -/
def State.axDisable (s : State) (a : Nat) : State := (s.settle a).wr F.AXIS_STATUS_STATE 3 a

/-- A FROZEN axis leaves FROZEN when its rule allows it (R88). [DESIGN CHOICE, log 59] -/
def State.axTryResume (s : State) (a : Nat) : State :=
  if s.rd F.AXIS_STATUS_STATE a = 2 ∧ 0 ≤ countDiff (s.axRaw a) (s.rd F.AXIS_HWM_POSITION a / 256)
      ∧ (s.on F.AXIS_CFG_RESUME_MODE a = false ∨ (s.ax a).resume) then s.axTrack a false else s

/-- Place of the levels (A, B) in the quadrature cycle with A leading B (R80). -/
def quadIndex (a b : Nat) : Nat := if a = 0 then (if b = 0 then 0 else 3) else (if b = 0 then 1 else 2)

/-- A new level that every sample of the FILTER_NS + 1 cycles up to the one before t shows is accepted in cycle t (R79). -/
def EncIn.accept (x : EncIn) (filter t : Nat) : EncIn :=
  if x.raw ≠ x.lev ∧ x.since + filter + 1 ≤ t then { x with lev := x.raw } else x

/-- Cycle t samples a level; a change starts the test afresh (R79). -/
def EncIn.sample (x : EncIn) (v t : Nat) : EncIn := if x.raw = v % 2 then x else { x with raw := v % 2, since := t }

/-- The samplers take new levels of A and B. -/
def State.sampleAB (s : State) (l : List (Nat × Nat × Nat)) : State :=
  l.foldl (fun s x =>
    let n := s.encoder x.1
    s.setEncoder x.1 { n with a := n.a.sample x.2.1 s.dt, b := n.b.sample x.2.2 s.dt }) s

/-- The samplers take new levels of Z. -/
def State.sampleZ (s : State) (l : List (Nat × Nat)) : State :=
  l.foldl (fun s x =>
    let n := s.encoder x.1
    s.setEncoder x.1 { n with z := n.z.sample x.2 s.dt }) s

/-- The accepted levels follow the pins while the position block rests: nothing counts then. [DESIGN CHOICE, log 59] -/
def State.followPins (s : State) : State :=
  { s with pos := { s.pos with enc := s.pos.enc.map fun x =>
    (x.1, { x.2 with a := { x.2.a with lev := x.2.a.raw }, b := { x.2.b with lev := x.2.b.raw },
                     z := { x.2.z with lev := x.2.z.raw } }) } }

/-- The accepted levels of encoder e in this cycle (R79). -/
def State.accepted (s : State) (e : Nat) : EncS :=
  let x := s.encoder e
  let f := s.rd F.ENC_CFG_FILTER_NS e
  { x with a := x.a.accept f s.dt, b := x.b.accept f s.dt, z := x.z.accept f s.dt }

/-- The count of encoder e in this cycle (R80): its new levels are taken over, and the change of its count is added to the list. -/
def State.encCount (r : List (Nat × Int) × State) (e : Nat) : List (Nat × Int) × State :=
  let s := r.2
  let x := s.encoder e
  let y := s.accepted e
  let da := decide (y.a.lev ≠ x.a.lev)
  let db := decide (y.b.lev ≠ x.b.lev)
  let s := s.setEncoder e { y with edgeAt := if da || db then s.dt else x.edgeAt }
  if !s.on F.ENC_CFG_ENABLE e || !(da || db) then (r.1, s)
  else if da && db then
    let s := (s.flag F.ENC_STATUS_ILLEGAL e).inc F.ENC_STATUS_ILLEGAL_COUNT e
    (r.1, (List.range 8).foldl (fun s ax =>
      if s.on F.AXIS_CFG_ENABLE ax && decide (s.rd F.AXIS_CFG_PRIMARY ax = e)
      then s.setAx ax { s.ax ax with illegal := true } else s) s)
  else
    let up := decide (quadIndex y.a.lev y.b.lev = (quadIndex x.a.lev x.b.lev + 1) % 4)
    let d : Int := if up != s.on F.ENC_CFG_SWAP e then 1 else -1
    (r.1 ++ [(e, d)], s.wr F.ENC_COUNT_COUNT (addCount (s.rd F.ENC_COUNT_COUNT e) d) e)

/-- Whether an enabled axis uses an encoder, as its primary or its redundant one. -/
def State.axUses (s : State) (a e : Nat) : Bool :=
  s.on F.AXIS_CFG_ENABLE a && (decide (s.rd F.AXIS_CFG_PRIMARY a = e)
    || (s.on F.AXIS_CFG_RED_EN a && decide (s.rd F.AXIS_CFG_REDUNDANT a = e)))

/-- Whether a generator of any kind is armed on an axis. -/
def State.armedOn (s : State) (a : Nat) : Bool :=
  (s.instances F.CTRIG_STATUS_ARMED 256 1).any (fun g => decide (s.rd F.CTRIG_CFG_AXIS g = a))
    || (s.instances F.PTRIG_STATUS_ARMED 32 1).any (fun p => decide (s.rd F.PTRIG_CFG_AXIS p = a))
    || (s.instances F.FIRE_STATUS_ARMED 64 1).any (fun c => decide (s.rd F.FIRE_CFG_AXIS c = a))

/-- Re-base one axis after an index reset of encoder e (R81). [DESIGN CHOICE, log 59] -/
def State.rebase (s : State) (a e : Nat) : State :=
  if !s.axUses a e || !s.axOwns a e then s else
    let onR := s.on F.AXIS_STATUS_ON_REDUNDANT a
    let asP := decide (s.rd F.AXIS_CFG_PRIMARY a = e)
    let asR := s.on F.AXIS_CFG_RED_EN a && decide (s.rd F.AXIS_CFG_REDUNDANT a = e)
    let x := s.ax a
    if (asP && !onR) || (asR && onR) then
      let s := s.setAx a { x with prim := 0, red := if asR then 0 else x.red }
      let s := if onR then s.wr F.AXIS_RED_OFFSET_OFFSET 0 a else s.recordRedOffset a
      let s := (s.wr F.AXIS_HWM_POSITION 0 a).wr F.AXIS_STATUS_STATE 0 a
      s.axRestart a false
    else if asR then (s.setAx a { x with red := 0 }).recordRedOffset a
    else s

/-- An accepted edge of Z, after the counts of its cycle (R78, R81). -/
def State.encIndex (s : State) (e : Nat) : State :=
  let s := s.raiseT (ev 0x04 e)
  let m := s.rd F.ENC_CFG_ZMODE e
  if m = 1 ∨ m = 2 then
    let s := (s.wr F.ENC_ZPOS_VALUE (s.rd F.ENC_COUNT_COUNT e) e).wr F.ENC_ZSTAMP_VALUE s.dt e
    if m = 2 ∧ (s.encoder e).zArmed then
      if (List.range 8).any (fun a => s.axUses a e && s.armedOn a) then s.flag F.ENC_STATUS_Z_IGNORED e
      else
        let s := (s.setEncoder e { s.encoder e with zArmed := false }).wr F.ENC_COUNT_COUNT 0 e
        (List.range 8).foldl (fun s a => s.rebase a e) s
    else s
  else s

/-- Encoders whose Z takes its active edge in this cycle, while they are enabled (R81). -/
def State.zEdges (s : State) : List Nat :=
  (List.range 16).filter fun e =>
    let x := (s.encoder e).z
    let y := (s.accepted e).z
    s.on F.ENC_CFG_ENABLE e && decide (y.lev ≠ x.lev) && decide (y.lev = if s.on F.ENC_CFG_Z_POL e then 0 else 1)

/-- Steps 1 to 3 of a timebase cycle (R78): every level that is due is accepted, then all counts, then the rules of every axis with its
index resets, then the disagreement tests. Answers the axes that turned. -/
def State.posCycle (s : State) : List Nat × State :=
  let zs := s.zEdges
  let c := (List.range 16).foldl State.encCount ([], s)
  let r := (List.range 8).foldl (fun (r : List Nat × State) ax =>
    let q := r.2.axCount c.1 ax
    (if q.1 then r.1 ++ [ax] else r.1, q.2)) ([], c.2)
  let s := zs.foldl State.encIndex r.2
  (r.1, (List.range 8).foldl State.axDisagree s)

/-- AXIS_STALL a: no count update for STALL_NS (R84). -/
def execAxisStall (d a : Nat) (s : State) : Host.Outcome State Fault Refusal :=
  cmd (decide (a < 8)) d s fun s => s.press fun s =>
    let x := s.ax a
    if s.on F.AXIS_CFG_ENABLE a && !x.stalled && decide (x.lastUpd + s.rd F.AXIS_STALL_STALL_NS a ≤ s.dt) then
      let s := (s.settleBefore a).axRestart a false
      (s.setAx a { s.ax a with stalled := true }).noteStall a s.dt
    else s

/-- STALLED of an encoder: an axis that uses it has seen no edge of it for its STALL_NS (chapter 3, ENC_STATUS). -/
def State.encStalled (s : State) (e : Nat) : Bool :=
  (List.range 8).any fun a => s.axUses a e && decide ((s.encoder e).edgeAt + s.rd F.AXIS_STALL_STALL_NS a ≤ s.dt)

/-- AXIS_CTL.RESUME: approve leaving FROZEN in host mode (R88). -/
def State.axResume (s : State) (a : Nat) : State :=
  if s.rd F.AXIS_STATUS_STATE a = 2 then (s.setAx a { s.ax a with resume := true }).axTryResume a else s

/-- AXIS_CTL.USE_REDUNDANT: ignored without RED_EN (R91). -/
def State.axUseRedundant (s : State) (a : Nat) : State :=
  if s.on F.AXIS_CFG_ENABLE a && s.on F.AXIS_CFG_RED_EN a && !s.on F.AXIS_STATUS_ON_REDUNDANT a
  then s.axSwitch a true 3 0 else s

/-- AXIS_CTL.USE_PRIMARY (R91). -/
def State.axUsePrimary (s : State) (a : Nat) : State :=
  if s.on F.AXIS_CFG_ENABLE a && s.on F.AXIS_STATUS_ON_REDUNDANT a then s.axSwitch a false 3 0 else s

end Sys2Proof.Machine
end

