-- ==== Sys2Proof/Machine/Ledger.lean ====
section
/-!
DEFINITION. The exposure ledger (R101 to R105): entries, trigger and lost records.
-/

namespace Sys2Proof.Machine

/-- Bytes 8 to 15 of an entry: position, axis, direction and state (R102). -/
def posWord (pos axis dir state : Nat) : Nat :=
  pos % 2 ^ 56 + axis % 8 * 2 ^ 56 + dir % 2 * 2 ^ 59 + state % 8 * 2 ^ 60

/-- A ledger entry as 32 bytes (R102). -/
def LedgerE.bytes (e : LedgerE) (state cause : Nat) : Bytes :=
  le 8 e.dt ++ le 8 (posWord e.pos e.axis e.dir state) ++ le 4 e.frameNo ++ le 1 e.gen ++ le 1 0 ++ le 2 e.expGen
    ++ le 4 (e.lines % 2 ^ 17) ++ le 4 (e.skipped % 2 ^ 17 + cause * 2 ^ 17)

/-- Open entries of one generator. -/
def State.openOf (s : State) (g : Nat) : List (Nat × LedgerE) := s.pos.ledger.filter (fun e => decide (e.2.gen = g))

/-- The lowest free ledger index, from i on. [DESIGN CHOICE, log 60] -/
def freeIndex : Nat → Assoc LedgerE → Nat
  | i, [] => i
  | i, (k, _) :: m => if k = i then freeIndex (i + 1) m else i

/-- Update the ledger, with LEDGER_PEAK (R104). -/
def State.setLedger (s : State) (m : Assoc LedgerE) : State :=
  let s := { s with pos := { s.pos with ledger := m } }
  s.wr F.LEDGER_PEAK_PEAK (max (s.rd F.LEDGER_PEAK_PEAK) m.length)

/-- A trigger or lost record of a generator, 64 bytes (R105). -/
def State.trigRecord (s : State) (g typ : Nat) (stamp : Nat) (entry : Bytes) (index : Nat) : State :=
  if s.on F.CTRIG_CFG_REC_EN g then
    s.pushOr (srcNo 3 g) (s.rd F.CTRIG_CFG_TROUGH g)
      (header typ 1 (srcNo 3 g) stamp ++ entry ++ le 4 index ++ zeros 12) F.CTRIG_STATUS_RESOURCE_HELD g
  else s

/-- A ledger entry is freed as lost and a lost record is written (R104, R105). [DEDUCED, log 62] -/
def State.ledgerLost (s : State) (idx cause : Nat) : State :=
  match s.pos.ledger.find idx with
  | none => s
  | some e =>
    let s := s.setLedger (s.pos.ledger.del idx)
    s.trigRecord e.gen 0x0101 s.dt (e.bytes 4 cause) idx

/-- A line trigger of the frame of an entry was skipped (R93, R95). -/
def State.ledgerSkip (s : State) (idx n : Nat) : State :=
  match s.pos.ledger.find idx with
  | none => s
  | some e => { s with pos := { s.pos with ledger := s.pos.ledger.ins idx { e with skipped := e.skipped + n } } }

/-- A Hearth sends a notice to the ledger (R103). -/
def State.notify (s : State) (k : Notice) : State := { s with pos := { s.pos with notices := s.pos.notices ++ [k] } }

/-- The ledger still holds the entry that a notice names: it has not been declared lost since (R103, R203). -/
def State.holdsEntry (s : State) (k : Notice) : Bool :=
  match s.pos.ledger.find k.idx with
  | some e => decide (e.gen = k.gen ∧ e.frameNo = k.frameNo)
  | none => false

/-- A first-block notice moves the entry it names to receiving (R103). -/
def State.ledgerFirst (s : State) (k : Notice) : State :=
  match s.pos.ledger.find k.idx with
  | none => s
  | some e =>
    if e.gen = k.gen ∧ e.frameNo = k.frameNo then
      { s with pos := { s.pos with ledger := s.pos.ledger.ins k.idx { e with state := 2 } } }
    else s

/-- A frame-tag notice retires an entry as delivered: it is free (R103). -/
def State.ledgerRetire (s : State) (idx : Nat) : State := s.setLedger (s.pos.ledger.del idx)

/-- The entry of generator g that holds a FRAME_NO (R103). -/
def State.entryOf (s : State) (g frameNo : Nat) : Option (Nat × LedgerE) :=
  s.pos.ledger.find? (fun e => decide (e.2.gen = g ∧ e.2.frameNo = frameNo))

/-- The 32 bytes that LEDGER_DATA presents for an index; a free entry has STATE free and nothing else (R102). -/
def State.entryBytes (s : State) (idx : Nat) : Bytes :=
  match s.pos.ledger.find idx with
  | none => zeros 32
  | some e => e.bytes e.state 0

/-- A write of LEDGER_SEL: the four words are copied in the cycle after it (R102). -/
def State.ledgerSelect (s : State) (idx : Nat) : State :=
  let s := s.wr F.LEDGER_SEL_INDEX idx
  let b := s.entryBytes (idx % 131072)
  (List.range 4).foldl (fun s i => s.wr F.LEDGER_DATA_WORD (leAt b (8 * i) 8) i) s

/-- LEDGER_SEL_WRITE: a host write of LEDGER_SEL (R102). -/
def execLedgerSelWrite (d index : Nat) (s : State) : Host.Outcome State Fault Refusal :=
  cmd true d s fun s => s.hostWrite F.LEDGER_SEL_INDEX.addr fun s => s.ledgerSelect index

end Sys2Proof.Machine
end

