-- ==== Sys2Proof/Machine/Generators.lean ====
section
/-!
DEFINITION. Trigger and fire-point generators (R86, R92 to R98): grids, crossings, skips, arming and turns.
-/

namespace Sys2Proof.Machine

/-- One generator beside its registers. -/
def State.gen (s : State) (k : GenKind) (g : Nat) : GenS :=
  match k with
  | .ctrig => s.pos.ctrig.getD g {}
  | .ptrig => s.pos.ptrig.getD g {}
  | .fire => s.pos.fire.getD g {}

/-- Update one generator. -/
def State.setGen (s : State) (k : GenKind) (g : Nat) (x : GenS) : State :=
  match k with
  | .ctrig => { s with pos := { s.pos with ctrig := s.pos.ctrig.put g x {} } }
  | .ptrig => { s with pos := { s.pos with ptrig := s.pos.ptrig.put g x {} } }
  | .fire => { s with pos := { s.pos with fire := s.pos.fire.put g x {} } }

/-- The axis of a generator. -/
def State.genAxis (s : State) (k : GenKind) (g : Nat) : Nat := s.rd (gf k F.CTRIG_CFG_AXIS) g

/-- One Hammer channel beside its registers. -/
def State.hm (s : State) (c : Nat) : HammerS := s.hammer.getD c {}

/-- Update one Hammer channel. -/
def State.setHm (s : State) (c : Nat) (x : HammerS) : State := { s with hammer := s.hammer.put c x {} }

/-- DELAY_NS of a generator; a fire-point generator uses the committed delay (R94, R99). -/
def State.genDelay (s : State) (k : GenKind) (g : Nat) : Nat :=
  match k with
  | .fire => s.rd F.FIRE_DELAY_NOW_DELAY_NS g
  | _ => s.rd (gf k F.CTRIG_DELAY_DELAY_NS) g

/-- MIN_PERIOD_NS of a generator (R95). -/
def State.genMinPer (s : State) (k : GenKind) (g : Nat) : Nat :=
  match k with
  | .ctrig => s.rd F.CTRIG_MINPER_VALUE g
  | .ptrig => max (s.rd F.PTRIG_MINPER_VALUE g) (s.rd F.PTRIG_PULSE_WIDTH_NS g + 4)
  | .fire => s.rd F.FIRE_MINPER_VALUE g

/-- The per-direction grid offset of a fire-point generator, in 1/256 count (R98, R276). -/
def State.genOffset (s : State) (k : GenKind) (g dir : Nat) : Int :=
  match k with
  | .fire => sOf 32 (if dir = 1 then (s.hm g).rev else (s.hm g).fwd)
  | _ => 0

/-- The grid in uQ48.32: START, with the offset of a direction (R92, R98). -/
def State.gridStart (s : State) (k : GenKind) (g dir : Nat) : Int :=
  ((s.rd (gf k F.CTRIG_START_VALUE) g : Nat) : Int) * 2 ^ 24 + s.genOffset k g dir * 2 ^ 24

/-- PITCH of a generator, uQ16.32. -/
def State.pitch (s : State) (k : GenKind) (g : Nat) : Nat := s.rd (gf k F.CTRIG_PITCH_VALUE) g

/-- The time from one target to the next at the present speed, in ns; 0 while P_est is invalid (R523). -/
def State.targetNs (s : State) (k : GenKind) (g : Nat) : Nat := s.pitch k g * s.period (s.genAxis k g) / 2 ^ 32

/-- A difference of uQ48.32 positions, modulo 2^80 and signed (R82). -/
def fineDiff (a b : Int) : Int := sOf 80 (uOf 80 (a - b))

/-- Lines of a frame of a camera generator: 1 for an area generator (R92, R93). -/
def State.frameLines (s : State) (g : Nat) : Nat :=
  if s.on F.CTRIG_CFG_KIND g then s.rd F.CTRIG_FRAME_LINES g else 1

/-- Targets from one frame start to the next (R92). -/
def State.framePeriod (s : State) (g : Nat) : Nat := s.frameLines g + s.rd F.CTRIG_FRAME_FRAME_GAP g

/-- Directions a generator crosses targets in, on a bidirectional axis (R92, R98). -/
def State.dirOk (s : State) (k : GenKind) (g dir : Nat) : Bool :=
  match k with
  | .fire => decide (bit (s.rd F.FIRE_CFG_DIRS g) dir = 1)
  | _ => decide (s.rd (gf k F.CTRIG_CFG_DIR_SEL) g = dir)

/-- The first target of a generator ahead of P_eff in a direction of travel (R92). -/
def State.firstTarget (s : State) (k : GenKind) (g dir : Nat) : Int :=
  let a := s.genAxis k g
  let p := (s.pitch k g : Int)
  let d := fineDiff ((s.axPos a : Int) * 2 ^ 24) (s.gridStart k g dir)
  let f : Int := if k = .ctrig then (s.framePeriod g : Int) else 1
  if dir = 1 then
    let j := (d + (p - 1)) / p - 1
    j / f * f
  else
    let j := d / p + 1
    let j := if s.on F.AXIS_CFG_MODE a then j else max j 0
    (j + (f - 1)) / f * f

/-- Drop the crossings that wait; the frame in progress is over (R96). -/
def GenS.stopped (x : GenS) : GenS := { x with waiting := [], line := 0, suppressed := false, refused := false }

/-- A generator stops (R96): disarmed, with the crossings that wait dropped. -/
def State.disarm (s : State) (k : GenKind) (g : Nat) : State :=
  if s.armed k g || !(s.gen k g).waiting.isEmpty then
    (s.wr (gf k F.CTRIG_STATUS_ARMED) 0 g).setGen k g (s.gen k g).stopped
  else s

/-- A generator with a valid PITCH is armed at its first target ahead (R92). [DESIGN CHOICE, log 61] -/
def State.armGen (s : State) (k : GenKind) (g : Nat) : State :=
  let a := s.genAxis k g
  let dir := s.rd F.AXIS_STATUS_DIR a
  let x := s.gen k g
  let s := s.wr (gf k F.CTRIG_STATUS_ARMED) 1 g
  s.setGen k g { x with k := s.firstTarget k g dir, count := 0, line := 0, suppressed := false, dir := dir }

/-- A skipped crossing (R95). -/
def State.skip (s : State) (k : GenKind) (g n : Nat) : State :=
  (s.inc (gf k F.CTRIG_COUNT_SKIPS) g 0 n).flag (gf k F.CTRIG_STATUS_SKIPPED) g

/-- Add a skipped line to the last frame trigger that waits; none when no frame trigger waits. -/
def addSkips (n : Nat) : List Crossing → Option (List Crossing)
  | [] => none
  | c :: cs => match addSkips n cs with
    | some cs' => some (c :: cs')
    | none => if c.line = 0 then some ({ c with skips := c.skips + n } :: cs) else none

/-- n skipped line triggers of the frame in progress (R93, R95). -/
def State.skipLines (s : State) (g n : Nat) : State :=
  let s := s.skip .ctrig g n
  let x := s.gen .ctrig g
  match addSkips n x.waiting with
  | some w => s.setGen .ctrig g { x with waiting := w }
  | none => match x.entry with
    | some e => s.ledgerSkip e.1 n
    | none => s

/-- DT of the issue that a crossing's MIN_PERIOD_NS is measured from (R95). -/
def GenS.lastIssue (x : GenS) : Option Nat :=
  match (x.waiting.filter (fun c => !c.skipped)).getLast? with
  | some c => some c.at_
  | none => x.last

/-- The frame in progress is not triggered: its frame trigger was skipped, or issued and refused (R95, R101). -/
def GenS.untriggered (x : GenS) : Bool := x.suppressed || (x.refused && x.waiting.all fun c => decide (c.line ≠ 0))

/-- The skip test of R95 for a triggering target; `first` is the case of several targets crossed in one cycle. -/
def State.skips (s : State) (k : GenKind) (g at_ : Nat) (first : Bool) : Bool :=
  let x := s.gen k g
  let early := match x.lastIssue with
    | some l => decide (at_ < l + s.genMinPer k g)
    | none => false
  early || decide (256 ≤ (x.waiting.filter (fun c => !c.skipped)).length) || !first

/-- One target of a camera generator is crossed (R93, R95). Answers whether it was a triggering target. -/
def State.crossCam (s : State) (g dir pos : Nat) (first : Bool) : Bool × State :=
  let x := s.gen .ctrig g
  let n := s.frameLines g
  let f : Int := s.framePeriod g
  let phase := ((if dir = 1 then -x.k else x.k) % f).toNat
  let step := fun (x : GenS) => { x with k := if dir = 1 then x.k - 1 else x.k + 1 }
  if n ≤ phase then (false, s.setGen .ctrig g (step { x with line := 0 }))
  else
    let at_ := s.dt + 2 + s.genDelay .ctrig g
    let c : Crossing := ⟨at_, pos, x.k, dir, phase, false, 0, s.genDelay .ctrig g⟩
    let next := if phase + 1 = n then 0 else phase + 1
    if phase = 0 then
      if s.skips .ctrig g at_ first then
        let s := s.skip .ctrig g 1
        (true, s.setGen .ctrig g (step { s.gen .ctrig g with suppressed := true, line := next }))
      else (true, s.setGen .ctrig g (step { x with waiting := x.waiting ++ [c], suppressed := false, line := next }))
    else if x.untriggered then (true, s.setGen .ctrig g (step { x with line := next }))
    else if s.skips .ctrig g at_ first then
      let s := s.skipLines g 1
      (true, s.setGen .ctrig g (step { s.gen .ctrig g with line := next }))
    else (true, s.setGen .ctrig g (step { x with waiting := x.waiting ++ [c], line := next }))

/-- One target of a pin or fire-point generator is crossed (R95, R97, R98). -/
def State.crossPoint (s : State) (k : GenKind) (g dir pos : Nat) (first : Bool) : State :=
  let x := s.gen k g
  let at_ := s.dt + 2 + s.genDelay k g
  let sk := s.skips k g at_ first
  let s := if sk then s.skip k g 1 else s
  let c : Crossing := ⟨at_, pos, x.k, dir, 0, sk, 0, s.genDelay k g⟩
  let w := if sk && decide (k ≠ .fire) then x.waiting else x.waiting ++ [c]
  s.setGen k g { x with k := if dir = 1 then x.k - 1 else x.k + 1, waiting := w }

/-- Whether the last target of a frame that began at index k0 has been crossed or given up (R93). -/
def State.frameOver (s : State) (g : Nat) (k0 : Int) (dir : Nat) : Bool :=
  let x := s.gen .ctrig g
  let n : Int := s.frameLines g
  decide (x.dir ≠ dir) || (if dir = 1 then decide (x.k ≤ k0 - n) else decide (k0 + n ≤ x.k))

/-- Self-disarm of a camera generator: the crossings of the last counted frame stay (R93). -/
def State.selfDisarm (s : State) (g : Nat) : State :=
  let x := s.gen .ctrig g
  (s.wr F.CTRIG_STATUS_ARMED 0 g).setGen .ctrig g
    { x with waiting := x.waiting.takeWhile (fun c => decide (c.line ≠ 0)), line := 0 }

/-- Cross up to n further targets of a generator in this cycle (R86, R95). -/
def State.crossMany (s : State) (k : GenKind) (g dir pos : Nat) : Nat → Bool → State
  | 0, _ => s
  | n + 1, first =>
    if !s.armed k g then s
    else match k with
      | .ctrig =>
        let wasLast := decide ((s.gen .ctrig g).line + 1 = s.frameLines g)
        let r := s.crossCam g dir pos first
        let fr := s.rd F.CTRIG_FRAME_FRAMES g
        let done := r.1 && wasLast && !(s.gen .ctrig g).suppressed && decide (fr ≠ 0 ∧ fr ≤ (r.2.gen .ctrig g).count)
        let s' := if done then r.2.selfDisarm g else r.2
        State.crossMany s' k g dir pos n (first && !r.1)
      | _ => State.crossMany (s.crossPoint k g dir pos first) k g dir pos n false

/-- How far the targets of an axis in TRACK are crossed now, in uQ48.32 relative to the raw count, along the direction
of travel (R86). -/
def State.crossReach (s : State) (a : Nat) : Nat :=
  let p := s.period a
  if p = 0 then 0 else min (2 ^ 32 - 1) ((s.dt - (s.ax a).tu) * 2 ^ 32 / p)

/-- How many targets of a generator have been crossed and not yet taken (R86). -/
def State.crossed (s : State) (k : GenKind) (g : Nat) : Nat :=
  let a := s.genAxis k g
  let dir := s.rd F.AXIS_STATUS_DIR a
  let x := s.gen k g
  let p := s.pitch k g
  let t := s.gridStart k g dir + x.k * (p : Int)
  let c : Int := (s.axRaw a : Int) * 2 ^ 32
  let ahead := if dir = 1 then fineDiff t (c - s.crossReach a) else fineDiff (c + s.crossReach a) t
  if s.rd F.AXIS_STATUS_STATE a ≠ 0 ∨ p = 0 then 0
  else if s.on F.AXIS_CFG_MODE a && !s.dirOk k g dir then 0
  else if 0 ≤ ahead then (ahead / (p : Int)).toNat + 1 else 0

/-- TARGET_CROSSING: P_eff has crossed targets of an armed generator; each waits out its delay or is skipped
(R86, R92 to R98). -/
def execTargetCrossing (d : Nat) (k : GenKind) (g : Nat) (s : State) : Host.Outcome State Fault Refusal :=
  cmd (decide (g < genCount k)) d s fun s => s.press fun s =>
    if s.armed k g then
      let a := s.genAxis k g
      s.crossMany k g (s.rd F.AXIS_STATUS_DIR a) (s.axPos a) (s.crossed k g) true
    else s

/-- A generator's axis has turned (R92, R93): a frame in progress ends with its remaining lines skipped, and the next
target is the first one ahead in the new direction. -/
def State.genTurn (s : State) (k : GenKind) (g : Nat) : State :=
  let dir := s.rd F.AXIS_STATUS_DIR (s.genAxis k g)
  let x := s.gen k g
  let s := if k = .ctrig ∧ 0 < x.line ∧ !x.untriggered then s.skipLines g (s.frameLines g - x.line) else s
  let fr := s.rd F.CTRIG_FRAME_FRAMES g
  let done := decide (k = .ctrig ∧ 0 < x.line ∧ fr ≠ 0 ∧ fr ≤ x.count) && !x.suppressed
  let s := s.setGen k g { s.gen k g with k := s.firstTarget k g dir, line := 0, suppressed := false, dir := dir }
  if done then s.selfDisarm g else s

/-- An axis has turned: every armed generator of it is laid anew (R92). -/
def State.axisTurned (s : State) (a : Nat) : State :=
  let on := fun (s : State) k (l : List Nat) =>
    l.foldl (fun s g => if s.genAxis k g = a then s.genTurn k g else s) s
  let s := on s .ctrig (s.instances F.CTRIG_STATUS_ARMED 256 1)
  let s := on s .ptrig (s.instances F.PTRIG_STATUS_ARMED 32 1)
  on s .fire (s.instances F.FIRE_STATUS_ARMED 64 1)

end Sys2Proof.Machine
end

