-- ==== Sys2Proof/Machine/Swage.lean ====
section
/-!
DEFINITION. Swage: the fired-drop view (R227, R228) and the print model (R229 to R232).
-/

namespace Sys2Proof.Machine

/-! ### The fired-drop view -/

/-- What the view holds of one ink at one grid position: the state (0 FIRED, 1 SKIPPED, 2 HELD, 3 PENDING), the
rendered level and the owner of the drop as channel and nozzle (R227). -/
structure Drop where
  st : Nat
  level : Nat
  owner : Option (Nat × Nat)
  deriving DecidableEq, Repr, Inhabited

/-- The number n ≥ 0 below `count` with target = base + step * n, when there is one. -/
def stepIndex (base step : Int) (count : Nat) (target : Int) : Option Nat :=
  let q := (target - base) / step
  if step ≠ 0 ∧ base + step * q = target ∧ 0 ≤ q ∧ q < count then some q.toNat else none

/-- The nozzle that an entry's fire point brings to a grid position (R227, R296). -/
def RetE.nozzleAt (e : RetE) (x : Nat) (y : Int) : Option Nat :=
  if e.scan then (if e.col = x then stepIndex (e.line + e.base) e.step e.nozzles y else none)
  else if e.line = y then stepIndex e.base e.step e.nozzles x else none

/-- The retained entries of a channel without those whose line was re-fetched for the reprint of its swath: the later entry of a dot index
stands for the column (R272, R283). -/
def liveEntries : List RetE → List RetE
  | [] => []
  | e :: es => if e.scan && es.any (fun x => decide (x.d = e.d)) then liveEntries es else e :: liveEntries es

/-- COL_STEP and LINE_STEP as integers (R296). -/
def State.colStep (s : State) (c : Nat) : Int := sOf 4 (s.rd F.NCTX_MAP_COL_STEP c)
def State.lineStep (s : State) (c : Nat) : Int := sOf 4 (s.rd F.NCTX_LINEMAP_LINE_STEP c)
def State.lineBase (s : State) (c : Nat) : Int := sOf 32 (s.rd F.NCTX_LINEMAP_LINE_BASE c)

/-- Print group and geometry of a channel (R261, R273). -/
def State.grpOf (s : State) (c : Nat) : Nat := s.rd F.HAMMER_CFG_GROUP c
def State.geometry (s : State) (c : Nat) : Nat := s.rd F.HGRP_CFG_GEOMETRY (s.grpOf c)
def State.scanning (s : State) (c : Nat) : Bool := decide (s.geometry c = 1 ∨ s.geometry c = 2)

/-- The grid line that fire index k of a single-pass channel prints (R273). -/
def State.gridLineOf (s : State) (c k : Nat) : Int := sOf 64 (s.rd F.HAMMER_GRID_GRID_BASE c) + k

/-- SWATH_BASE of a group (R273, R275). -/
def State.swathBase (s : State) (g : Nat) : Int := sOf 64 (s.rd F.HGRP_SWATH_SWATH_BASE g)

/-- Grid lines fed before the i-th pass from the present one on, within one round of the feed table (R275). -/
def State.fedBefore (s : State) (g i : Nat) : Nat :=
  let p := max 1 (s.rd F.HGRP_CFG_PASSES g)
  let t := s.rd F.HGRP_PASS_TABLE_IDX g
  ((List.range i).map fun k => s.rd F.HGRP_FEED_FEED_LINES g ((t + k) % p)).sum

/-- A later pass places a nozzle of a scanning channel on a grid line (R273, R275, R296). -/
def State.laterPass (s : State) (c g m : Nat) (y : Int) : Bool :=
  let p := max 1 (s.rd F.HGRP_CFG_PASSES g)
  let round : Nat := s.fedBefore g p
  let step := s.lineStep c
  let far := step * ((m : Int) - 1)
  (List.range p).any fun i =>
    let b := s.swathBase g + s.lineBase c + s.fedBefore g i
    let low := b + min 0 far
    let high := b + max 0 far
    if round = 0 then decide (0 < i) && (stepIndex b step m y).isSome
    else
      let q0 : Nat := ((y - high + (round - 1)) / round).toNat
      let q1 : Int := (y - low) / round
      (upto q0 (q1 - q0 + 1).toNat).any fun q =>
        decide (0 < i ∨ 0 < q) && (stepIndex (b + round * q) step m y).isSome

/-- A position that the channel still has to print, with no fire-log entry yet (R227, PENDING): in the pass under way or to come, or in a later
one. -/
def State.unfired (s : State) (c : Nat) (es : List RetE) (x : Nat) (y : Int) : Bool :=
  let m := s.rd F.HAMMER_CFG_NOZZLES c
  if s.scanning c then
    let g := s.grpOf c
    let x0 := s.rd F.HGRP_CFG_X0 g
    decide (x0 ≤ x ∧ x < x0 + s.rd F.HGRP_CFG_PASS_COLUMNS g) &&
      (((stepIndex (s.swathBase g + s.lineBase c) (s.lineStep c) m y).isSome
          && !es.any (fun e => e.scan && decide (e.line = s.swathBase g ∧ e.col = x ∧ (s.hm c).passD ≤ e.d)))
        || s.laterPass c g m y)
  else
    decide (s.gridLineOf c (s.hm c).nextK ≤ y) &&
      (stepIndex (sOf 32 (s.hm c).colBase) (s.colStep c) m x).isSome

/-- What one channel contributes at a position: each entry's state, level and nozzle, and PENDING where it has still to
fire (R227). -/
def State.chanDrops (s : State) (c : Nat) (es : List RetE) (x : Nat) (y : Int) : List (Nat × Nat × Nat) :=
  (es.filterMap fun e => (e.nozzleAt x y).map fun n => (e.st, if e.st = 0 then e.levels.getD n 0 else 0, n))
    ++ (if s.unfired c es x y then [(3, 0, 0)] else [])

/-- The channels of one ink: those that drive a head. [DESIGN CHOICE, log 66] -/
def State.inkChannels (s : State) (ink : Nat) : List Nat :=
  (List.range 64).filter fun c => s.on F.HAMMER_CFG_ENABLE c && decide (s.rd F.HAMMER_CFG_INK c = ink)

/-- The owner among contributions: the highest level, the lowest channel on a tie (R227). [DESIGN CHOICE, log 66] -/
def dropOwner : List (Nat × Nat × Nat) → Option (Nat × Nat × Nat)
  | [] => none
  | (c, l, n) :: ds => match dropOwner ds with
    | some (c', l', n') => if l' > l then some (c', l', n') else if l = 0 then none else some (c, l, n)
    | none => if l = 0 then none else some (c, l, n)

/-- The view of one ink at a grid position (R227). -/
def State.dropAt (s : State) (chans : List (Nat × List RetE)) (x : Nat) (y : Int) : Drop :=
  let ds := chans.flatMap fun ch => (s.chanDrops ch.1 ch.2 x y).map fun d => (ch.1, d)
  let st := (ds.map fun d => d.2.1).foldl max 0
  let level := min 3 (ds.map fun d => d.2.2.1).sum
  ⟨st, level, (dropOwner (ds.map fun d => (d.1, d.2.2.1, d.2.2.2))).map fun o => (o.1, o.2.2)⟩

/-- The channels of an ink with their live entries. -/
def State.inkEntries (s : State) (ink : Nat) : List (Nat × List RetE) :=
  (s.inkChannels ink).map fun c => (c, liveEntries (s.hm c).ret)

/-- The inks of a mask, each with its channels and their live entries. [DESIGN CHOICE, log 66] -/
def State.viewOf (s : State) (mask : Nat) : List (Nat × List (Nat × List RetE)) :=
  ((List.range 8).filter fun i => decide (bit mask i = 1)).map fun i => (i, s.inkEntries i)

/-- The highest state of a position among the inks of a view: 2 or 3 make its samples UNPRINTED (R227). -/
def State.placeState (s : State) (view : List (Nat × List (Nat × List RetE))) (x : Nat) (y : Int) : Nat :=
  (view.map fun v => (s.dropAt v.2 x y).st).foldl max 0

/-! ### The print model -/

/-- BAR0 address of bank k of profile p (chapter 8). -/
def profileBase (p k : Nat) : Nat := 0x1000000 + 0x10000 * (2 * p + k)

/-- A little-endian number in a profile bank. -/
def State.model (s : State) (base off n : Nat) : Nat := fromLe (s.bufRead (base + off) n)

/-- T[i][b], N0[b], N1[b], N2[b] (R229). -/
def State.inkT (s : State) (base i b : Nat) : Nat := s.model base (0x40 + 8 * i + 2 * b) 2
def State.noise0 (s : State) (base b : Nat) : Nat := s.model base (0x80 + 16 * b) 4
def State.noise1 (s : State) (base b : Nat) : Nat := s.model base (0x84 + 16 * b) 4
def State.noise2 (s : State) (base b : Nat) : Nat := s.model base (0x88 + 16 * b) 4

/-- K[i][l][dy][dx], dy and dx counted from 0 for -3 (R229); level 0 has no kernel. -/
def State.kernel (s : State) (base i l dy dx : Nat) : Nat :=
  if l = 0 then 0 else s.model base (0x400 + 128 * (3 * i + l - 1) + 2 * (7 * dy + dx)) 2

/-- LUT[b][j], j from 0 to 4,096 (R229). -/
def State.lut (s : State) (base b j : Nat) : Nat := s.model base (0x1000 + 0x2100 * b + 2 * j) 2

/-- Coverage of ink i at (x, y), given the view of levels (R230). -/
def State.coverage (s : State) (base i : Nat) (level : Int → Int → Nat) (x y : Int) : Nat :=
  min 65535 ((List.range 7).flatMap fun (dy : Nat) => (List.range 7).map fun (dx : Nat) =>
    s.kernel base i (level (x + 3 - (dx : Int)) (y + 3 - (dy : Int))) dy dx).sum

/-- The ink product of a band, over the inks of a mask with their coverage (R231). -/
def State.inkProduct (s : State) (base b mask : Nat) (cov : Nat → Nat) : Nat :=
  (List.range 8).foldl (fun q i =>
    if bit mask i = 1 then
      let f := 65536 - (rdiv ((cov i * (65536 - s.inkT base i b) : Nat) : Int) 65536).toNat
      (rdiv ((q * f : Nat) : Int) 65536).toNat
    else q) 65536

/-- The expected camera value for an ink product (R232). -/
def State.expected (s : State) (base b q : Nat) : Nat :=
  let j := q / 16
  let p := q % 16
  if 4096 ≤ j then s.lut base b 4096
  else (rdiv ((s.lut base b j * (16 - p) + s.lut base b (j + 1) * p : Nat) : Int) 16).toNat

/-- z of a sample (R234): captured value, expected value, gradient and noise terms. -/
def zScore (n0 n1 n2 : Nat) (c e g : Nat) : Int :=
  let var := min (2 ^ 32 - 1) (n0 + (rdiv ((n1 * e : Nat) : Int) 65536).toNat
    + (rdiv ((n2 * g ^ 2 : Nat) : Int) 65536).toNat)
  let sd := max 1 (Nat.sqrt var)
  max (-32768) (min 32767 (rdiv (256 * ((c : Int) - e)) sd))

/-- T_eff of a threshold under a scale (R236). -/
def effThr (t scale : Nat) : Int := min 32767 (rdiv ((t * scale : Nat) : Int) 4096)

end Sys2Proof.Machine
end

