-- ==== Sys2Proof/Machine/Samples.lean ====
section
/-!
DEFINITION. The samples of a billet (R195, R226, R227, R235, R250, R251): what each of them is, how many are of each kind, and the coverage
of a billet by its cells.
-/

namespace Sys2Proof.Machine

/-! ### Lines of the ring -/

/-- Bands of a physical Hearth. -/
def State.bandsN (s : State) (n : Nat) : Nat := s.rd F.HEARTH_CFG_BANDS_M1 n + 1

/-- Segments of one band: first unit and count (R195). -/
def segments (total cap : Nat) : List (Nat × Nat) :=
  (List.range (cdiv total cap)).map fun i => (cap * i, min cap (total - cap * i))

/-- HBM address of line LSEQ of stream 0 (R195). -/
def State.lineAddr (s : State) (n lseq : Nat) : Nat :=
  (s.rd F.HEARTH_RING_BASE_MIB n + s.rd F.HEARTH_SREGION_OFFSET_MIB n 0) * 2 ^ 20
    + lseq % max 1 (s.rd F.HEARTH_SGEOM_CAPACITY n 0) * s.rd F.HEARTH_SGEOM_LINE_BYTES n 0

/-- The T7 value of a band and column in a line of the ring, when it lies in its segment's valid span (R198, R235). [DESIGN CHOICE, log 70] -/
def State.lineSample (s : State) (n lseq b x : Nat) : Option Nat :=
  let width := s.rd F.HEARTH_XRES_OUT_WIDTH n
  let bandBytes := ((segments width 16384).map fun g => 64 + cdiv (g.2 * 2) 64 * 64).sum
  let band := s.lineAddr n lseq + b * bandBytes
  let x0 := fromLe (s.hbmRead (band + 32) 4)
  let i := x - x0
  let a := band + i / 16384 * (64 + 32768)
  let k := i % 16384
  let first := fromLe (s.hbmRead (a + 48) 2)
  let count := fromLe (s.hbmRead (a + 50) 2)
  if x0 ≤ x ∧ i < width ∧ first ≤ k ∧ k < first + count then some (fromLe (s.hbmRead (a + 64 + 2 * k) 2)) else none

/-! ### Kinds of samples -/

/-- What a sample of a billet is, in the order in which its record counts the reasons (R235, R250). -/
inductive SampleKind where
  | included | notSeen | lapped | unprinted
  deriving DecidableEq, Repr

/-- What a tile works with for one billet: the physical Hearth, the view of its inks, the profile bank. -/
structure CmpCtx where
  n : Nat
  bands : Nat
  mask : Nat
  view : List (Nat × List (Nat × List RetE))
  base : Nat

/-- What the tile works with when it compares a billet. -/
def State.cmpCtx (s : State) (n : Nat) (b : BilletS) : CmpCtx :=
  let mask := s.rd F.CMP_CFG_INK_MASK b.h
  ⟨n, s.bandsN n, mask, s.viewOf mask, profileBase (b.bank / 2) (b.bank % 2)⟩

/-- The columns of a billet. -/
def BilletS.columns (b : BilletS) : List Nat := upto b.first b.cols

/-- What the samples of a line of a billet are, when the line is in the ring (R226, R227, R235). [DESIGN CHOICE, log 67] -/
def State.kindOn (s : State) (q : CmpCtx) (l : BLine) (band x : Nat) : SampleKind :=
  if l.missing then .notSeen
  else if l.lapped then .lapped
  else if (s.lineSample q.n l.lseq band x).isNone then .notSeen
  else if 2 ≤ s.placeState q.view x l.n then .unprinted
  else .included

/-- The line of a billet at a grid line. -/
def BilletS.lineAt (b : BilletS) (y : Int) : Option BLine := b.lines.find? fun l => decide (l.n = y)

/-- What a sample of a billet is (R226, R227, R235). -/
def State.kindAt (s : State) (q : CmpCtx) (b : BilletS) (band x : Nat) (y : Int) : SampleKind :=
  match b.lineAt y with
  | none => .notSeen
  | some l => s.kindOn q l band x

/-- How many samples on the lines that a billet holds are of a kind. -/
def State.countOn (s : State) (q : CmpCtx) (b : BilletS) (k : SampleKind) : Nat :=
  (b.lines.map fun l => ((List.range q.bands).map fun band =>
    (b.columns.filter fun x => decide (s.kindOn q l band x = k)).length).sum).sum

/-- Samples on the grid lines that a billet lacks (R222, R235). -/
def CmpCtx.absent (q : CmpCtx) (b : BilletS) : Nat := (256 - b.lines.length) * b.cols * q.bands

/-- A position of the billet is PENDING (FIRE_PENDING, R227). -/
def State.anyPending (s : State) (q : CmpCtx) (b : BilletS) : Bool :=
  b.lines.any fun l => b.columns.any fun x => decide (s.placeState q.view x l.n = 3)

/-- The grid lines of a billet on which a rendered position is SKIPPED (R227). -/
def State.skippedLines (s : State) (q : CmpCtx) (b : BilletS) : Nat :=
  (b.lines.filter fun l => b.columns.any fun x =>
    q.view.any fun v => decide ((s.dropAt v.2 x l.n).st = 1)).length

/-- What the samples of a cell of a billet are (R237, R251). -/
def State.cellKinds (s : State) (q : CmpCtx) (b : BilletS) (cr cc : Nat) : List SampleKind :=
  (List.range 16).flatMap fun i => (List.range q.bands).flatMap fun band =>
    ((upto (b.first + 64 * cc) 64).filter fun x => decide (x < b.first + b.cols)).map fun x =>
      s.kindAt q b band x (256 * b.r + ((16 * cr + i : Nat) : Int))

/-- The value of a cell of COVERAGE (R251): 0 FULL, 1 PARTIAL, 2 NONE, 3 UNPRINTED. A billet that was not compared has only 2 and 3. -/
def cellCover (compared : Bool) (ks : List SampleKind) : Nat :=
  if ks.all fun k => decide (k = .unprinted) then 3
  else if !compared then 2
  else if ks.all fun k => decide (k = .included) then 0
  else if ks.any fun k => decide (k = .included) then 1
  else 2

/-- COVERAGE of a billet (R251): cells beyond its columns read NONE. -/
def State.coverageOf (s : State) (q : CmpCtx) (b : BilletS) (compared : Bool) : List Nat :=
  (List.range 16).flatMap fun cr => (List.range 128).map fun cc =>
    if b.cols ≤ 64 * cc then 2 else cellCover compared (s.cellKinds q b cr cc)

end Sys2Proof.Machine
end

