-- ==== Sys2Proof/Machine/Billets.lean ====
section
/-!
DEFINITION. Billets (R222 to R226): opening, readiness, numbering and their records (R249 to R251), abandonment with its
coverage gap record (R331, R337), and the retention of fired lines until no billet needs them (R277 to R279).
-/

namespace Sys2Proof.Machine

/-! ### Retention of fire-log entries -/

/-- What compare keeps for one logical Hearth. -/
def State.cmp (s : State) (h : Nat) : CmpS := s.anvil.cmp.getD h {}

/-- Update what compare keeps for one logical Hearth. -/
def State.setCmp (s : State) (h : Nat) (x : CmpS) : State :=
  { s with anvil := { s.anvil with cmp := s.anvil.cmp.put h x {} } }

/-- One physical Hearth beside its registers. -/
def State.hth (s : State) (n : Nat) : HearthS := s.hearths.getD n {}

/-- Update one physical Hearth. -/
def State.setHth (s : State) (n : Nat) (x : HearthS) : State := { s with hearths := s.hearths.put n x {} }

/-- Compare is enabled for a logical Hearth (chapter 8, Billets). Answers the physical Hearth. -/
def State.compareOn (s : State) (h : Nat) : Option Nat :=
  match s.hearthOf h with
  | some n => if s.on F.HEARTH_CFG_COMPARE_EN n && s.on F.CMP_CFG_ENABLE h then some n else none
  | none => none

/-- The consumers of a channel: compared Hearths whose INK_MASK holds its ink (R277). -/
def State.consumers (s : State) (c : Nat) : List Nat :=
  (s.instances F.CMP_CFG_ENABLE 256 1).filter fun h =>
    (s.compareOn h).isSome && decide (bit (s.rd F.CMP_CFG_INK_MASK h) (s.rd F.HAMMER_CFG_INK c) = 1)

/-- Rows of the billets of h that have not retired. -/
def State.liveRows (s : State) (h : Nat) : List Int :=
  ((s.anvil.rows.filter fun r => decide (r.h = h)).map RowS.r)
    ++ ((s.anvil.ready.filter fun b => decide (b.h = h)).map BilletS.r)
    ++ ((s.anvil.running.filter fun b => decide (b.2.h = h)).map fun b => b.2.r)

/-- Whether consumer h needs an extent no longer (R277). Nothing is released while the next grid line of h is unknown. -/
def State.needsNot (s : State) (h : Nat) (lo hi : Int) : Bool :=
  match s.hearthOf h with
  | none => false
  | some n => match (s.hth n).next0 with
    | none => false
    | some l =>
      let rows := (l / 256) :: s.liveRows h
      if (s.hth n).dir = 1 then rows.all fun r => decide (256 * r + 259 < lo)
      else rows.all fun r => decide (hi < 256 * r - 4)

/-- The retained extent of an entry (R277). -/
def RetE.extent (e : RetE) : Int × Int :=
  if e.scan then
    let a := e.line + e.base
    let b := a + e.step * ((e.nozzles : Int) - 1)
    (min a b, max a b)
  else (e.line, e.line)

/-- An entry of the current or owed swath of a scanning group, which a forced release spares (R279, R283). -/
def State.swathHolds (s : State) (c : Nat) (e : RetE) : Bool :=
  e.scan && decide ((s.hm c).passD ≤ e.d) && ((s.hm c).j.isSome || s.on F.HGRP_PASS_OWED (s.grpOf c))

/-- Free the oldest retained entry of a channel (R278). -/
def State.releaseOldest (s : State) (c : Nat) : State :=
  let x := s.hm c
  match x.ret with
  | [] => s
  | e :: es =>
    let slot := e.d % (max 1 (s.rd F.HAMMER_DOTGEOM_SLOTS c))
    let kept := decide (x.slots.getD slot {} = ⟨3, e.d⟩) && !es.any (fun e' => decide (e'.d = e.d))
    let s := s.setHm c { x with ret := es, slots := if kept then x.slots.del slot else x.slots }
    s.wr F.HAMMER_REL_INDEX (match es with
      | [] => e.d + 1
      | e' :: _ => e'.d) c

/-- Release, oldest first, every entry that no consumer needs (R277, R278). -/
def State.releaseFrom (s : State) (c : Nat) (cons : List Nat) : List RetE → State
  | [] => s
  | e :: es =>
    let x := e.extent
    if cons.all (fun h => s.needsNot h x.1 x.2) then
      State.releaseFrom (s.releaseOldest c) c cons es
    else s

/-- The release test of one channel (R278). -/
def State.releaseTest (s : State) (c : Nat) : State := s.releaseFrom c (s.consumers c) (s.hm c).ret

/-- The release test of every channel that prints for a consumer whose need may have changed (R278). -/
def State.needMoved (s : State) (h : Nat) : State :=
  s.hammer.foldl (fun s e =>
    if bit (s.rd F.CMP_CFG_INK_MASK h) (s.rd F.HAMMER_CFG_INK e.1) = 1 then s.releaseTest e.1 else s) s

/-! ### Records -/

/-- What a billet record reports beside the billet itself (R250). -/
structure BilletOut where
  status : Nat
  /-- Bits of bytes 40 to 41. -/
  flags : Nat := 0
  tile : Nat := 0xFFFF
  scale : Nat := 0
  defects : Nat := 0
  start : Nat := 0
  compared : Nat := 0
  notSeen : Nat := 0
  unprinted : Nat := 0
  lapped : Nat := 0
  sumZ2 : Nat := 0
  z2Count : Nat := 0
  dropped : Nat := 0
  skipped : Nat := 0
  /-- COVERAGE as 16 rows of 128 cells, 2 bits each. -/
  coverage : List Nat := []

/-- Pack 2-bit cells four to a byte (R250). -/
def packCells : List Nat → Bytes
  | a :: b :: c :: d :: rest => BitVec.ofNat 8 (a + 4 * b + 16 * c + 64 * d) :: packCells rest
  | [] => []
  | l => [BitVec.ofNat 8 (l.getD 0 0 + 4 * l.getD 1 0 + 16 * l.getD 2 0)]

/-- The billet record (R250), 640 bytes. -/
def BilletS.record (b : BilletS) (stamp : Nat) (o : BilletOut) : Bytes :=
  let d : BLine := ⟨0, 0, 0, 0, false, 0, false⟩
  let l0 := b.lines.headD d
  let l1 := b.lines.getLastD d
  fitTo 640 (header 0x0300 10 (srcNo 7 b.h) stamp ++ le 8 b.bseq ++ le 8 (uOf 64 (256 * b.r)) ++ le 4 b.first
    ++ le 2 b.cols ++ le 1 b.part ++ le 1 o.status ++ le 2 (o.flags + 2 * b2n b.rep) ++ le 2 o.tile ++ le 2 o.scale
    ++ le 2 o.defects ++ le 8 b.readyDt ++ le 8 o.start ++ le 8 l0.stamp ++ le 8 l1.stamp ++ le 4 o.compared
    ++ le 4 o.notSeen ++ le 4 o.unprinted ++ le 4 o.lapped ++ le 8 o.sumZ2 ++ le 4 o.z2Count ++ le 2 o.dropped
    ++ le 2 o.skipped ++ le 4 l0.frameNo ++ le 4 l1.frameNo ++ zeros 8 ++ packCells o.coverage)

/-- Bands of the Hearth that serves h. -/
def State.bandsOf (s : State) (h : Nat) : Nat :=
  match s.hearthOf h with
  | some n => s.rd F.HEARTH_CFG_BANDS_M1 n + 1
  | none => 1

/-- Write a record of a Hearth's compare set into one of its Troughs (R249). -/
def State.cmpRecord (s : State) (h : Nat) (trough : Fld) (rec_ : Bytes) : State :=
  s.pushOr (srcNo 7 h) (s.rd trough h) rec_ F.CMP_STATUS_RESOURCE_HELD h

/-- A billet retires: its record is written last, and what it held of the fire log may be released (R249, R278). -/
def State.retireBillet (s : State) (b : BilletS) (o : BilletOut) : State :=
  let s := s.cmpRecord b.h F.CMP_OUT_BILLET_TROUGH (b.record s.dt o)
  if o.status = 1 then s.inc F.CMP_COUNT_COMPARED b.h else s.inc F.CMP_COUNT_NOT_COMPARED b.h

/-- Samples of a billet on its present lines (R222). -/
def State.samplesOf (s : State) (b : BilletS) : Nat := b.lines.length * b.cols * s.bandsOf b.h

/-- Remove a billet from the ready list. -/
def State.dropReady (s : State) (b : BilletS) : State :=
  { s with anvil := { s.anvil with
      ready := s.anvil.ready.filter (fun x => !decide (x.h = b.h ∧ x.bseq = b.bseq)) } }

/-- The record of a billet that is not compared (R250, R251): its samples are counted by reason, and none is COMPARED. -/
def State.uncomparedOut (s : State) (b : BilletS) (status : Nat) : BilletOut :=
  let o : BilletOut := { status := status, scale := s.rd F.CMP_SCALE_S b.h }
  match s.hearthOf b.h with
  | none => { o with notSeen := 256 * b.cols, coverage := List.replicate 2048 2 }
  | some n =>
    let q := s.cmpCtx n b
    { o with flags := 4 * b2n (s.anyPending q b), notSeen := q.absent b + s.countOn q b .notSeen,
             unprinted := s.countOn q b .unprinted, lapped := s.countOn q b .lapped, skipped := s.skippedLines q b,
             coverage := s.coverageOf q b false }

/-- A gap record of Bellows: it raises its event whether or not it can be written (R336). -/
def State.gapRecord (s : State) (en trough : Fld) (event : Nat) (rec_ : Bytes) : State :=
  let s := if s.on en then s.pushOr (srcNo 0x0B 0) (s.rd trough) rec_ F.BLW_STATUS_RESOURCE_HELD else s
  s.raise (ev 0x01 event)

/-- The coverage gap record (R337). -/
def State.coverGap (s : State) (b : BilletS) (cause unprinted : Nat) : State :=
  let body := le 8 b.bseq ++ le 8 (uOf 64 (256 * b.r)) ++ le 4 b.first ++ le 2 b.cols ++ le 2 b.h ++ le 1 cause
    ++ le 1 b.part ++ le 1 (s.rd F.BLW_SCHED_N_RUN) ++ le 1 0 ++ le 4 (s.samplesOf b - unprinted) ++ le 8 b.readyDt
    ++ le 8 b.deadline
  s.gapRecord F.BLW_GAP_COV_EN F.BLW_GAP_COV_TROUGH 6 (record 0x0600 (srcNo 0x0B 0) s.dt body)

/-- A ready billet is abandoned: its record, then the coverage gap record (R331, R337). -/
def State.abandonBillet (s : State) (b : BilletS) (cause : Nat) : State :=
  let o := s.uncomparedOut b 2
  let s := ((s.dropReady b).retireBillet b o).flag F.CMP_STATUS_ABANDONED b.h
  ((s.coverGap b cause o.unprinted).inc F.BLW_CNT_ABANDONED).needMoved b.h

/-- The CAUSE of an abandonment for lack of time or power (R337). -/
def State.abandonCause (s : State) : Nat :=
  if s.rd F.BLW_STATUS_STATE = 2 then (if s.on F.BLW_STATUS_THERMAL then 3 else 2) else 1

/-! ### Opening and readiness -/

/-- Columns of a full billet (R222). -/
def State.billetCols (s : State) (h : Nat) : Nat := 64 * s.rd F.CMP_CFG_BILLET_COLS h

/-- The column slices of a row that has become ready, numbered in ascending j (R222, R223, R225). -/
def State.slices (s : State) (n : Nat) (row : RowS) : List BilletS :=
  let width := s.rd F.HEARTH_XRES_OUT_WIDTH n
  let cols := max 64 (s.billetCols row.h)
  let first := s.rd F.HEARTH_XRES_X_START n
  let bseq := s.rd F.CMP_NEXT_BSEQ row.h
  let deadline := s.dt + 1000000 * s.rd F.CMP_CFG_DEADLINE_MS row.h
  (List.range (cdiv width cols)).map fun j =>
    { h := row.h, r := row.r, j := j, part := row.part, rep := row.rep, lines := row.lines, bseq := bseq + j,
      readyDt := s.dt, deadline := deadline, first := first + j * cols, cols := min cols (width - j * cols),
      start := 0, bank := 0, scale := 0, thr := 0, cell := 0, attr := 0 }

/-- The open row of a Hearth becomes ready now, all its column slices together (R223, R225). -/
def State.rowReady (s : State) (h : Nat) : State :=
  match s.anvil.rows.find? (fun r => decide (r.h = h)), s.hearthOf h with
  | some row, some n =>
    let bs := s.slices n row
    let x := s.cmp h
    let closed := (x.closed.filter fun e => decide (e.1 ≠ row.r)) ++ [(row.r, row.part, row.lines.map BLine.n)]
    let s := (s.setCmp h { x with closed := closed }).wr F.CMP_NEXT_BSEQ (s.rd F.CMP_NEXT_BSEQ h + bs.length) h
    { s with anvil := { s.anvil with rows := s.anvil.rows.filter (fun r => !decide (r.h = h)),
                                     ready := s.anvil.ready ++ bs } }
  | _, _ => s

/-- Open a row with its first line (R223, R224). -/
def State.openRow (s : State) (h : Nat) (l : BLine) : State :=
  let r := l.n / 256
  let old := (s.cmp h).closed.find? fun e => decide (e.1 = r)
  let row : RowS := match old with
    | none => ⟨h, r, 0, false, [l], s.clk⟩
    | some e => ⟨h, r, min 255 (e.2.1 + 1), decide (l.n ∈ e.2.2), [l], s.clk⟩
  { s with anvil := { s.anvil with rows := s.anvil.rows ++ [row] } }

/-- A grid line of stream 0 has become visible (R223, R224). `rev` is the direction of travel. -/
def State.lineVisible (s : State) (h : Nat) (rev : Bool) (l : BLine) : State :=
  if (s.compareOn h).isNone then s else
    let row := s.anvil.rows.find? fun r => decide (r.h = h)
    let closes := match row with
      | none => false
      | some r => decide (l.n / 256 ≠ r.r) || r.lines.any fun x => decide (x.n = l.n)
    let s := if closes then s.rowReady h else s
    let s := match s.anvil.rows.find? (fun r => decide (r.h = h)) with
      | none => s.openRow h l
      | some r => { s with anvil := { s.anvil with rows := s.anvil.rows.map (fun x =>
          if x.h = h then { r with lines := r.lines ++ [l], at_ := s.clk } else x) } }
    if l.n % 256 = (if rev then 0 else 255) then s.rowReady h else s

/-- The line of a ring that has been overwritten before a tile read it (R226). -/
def State.lapLines (s : State) (h : Nat) (below : Nat) : State :=
  let lap := fun (ls : List BLine) => ls.map fun l => if l.lseq < below then { l with lapped := true } else l
  let a := s.anvil
  { s with anvil := { a with
      rows := a.rows.map (fun r => if r.h = h then { r with lines := lap r.lines } else r),
      ready := a.ready.map (fun b => if b.h = h then { b with lines := lap b.lines } else b),
      running := a.running.map (fun e => if e.2.h = h then (e.1, { e.2 with lines := lap e.2.lines }) else e) } }

/-- Every ready billet of h is written as DISCARDED (R258), and no open row goes on. -/
def State.discardBillets (s : State) (h : Nat) : State :=
  let s := s.rowReady h
  (s.anvil.ready.filter fun b => decide (b.h = h)).foldl (fun s b =>
    ((s.dropReady b).retireBillet b (s.uncomparedOut b 3)).needMoved h) s

/-! ### Forced releases -/

/-- Whether a billet row covers an extent, widened by 4 lines (R228, R279). -/
def rowCovers (r lo hi : Int) : Bool := decide (256 * r - 4 ≤ hi ∧ lo ≤ 256 * r + 259)

/-- Force-release the oldest retained entry of a channel, when neither its swath nor a running billet holds it (R279).
Answers whether it was released. [DESIGN CHOICE, log 67] -/
def State.forceOldest (s : State) (c : Nat) : Bool × State :=
  match (s.hm c).ret with
  | [] => (false, s)
  | e :: _ =>
    let x := e.extent
    let cons := s.consumers c
    let runs := s.anvil.running.any fun b => decide (b.2.h ∈ cons) && rowCovers b.2.r x.1 x.2
    if s.swathHolds c e || runs then (false, s) else
      let s := cons.foldl (fun s h =>
        if s.anvil.rows.any (fun r => decide (r.h = h) && rowCovers r.r x.1 x.2) then s.rowReady h else s) s
      let hit := s.anvil.ready.filter fun b => decide (b.h ∈ cons) && rowCovers b.r x.1 x.2
      let s := hit.foldl (fun s b => s.abandonBillet b 4) s
      -- an abandonment may already have released it
      let s := match (s.hm c).ret with
        | e' :: _ => if e' = e then s.releaseOldest c else s
        | [] => s
      let s := (s.inc F.HAMMER_CNT_FORCED c).flag F.HAMMER_STATUS_FORCED_RELEASE c
      (true, s.raise (ev 0x0C c))

/-- The condition of R279: too few lines beyond HAMMER_NEXT are loaded, and a retained slot or fire-log position blocks
the next write. -/
def State.starved (s : State) (c : Nat) : Bool :=
  let x := s.hm c
  let w := s.rd F.HAMMER_WR_INDEX c
  let n := s.rd F.HAMMER_DOTGEOM_SLOTS c
  let slot := decide (n ≠ 0) && decide ((x.slots.getD (w % n) {}).state = 3)
  let log := match x.ret with
    | e :: _ => decide (e.d + 131072 ≤ w)
    | [] => false
  decide (w < s.rd F.HAMMER_NEXT_INDEX c + s.rd F.HAMMER_DOT_RESERVE_LINES c) && (slot || log)

/-- Force-release while a condition holds, at most n times. -/
def State.forceWhile (s : State) (c : Nat) (cond : State → Bool) : Nat → State
  | 0 => s
  | n + 1 => if cond s then
      let r := s.forceOldest c
      if r.1 then State.forceWhile r.2 c cond n else r.2
    else s

/-- The forced releases of R279. -/
def State.forceRelease (s : State) (c : Nat) : State := s.forceWhile c (fun s => s.starved c) (s.hm c).ret.length

/-- The store's history holds 65,536 commits, those above the generation of the oldest retained entry: when the newest one is more than that,
the oldest entries are forced out until it has room (R301). -/
def State.historyRoom (s : State) (c : Nat) : State :=
  s.forceWhile c (fun s => match (s.hm c).ret with
    | e :: _ => decide (65536 < (s.rd F.NCTX_GEN_CTX_GEN c + 2 ^ 32 - e.gen) % 2 ^ 32)
    | [] => false) (s.hm c).ret.length

/-- BILLET_IDLE_TIMEOUT h: no line of the open range has become visible for BILLET_IDLE_MS (R223). -/
def execBilletIdleTimeout (d h : Nat) (s : State) : Host.Outcome State Fault Refusal :=
  cmd (decide (h < 256)) d s fun s => s.press fun s =>
    match s.anvil.rows.find? (fun r => decide (r.h = h)) with
    | some r => if s.due r.at_ (1000000 * s.rd F.CMP_CFG_BILLET_IDLE_MS h) then s.rowReady h else s
    | none => s

end Sys2Proof.Machine
end

