-- ==== Sys2Proof/Machine/BellowsC2.lean ====
section
/-!
DEFINITION. C2 items of the Hearths (R334, R335) and their statistics gap records (R338).
-/

namespace Sys2Proof.Machine

/-- The open frame of a Hearth. -/
def State.frm (s : State) (n : Nat) : FrameS := (s.hth n).frame.getD default

/-- Update the open frame of a Hearth. -/
def State.setFrm (s : State) (n : Nat) (f : FrameS) : State := s.setHth n { s.hth n with frame := some f }

/-- Fields of a word of HEARTH_SCFG (R194). -/
def scfgOn (w : Nat) : Bool := decide (bit w 31 = 1)
def scfgC2 (w : Nat) : Bool := decide (bit w 30 = 1)
def scfgTap (w : Nat) : Nat := bits w 26 24
def scfgStep (w : Nat) : Nat := bits w 7 0 + 1

/-- The C2 streams in force at a Hearth, one bit each (R334). -/
def State.c2Streams (s : State) (n : Nat) : Nat :=
  ((s.hth n).scfg.zipIdx.map fun e => if scfgOn e.1 && scfgC2 e.1 then 2 ^ e.2 else 0).sum

/-- Whether a Hearth has C2 work: C2 streams or a histogram (R334). -/
def State.hasC2 (s : State) (n : Nat) : Bool := decide (s.c2Streams n ≠ 0) || s.on F.HEARTH_STAT_CFG_STAT_EN n

/-- The wait of a logical Hearth, in ns (R334). -/
def State.c2Wait (s : State) (h : Nat) : Nat := s.clk - s.blw.c2Ran.getD h s.blw.readyClk

/-- WAIT_MS of BLW_C2, saturating (R334). -/
def State.c2WaitMs (s : State) (h : Nat) : Nat := min (2 ^ 32 - 1) (s.c2Wait h / 1000000)

/-- C2 work of a logical Hearth is admitted by its priority (R334). -/
def State.c2Prio (s : State) (h : Nat) : Bool := decide (s.rd F.BLW_SCHED_C2_FLOOR ≤ s.rd F.BLW_C2_PRIO h)

/-- The C2 work of the open frame is admitted now. -/
def State.c2Ok (s : State) (n : Nat) : Bool :=
  let f := s.frm n
  decide (f.c2 = 1) || (decide (f.c2 = 0) && s.c2Prio (s.rd F.HEARTH_ID_LOGICAL n))

/-- A promoted item is dropped: its statistics gap record, and the wait continues (R335, R338). -/
def State.c2Drop (s : State) (n cause : Nat) : State :=
  let f := s.frm n
  let h := s.rd F.HEARTH_ID_LOGICAL n
  let hist := s.on F.HEARTH_STAT_CFG_STAT_EN n
  let body := le 4 f.frameNo ++ le 2 h ++ le 1 (s.c2Streams n + 16 * b2n hist) ++ le 1 cause ++ le 4 f.c2Wait
  let s := s.setFrm n { f with c2 := 2, c2Hist := f.c2Hist || hist }
  (s.gapRecord F.BLW_GAP_STAT_EN F.BLW_GAP_STAT_TROUGH 7 (record 0x0610 (srcNo 0x0B 0) s.dt body)).inc
    F.BLW_CNT_C2_DROPPED

/-- The C2 item of a frame that opens: promoted and admitted or dropped, admitted by priority, or withheld (R334, R335). -/
def State.c2Begin (s : State) (n : Nat) : State :=
  let f := s.frm n
  let h := s.rd F.HEARTH_ID_LOGICAL n
  if !s.hasC2 n then s
  else if 1000000 * s.rd F.BLW_C2_MAX_WAIT_MS h ≤ s.c2Wait h then
    let s := s.setFrm n { f with c2Wait := s.c2WaitMs h }
    if s.rd F.BLW_POWER_P_AVG + s.blw.c2Pow.getD h 0 ≤ s.rd F.BLW_POWER_P_ALLOW then
      s.setFrm n { s.frm n with c2 := 1 }
    else s.c2Drop n 1
  else if s.c2Prio h then s
  else s.setFrm n { f with c2Hist := s.on F.HEARTH_STAT_CFG_STAT_EN n }

/-- Histograms of open frames are deferred when their items are no longer admitted (R215, R327). -/
def State.c2Shed (s : State) : State :=
  s.hearths.foldl (fun s e =>
    if e.2.frame.isSome && decide ((s.frm e.1).c2 = 0) && !s.c2Ok e.1 && s.on F.HEARTH_STAT_CFG_STAT_EN e.1 then
      s.setFrm e.1 { s.frm e.1 with c2Hist := true }
    else s) s

/-- Promoted items are withheld (R335): step 2 of the guard once N_RUN has reached 0. -/
def State.c2Withhold (s : State) : State :=
  s.hearths.foldl (fun s e => if e.2.frame.isSome && decide ((s.frm e.1).c2 = 1) then s.c2Drop e.1 2 else s) s

/-- The item of a frame that ends at its FRAME_END with nothing withheld ran: the wait begins anew (R334). Its power is
what Bellows estimates for it, in 1/16 W. -/
def State.c2End (s : State) (n power : Nat) : State :=
  let f := s.frm n
  let h := s.rd F.HEARTH_ID_LOGICAL n
  if !s.hasC2 n || decide (f.c2 = 2) || decide (f.c2Lost ≠ 0) || f.c2Hist then s else
    { s with blw := { s.blw with c2Ran := s.blw.c2Ran.ins h s.clk, c2Pow := s.blw.c2Pow.put h power 0 } }

end Sys2Proof.Machine
end

