-- ==== Sys2Proof/Machine/LaneTx.lean ====
section
/-!
DEFINITION. The transmit side of a Cobex lane (R110 to R118, R129 to R135): the scrambler, what a transmitter sends while nothing
is due, single blocks, test patterns, injection, and the upstream block selector of a master port (R162).
-/

namespace Sys2Proof.Machine

/-! ### Slices and ports beside their registers -/

/-- One lane slice beside its registers. -/
def State.lane (s : State) (k : Nat) : LaneS := s.lanes.getD k {}

/-- Update one lane slice. -/
def State.setLane (s : State) (k : Nat) (x : LaneS) : State := { s with lanes := s.lanes.put k x {} }

/-- One Cobex port beside its registers. -/
def State.port (s : State) (p : Nat) : PortS := s.ports.getD p {}

/-- Update one Cobex port. -/
def State.setPort (s : State) (p : Nat) (x : PortS) : State := { s with ports := s.ports.put p x {} }

/-- The logical lane that a slice serves (R108). -/
def State.laneOf (s : State) (k : Nat) : Option Nat :=
  let p := s.rd F.LANE_STATE_PAD k
  if p < 16 then some (16 * (k / 17) + p) else none

/-- Field n bytes long at offset o of the equaliser entry of a logical lane and RATE code (R123). -/
def State.eqByte (s : State) (rate l o : Nat) : Nat := leAt (s.eqTable.read 0 (8 * (512 * rate + l)) 8) o 1

/-- Block time in units of 10 ps at a RATE code (R110). -/
def blockTime (rate : Nat) : Nat := if rate = 0 then 256 else if rate = 1 then 512 else 640

/-- Elapsed time in units of 10 ps. -/
def State.now10 (s : State) : Nat := 100 * s.clk

/-- DT at an elapsed time, in units of 10 ps. -/
def State.dt10 (s : State) (t : Nat) : Nat := 100 * s.dt + t - s.now10

/-! ### The scrambler -/

/-- Scramble one payload (R112): c(n) = d(n) XOR c(n - 39) XOR c(n - 58). Answers the line bits and the last 58 of them. -/
def scramble (hist d : Nat) : Nat × Nat :=
  let lo := (d ^^^ (hist >>> 19) ^^^ hist) % 2 ^ 39
  let mid := (hist >>> 39) + lo * 2 ^ 19
  let hi := ((d >>> 39) ^^^ (mid >>> 19) ^^^ mid) % 2 ^ 25
  (lo + hi * 2 ^ 39, (mid >>> 25) + hi * 2 ^ 33)

/-- The scrambler's last bits after n payloads. -/
def scrambleRun (pay : Nat → Nat) (hist : Nat) : Nat → Nat
  | 0 => hist
  | n + 1 => (scramble (scrambleRun pay hist n) (pay n)).2

/-- The payload of a TRAIN block without its type byte: flags, RATE, SEQ, LANE_ID (R113). -/
def trainPayload (flags rate seq l : Nat) : Nat := flags + 2 ^ 8 * rate + 2 ^ 16 * seq + 2 ^ 24 * l

/-- The whole payload of a TRAIN block (R113). -/
def trainBlockPay (flags rate seq l : Nat) : Nat := 0x2D + 2 ^ 8 * trainPayload flags rate (seq % 256) l

/-! ### Test patterns -/

/-- Taps and length of a PRBS (R132). -/
def prbsTaps (code : Nat) : Nat × Nat := if code = 1 then (7, 6) else if code = 2 then (15, 14) else (31, 28)

/-- n further bits of a PRBS generator, the first in bit 0 (R132), and its last 31 bits. -/
def prbsRun (code hist : Nat) : Nat → Nat × Nat
  | 0 => (0, hist)
  | n + 1 =>
    let r := prbsRun code hist n
    let t := prbsTaps code
    let b := (bit r.2 (t.1 - 1) + bit r.2 (t.2 - 1)) % 2
    (r.1 + b * 2 ^ n, (2 * r.2 + b) % 2 ^ 31)

/-- A start of a PRBS generator from a value that the spec leaves open: any state but the one of all zeros. -/
def prbsSeed (code v : Nat) : Nat :=
  let w := v % 2 ^ (prbsTaps code).1
  if w = 0 then 1 else w

/-- The square wave: 33 ones then 33 zeros (R132). -/
def squareWave : Nat := 2 ^ 33 - 1

/-! ### The fill of a transmitter -/

/-- The payload of the i-th block from now of a fill of control blocks: IDLE, or TRAIN with these flags (R113, R118). -/
def LaneS.fillPay (x : LaneS) (l i : Nat) : Nat :=
  if x.tx.fill = 2 then trainBlockPay (b2n x.tx.locked) x.rate (x.tx.seq + i) l else 0x1E

/-- The next 66 line bits of the fill, the first in bit 0, and the transmitter after them. -/
def LaneS.fillNext (x : LaneS) (l : Nat) : Nat × LaneS :=
  let t := x.tx
  if 8 ≤ t.fill then
    let r := prbsRun (t.fill - 8) t.prbs 66
    (r.1, { x with tx := { t with prbs := r.2 } })
  else if t.fill = 4 then (squareWave, x)
  else
    let r := scramble t.hist (x.fillPay l 0)
    (2 + 4 * r.1, { x with tx := { t with hist := r.2, seq := if t.fill = 2 then (t.seq + 1) % 256 else t.seq } })

/-- A transmitter sends n blocks of its fill, from its next block start. -/
def State.txRun (s : State) (k l n : Nat) : State :=
  let x := s.lane k
  let t := x.tx
  let at_ := s.dt10 t.next
  let t' := { t with next := t.next + n * blockTime x.rate, sent := t.sent + n }
  if n = 0 then s
  else if 8 ≤ t.fill then
    (s.setLane k { x with tx := { t' with prbs := (prbsRun (t.fill - 8) t.prbs (66 * n)).2 } }).emit (.pattern l (t.fill - 8) n at_)
  else if t.fill = 4 then (s.setLane k { x with tx := t' }).emit (.pattern l 4 n at_)
  else
    (s.setLane k { x with tx := { t' with
      hist := scrambleRun (x.fillPay l) t.hist n, seq := if t.fill = 2 then (t.seq + n) % 256 else t.seq } }).emit
      (.fill l (x.fillPay l 0) n at_)

/-- A transmitter sends its fill up to an elapsed time: every block that starts before it. -/
def State.txFillTo (s : State) (k t : Nat) : State :=
  let x := s.lane k
  match s.laneOf k with
  | none => s
  | some l =>
    if x.tx.fill = 0 ∨ !x.tx.pads then s else s.txRun k l (cdiv (t - x.tx.next) (blockTime x.rate))

/-! ### Single blocks and injection -/

/-- What an injection makes of a block (R135): a payload bit inverted, or its header forced or exchanged. -/
def corrupt (kind pos hdr payload : Nat) : Nat × Nat :=
  if kind = 0 then (hdr, payload ^^^ 2 ^ pos)
  else if kind = 1 ∨ kind = 4 then (0, payload)
  else if kind = 2 then (3, payload)
  else (if hdr = 1 then 2 else if hdr = 2 then 1 else hdr, payload)

/-- Blocks that one injection corrupts (R135). -/
def injectCount (kind : Nat) : Nat := if kind = 4 then 16 else 1

/-- The payload bit that KIND 0b000 inverts (R135). -/
def State.injectPos (s : State) (k : Nat) : Nat :=
  if s.on F.LANE_INJECT_REPEAT k then 0 else s.rd F.LANE_INJECT_INTERVAL k % 64

/-- 66 line bits on their way out of a transmitter, corrupted while an injection is armed on the transmit path (R135). -/
def State.injectTx (s : State) (k line : Nat) : Nat × State :=
  let x := s.lane k
  if 0 < x.tx.inject then
    let c := corrupt (s.rd F.LANE_INJECT_KIND k) (s.injectPos k) (line % 4) (line / 4)
    (c.1 + 4 * c.2, (s.setLane k { x with tx := { x.tx with inject := x.tx.inject - 1 } }).inc F.LANE_INJECTED_INJECTED k)
  else (line, s)

/-- A transmitter sends 66 line bits at its next block start: through the injection, onto the pads, and with P and N exchanged where
the board has swapped them (R111, R123, R135). -/
def State.txLine (s : State) (k l line : Nat) : State :=
  let r := s.injectTx k line
  let x := r.2.lane k
  let w := if bit (s.eqByte x.rate l 7) 2 = 1 then 2 ^ 66 - 1 - r.1 else r.1
  (r.2.setLane k { x with tx := { x.tx with next := x.tx.next + blockTime x.rate, sent := x.tx.sent + 1 } }).emit
    (.block l (w % 4) (w / 4) (r.2.dt10 x.tx.next))

/-- A transmitter sends one block at its next block start: its header, and its payload through the scrambler (R111, R112). -/
def State.txBlock (s : State) (k l hdr payload : Nat) : State :=
  let x := s.lane k
  let r := scramble x.tx.hist payload
  (s.setLane k { x with tx := { x.tx with hist := r.2 } }).txLine k l (hdr + 4 * r.1)

/-- A transmitter sends one block of its fill as a single block. -/
def State.txFillOne (s : State) (k l : Nat) : State :=
  let r := (s.lane k).fillNext l
  (s.setLane k r.2).txLine k l r.1

/-! ### The upstream block selector -/

/-- Start DT of a block as a HEARTBEAT carries it (R169). -/
def State.beatPay (s : State) (t : Nat) : Nat := 0xF0 + 2 ^ 8 * (s.dt10 t / 100 % 2 ^ 48)

/-- A command whose last block ends at an elapsed time is open from then on (R167). -/
def PortS.opened (y : PortS) (tag1 t : Nat) : PortS :=
  if tag1 = 0 then y else
    { y with cmds := y.cmds.map fun c => if c.tag + 1 = tag1 then { c with at_ := cdiv t 100 } else c }

/-- At the block boundary t0: a HEARTBEAT, or else the next block of a CMD packet (R162). -/
def State.upOther (s : State) (p k t0 : Nat) : State :=
  let y := s.port p
  if y.up.beat then (s.setPort p { y with up := { y.up with beat := false } }).txBlock k p 2 (s.beatPay t0)
  else match y.up.cmds with
    | [] => s
    | (h, pay, tag1) :: rest =>
      let y := { y with up := { y.up with cmds := rest } }.opened tag1 (t0 + blockTime (s.lane k).rate)
      (s.setPort p y).txBlock k p h pay

/-- The selector of a master port sends what is pending and starts up to an elapsed time: at each block boundary a trigger block,
else a HEARTBEAT, else the next block of a CMD packet, else IDLE (R162). The last argument bounds the blocks sent. -/
def State.upRun (s : State) (p k until_ : Nat) : Nat → State
  | 0 => s
  | fuel + 1 =>
    let x := s.lane k
    let y := s.port p
    let bt := blockTime x.rate
    let t0 := x.tx.next
    let other := y.up.beat || !y.up.cmds.isEmpty
    match y.up.trigs with
    | (t, pay) :: rest =>
      if t < t0 + bt ∨ !other then
        if until_ < t then s else
          let s := s.txFillTo k (t + 1 - bt)
          let x := s.lane k
          let s := s.setLane k { x with tx := { x.tx with next := t } }
          ((s.setPort p { y with up := { y.up with trigs := rest } }).txBlock k p 2 pay).upRun p k until_ fuel
      else if until_ < t0 then s
      else (s.upOther p k t0).upRun p k until_ fuel
    | [] => if !other ∨ until_ < t0 then s else (s.upOther p k t0).upRun p k until_ fuel

/-- What waits at the selector of a port. -/
def UpS.size (u : UpS) : Nat := u.trigs.length + b2n u.beat + u.cmds.length

/-- A transmitter has sent what is due by now: what its selector held, and its fill (R118, R162). -/
def State.txSync (s : State) (k : Nat) : State :=
  match s.laneOf k with
  | none => s
  | some l =>
    let s := if (s.port l).up.size = 0 ∨ (s.lane k).tx.fill ≠ 1 then s else s.upRun l k s.now10 (s.port l).up.size
    s.txFillTo k s.now10

/-- A transmitter takes another fill, or another RX_LOCKED flag, from now on; one that sends no IDLE drops what its selector holds.
[DESIGN CHOICE, log 95] -/
def State.txTo (s : State) (k fill : Nat) (pads locked : Bool) : State :=
  let s := s.txSync k
  let x := s.lane k
  let t := x.tx
  let was := decide (t.fill ≠ 0) && t.pads
  let is := decide (fill ≠ 0) && pads
  let s := s.setLane k { x with tx := { t with
    fill := fill, pads := pads, locked := locked, next := if was then t.next else max t.next s.now10 } }
  match s.laneOf k with
  | none => s
  | some l =>
    let s := if fill = 1 then s else s.setPort l { s.port l with up := {} }
    if was && !is then s.emit (.quiet l (s.dt10 t.next)) else s

/-- A transmitter sends n TRAIN blocks in a row with given flags, then goes on with its fill (R118, R130). -/
def State.txTrain (s : State) (k n flags : Nat) : State :=
  match s.laneOf k with
  | none => s
  | some l => (List.range n).foldl (fun s _ =>
      let x := s.lane k
      (s.setLane k { x with tx := { x.tx with seq := (x.tx.seq + 1) % 256 } }).txBlock k l 2
        (trainBlockPay flags x.rate x.tx.seq l)) (s.txSync k)

/-- Every port whose selector holds something sends what is due by now (R162). -/
def State.sendDue (s : State) : State :=
  (s.ports.filter fun e => decide (e.2.up.size ≠ 0)).foldl (fun s e => s.txSync (s.sliceOf e.1)) s

end Sys2Proof.Machine
end

