-- ==== Sys2Proof/Machine/CobexCmd.lean ====
section
/-!
DEFINITION. Bonds as seen from the blocks that command a camera (R142, R149), and the sending of commands (R163 to R167).
-/

namespace Sys2Proof.Machine

/-- Whether a port is the master port of a bond (R142). -/
def State.isMaster (s : State) (p : Nat) : Bool :=
  s.on F.COBEX_CFG_BOUND p && decide (s.rd F.COBEX_CFG_LANE_INDEX p = 0)

/-- The ports of the bond of a master port (R142). -/
def State.members (s : State) (p : Nat) : List Nat :=
  (s.instances F.COBEX_CFG_BOUND 512 1).filter fun q => decide (s.rd F.COBEX_CFG_MASTER q = p)

/-- The master port of the bond that a port belongs to (R142). -/
def State.bondOf (s : State) (q : Nat) : Option Nat :=
  if s.on F.COBEX_CFG_BOUND q then some (s.rd F.COBEX_CFG_MASTER q) else none

/-- The member of a bond with a lane index. -/
def State.memberAt (s : State) (p i : Nat) : Option Nat :=
  (s.members p).find? fun q => decide (s.rd F.COBEX_CFG_LANE_INDEX q = i)

/-- Lanes of a bond (R142). -/
def State.laneCount (s : State) (p : Nat) : Nat := s.rd F.COBEX_CFG_LANE_COUNT p

/-- The bond of a logical Hearth locks its configuration: ALIGNING, ACTIVE or IDLE (R204). [DEDUCED, log 6] -/
def State.bondLocked (s : State) (h : Nat) : Bool :=
  match s.masterOf h with
  | some p => decide (2 ≤ s.bond p)
  | none => false

/-- Bytes 1 to 7 of a CMD block (R163). -/
def cmdHead (tag op len addr : Nat) : Bytes := le 1 tag ++ le 1 op ++ le 1 len ++ le 4 addr

/-- The blocks of a CMD packet (R163): CMD, its data blocks, and PKT_END, which carries the CRC and names the TAG it ends. -/
def cmdBlocks (tag op len addr : Nat) (data : Bytes) : List (Nat × Nat × Nat) :=
  let head := cmdHead tag op len addr
  (2, 0xB4 + 2 ^ 8 * fromLe head, 0)
    :: (List.range (data.length / 8)).map (fun i => (1, leAt data (8 * i) 8, 0))
    ++ [(2, 0xCC + 2 ^ 8 * crc32c (head ++ data), tag + 1)]

/-- Send a command on a master port (R163, R166): it takes the next TAG, and its packet waits at the upstream block selector. The
caller has made sure that the bond can take it. [DESIGN CHOICE, log 95] -/
def State.sendCmd (s : State) (p op owner len addr : Nat) (data : Bytes) : Nat × State :=
  let s := s.txSync (s.sliceOf p)
  let x := s.port p
  let tag := x.nextTag
  let s := s.setPort p { x with
    nextTag := (tag + 1) % 256, cmds := x.cmds ++ [⟨tag, op, owner, s.clk⟩], quiet := x.quiet.filter (· ≠ tag),
    up := { x.up with cmds := x.up.cmds ++ cmdBlocks tag op len addr data } }
  (tag, s.txSync (s.sliceOf p))

/-- Whether a bond takes a command now: it is ACTIVE, or IDLE for WAKE_DOWN (R164, R167). -/
def State.takesCmd (s : State) (p op : Nat) : Bool :=
  decide (s.bond p = 3) || (decide (s.bond p = 4) && decide (op = 5))

/-- No command waits: one nanosecond passes, in which what runs by the timebase goes on, and the upstream block selectors send what is due
(DESIGN CHOICE, log 2). [DESIGN CHOICE, log 2; DESIGN CHOICE, log 95] -/
def idle (s : State) : Host.Outcome State Fault Refusal := cmd true 1 s State.sendDue

end Sys2Proof.Machine
end

