-- ==== Sys2Proof/Machine/CobexRx.lean ====
section
/-!
DEFINITION. The receive side of the Cobex link (R145 to R148, R154 to R158, R163): the blocks of each lane, the stream of a bond
rebuilt from them, and the packets that the stream delivers.
-/

namespace Sys2Proof.Machine

/-! ### Fields of control blocks -/

/-- The type of a control block (R113). -/
def ctlType (pay : Nat) : Nat := pay % 256

/-- A block is an ALIGN block (R145). -/
def isAlign (b : Blk) : Bool := decide (b.1 = 2 ∧ ctlType b.2.1 = 0x66)

/-- LANE_INDEX and MARKER_SEQ of an ALIGN block (R147). -/
def alignIndex (pay : Nat) : Nat := bits pay 15 8
def alignSeq (pay : Nat) : Nat := bits pay 31 16

/-- Bytes 1 to 7 of a control block, over which a CRC runs (R156, R163). -/
def headBytes (pay : Nat) : Bytes := le 7 (pay / 256)

/-- The CRC that a PKT_END block carries (R163). -/
def pktCrc (pay : Nat) : Nat := bits pay 39 8

/-! ### The stream delivers -/

/-- An item of the rebuilt stream waits for its command. -/
def State.deliver (s : State) (p : Nat) (i : Item) : State :=
  s.setPort p { s.port p with inbox := (s.port p).inbox ++ [i] }

/-- A new IMG_SOP or a frame marker comes before the IMG_EOP: the packet is delivered as it stands (R158). -/
def State.cutImage (s : State) (p : Nat) : State :=
  match (s.port p).img with
  | none => s
  | some k => (s.setPort p { s.port p with img := none }).deliver p (.image k)

/-- A control block of the stream (R145, R154 to R156, R163, R168, R169). -/
def State.streamCtl (s : State) (p pay dt : Nat) : State :=
  let x := s.port p
  match ctlType pay with
  | 0x78 => let s := s.cutImage p; s.setPort p { s.port p with img := some { sop := pay, first := dt, last := dt } }
  | 0x87 => match x.img with
    | none => s
    | some k => (s.setPort p { x with img := none }).deliver p (.image { k with eop := some pay, last := dt })
  | 0x99 => (s.cutImage p).deliver p (.frameStart pay dt)
  | 0xAA => (s.cutImage p).deliver p (.frameEnd pay dt)
  | 0xD2 => s.setPort p { x with rsp := some { head := pay } }
  | 0xCC => match x.rsp with
    | none => s
    | some r =>
      let ok := !r.err && decide (r.data.length = 8 * bits r.head 31 24 ∧ crc32c (headBytes r.head ++ r.data) = pktCrc pay)
      (s.setPort p { x with rsp := none }).deliver p (.rsp r ok)
  | 0xE1 => s.deliver p (.event pay dt)
  | 0xF0 => s.deliver p .beat
  | _ => s

/-- The next block of the rebuilt stream of a bond (R154 to R158). A data block outside any packet is counted as STRAY, and an error
block spoils the packet it lies in. [DESIGN CHOICE, log 96] -/
def State.streamBlock (s : State) (p : Nat) (b : Blk) : State :=
  let x := s.port p
  if b.1 = 2 then s.streamCtl p b.2.1 b.2.2
  else if b.1 = 1 then match x.rsp, x.img with
    | some r, _ => s.setPort p { x with rsp := some { r with data := r.data ++ le 8 b.2.1 } }
    | none, some k => s.setPort p { x with img := some { k with blocks := k.blocks ++ le 8 b.2.1, last := b.2.2 } }
    | none, none => s.inc F.COBEX_ERRCNT_STRAY p
  else s.setPort p { x with rsp := x.rsp.map fun r => { r with err := true }, img := x.img.map fun k => { k with err := true } }

/-! ### The stream is rebuilt -/

/-- The bond takes the next block of its stream, from the lane whose turn it is; none when it waits for that lane or for a marker
set (R146 to R148). An ALIGN block away from its place is removed. In a bond of one lane every ALIGN block waits for its marker set,
since such a camera may send none. [DESIGN CHOICE, log 96] -/
def State.takeBlock (s : State) (p : Nat) : Option State :=
  let x := s.port p
  let n := s.laneCount p
  let next := fun (s : State) =>
    let y := s.port p
    if x.turn + 1 < n then s.setPort p { y with turn := x.turn + 1 } else s.setPort p { y with turn := 0, row := x.row + 1 }
  if n ≠ 1 ∧ x.row = 16383 then none
  else match s.memberAt p x.turn with
    | none => none
    | some q =>
      let y := s.port q
      match y.rx with
      | [] => none
      | b :: rest =>
        if isAlign b then
          if n = 1 then none
          else if y.gap then some (next (s.streamBlock p (0, 0, b.2.2)))
          else some (s.setPort q { y with rx := rest })
        else some (next ((s.setPort q { y with rx := rest }).streamBlock p b))

/-- The bond takes blocks while it can; the last argument bounds them. -/
def State.takeBlocks (s : State) (p : Nat) : Nat → State
  | 0 => s
  | n + 1 => match s.takeBlock p with
    | none => s
    | some t => t.takeBlocks p n

/-- The bond of a master port takes what its lanes hold. -/
def State.pump (s : State) (p : Nat) : State :=
  let held := ((s.members p).map fun q => (s.port q).rx.length).sum
  s.takeBlocks p (s.laneCount p * (held + 1))

/-- A block of a lane in ACTIVE or RELOCK reaches the link (R114, R146, R148). While the bond has no stream, only what follows an ALIGN
block is kept. -/
def State.toLink (s : State) (q : Nat) (b : Blk) : State :=
  match s.bondOf q with
  | none => s
  | some p =>
    let x := s.port q
    let keep := decide (s.bond p = 3) || (decide (s.bond p = 2 ∨ s.bond p = 4) && (isAlign b || !x.rx.isEmpty))
    if !keep then s
    else
      let s := s.setPort q { x with rx := x.rx ++ [b] }
      if s.bond p = 3 then s.pump p else s

/-- The last n blocks of a lane that the bond has not taken yet become error blocks: they belong to the window in which block lock
was lost (R116, R120, R148). [DESIGN CHOICE, log 96] -/
def State.loseTail (s : State) (q n : Nat) : State :=
  let x := s.port q
  let keep := x.rx.length - n
  s.setPort q { x with rx := x.rx.take keep ++ (x.rx.drop keep).map (fun b => (0, 0, b.2.2)), gap := true }

/-- A block of a lane in CAPS reaches the link (R151): a CAPS packet begins at its CAPS block. -/
def State.toCapsRx (s : State) (q : Nat) (b : Blk) : State :=
  let x := s.port q
  if b.1 = 2 ∧ ctlType b.2.1 = 0xC3 then s.setPort q { x with caps := [b] }
  else if x.caps.isEmpty || decide (b.1 = 2 ∧ ctlType b.2.1 ∈ [0x1E, 0x2D, 0x33]) || (x.caps.getLast?.any capsDone) then s
  else s.setPort q { x with caps := x.caps ++ [b] }
where
  /-- A CAPS packet ends with PKT_END. -/
  capsDone (b : Blk) : Bool := decide (b.1 = 2 ∧ ctlType b.2.1 = 0xCC)

/-- The stream of a bond is given up: its lanes' blocks, the packets under way, and what no command has taken. -/
def State.dropStream (s : State) (p : Nat) : State :=
  let s := (s.members p).foldl (fun s q => s.setPort q { s.port q with rx := [], gap := false }) s
  s.setPort p { s.port p with row := 0, turn := 0, img := none, rsp := none, inbox := [] }

/-- The first item that the stream of an ACTIVE bond has delivered and no command has taken. -/
def State.firstOf (s : State) (p : Nat) : Option Item :=
  if s.isMaster p && decide (s.bond p = 3) then (s.port p).inbox.head? else none

/-- The first item that the stream of a bond has delivered is taken. -/
def State.takeItem (s : State) (p : Nat) : State := s.setPort p { s.port p with inbox := (s.port p).inbox.drop 1 }

/-! ### Marker sets -/

/-- One ALIGN block of a marker set (R147, R150): LANE_INDEX, MARKER_SEQ, and the blocks by which it came after the earliest one. -/
abbrev Marker := Nat × Nat × Nat

/-- A lane that has had a gap finds its place again (R148): what lies before the next ALIGN block goes when that block is near. -/
def realigned (rx : List Blk) : List Blk := if (rx.take 64).any isAlign then rx.dropWhile (fun b => !isAlign b) else rx

/-- The ALIGN blocks of the set that a bond has before it, by lane index, with the depths of the lanes behind them. -/
def State.markerHeads (s : State) (p : Nat) : List (Option (Nat × Nat × Nat)) :=
  (List.range (s.laneCount p)).map fun i => match s.memberAt p i with
    | none => none
    | some q =>
      let x := s.port q
      let rx := if x.gap then realigned x.rx else x.rx
      match rx with
      | b :: rest => if isAlign b then some (alignIndex b.2.1, alignSeq b.2.1, rest.length) else none
      | [] => none

/-- The marker set before a bond: the lanes run at one rate, so a lane whose ALIGN block came later has fewer blocks behind it. -/
def State.markersOf (s : State) (p : Nat) : List (Option Marker) :=
  let hs := s.markerHeads p
  let deep := (hs.map fun h => (h.map (·.2.2)).getD 0).foldl max 0
  hs.map fun h => h.map fun m => (m.1, m.2.1, deep - m.2.2)

/-- The set before an ACTIVE bond is removed (R147, R148): of each lane its ALIGN block, or the block in its place. -/
def State.takeMarkers (s : State) (p : Nat) : State :=
  let s := (s.members p).foldl (fun s q =>
    let x := s.port q
    let rx := if x.gap then realigned x.rx else x.rx
    let found := rx.head?.any isAlign
    s.setPort q { x with rx := rx.drop 1, gap := x.gap && !found }) s
  s.setPort p { s.port p with row := 0, turn := 0 }

/-- A bond without a stream drops the ALIGN blocks of a set and waits for the next ones; when the MARKER_SEQ differ, the lanes that
are behind the latest one drop theirs. -/
def State.skipMarkers (s : State) (p : Nat) : State :=
  let hs := s.markerHeads p
  let late := hs.foldl (fun (best : Option (Nat × Nat)) h => match h, best with
    | some m, some b => if m.2.2 < b.2 then some (m.2.1, m.2.2) else best
    | some m, none => some (m.2.1, m.2.2)
    | none, _ => best) none
  let seqs := hs.filterMap fun h => h.map (·.2.1)
  let equal := seqs.all fun q => decide (some q = late.map Prod.fst)
  (s.members p).foldl (fun s q =>
    let x := s.port q
    match x.rx with
    | [] => s
    | b :: rest =>
      if !equal && decide (some (alignSeq b.2.1) = late.map Prod.fst) then s
      else s.setPort q { x with rx := rest.dropWhile fun b => !isAlign b }) s

end Sys2Proof.Machine
end

