-- ==== Sys2Proof/Machine/Exposure.lean ====
section
/-!
DEFINITION. Exposure generations (R206 to R214), the auto-exposure loop (R217 to R219) and statistics records (R216).
-/

namespace Sys2Proof.Machine

/-- Exposure control of a physical Hearth. -/
def State.ex (s : State) (n : Nat) : ExpS := (s.hth n).exp

/-- Update the exposure control of a physical Hearth. -/
def State.setEx (s : State) (n : Nat) (x : ExpS) : State := s.setHth n { s.hth n with exp := x }

/-- The number after a generation number: modulo 65,536, skipping 0 (R206). -/
def nextGen (g : Nat) : Nat := if (g + 1) % 65536 = 0 then 1 else (g + 1) % 65536

/-- Send the open EXPOSE (R164, R209). With no ACTIVE bond the command completes at once with NOT_ACTIVE, and it is not resent
(R167, R214). [DESIGN CHOICE, log 72] -/
def State.exposeSend (s : State) (n : Nat) : State :=
  let x := s.ex n
  match x.open_, s.masterOf (s.rd F.HEARTH_ID_LOGICAL n) with
  | some o, some p =>
    if s.bond p = 3 then
      (s.sendCmd p 3 1 2 0 (le 2 o.gen ++ zeros 2 ++ le 4 o.set.ns ++ le 2 o.set.gain ++ zeros 6)).2
    else (s.setEx n { x with open_ := none }).wr F.HEARTH_EXP_PEND_OPEN 0 n
  | _, _ => (s.setEx n { x with open_ := none }).wr F.HEARTH_EXP_PEND_OPEN 0 n

/-- The slot of R207 is occupied, or an EXPOSE is open or being acknowledged. -/
def State.expBusy (s : State) (n : Nat) : Bool :=
  (s.ex n).open_.isSome || (s.ex n).notice.isSome || s.on F.HEARTH_EXP_PEND_ACKED n

/-- Open an EXPOSE with a new generation (R206, R209). -/
def State.exposeOpen (s : State) (n : Nat) (o : ExpOrder) : State :=
  let x := s.ex n
  let s := s.setEx n { x with next := nextGen x.next, open_ := some ⟨x.next, o, 1⟩ }
  ((s.wr F.HEARTH_EXP_PEND_OPEN 1 n).wr F.HEARTH_EXP_PEND_GEN x.next n).exposeSend n

/-- At a frame boundary, the order that waits is sent (R209). -/
def State.expBoundary (s : State) (n : Nat) : State :=
  match (s.ex n).queue with
  | none => s
  | some o =>
    if s.expBusy n then s
    else ((s.setEx n { s.ex n with queue := none }).wr F.HEARTH_EXP_PEND_QUEUED 0 n).exposeOpen n o

/-- When no frame is open, the order that waits is sent at once (R209). -/
def State.expTry (s : State) (n : Nat) : State := if (s.hth n).frame.isSome then s else s.expBoundary n

/-- A change is ordered (R209, R219). [DESIGN CHOICE, log 72] -/
def State.expOrder (s : State) (n : Nat) (o : ExpOrder) : State :=
  let s := if (s.ex n).queue.isSome then s.inc F.HEARTH_EXP_CNT_QUEUE_REPLACED n else s
  ((s.setEx n { s.ex n with queue := some o }).wr F.HEARTH_EXP_PEND_QUEUED 1 n).expTry n

/-- A generation comes into force with its settings (R207). -/
def State.genInForce (s : State) (n gen : Nat) (o : ExpOrder) : State :=
  ((s.wr F.HEARTH_EXP_GEN gen n).wr F.HEARTH_EXP_EXPOSURE_NS o.ns n).wr F.HEARTH_EXP_GAIN o.gain n

/-- Frames from `frm` on, `k` of them, are straddled (R213). -/
def State.straddled (s : State) (n frm k : Nat) : State :=
  let x := s.ex n
  let s := s.setEx n { x with straddle := x.straddle ++ [(frm, k)] }
  (s.inc F.HEARTH_EXP_CNT_STRADDLED n 0 k).flag F.HEARTH_EXP_STATUS_STRADDLE n

/-- The pending generation comes into force, and its slot empties (R207). -/
def State.takePending (s : State) (n : Nat) : State :=
  let x := s.ex n
  let s := s.genInForce n (s.rd F.HEARTH_EXP_PEND_GEN n) (x.acked.getD ⟨0, 0x1000⟩)
  ((s.wr F.HEARTH_EXP_PEND_ACKED 0 n).setEx n { x with acked := none }).expTry n

/-- A frame number is at or after a FROM_FRAME, their difference read as a signed 32-bit value (R207). -/
def fromOn (no frm : Nat) : Bool := decide (0 ≤ sOf 32 (uOf 32 ((no : Int) - frm)))

/-- EXPOSURE_GEN of a frame trigger of number `no` issued at DT `at_` (R207, R212): G_NEW from its first frame on, but not in the cycle that
applied the acknowledgement. -/
def State.expGenOf (s : State) (n no at_ : Nat) : Nat :=
  match (s.ex n).applied with
  | some (t, old, frm) =>
    if at_ ≤ t then old
    else if s.on F.HEARTH_EXP_PEND_ACKED n && fromOn no frm then s.rd F.HEARTH_EXP_PEND_GEN n
    else s.rd F.HEARTH_EXP_GEN n
  | none => s.rd F.HEARTH_EXP_GEN n

/-- What the issue of a frame trigger does to the generations of its Hearth (R207, R212, R213): the first one tagged with G_NEW brings it
into force; one issued in the cycle of the acknowledgement, from FROM_FRAME on, is straddled. -/
def State.expGenFor (s : State) (h no at_ : Nat) : Nat × State :=
  match s.hearthOf h with
  | none => (0, s)
  | some n =>
    let gen := s.expGenOf n no at_
    match (s.ex n).applied with
    | some (t, _, frm) =>
      if !fromOn no frm then (gen, s)
      else
        let s := if at_ ≤ t then s.straddled n no 1 else s
        (gen, if s.on F.HEARTH_EXP_PEND_ACKED n then s.takePending n else s)
    | none => (gen, s)

/-- The evaluation restarts its count (R217). -/
def ExpS.restart (x : ExpS) : ExpS := { x with n := 0, sum := 0, cnt := 0, sat := 0, lastFrame := 0 }

/-- The acknowledgement notice is applied (R211, R213). -/
def State.expAck (s : State) (h : Nat) : State :=
  match s.hearthOf h with
  | none => s
  | some n =>
    let x := s.ex n
    match x.notice with
    | none => s
    | some (_, frm) =>
      let ahead := sOf 32 (uOf 32 ((s.rd F.CTRIG_COUNT_FRAME_NO h : Int) - frm))
      let s := s.setEx n { x with notice := none, applied := some (s.dt, s.rd F.HEARTH_EXP_GEN n, frm) }
      let s := (s.wr F.HEARTH_EXP_PEND_FROM_FRAME frm n).wr F.HEARTH_EXP_PEND_ACKED 1 n
      if 0 < ahead then (s.straddled n frm ahead.toNat).takePending n else s

/-- EXPOSE_ACK_APPLY h: the notice of step 6 of R78 (R211, R212, R213). -/
def execExposeAckApply (d h : Nat) (s : State) : Host.Outcome State Fault Refusal :=
  cmd (decide (h < 256)) d s fun s => s.press fun s => s.expAck h

/-- The open EXPOSE has failed: it is resent unchanged, with 3 attempts in all, and then abandoned (R211). -/
def State.exposeFailed (s : State) (n : Nat) : State :=
  let x := s.ex n
  match x.open_ with
  | none => s
  | some o =>
    if o.attempts < 3 then
      let s := s.setEx n { x with open_ := some { o with attempts := o.attempts + 1 } }
      (s.inc F.HEARTH_EXP_CNT_RETRIES n).exposeSend n
    else
      let s := (s.setEx n { x with open_ := none, unsure := true }).wr F.HEARTH_EXP_PEND_OPEN 0 n
      let s := (s.flag F.HEARTH_EXP_STATUS_EXP_FAIL n).raise (ev 0x0A (s.rd F.HEARTH_ID_LOGICAL n))
      s.expTry n

/-- The RSP of the open EXPOSE arrived: with STATUS OK and the same GEN it is the acknowledgement (R211). -/
def State.exposeRsp (s : State) (n status : Nat) (data : Bytes) : State :=
  let x := s.ex n
  match x.open_ with
  | none => s
  | some o =>
    if status = 0 ∧ 6 ≤ data.length ∧ leAt data 4 2 = o.gen then
      let x := { x.restart with
        open_ := none, notice := some (o.gen, leAt data 0 4), acked := some o.set, unsure := false }
      ((s.inc F.HEARTH_EXP_CNT_CHANGES n).setEx n x).wr F.HEARTH_EXP_PEND_OPEN 0 n
    else s.exposeFailed n

/-- A camera attaches: generation 0, and the initial settings are sent at once (R214). -/
def State.expAttach (s : State) (n : Nat) : State :=
  let s := s.wr F.HEARTH_EXP_GEN 0 n
  s.exposeOpen n ⟨s.rd F.HEARTH_EXP_INIT_EXPOSURE_NS n, s.rd F.HEARTH_EXP_INIT_GAIN n⟩

/-- A camera detaches: the open EXPOSE, the slot and the queue are empty, and the generation is 0 (R206, R214). -/
def State.expDetach (s : State) (n : Nat) : State :=
  let s := s.setEx n { s.ex n with open_ := none, queue := none, notice := none, acked := none, applied := none }
  let s := ((s.wr F.HEARTH_EXP_PEND_OPEN 0 n).wr F.HEARTH_EXP_PEND_QUEUED 0 n).wr F.HEARTH_EXP_PEND_ACKED 0 n
  (s.wr F.HEARTH_EXP_GEN 0 n).wr F.HEARTH_EXP_EXPOSURE_NS 0 n

/-- A write of HEARTH_EXP_SET orders a change; a GAIN below 1.0 makes it ignored (R209, R565). -/
def State.expSet (s : State) (n value : Nat) : State :=
  let gain := bits value 47 32
  if gain < 0x1000 then s else s.expOrder n ⟨bits value 31 0, gain⟩

/-- EXPOSURE_ORDER n: a write of HEARTH_EXP_SET; a GAIN below 0x1000 makes it ignored (R209, R219). -/
def execExposureOrder (d n value : Nat) (s : State) : Host.Outcome State Fault Refusal :=
  cmd (decide (n < 264)) d s fun s =>
    s.hostHold (F.HEARTH_EXP_SET_GAIN.at_ n) 8 (value % 2 ^ 64) fun s => s.press fun s => s.expSet n value

/-! ### The auto-exposure loop -/

/-- A word of the accepted capability block of a port (R152). -/
def State.capsByte (s : State) (p off n : Nat) : Nat :=
  leAt ((List.range 8).flatMap fun i => le 8 (s.rd F.COBEX_CAPS_WORD p i)) off n

/-- The bounds lo and hi of R217. -/
def State.aeBounds (s : State) (n : Nat) : Nat × Nat :=
  let lo := s.rd F.HEARTH_AE_LIM_EXP_MIN_NS n
  let hi := s.rd F.HEARTH_AE_LIM_EXP_MAX_NS n
  match s.masterOf (s.rd F.HEARTH_ID_LOGICAL n) with
  | some p => (max lo (s.capsByte p 28 4), min hi (s.capsByte p 32 4))
  | none => (lo, hi)

/-- The change that the loop computes from m and f: the new exposure, its reason, and whether it was clamped (R217). -/
def State.aeChange (s : State) (n m f : Nat) : Option (Nat × Nat × Bool) :=
  let e0 := s.rd F.HEARTH_EXP_EXPOSURE_NS n
  let target := s.rd F.HEARTH_AE_TARGET n
  let raw : Option (Nat × Nat) :=
    if s.rd F.HEARTH_AE_SAT_MAX n < f then some (e0 * 3 / 4, 3)
    else if (if m < target then target - m else m - target) ≤ s.rd F.HEARTH_AE_DEADBAND n then none
    else if m = 0 then some (2 * e0, 1)
    else some ((rdiv ((e0 * target : Nat) : Int) m).toNat, if m < target then 1 else 2)
  match raw with
  | none => none
  | some (e, reason) =>
    let e := min (max e (e0 / 2)) (2 * e0)
    let b := s.aeBounds n
    let out := decide (e < b.1) || decide (b.2 < e)
    some (if out then min (max e b.1) b.2 else e, reason, out)

/-- The proposal of a request of function 0x02 (R218). -/
def State.aeProposal (s : State) (n e m f : Nat) (clamped : Bool) : Bytes :=
  let x := s.ex n
  le 4 (s.rd F.HEARTH_EXP_EXPOSURE_NS n) ++ le 4 e ++ le 2 (s.rd F.HEARTH_EXP_GAIN n) ++ le 2 (s.rd F.HEARTH_EXP_GEN n)
    ++ le 2 m ++ le 2 (min f 65535) ++ le 4 x.lastFrame ++ le 1 x.n ++ le 1 (b2n clamped) ++ zeros 10

/-- The loop evaluates (R217, R218). -/
def State.aeEvaluate (s : State) (n : Nat) : State :=
  let x := s.ex n
  let h := s.rd F.HEARTH_ID_LOGICAL n
  let m := x.sum / x.cnt
  let f := x.sat * 65536 / x.cnt
  let done := fun (s : State) => s.setEx n (s.ex n).restart
  match s.aeChange n m f with
  | none => done s
  | some (e, reason, clamped) =>
    let s := if clamped then s.flag F.HEARTH_EXP_STATUS_AE_CLAMPED n else s
    if e = s.rd F.HEARTH_EXP_EXPOSURE_NS n then done s
    else if s.hwMode 2 h then (done s).expOrder n ⟨e, s.rd F.HEARTH_EXP_GAIN n⟩
    else done (s.post 2 (srcNo 7 h) reason (s.aeProposal n e m f clamped)).2

/-- A statistics record of the loop's band (R217). -/
def State.aeRecord (s : State) (n : Nat) (f : FrameS) (st : StatS) (clear : Bool) : State :=
  let x := s.ex n
  let h := s.rd F.HEARTH_ID_LOGICAL n
  if !s.on F.HEARTH_AE_AE_EN n || s.expBusy n || x.queue.isSome || s.reqOpen 2 (srcNo 7 h) || !clear
      || decide (f.expGen = 0 ∨ f.expGen ≠ s.rd F.HEARTH_EXP_GEN n ∨ st.count = 0) then s
  else
    let s := s.setEx n { x with n := x.n + 1, sum := x.sum + st.sum, cnt := x.cnt + min st.count (2 ^ 32 - 1),
                                sat := x.sat + min st.sat (2 ^ 32 - 1), lastFrame := f.frameNo }
    if s.rd F.HEARTH_AE_AE_FRAMES_M1 n + 1 ≤ x.n + 1 then s.aeEvaluate n else s

/-- Whether the argument of a VERDICT 0x03 reply of function 0x02 is in range (R218). -/
def State.expArgOk (s : State) (h arg : Nat) : Bool :=
  match s.hearthOf h with
  | none => false
  | some n =>
    let b := s.aeBounds n
    within b.1 (bits arg 31 0) b.2 && decide (0x1000 ≤ bits arg 47 32 ∧ arg < 2 ^ 48)

/-- A request of function 0x02 resolves (R218): the proposal, or the settings of the argument, are ordered; or nothing is. -/
def State.expResolve (s : State) (h : Nat) (proposal : Bytes) (verdict arg : Nat) : State :=
  match s.hearthOf h with
  | none => s
  | some n =>
    let s := s.setEx n (s.ex n).restart
    if verdict = 1 then s.expOrder n ⟨leAt proposal 4 4, leAt proposal 8 2⟩
    else if verdict = 3 then s.expOrder n ⟨bits arg 31 0, bits arg 47 32⟩
    else s

/-! ### Statistics records -/

/-- One statistics record (R216). [DESIGN CHOICE, log 71] -/
def State.statRecord (s : State) (n : Nat) (f : FrameS) (band : Nat) (st : StatS) (at_ : Nat) (lost straddle : Bool) :
    Bytes :=
  let top := 2 ^ 32 - 1
  let hist := if f.c2Hist then List.replicate 16 0 else st.hist
  header 0x0220 2 (srcNo 7 (s.rd F.HEARTH_ID_LOGICAL n)) at_ ++ le 4 f.frameNo ++ le 2 f.expGen
    ++ le 1 (band + 4 * b2n lost + 8 * b2n straddle + 16 * b2n f.c2Hist + 32 * b2n f.unsure) ++ le 1 0
    ++ le 4 (min st.count top) ++ le 4 (min st.sat top) ++ le 8 st.sum ++ le 2 st.min ++ le 2 st.max ++ le 4 st.lines
    ++ le 8 f.trigDt ++ zeros 8 ++ hist.flatMap fun c => le 4 (min c top)

/-- The statistics records of a frame, one per band, and the loop's evaluation (R216, R217). -/
def State.statRecords (s : State) (n : Nat) (f : FrameS) (at_ : Nat) (lost : Bool) : State :=
  if !s.on F.HEARTH_STAT_CFG_STAT_EN n then s else
    let h := s.rd F.HEARTH_ID_LOGICAL n
    let straddle := (s.ex n).straddle.any fun r => decide (uOf 32 ((f.frameNo : Int) - r.1) < r.2)
    let bands := List.range (s.rd F.HEARTH_CFG_BANDS_M1 n + 1)
    let s := if f.c2Hist then s.flag F.HEARTH_EXP_STATUS_HIST_DEFERRED n else s
    let s := bands.foldl (fun s b =>
      s.pushOr (srcNo 7 h) (s.rd F.HEARTH_STAT_CFG_STAT_TROUGH n)
        (s.statRecord n f b (f.stats.getD b {}) at_ lost straddle) F.HEARTH_EXP_STATUS_RESOURCE_HELD n) s
    let b := s.rd F.HEARTH_AE_AE_BAND n
    if b < bands.length then s.aeRecord n f (f.stats.getD b {}) (!lost && !straddle && !f.unsure) else s

end Sys2Proof.Machine
end

