-- ==== Sys2Proof/Machine/LineMath.lean ====
section
/-!
DEFINITION. The arithmetic of the capture stages (R157, R183 to R190): unpacking, correction, defect replacement,
cross-web and down-web resampling.
-/

namespace Sys2Proof.Machine

/-- Bits per sample of a FORMAT code (R155). -/
def fmtBits (f : Nat) : Nat := if f = 1 then 8 else if f = 2 then 10 else if f = 3 then 12 else 16

/-- Samples packed as one bit stream, least significant bit first, left-justified to 16 bits (R157, R183). -/
def unpack (w n : Nat) (bs : Bytes) : List Nat :=
  let v := fromLe bs
  (List.range n).map (fun i => bits v (i * w + w - 1) (i * w) * 2 ^ (16 - w))

/-- One entry of the correction table (R184). -/
structure Corr where
  dark : Nat
  gain : Nat
  defect : Nat

/-- Decode a correction-table entry. -/
def Corr.ofWord (v : Nat) : Corr := ⟨bits v 15 0, bits v 31 16, bits v 33 32⟩

/-- T2: dark subtraction (R184). -/
def darkStage (c : Corr) (s : Nat) : Nat := s - c.dark

/-- T3 before its saturation (R184). -/
def gainRaw (c : Corr) (s : Nat) : Int := rdiv ((s * c.gain : Nat) : Int) 16384

/-- T3: flat gain, from the T2 value (R184). -/
def gainStage (c : Corr) (s : Nat) : Smp := ⟨satU 16 (gainRaw c s), decide (65535 < gainRaw c s)⟩

/-- The nearest sample with DEFECT 0b00 within 8 positions to one side (R185). -/
def goodNear (codes : List Nat) (vals : List Smp) (i : Nat) (left : Bool) : Option Smp :=
  ((upto 1 8).findSome? fun k =>
    let p := if left then (if k ≤ i then some (i - k) else none) else some (i + k)
    match p with
    | some p => if codes[p]? = some 0 then vals[p]? else none
    | none => none)

/-- T4 of one sample; the flag tells an UNRESOLVED one (R185). -/
def defectStage (codes : List Nat) (vals : List Smp) (i : Nat) : Smp × Bool :=
  let v := vals.getD i ⟨0, false⟩
  let c := codes.getD i 0
  let deep := match goodNear codes vals i true, goodNear codes vals i false with
    | some a, some b => (⟨(a.v + b.v + 1) / 2, a.sat || b.sat⟩, false)
    | some a, none => (a, false)
    | none, some b => (b, false)
    | none, none => (v, true)
  if c = 0 then (v, false)
  else if c = 1 then (if 0 < i then (vals.getD (i - 1) ⟨0, false⟩, false) else deep)
  else if c = 2 then (match vals[i + 1]? with
    | some x => (x, false)
    | none => deep)
  else deep

/-- The four weights of cross-web resampling at phase p (R188). w[0] is what the other three leave of 16,384: its own
rounded value, adjusted by the difference. -/
def kernelW (cubic : Bool) (p : Nat) : List Int :=
  if cubic then
    let t : Int := p
    let q := fun (n : Int) => rdiv (n * 16384) (2 * 64 ^ 3)
    let a := q (-(t ^ 3) + 2 * 64 * t ^ 2 - 64 ^ 2 * t)
    let c := q (-3 * t ^ 3 + 4 * 64 * t ^ 2 + 64 ^ 2 * t)
    let d := q (t ^ 3 - 64 * t ^ 2)
    [a, 16384 - a - c - d, c, d]
  else [0, 256 * (64 - (p : Int)), 256 * p, 0]

/-- The value that no knot of the calibration table in view has (R187). -/
def knotNone : Nat := 0xFFFFFFFF

/-- One column of cross-web resampling: none when it lies outside the view; the flag tells a saturation of this stage
(R187). A sample contributes when its weight is not 0. -/
def crossColumn (cubic : Bool) (knots : List Nat) (samples : List Smp) (x : Nat) : Option (Smp × Bool) :=
  let j := x / 64
  let m := x % 64
  let u0 := knots.getD j knotNone
  let u1 := knots.getD (j + 1) knotNone
  if u0 = knotNone ∨ u1 = knotNone then none else
    let u : Int := (u0 : Int) + rdiv (((u1 : Int) - u0) * m) 64
    let i0 := u / 65536
    let p0 := (rdiv (u % 65536 * 64) 65536).toNat
    let i := if p0 = 64 then i0 + 1 else i0
    let p := if p0 = 64 then 0 else p0
    let w := kernelW cubic p
    let at_ := fun (q : Nat) =>
      let k := max 0 (min (i + q - 1) ((samples.length : Int) - 1))
      samples.getD k.toNat ⟨0, false⟩
    let sum := ((List.range 4).map fun q => w.getD q 0 * ((at_ q).v : Int)).sum
    let sat := (List.range 4).any fun q => decide (w.getD q 0 ≠ 0) && (at_ q).sat
    let v := rdiv sum 16384
    let own := decide (v < 0 ∨ 65535 < v)
    some (⟨satU 16 v, sat || own⟩, own)

/-- T6 of one band: OUT_WIDTH columns with their valid span, and the saturations of the stage (R187). -/
def crossWeb (cubic : Bool) (knots : List Nat) (samples : List Smp) (width : Nat) : Plane × Nat :=
  let cols := (List.range width).map (crossColumn cubic knots samples)
  let vals := cols.map (fun c => (c.map Prod.fst).getD ⟨0, false⟩)
  let sats := (cols.filter (fun c => (c.map Prod.snd).getD false)).length
  let first := (cols.takeWhile Option.isNone).length
  let count := ((cols.drop first).takeWhile Option.isSome).length
  (⟨vals, first, count⟩, sats)

/-- Y of a line from its position, sQ48.16, rounded and saturated (R9, R189). -/
def lineY (posd : Int) (scale : Nat) : Int := satS 64 (rdiv (posd * scale) (2 ^ 32))

/-- Y of row r of an area frame (R189): the sum is exact, rounded once and saturated (R9). -/
def rowY (posd : Int) (scale : Nat) (y0 pitch : Int) (r : Nat) : Int :=
  satS 64 (rdiv (posd * scale + y0 * 2 ^ 32 + r * pitch * 2 ^ 24) (2 ^ 32))

/-- The intersection of two valid spans (R190). -/
def spanMeet (a b : Plane) : Nat × Nat :=
  let f := max a.first b.first
  let e := min (a.first + a.count) (b.first + b.count)
  (f, e - f)

/-- One grid line between two brackets, per band (R190): weight w of the later one, uQ0.16. A sample contributes when its
weight is not 0. -/
def downPlane (w : Nat) (a b : Plane) : Plane :=
  let sp := spanMeet a b
  ⟨List.zipWith (fun (x y : Smp) =>
      ⟨(rdiv ((x.v * (65536 - w) + y.v * w : Nat) : Int) 65536).toNat,
        (decide (w < 65536) && x.sat) || (decide (0 < w) && y.sat)⟩) a.vals b.vals,
    sp.1, sp.2⟩

/-- The weight of the later bracket: a of b parts, uQ0.16, rounded and saturated (R9, R190). -/
def downWeight (a : Int) (b : Nat) : Nat := satU 16 (rdiv (65536 * a) b)

/-- The grid lines over which a gap is recorded between prev and a new bracket b: the lowest, and their number (R190). -/
def gapLines (prev b : Int) (rev : Bool) : Int × Nat :=
  if rev then
    let lo := b / 65536 + 1
    (lo, (prev / 65536 - lo + 1).toNat)
  else
    let lo := -((-prev) / 65536)
    (lo, (-((-b) / 65536) - lo).toNat)

/-- A plane in other print-grid columns: those from `x0` on, `width` of them; columns that it does not have are outside its valid span. -/
def Plane.place (p : Plane) (old x0 width : Nat) : Plane :=
  if old = x0 ∧ p.vals.length = width then p
  else
    let first := max (old + p.first) x0
    let last := min (old + p.first + p.count) (x0 + width)
    ⟨(List.range width).map fun i => if old ≤ x0 + i then p.vals.getD (x0 + i - old) ⟨0, false⟩ else ⟨0, false⟩,
      first - x0, last - first⟩

/-- The grid lines that a new bracket b emits after prev, in the order of travel, each with its weight; forward when
rev is false (R190). -/
def downLines (prev b : Int) (rev : Bool) : List (Int × Nat) :=
  if rev then
    -- grid lines n with b < 65536 n ≤ prev, descending
    let hi := prev / 65536
    let lo := b / 65536 + 1
    (List.range (hi - lo + 1).toNat).map fun i =>
      let n := hi - i
      (n, downWeight (prev - n * 65536) (prev - b).toNat)
  else
    let lo := -((-prev) / 65536)
    let hi := -((-b) / 65536) - 1
    (List.range (hi - lo + 1).toNat).map fun i =>
      let n := lo + i
      (n, downWeight (n * 65536 - prev) (b - prev).toNat)

end Sys2Proof.Machine
end

