-- ==== Sys2Proof/Machine/HearthLines.lean ====
section
/-!
DEFINITION. A captured line through the stages of a Hearth (R182 to R191) and its records in the ring (R194 to R200).
-/

namespace Sys2Proof.Machine

/-! ### Ring geometry -/

/-- The logical Hearth that a physical Hearth serves. -/
def State.logicalOf (s : State) (n : Nat) : Nat := s.rd F.HEARTH_ID_LOGICAL n

/-- T0 bytes of one band (R195). -/
def State.t0Bytes (s : State) (n : Nat) : Nat :=
  cdiv (s.rd F.HEARTH_CFG_WIDTH n * fmtBits (s.rd F.HEARTH_CFG_FORMAT n)) 64 * 8

/-- Units of one band at a tap: bytes at T0, else samples, and the bytes of a unit (R195). -/
def State.tapUnits (s : State) (n tap : Nat) : Nat × Nat :=
  if tap = 0 then (s.t0Bytes n, 1)
  else if tap < 6 then (s.rd F.HEARTH_CFG_WIDTH n, 2) else (s.rd F.HEARTH_XRES_OUT_WIDTH n, 2)

/-- Most units of a segment at a tap (R195). -/
def segCap (tap : Nat) : Nat := if tap = 0 then 32768 else 16384

/-- LINE_BYTES of a stream at a tap (R195). -/
def State.lineBytes (s : State) (n tap : Nat) : Nat :=
  let u := s.tapUnits n tap
  s.bandsN n * ((segments u.1 (segCap tap)).map fun g => 64 + cdiv (g.2 * u.2) 64 * 64).sum

/-- The reader of a stream is lapped: it resumes at line `to_` (R196, R197, R385). -/
def State.lapReader (s : State) (n st to_ : Nat) : State :=
  let key := 4 * s.logicalOf n + st
  if s.readers.getD key 0 < to_ then
    let s := ({ s with readers := s.readers.put key to_ 0 }).flag F.HEARTH_STATUS_READER_LAPPED n
    let s := s.flag F.TONGS_STATUS_LAPPED key
    { s with hep := { s.hep with qLaps := s.hep.qLaps + (if s.on F.HEP_QUENCH_QUENCHED then 1 else 0) } }
  else s

/-- Marks of a stream below a line are lapped (R196, R200). -/
def State.lapMarks (s : State) (n st below : Nat) : State :=
  (List.range 4).foldl (fun s m =>
    if s.on F.HEARTH_MARK_STATE_VALID n m && decide (s.rd F.HEARTH_MARK_STATE_STREAM n m = st
        ∧ s.rd F.HEARTH_MARK_POS_LSEQ n m < below) then
      ((s.wr F.HEARTH_MARK_STATE_VALID 0 n m).flag F.HEARTH_MARK_STATE_LAPPED n m).flag F.HEARTH_STATUS_MARK_LAPPED n
    else s) s

/-- Lines of a stream below a line count as overwritten: its marks, its reader and compare (R196, R197, R200, R226). -/
def State.overwritten (s : State) (n st below : Nat) : State :=
  let s := (s.lapMarks n st below).lapReader n st below
  if st = 0 then s.lapLines (s.logicalOf n) below else s

/-- The geometry of one stream as its present settings give it; where LINE_BYTES changes, every line written before counts
as overwritten, and every mark of the stream is lapped (R195, R196). [DESIGN CHOICE, log 65] -/
def State.regeomOne (s : State) (n st : Nat) : State :=
  let lb := s.lineBytes n (scfgTap ((s.hth n).scfg.getD st 0))
  let cap := if lb = 0 then 0 else s.rd F.HEARTH_SREGION_SIZE_MIB n st * 2 ^ 20 / lb
  let old := s.rd F.HEARTH_SGEOM_LINE_BYTES n st
  let s := (s.wr F.HEARTH_SGEOM_LINE_BYTES lb n st).wr F.HEARTH_SGEOM_CAPACITY cap n st
  if old = lb ∨ old = 0 then s else (s.lapMarks n st (2 ^ 64)).overwritten n st (s.rd F.HEARTH_LSEQ_VALUE n st)

/-- The geometry of every stream of a Hearth (R196). [DESIGN CHOICE, log 65] -/
def State.regeom (s : State) (n : Nat) : State := (List.range 4).foldl (fun s st => s.regeomOne n st) s

/-! ### Line records -/

/-- One band of a line at a tap: its bytes, the saturation of each unit, and its valid span. -/
structure BandData where
  bytes : Bytes
  sats : List Bool
  first : Nat
  count : Nat

/-- A line at a tap, ready for its segment records (R198). -/
structure LineRec where
  tap : Nat
  y : Nat
  stamp : Nat
  line : Nat
  missing : Bool
  arrival : Nat
  bands : List BandData

/-- Bytes of 16-bit samples. -/
def sampleBytes (l : List Nat) : Bytes := l.flatMap (le 2)

/-- The segment records of a line with their data (R195, R198). A segment without a valid column has no first one: its
VALID_FIRST is the free value of index `free` on. -/
def State.lineImage (s : State) (n : Nat) (l : LineRec) (lseq : Nat) : Bytes :=
  let f := s.frm n
  let u := s.tapUnits n l.tap
  let segs := segments u.1 (segCap l.tap)
  let x0 := if l.tap < 6 then 0 else s.rd F.HEARTH_XRES_X_START n
  let nb := l.bands.length
  l.bands.zipIdx.flatMap fun b => segs.zipIdx.flatMap fun g =>
    let a := g.1.1
    let c := g.1.2
    let data := padTo 64 ((b.1.bytes.drop (a * u.2)).take (c * u.2))
    let sat := decide (3 ≤ l.tap) && ((b.1.sats.drop a).take c).any id
    let lo := max b.1.first a
    let vc := min (b.1.first + b.1.count) (a + c) - lo
    let vf := if vc = 0 then (Config.freeValue (s.free + segs.length * b.2 + g.2)).toNat % 65536 else lo - a
    let last := decide (b.2 + 1 = nb ∧ g.2 + 1 = segs.length)
    header 0x0200 (1 + data.length / 64) (srcNo 7 (s.logicalOf n)) l.stamp ++ le 4 f.frameNo ++ le 2 l.line
      ++ le 1 (l.tap + 8 * b.2) ++ le 1 (b2n l.missing + 2 * b2n sat + 4 * b2n last) ++ le 8 l.y ++ le 4 (x0 + a)
      ++ le 2 c ++ le 2 f.expGen ++ le 8 l.arrival ++ le 2 vf ++ le 2 vc ++ le 8 lseq ++ zeros 4 ++ data

/-- DROPPED counter of a stream. -/
def dropFld (st : Nat) : Fld := { F.HEARTH_DROP_DROPPED0 with lo := 16 * st }

/-- A stream line is dropped (R196). -/
def State.dropLine (s : State) (n st : Nat) : State :=
  let s := (s.inc (dropFld st) n).flag F.HEARTH_STATUS_DROPPED n
  s.setFrm n { s.frm n with deferred := true }

/-- Marks that wait for the first line of this frame are set (R199). -/
def State.settleMarks (s : State) (n st : Nat) : State :=
  if ((s.frm n).lseqFirst.getD st none).isSome then s else
    (List.range 4).foldl (fun s m =>
      if s.on F.HEARTH_MARK_STATE_PENDING n m && decide (s.rd F.HEARTH_MARK_STATE_STREAM n m = st)
          && decide (bit (s.hth n).armedMarks m = 1) then
        ((s.wr F.HEARTH_MARK_STATE_PENDING 0 n m).wr F.HEARTH_MARK_STATE_VALID 1 n m).wr F.HEARTH_MARK_POS_LSEQ
          (s.rd F.HEARTH_LSEQ_VALUE n st) n m
      else s) s

/-- Write a line of a stream into the ring (R195, R197, R199, R200). -/
def State.writeLine (s : State) (n st : Nat) (l : LineRec) : State :=
  let lseq := s.rd F.HEARTH_LSEQ_VALUE n st
  let cap := s.rd F.HEARTH_SGEOM_CAPACITY n st
  let s := s.settleMarks n st
  let s := if cap ≤ lseq then s.overwritten n st (lseq - cap + 1) else s
  let image := s.lineImage n l lseq
  let addr := (s.rd F.HEARTH_RING_BASE_MIB n + s.rd F.HEARTH_SREGION_OFFSET_MIB n st) * 2 ^ 20
    + lseq % cap * s.rd F.HEARTH_SGEOM_LINE_BYTES n st
  let s := s.hbmWrite addr image
  let s := { s with free := s.free + l.bands.length * (segments (s.tapUnits n l.tap).1 (segCap l.tap)).length }
  let s := s.wr F.HEARTH_LSEQ_VALUE (lseq + 1) n st
  let f := s.frm n
  s.setFrm n { f with
    lseqFirst := if (f.lseqFirst.getD st none).isSome then f.lseqFirst else f.lseqFirst.set st (some lseq),
    slines := f.slines.set st (f.slines.getD st 0 + 1) }

/-- One stream takes a line of index `idx` at its tap, when its decimation selects the line (R194): it writes it, or drops it
when Bellows defers the stream, when it cannot be written, or when its region holds no line (R176, R196). `bad` has a bit
for each C0 stream whose lines cannot be written. Answers whether a line was written. -/
def State.streamLine (s : State) (n st bad : Nat) (idx : Int) (l : LineRec) : Bool × State :=
  let w := (s.hth n).scfg.getD st 0
  if !scfgOn w || decide (scfgTap w ≠ l.tap) || decide (idx % (scfgStep w : Int) ≠ 0) then (false, s)
  else if scfgC2 w && !s.c2Ok n then
    let s := s.dropLine n st
    (false, s.setFrm n { s.frm n with c2Lost := (s.frm n).c2Lost ||| 2 ^ st })
  else if !scfgC2 w && decide (bit bad st = 1) then
    (false, (s.dropLine n st).unavailFor (s.targetNs .ctrig (s.logicalOf n)))
  else if s.rd F.HEARTH_SGEOM_CAPACITY n st = 0 then (false, s.dropLine n st)
  else (true, s.writeLine n st l)

/-- Every stream takes a line of a tap below T7 (R194). -/
def State.streams (s : State) (n bad : Nat) (idx : Nat) (l : LineRec) : State :=
  (List.range 4).foldl (fun s st => (s.streamLine n st bad idx l).2) s

/-- Every stream takes a grid line; a line of stream 0 becomes visible to compare (R195, R223). -/
def State.gridLine (s : State) (n bad : Nat) (g : Int) (rev : Bool) (l : LineRec) : State :=
  let lseq := s.rd F.HEARTH_LSEQ_VALUE n 0
  let r := s.streamLine n 0 bad g l
  let s := if r.1 then
      let b : BLine := ⟨g, lseq, l.stamp, (r.2.frm n).frameNo, l.missing, b2n rev, false⟩
      r.2.lineVisible (r.2.logicalOf n) rev b
    else r.2
  (upto 1 3).foldl (fun s st => (s.streamLine n st bad g l).2) s

/-! ### Tables -/

/-- HBM address of the active table bank (R193). -/
def State.tblBase (s : State) (n : Nat) : Nat :=
  s.rd F.HEARTH_TBL_BASE_OFFSET n + 0x90000 * s.rd F.HEARTH_TBL_CTL_ACTIVE_BANK n

/-- Little-endian words of HBM; a word in a block marked uncorrectable is a free value (R505). [DESIGN CHOICE, log 68] -/
def State.hbmWords (s : State) (a size cnt : Nat) : List Nat × State :=
  if s.hbmBad a (size * cnt) then
    ((List.range cnt).map (fun i =>
      if s.hbmBad (a + size * i) size then (Config.freeValue (s.free + i)).toNat % 2 ^ (8 * size)
      else fromLe (s.hbmRead (a + size * i) size)), { s with free := s.free + cnt })
  else ((List.range cnt).map (fun i => fromLe (s.hbmRead (a + size * i) size)), s)

/-- The correction entries of a band (R184). -/
def State.corrTable (s : State) (n b : Nat) : List Corr × State :=
  let w := s.rd F.HEARTH_CFG_WIDTH n
  let r := s.hbmWords (s.tblBase n + 8 * (b * w)) 8 w
  (r.1.map Corr.ofWord, r.2)

/-- The calibration knots of a band (R187). -/
def State.knots (s : State) (n b : Nat) : List Nat × State :=
  s.hbmWords (s.tblBase n + 0x80000 + 0x4000 * b) 4 (s.rd F.HEARTH_XRES_OUT_WIDTH n / 64 + 1)

/-! ### Stages of a camera line -/

/-- One band of a camera line through T0 to T4. -/
structure BandStages where
  raw : Bytes
  t1 : List Nat
  t2 : List Nat
  t3 : List Smp
  t4 : List Smp
  missing : Bool
  saturated : Nat
  unresolved : Nat

/-- The bytes of a stream's data that its parts hold, with those that arrived (R156, R182). -/
def assemble (parts : List Part) (len : Nat) : List (Option Byte) :=
  (List.range len).map fun i => parts.findSome? fun p =>
    if 8 * p.offset ≤ i then p.data[i - 8 * p.offset]? else none

/-- A band of a closed line: T0 to T4 (R156, R182 to R185). -/
def bandStages (bits width t0len : Nat) (corr : List Corr) (parts : List Part) : BandStages :=
  let got := assemble parts t0len
  let raw := got.map fun b => b.getD 0
  let need := cdiv (width * bits) 8
  let complete := parts.any Part.first && parts.any Part.last && (got.take need).all Option.isSome
  let here := fun (i : Nat) =>
    ((got.drop (i * bits / 8)).take ((i * bits + bits - 1) / 8 + 1 - i * bits / 8)).all Option.isSome
  let present := (List.range width).map fun i => complete || here i
  let keep := fun {α : Type} (z : α) (l : List α) => List.zipWith (fun (p : Bool) (x : α) => if p then x else z) present l
  let t1 := keep 0 (unpack bits width raw)
  let t2 := keep 0 (List.zipWith darkStage corr t1)
  let t3 := keep ⟨0, false⟩ (List.zipWith gainStage corr t2)
  let codes := corr.map Corr.defect
  let d := (List.range width).map fun i => if present.getD i false then defectStage codes t3 i else (⟨0, false⟩, false)
  { raw := raw, t1 := t1, t2 := t2, t3 := t3, t4 := d.map Prod.fst, missing := !complete,
    saturated := (t3.filter Smp.sat).length, unresolved := (d.filter Prod.snd).length }

/-- The stages of every band of the current line. -/
def State.lineStages (s : State) (n : Nat) (parts : List Part) : Nat → List BandStages × State
  | 0 => ([], s)
  | b + 1 =>
    let r := State.lineStages s n parts b
    let c := r.2.corrTable n b
    (r.1 ++ [bandStages (fmtBits (s.rd F.HEARTH_CFG_FORMAT n)) (s.rd F.HEARTH_CFG_WIDTH n) (s.t0Bytes n) c.1
      (parts.filter fun p => decide (p.stream = b))], c.2)

/-- A band at a tap of the camera: the whole of it is valid. -/
def camBand (l : List Nat) (sats : List Bool) : BandData := ⟨sampleBytes l, sats, 0, l.length⟩
def smpBand (l : List Smp) : BandData := camBand (l.map Smp.v) (l.map Smp.sat)

/-! ### Positions -/

/-- The position of a camera line (R189): Y, stamp and direction; no position when the key of a line-scan line is absent. -/
def State.lineY (s : State) (n : Nat) (f : FrameS) (l : Nat) : Option (Int × Nat × Nat) :=
  let origin := s.rd F.HEARTH_Y_ORIGIN_VALUE n
  let scale := s.rd F.HEARTH_Y_SCALE_VALUE n
  let diff := fun (p : Nat) => sOf 56 (uOf 56 ((p : Int) - origin))
  if s.on F.HEARTH_CFG_KIND n then
    ((s.hth n).trigs.find? fun t => decide (t.frameLo = f.frameNo % 256 ∧ t.line = l)).map fun t =>
      (Sys2Proof.Machine.lineY (diff t.pos) scale, t.dt, t.dir)
  else
    some (rowY (diff (f.posWord % 2 ^ 56)) scale (sOf 32 (s.rd F.HEARTH_ROW_GEOM_ROW_Y0 n))
      (sOf 32 (s.rd F.HEARTH_ROW_GEOM_ROW_PITCH n)) l, f.trigDt, bit f.posWord 59)

/-- A line has no position: NO_POSITION is set, and the line counted (R189). -/
def State.noPos (s : State) (n : Nat) : State :=
  (s.inc F.HEARTH_ERRS_NO_POSITION n).flag F.HEARTH_STATUS_NO_POSITION n

/-- Y of a line that has no position (R189). -/
def noPosition : Nat := 0x8000000000000000

/-! ### Statistics -/

/-- Statistics of one band over a line's T4 values (R215). -/
def StatS.add (x : StatS) (level : Nat) (vals : List Nat) : StatS :=
  { count := x.count + vals.length, sat := x.sat + (vals.filter fun v => decide (level ≤ v)).length,
    sum := x.sum + vals.sum, min := vals.foldl Min.min x.min, max := vals.foldl Max.max x.max, lines := x.lines + 1,
    hist := x.hist.zipIdx.map fun e => e.1 + (vals.filter fun v => decide (v / 4096 = e.2)).length }

/-- A line enters the statistics of its frame when the window holds it and it is not MISSING (R215). -/
def State.addStats (s : State) (n line : Nat) (bands : List BandStages) : State :=
  let roi := (s.hth n).roi
  let colFirst := bits roi 15 0
  let colCount := bits roi 31 16
  let lineFirst := bits roi 47 32
  let lineCount := bits roi 63 48
  if !s.on F.HEARTH_STAT_CFG_STAT_EN n || bands.any BandStages.missing
      || !(decide (lineFirst ≤ line) && (decide (lineCount = 0) || decide (line < lineFirst + lineCount))) then s
  else
    let f := s.frm n
    let level := s.rd F.HEARTH_STAT_CFG_SAT_LEVEL n
    let cut := fun (l : List Nat) => if colCount = 0 then l.drop colFirst else (l.drop colFirst).take colCount
    s.setFrm n { f with stats := bands.zipIdx.map fun b =>
      (f.stats.getD b.2 {}).add level (cut (b.1.t4.map Smp.v)) }

/-! ### Down-web resampling -/

/-- prev is cleared, or a gap recorded: the open row of the Hearth becomes ready (R191, R223). -/
def State.clearPrev (s : State) (n : Nat) : State :=
  if (s.hth n).prev.isSome then
    (s.setHth n { s.hth n with prev := none }).rowReady (s.logicalOf n)
  else s

/-- A down-web gap between two brackets is recorded (R190). -/
def State.recordGap (s : State) (n : Nat) (a b : Int) (rev : Bool) : State :=
  (s.setFrm n { s.frm n with gaps := (s.frm n).gaps ++ [gapLines a b rev] }).rowReady (s.logicalOf n)

/-- Down-web resampling takes its next line (R190, R191). -/
def State.downWeb (s : State) (n bad dir : Nat) (b : Bracket) (arrival : Nat) : State :=
  let rev := decide (dir = 1)
  let s := if (s.hth n).dir = dir then s else s.clearPrev n
  let s := match (s.hth n).prev with
    | none => s
    | some a =>
      let step := if rev then a.y - b.y else b.y - a.y
      let here := fun (p : Plane) => p.place a.x0 b.x0 (s.rd F.HEARTH_XRES_OUT_WIDTH n)
      if step ≤ ((256 * s.rd F.HEARTH_YRES_MAX_GAP n : Nat) : Int) then
        (downLines a.y b.y rev).foldl (fun s (g : Int × Nat) =>
          let planes := List.zipWith (downPlane g.2) (a.planes.map here) b.planes
          s.gridLine n bad g.1 rev
            { tap := 7, y := uOf 64 (g.1 * 65536), stamp := a.stamp, line := a.line, missing := a.missing || b.missing,
              arrival := arrival, bands := planes.map fun (p : Plane) =>
                { smpBand p.vals with first := p.first, count := p.count } }) s
      else s.recordGap n a.y b.y rev
  let x := s.hth n
  let next := if rev then b.y / 65536 else -((-b.y) / 65536)
  let s := s.setHth n { x with prev := some b, dir := dir, next0 := some next }
  s.needMoved (s.logicalOf n)

/-! ### Alignment and cross-web resampling -/

/-- The planes of an aligned line after cross-web resampling, band by band (R187). -/
def State.crossBands (s : State) (n : Nat) : List (List Smp × Nat) → List Plane × State
  | [] => ([], s)
  | (l, b) :: ls =>
    let k := s.knots n b
    let c := crossWeb (s.on F.HEARTH_XRES_KERNEL n) k.1 l (s.rd F.HEARTH_XRES_OUT_WIDTH n)
    let s := k.2.inc F.HEARTH_SAT_SATURATED n 0 c.2
    let r := State.crossBands s n ls
    (c.1 :: r.1, r.2)

/-- Form aligned line k from the closed lines, when a contributing line was received (R186), and pass it on. [DESIGN CHOICE, log 70] -/
def State.alignLine (s : State) (n bad k : Nat) : State :=
  let f := s.frm n
  let width := s.rd F.HEARTH_CFG_WIDTH n
  let delay := fun (b : Nat) => s.rd { F.HEARTH_BAND_DELAY0 with lo := 8 * b } n
  let of := fun (b : Nat) => f.hist.find? fun h => decide (h.line = k + delay b)
  let src := (List.range (s.bandsN n)).map of
  match src.filterMap id with
  | [] => s
  | first :: _ =>
    let missing := src.any fun e => match e with
      | some h => h.miss
      | none => true
    let t5 := src.zipIdx.map fun e => match e.1 with
      | some h => h.bands.getD e.2 []
      | none => List.replicate width ⟨0, false⟩
    let pos := s.lineY n f (k + delay 0)
    -- the camera line of band 0, where it arrived, was counted when it closed
    let s := if pos.isSome || (src.headD none).isSome then s else s.noPos n
    let y := (pos.map fun p => uOf 64 p.1).getD noPosition
    let stamp := (pos.map fun p => p.2.1).getD f.trigDt
    let arrival := ((src.headD none).getD first).arrival
    let r5 : LineRec := { tap := 5, y := y, stamp := stamp, line := k, missing := missing, arrival := arrival,
                          bands := t5.map smpBand }
    let s := s.streams n bad k r5
    let c := s.crossBands n t5.zipIdx
    let s := c.2.streams n bad k { r5 with
      tap := 6, bands := c.1.map fun p => { smpBand p.vals with first := p.first, count := p.count } }
    match pos with
    | none => s
    | some p => s.downWeb n bad p.2.2 ⟨p.1, k, stamp, missing, s.rd F.HEARTH_XRES_X_START n, c.1⟩ arrival

/-- Largest band delay in use (R186). -/
def State.dMax (s : State) (n : Nat) : Nat :=
  ((List.range (s.bandsN n)).map fun b => s.rd { F.HEARTH_BAND_DELAY0 with lo := 8 * b } n).foldl max 0

/-- Form the aligned lines up to k, and keep the closed lines that later ones need (R186). -/
def State.alignTo (s : State) (n bad k : Nat) : State :=
  let f := s.frm n
  let ks := upto f.nextK (k + 1 - f.nextK)
  let s := ks.foldl (fun s k => s.alignLine n bad k) s
  let f := s.frm n
  let next := max f.nextK (k + 1)
  s.setFrm n { f with nextK := next, hist := f.hist.filter fun h => decide (next ≤ h.line) }

/-- Aligned lines number 0 to C - 1 - DMAX (R186): those complete once camera line l has closed; all of them at the end of
the frame. -/
def State.align (s : State) (n bad l : Nat) (ends : Bool) : State :=
  let dm := s.dMax n
  let c := (s.frm n).lines
  if c ≤ dm then s
  else if ends then s.alignTo n bad (min l (c - 1 - dm))
  else if l < dm then s else s.alignTo n bad (min (l - dm) (c - 1 - dm))

/-- The current line closes and passes through the stages (R182 to R186). [DESIGN CHOICE, log 70] -/
def State.closeLine (s : State) (n bad : Nat) : State :=
  let f := s.frm n
  match f.cur with
  | none => s
  | some l =>
    let r := s.lineStages n f.parts (s.bandsN n)
    let bands := r.1
    let missing := bands.any BandStages.missing
    let s := r.2.setFrm n { f with cur := none, parts := [], missing := f.missing || missing }
    let s := if missing then s.inc F.HEARTH_LINECNT_MISSING_LINES n else s
    let s := s.inc F.HEARTH_SAT_SATURATED n 0 (bands.map BandStages.saturated).sum
    let s := s.inc F.HEARTH_SAT_UNRESOLVED n 0 (bands.map BandStages.unresolved).sum
    let pos := s.lineY n f l
    let s := if pos.isSome then s else s.noPos n
    let base : LineRec := {
      tap := 0, y := (pos.map fun p => uOf 64 p.1).getD noPosition, stamp := (pos.map fun p => p.2.1).getD f.trigDt,
      line := l, missing := missing, arrival := f.curFirst, bands := bands.map fun b => ⟨b.raw, [], 0, b.raw.length⟩ }
    let s := s.streams n bad l base
    let s := s.streams n bad l { base with tap := 1, bands := bands.map fun b => camBand b.t1 [] }
    let s := s.streams n bad l { base with tap := 2, bands := bands.map fun b => camBand b.t2 [] }
    let s := s.streams n bad l { base with tap := 3, bands := bands.map fun b => smpBand b.t3 }
    let s := s.streams n bad l { base with tap := 4, bands := bands.map fun b => smpBand b.t4 }
    let s := s.addStats n l bands
    let f := s.frm n
    let s := s.setFrm n { f with hist := f.hist ++
      [⟨l, bands.map BandStages.t4, missing, f.curFirst⟩] }
    s.align n bad l false

end Sys2Proof.Machine
end

