-- ==== Sys2Proof/Machine/WeldUnits.lean ====
section
/-!
DEFINITION. Substitution of Hearths and Anvil tiles by Weld (R491 to R503, R506). Class 1 is a Hearth, class 2 a tile.
-/

namespace Sys2Proof.Machine

/-! ### Units and clusters -/

/-- The physical unit at position k of cluster c. -/
def unitPhys (cls c k : Nat) : Nat := (perCluster cls + 1) * c + k

/-- Cluster and position of a physical unit. -/
def unitPlace (cls n : Nat) : Nat × Nat := (n / (perCluster cls + 1), n % (perCluster cls + 1))

/-- Keys of a cluster and of a unit in Weld's stores. -/
def clKey (cls c : Nat) : Nat := 8 * cls + c
def unKey (cls c k : Nat) : Nat := 64 * clKey cls c + k

/-- The register field of a class. -/
def byCls (cls : Nat) (hearth tile : Fld) : Fld := if cls = 1 then hearth else tile

def subStateF (cls : Nat) : Fld := byCls cls F.WELD_HCL_SUB_STATE F.WELD_ACL_SUB_STATE
def attemptF (cls : Nat) : Fld := byCls cls F.WELD_HCL_ATTEMPT F.WELD_ACL_ATTEMPT
def fromF (cls : Nat) : Fld := byCls cls F.WELD_HCL_FROM_K F.WELD_ACL_FROM_K
def spareF (cls : Nat) : Fld := byCls cls F.WELD_HCL_SPARE_K F.WELD_ACL_SPARE_K
def failedF (cls : Nat) : Fld := byCls cls F.WELD_HCL_FAILED F.WELD_ACL_FAILED
def suspectF (cls : Nat) : Fld := byCls cls F.WELD_HSUSP_SUSPECT F.WELD_ASUSP_SUSPECT
def servingF (cls : Nat) : Fld := byCls cls F.HEARTH_ID_SERVING F.ANVIL_ID_SERVING
def shadowF (cls : Nat) : Fld := byCls cls F.HEARTH_ID_SHADOW F.ANVIL_ID_SHADOW
def logicalF (cls : Nat) : Fld := byCls cls F.HEARTH_ID_LOGICAL F.ANVIL_ID_LOGICAL

/-- Set or clear bit k of a field. -/
def State.wrBit (s : State) (f : Fld) (i k : Nat) (v : Bool) : State :=
  let x := s.rd f i
  s.wr f (if v then x ||| 2 ^ k else if bit x k = 1 then x - 2 ^ k else x) i

/-- The physical unit that serves a logical unit. -/
def State.unitOf (s : State) (cls l : Nat) : Option Nat := if cls = 1 then s.hearthOf l else s.tileOf l

/-- Source number of a logical unit (R32). -/
def unitSrc (cls l : Nat) : Nat := srcNo (6 + cls) l

/-- Unit index of a logical unit for function 0x06 (R65). [DESIGN CHOICE, log 39] -/
def unitFn (cls l : Nat) : Nat := if cls = 1 then l else 256 + l

/-- A DETAIL list: each item as an 8-byte word in order (R509). [DESIGN CHOICE, log 43] -/
def detail (l : List Nat) : Bytes := l.flatMap (le 8)

/-- The FRAME_NO or BSEQ that a fault of a physical unit touches: of the open frame, or else of the next frame of its
generator; of the running billet. An idle tile works at no billet: its number is a free value (R499). -/
def State.affected (s : State) (cls n : Nat) : Nat × State :=
  if cls = 1 then
    match (s.hth n).frame with
    | some f => (f.frameNo, s)
    | none => (s.rd F.CTRIG_COUNT_FRAME_NO (s.rd F.HEARTH_ID_LOGICAL n), s)
  else match s.anvil.running.find n with
    | some b => (b.bseq, s)
    | none => s.fresh 64

/-- The last FRAME_NO or BSEQ that a physical unit worked at (R499). [DESIGN CHOICE, log 77] -/
def State.lastWork (s : State) (cls n : Nat) : Nat :=
  if cls = 1 then (s.hth n).lastFrame else s.anvil.lastB.getD n 0

/-! ### Substitutions -/

/-- The substitution of a cluster. -/
def State.subAt (s : State) (cls c : Nat) : Option SubS := s.weld.subs.find (clKey cls c)

/-- Update the substitution of a cluster, with the registers that show it. -/
def State.setSub (s : State) (cls c : Nat) (x : SubS) : State :=
  let st := if x.stage = 1 then 1 else if x.stage ≤ 3 then 2 else if x.stage = 4 then 3 else 4
  let s := { s with weld := { s.weld with subs := s.weld.subs.ins (clKey cls c) x } }
  ((s.wr (subStateF cls) st c).wr (attemptF cls) x.attempt c).wr (fromF cls) x.fromK c

/-- End the substitution of a cluster. -/
def State.endSub (s : State) (cls c : Nat) : State :=
  let s := { s with weld := { s.weld with subs := s.weld.subs.del (clKey cls c) } }
  ((s.wr (subStateF cls) 0 c).wr (attemptF cls) 0 c).wr (fromF cls) 0xFF c

/-- The BIST of a unit starts (R492). The value is the cause of its records. -/
def State.startTest (s : State) (cls c k cause : Nat) : State :=
  { s with weld := { s.weld with testing := s.weld.testing.ins (unKey cls c k) cause } }

/-- A trigger finds no spare: the unit stays SUSPECT (R501). -/
def State.exhausted (s : State) (cls c : Nat) : State :=
  (s.flag F.WELD_STATUS_SPARE_EXHAUSTED).err 0x1D (srcNo 0x12 0) (detail [6 + cls, c])

/-- A unit becomes SUSPECT (R499). -/
def State.suspectBegin (s : State) (cls c k l cause first err : Nat) : State :=
  if bit (s.rd (suspectF cls) c) k = 1 then s else
    let s := s.wrBit (suspectF cls) c k true
    let s := { s with weld := { s.weld with suspFirst := s.weld.suspFirst.ins (unKey cls c k) first } }
    s.subRecord (unitSrc cls l) (subBody 1 cause k 0xFF l 0 first 0 err)

/-- A unit is no longer SUSPECT (R499). -/
def State.suspectEnd (s : State) (cls c k l cause to_ : Nat) : State :=
  if bit (s.rd (suspectF cls) c) k = 0 then s else
    let first := s.weld.suspFirst.getD (unKey cls c k) 0
    let s := s.wrBit (suspectF cls) c k false
    let s := { s with weld := { s.weld with suspFirst := s.weld.suspFirst.del (unKey cls c k) } }
    s.subRecord (unitSrc cls l) (subBody 2 cause k to_ l 0 first (s.lastWork cls (unitPhys cls c k)) 0)

/-- The spare arbiter of a cluster takes a trigger (R491, R501): the spare is tested, or the trigger waits, or finds none. -/
def State.takeSpare (s : State) (cls c k : Nat) (t : PendSub) : State :=
  let spare := s.rd (spareF cls) c
  if (s.subAt cls c).isSome then
    let key := clKey cls c
    { s with weld := { s.weld with waitSub := s.weld.waitSub.ins key (s.weld.waitSub.getD key [] ++ [t]) } }
  else if spare = 0xFF then s.exhausted cls c
  else
    let uk := unKey cls c k
    let x : SubS := { fromK := k, spareK := spare, logical := t.logical, cause := t.cause, err := t.err,
                      ceCount := (s.weld.ce.getD uk []).length, trigDt := s.dt, first := t.first, stage := 1,
                      attempt := 0, force := t.force, ran := false, after := 0 }
    (s.setSub cls c x).startTest cls c spare t.cause

/-- Triggers that wait take the spare once it is parked again (R501). -/
def State.nextTrigger (s : State) (cls c : Nat) : State :=
  let key := clKey cls c
  match s.weld.waitSub.getD key [] with
  | [] => s
  | t :: ts =>
    let s := { s with weld := { s.weld with waitSub := s.weld.waitSub.put key ts [] } }
    match s.unitOf cls t.logical with
    | some n => s.takeSpare cls c (unitPlace cls n).2 t
    | none => s

/-- The spare has become serving, or has FAILED: every trigger that waits finds none (R501). -/
def State.flushTriggers (s : State) (cls c : Nat) : State :=
  let key := clKey cls c
  let n := (s.weld.waitSub.getD key []).length
  let s := { s with weld := { s.weld with waitSub := s.weld.waitSub.del key } }
  (List.range n).foldl (fun s _ => s.exhausted cls c) s

/-! ### The switch -/

/-- Base of the register block of a physical unit. -/
def unitBase (cls n : Nat) : Nat := (if cls = 1 then 0x400000 else 0xC00000) + 0x4000 * n

/-- The RW and RWK fields of the block of a class, with the sub-instances of each (R562). -/
def sharedFields (cls : Nat) : List (Fld × Nat) :=
  (R.all.filter fun r => within (unitBase cls 0) r.desc.addr (unitBase cls 0 + 0x3FFF)).flatMap fun r =>
    (r.desc.flds.filter fun f => decide (f.acc = .rw ∨ f.acc = .rwk)).map fun f => (f, r.desc.n2)

/-- Weld keeps the RW and RWK registers of a shadow-running spare equal to those of the unit it shadows (R562). -/
def State.mirror (s : State) (cls from_ into : Nat) : State :=
  (sharedFields cls).foldl (fun s e => (List.range e.2).foldl (fun s j => s.wr e.1 (s.rd e.1 from_ j) into j) s) s

/-- The state of a Hearth that outlives a frame goes into its spare at a frame boundary: the down-web bracket and what stands with
it. A shadow-running spare, which works on the same lines, is brought to it at every boundary. A tile carries no state (R493, R494).
[DESIGN CHOICE, log 77] -/
def State.carryUnit (s : State) (cls from_ into : Nat) : State :=
  if cls = 1 then
    let x := s.hth from_
    s.setHth into { s.hth into with prev := x.prev, dir := x.dir, trigs := x.trigs }
  else s

/-- A host write has changed a unit: the spare that shadows it follows (R562). -/
def State.mirrorUnit (s : State) (cls n : Nat) : State :=
  let p := unitPlace cls n
  match s.weld.subs.find (clKey cls p.1) with
  | some x =>
    let spare := unitPhys cls p.1 x.spareK
    if x.fromK = p.2 ∧ s.on (shadowF cls) spare then s.mirror cls n spare else s
  | none => s

/-- The fields of a block of a register store, moved from one place to another. -/
def moveKeys (from_ into len : Nat) (r : Assoc Nat) : Assoc Nat :=
  let moved := r.filter fun e => decide (8 * from_ ≤ e.1 ∧ e.1 < 8 * (from_ + len))
  let rest := (r.delRange (8 * into) (8 * (into + len))).delRange (8 * from_) (8 * (from_ + len))
  moved.foldl (fun m e => m.ins (e.1 + 8 * into - 8 * from_) e.2) rest

/-- Move the register fields of a block from one place to another (R497); its restore copy follows. [DESIGN CHOICE, log 92] -/
def State.moveRegs (s : State) (from_ into len : Nat) : State :=
  { s with regs := moveKeys from_ into len s.regs,
           kindle := { s.kindle with restore := moveKeys from_ into len s.kindle.restore } }

/-- The spare becomes the serving unit with the run state of the old one, which is tested (R497). -/
def State.switchUnit (s : State) (cls c : Nat) (x : SubS) : State :=
  let old := unitPhys cls c x.fromK
  let new := unitPhys cls c x.spareK
  let s := s.suspectEnd cls c x.fromK x.logical x.cause x.spareK
  let s := s.moveRegs (unitBase cls old + 8) (unitBase cls new + 8) 0x3FF8
  let s := if cls = 1 then (s.setHth new (s.hth old)).setHth old {}
    else { s with anvil := { s.anvil with
      lastB := ((s.anvil.lastB.put new (s.anvil.lastB.getD old 0) 0).del old) } }
  let s := ((s.wr (servingF cls) 1 new).wr (shadowF cls) 0 new).wr (logicalF cls) x.logical new
  let s := s.wr (servingF cls) 0 old
  let s := (s.endSub cls c).wr (spareF cls) 0xFF c
  let body := subBody 5 x.cause x.fromK x.spareK x.logical x.attempt x.first 0 x.err
  let s := (s.subRecord (unitSrc cls x.logical) body).ledgerChange body true
  let s := s.closeReqs 6 (unitSrc cls x.logical)
  ((s.startTest cls c x.fromK x.cause).flushTriggers cls c)

/-- Whether the unit that a substitution replaces is a tile that runs no billet: it is at a billet boundary. [DESIGN CHOICE, log 77] -/
def State.idleTile (s : State) (cls c : Nat) (x : SubS) : Bool :=
  decide (cls = 2) && (s.anvil.running.find (unitPhys cls c x.fromK)).isNone

/-- A FORCE whose spare has passed its test switches at the next boundary (R498). -/
def State.forceReady (s : State) (cls c : Nat) (x : SubS) : State :=
  if s.idleTile cls c x then s.switchUnit cls c { x with force := true }
  else s.setSub cls c { x with force := true, stage := 2 }

/-- FORCE names a logical unit whose trigger waits for the spare: it will switch without a shadow run (R498). -/
def State.forceWaiting (s : State) (cls c l : Nat) : State :=
  let key := clKey cls c
  let l' := (s.weld.waitSub.getD key []).map fun t => if t.logical = l then { t with force := true } else t
  { s with weld := { s.weld with waitSub := s.weld.waitSub.ins key l' } }

/-- A trigger on a serving unit (R491). A second one of a unit whose substitution runs or waits has no further effect, but
FORCE makes it one without a shadow run (R498). -/
def State.trigger (s : State) (cls n cause err : Nat) (force : Bool) : State :=
  let p := unitPlace cls n
  let l := s.rd (logicalF cls) n
  let a := s.affected cls n
  let s := if force then s else a.2.suspectBegin cls p.1 p.2 l cause a.1 err
  let t : PendSub := ⟨l, cause, err, a.1, force⟩
  match s.subAt cls p.1 with
  | some x =>
    if x.fromK = p.2 then
      if force then
        let s := s.closeReqs 6 (unitSrc cls l)
        if x.stage = 1 then s.setSub cls p.1 { x with force := true } else s.forceReady cls p.1 x
      else s
    else if (s.weld.waitSub.getD (clKey cls p.1) []).any (fun t => decide (t.logical = l)) then
      if force then s.forceWaiting cls p.1 l else s
    else s.takeSpare cls p.1 p.2 t
  | none => s.takeSpare cls p.1 p.2 t

/-- A boundary of a logical unit (R177, R497, R498): a shadow run begins, or the switch falls. -/
def State.unitBoundary (s : State) (cls l : Nat) : State :=
  let c := l / perCluster cls
  match s.subAt cls c with
  | none => s
  | some x =>
    if x.logical ≠ l then s
    else if x.stage = 2 then
      if x.force then s.switchUnit cls c x
      else
        let spare := unitPhys cls c x.spareK
        let from_ := unitPhys cls c x.fromK
        let s := (s.setSub cls c { x with stage := 3, attempt := x.attempt + 1, ran := false }).wr (shadowF cls) 1 spare
        (s.carryUnit cls from_ spare).mirror cls from_ spare
    else if x.stage = 4 then
      if x.after = 0 then s.switchUnit cls c x else s.setSub cls c { x with after := x.after - 1 }
    else if x.stage = 1 then s
    else s.carryUnit cls (unitPhys cls c x.fromK) (unitPhys cls c x.spareK)

/-- A frame or billet that counts for the shadow run has ended (R493, R494). -/
def State.shadowRan (s : State) (cls l : Nat) : State :=
  let c := l / perCluster cls
  match s.subAt cls c with
  | some x => if x.logical = l ∧ x.stage = 3 then s.setSub cls c { x with ran := true } else s
  | none => s

/-- A passed substitution waits for its boundary; a tile that runs nothing is at one (R497). -/
def State.switchReady (s : State) (cls c : Nat) (x : SubS) (after : Nat) : State :=
  if decide (after = 0) && s.idleTile cls c x then s.switchUnit cls c x
  else s.setSub cls c { x with stage := 4, after := after }

/-- The substitution ends and its spare is parked again (R500). -/
def State.parkSpare (s : State) (cls c : Nat) (x : SubS) : State :=
  let s := (s.wr (shadowF cls) 0 (unitPhys cls c x.spareK)).endSub cls c
  (s.subRecord (unitSrc cls x.logical) (subBody 8 x.cause 0xFF x.spareK x.logical x.attempt 0 0 0)).nextTrigger cls c

/-- The proposal of a request of function 0x06 (R500). -/
def subProposal (cls c : Nat) (x : SubS) : Bytes :=
  le 1 (6 + cls) ++ le 1 c ++ le 1 x.fromK ++ le 1 x.spareK ++ le 2 x.logical ++ le 1 x.attempt ++ le 1 0
    ++ le 8 x.trigDt ++ le 8 x.first ++ le 2 x.err ++ le 2 x.ceCount ++ zeros 4

/-- SHADOW_COMPARE: the signatures of a shadow frame or billet are compared (R495, R496, R497, R500). -/
def State.shadowCompare (s : State) (cls c : Nat) (pass : Bool) : State :=
  match s.subAt cls c with
  | none => s
  | some x =>
    if x.stage ≠ 3 ∨ !x.ran then s
    else if pass then
      let s := s.subRecord (unitSrc cls x.logical)
        (subBody 3 x.cause x.fromK x.spareK x.logical x.attempt x.first 0 x.err)
      if x.cause = 3 ∨ s.hwMode 6 (unitFn cls x.logical) then s.switchReady cls c x 0
      else
        let r := s.post 6 (unitSrc cls x.logical) x.cause (subProposal cls c x)
        if r.1 then r.2.setSub cls c { x with stage := 5 } else r.2.switchReady cls c x 0
    else
      let s := s.err 0x1C (srcNo 0x12 0) (detail [6 + cls, x.logical, x.spareK, x.attempt])
      let s := s.subRecord (unitSrc cls x.logical)
        (subBody 4 x.cause x.fromK x.spareK x.logical x.attempt x.first 0 x.err)
      if x.attempt < 3 then s.setSub cls c { x with stage := 2, ran := false }
      else
        let s := s.subRecord (unitSrc cls x.logical)
          (subBody 6 x.cause x.fromK x.spareK x.logical x.attempt x.first 0 x.err)
        let s := (s.wr (shadowF cls) 0 (unitPhys cls c x.spareK)).endSub cls c
        s.startTest cls c x.spareK x.cause

/-- A request of function 0x06 resolves (R500). [DESIGN CHOICE, log 77] -/
def State.subResolve (s : State) (cls l verdict arg : Nat) : State :=
  let c := l / perCluster cls
  match s.subAt cls c with
  | none => s
  | some x =>
    if x.logical ≠ l ∨ x.stage ≠ 5 then s
    else if verdict = 2 then s.parkSpare cls c x
    else s.switchReady cls c x (if verdict = 3 then arg % 65536 else 0)

/-! ### Tests -/

/-- A unit has failed its test (R492). -/
def State.unitFailed (s : State) (cls c k l cause : Nat) : State :=
  let s := s.wrBit (failedF cls) c k true
  let s := s.err 0x1E (srcNo 0x12 0) (detail [6 + cls, unitPhys cls c k])
  let body := subBody 7 cause k 0xFF l 0 0 0 0
  (s.subRecord (unitSrc cls l) body).ledgerChange body false

/-- A unit becomes the parked spare of its cluster (R497, R503). -/
def State.unitParked (s : State) (cls c k l cause : Nat) : State :=
  let s := (s.wrBit (failedF cls) c k false).wr (spareF cls) k c
  let body := subBody 8 cause 0xFF k l 0 0 0 0
  ((s.subRecord (unitSrc cls l) body).ledgerChange body false).nextTrigger cls c

/-- A spare's or a returned unit's self-test completes (R492, R496, R497, R503). `repaired`: the test has found a row and
assigned it a repair row. -/
def State.testDone (s : State) (cls c k : Nat) (pass repaired : Bool) : State :=
  match s.weld.testing.find (unKey cls c k) with
  | none => s
  | some cause =>
    let s := { s with weld := { s.weld with testing := s.weld.testing.del (unKey cls c k) } }
    let l := s.rd (logicalF cls) (unitPhys cls c k)
    let s := if repaired then s.subRecord (unitSrc cls l) (subBody 0x0B cause 0xFF k l 0 0 0 0) else s
    let isSpare := decide (s.rd (spareF cls) c = k)
    match s.subAt cls c with
    | some x =>
      if isSpare && decide (x.stage = 1) then
        if pass then (if x.force then s.forceReady cls c x else s.setSub cls c { x with stage := 2 })
        else
          let s := ((s.endSub cls c).wr (spareF cls) 0xFF c).unitFailed cls c k x.logical cause
          let s := s.subRecord (unitSrc cls x.logical) (subBody 6 x.cause x.fromK k x.logical 0 x.first 0 x.err)
          (s.exhausted cls c).flushTriggers cls c
      else s
    | none =>
      if isSpare then
        if pass then
          let s := if cause = 6 then s else s.subRecord (unitSrc cls l) (subBody 8 cause 0xFF k l 0 0 0 0)
          s.nextTrigger cls c
        else ((s.wr (spareF cls) 0xFF c).unitFailed cls c k l cause).flushTriggers cls c
      else if pass then s.unitParked cls c k l cause
      else s.unitFailed cls c k l cause

/-! ### Commands -/

/-- UNIT_FAULT: a datapath check or an ECC read of a serving Hearth or tile fails (R491). -/
def execUnitFault (d cls n err : Nat) (s : State) : Host.Outcome State Fault Refusal :=
  cmd (clsOk cls && decide (n < unitCount cls)) d s fun s => s.press fun s =>
    if s.on (servingF cls) n then
      let a := s.affected cls n
      let s := a.2.err 0x1B (srcNo 0x12 0) (detail [6 + cls, n, a.1])
      s.trigger cls n 1 (err % 64) false
    else s

/-- A test of a FAILED unit that WELD_CTL returns (R503). Class 3 names physical slices, 17 of each lane group. -/
def State.weldReturn (s : State) (cls n : Nat) : State :=
  if cls = 3 then
    let g := n / 17
    let x := s.groups.getD g {}
    if n < 544 ∧ s.sliceState g (n % 17) = 3 ∧ x.test.isNone then
      { s with groups := s.groups.put g { x with test := some (n, s.clk) } {} }
    else s
  else
    let p := unitPlace cls n
    if n < unitCount cls ∧ bit (s.rd (failedF cls) p.1) p.2 = 1 then s.startTest cls p.1 p.2 3 else s

/-- What WELD_CTL orders (R491, R492, R498, R499, R503): OP 1 SUBSTITUTE, 2 FORCE, 3 RETURN, 4 CLEAR_SUSPECT, 5 TEST_SPARE. A
CLASS or an INDEX that names no unit has no effect. [DESIGN CHOICE, log 77] -/
def State.weldOrder (s : State) (op cls i : Nat) : State :=
  if op = 3 then (if clsOk cls ∨ cls = 3 then s.weldReturn cls i else s)
  else if !clsOk cls then s
  else if op = 5 then
    let p := unitPlace cls i
    if i < unitCount cls ∧ s.rd (spareF cls) p.1 = p.2 ∧ (s.subAt cls p.1).isNone then s.startTest cls p.1 p.2 3 else s
  else if perCluster cls * 8 ≤ i then s
  else match s.unitOf cls i with
    | none => s
    | some n =>
      let p := unitPlace cls n
      if op = 1 then s.trigger cls n 3 0 false
      else if op = 2 then s.trigger cls n 3 0 true
      else if op = 4 then s.suspectEnd cls p.1 p.2 i 3 0xFF
      else s

/-- A host write of WELD_CTL. -/
def State.weldCtl (s : State) (op cls i : Nat) : State :=
  s.hostWrite F.WELD_CTL_OP.addr fun s => s.press fun s => s.weldOrder op cls i

/-- WELD_SUBSTITUTE: WELD_CTL OP SUBSTITUTE names a logical unit (R491). -/
def execWeldSubstitute (d cls l : Nat) (s : State) : Host.Outcome State Fault Refusal :=
  cmd (clsOk cls && decide (l < 8 * perCluster cls)) d s fun s => s.weldCtl 1 cls l

/-- WELD_FORCE: WELD_CTL OP FORCE (R498). -/
def execWeldForce (d cls l : Nat) (s : State) : Host.Outcome State Fault Refusal :=
  cmd (clsOk cls && decide (l < 8 * perCluster cls)) d s fun s => s.weldCtl 2 cls l

/-- WELD_CLEAR_SUSPECT: WELD_CTL OP CLEAR_SUSPECT (R499). -/
def execWeldClearSuspect (d cls l : Nat) (s : State) : Host.Outcome State Fault Refusal :=
  cmd (clsOk cls && decide (l < 8 * perCluster cls)) d s fun s => s.weldCtl 4 cls l

/-- WELD_TEST_SPARE: WELD_CTL OP TEST_SPARE names a parked spare (R492). -/
def execWeldTestSpare (d cls n : Nat) (s : State) : Host.Outcome State Fault Refusal :=
  cmd (clsOk cls && decide (n < unitCount cls)) d s fun s => s.weldCtl 5 cls n

/-- WELD_RETURN: WELD_CTL OP RETURN tests a FAILED Hearth, tile or lane slice (R503). -/
def execWeldReturn (d cls n : Nat) (s : State) : Host.Outcome State Fault Refusal :=
  cmd ((clsOk cls && decide (n < unitCount cls)) || decide (cls = 3 ∧ n < 544)) d s fun s => s.weldCtl 3 cls n

/-- SPARE_TEST_DONE: the self-test of position k of a cluster ends (R492). -/
def execSpareTestDone (d cls c k : Nat) (pass repaired : Bool) (s : State) : Host.Outcome State Fault Refusal :=
  cmd (clsOk cls && decide (c < 8 ∧ k ≤ perCluster cls)) d s fun s => s.press fun s => s.testDone cls c k pass repaired

/-- SPARE_TEST_PERIODIC: every SPARE_TEST_MIN minutes each parked spare is tested (R492). -/
def execSpareTestPeriodic (d : Nat) (s : State) : Host.Outcome State Fault Refusal :=
  cmd true d s fun s => s.press fun s =>
    if s.due s.weld.lastSpareTest (60000000000 * s.rd F.WELD_LIMITS_SPARE_TEST_MIN) then
      let s := { s with weld := { s.weld with lastSpareTest := s.clk } }
      [1, 2].foldl (fun s cls => (List.range 8).foldl (fun s c =>
        let k := s.rd (spareF cls) c
        if k = 0xFF ∨ (s.subAt cls c).isSome ∨ (s.weld.testing.find (unKey cls c k)).isSome then s
        else s.startTest cls c k 6) s) s
    else s

/-- SHADOW_COMPARE: the comparison of a shadow frame or billet of a cluster ends (R495). -/
def execShadowCompare (d cls c : Nat) (pass : Bool) (s : State) : Host.Outcome State Fault Refusal :=
  cmd (clsOk cls && decide (c < 8)) d s fun s => s.press fun s => s.shadowCompare cls c pass

/-- Hardware mode switches to a spare whose shadow run has passed (R43, R497). [DESIGN CHOICE, log 38] -/
def State.subAfresh (s : State) (cls l : Nat) : State :=
  (s.closeReqs 6 (unitSrc cls l)).subResolve cls l 1 0

end Sys2Proof.Machine
end

