-- ==== Sys2Proof/Machine/HearthFrames.lean ====
section
/-!
DEFINITION. Frames of a Hearth (R177 to R182, R191, R203): their start, their packets, their end and their loss; the link's
check of image packets (R154 to R158); tables, marks and counters (R193, R199).
-/

namespace Sys2Proof.Machine

/-! ### The end of a frame -/

/-- Count a flag of a frame that has ended. -/
def State.frameFlag (s : State) (n : Nat) (on : Bool) (flag : Fld) : State := if on then s.wr flag 1 n else s

/-- The frame tag record (R203); `lost` is what the ledger answered, or that its loss ended the frame. [DESIGN CHOICE, log 68] -/
def EndedS.tagRecord (e : EndedS) (lost : Bool) : Bytes :=
  let f := e.frame
  let seqs := (List.range 4).flatMap fun st => le 8 ((f.lseqFirst.getD st none).getD (2 ^ 64 - 1))
  let counts := (List.range 4).flatMap fun st => le 4 (f.slines.getD st 0)
  header 0x0210 2 (srcNo 7 e.logical) e.at_ ++ le 8 f.trigDt ++ le 8 f.firstDt ++ le 8 e.last ++ le 8 f.posWord
    ++ le 4 f.frameNo ++ le 2 f.expGen ++ le 2 (e.flags + 4 * b2n lost) ++ le 4 f.lines ++ le 4 f.received
    ++ le 4 f.excess.length ++ le 4 e.skipped ++ le 4 (e.sent.getD 0xFFFFFFFF) ++ le 4 f.idx ++ seqs ++ counts

/-- The records of a frame that has ended: its frame tag record, then its statistics (R203, R216). -/
def State.frameRecords (s : State) (n : Nat) (e : EndedS) (lost ended : Bool) : State :=
  let s := if s.on F.HEARTH_TAG_TAG_EN n then
      s.pushOr (srcNo 7 e.logical) (s.rd F.HEARTH_TAG_TAG_TROUGH n) (e.tagRecord lost) F.HEARTH_STATUS_RESOURCE_HELD n
    else s
  let s := s.frameFlag n lost F.HEARTH_STATUS_LOST
  s.statRecords n e.frame e.at_ ended

/-- SKIPPED of the frame's ledger entry (R179). [DESIGN CHOICE, log 71] -/
def State.skippedOf (s : State) (f : FrameS) : Nat :=
  match s.pos.ledger.find f.idx with
  | some e => if e.frameNo = f.frameNo then e.skipped else f.skipped
  | none => f.skipped

/-- A frame counts as SHORT (R180). -/
def FrameS.short (f : FrameS) (skipped : Nat) : Bool := decide (f.received < f.lines - skipped)

/-- A frame counts as LONG (R180). -/
def FrameS.long (f : FrameS) (sent : Option Nat) : Bool :=
  !f.excess.isEmpty || (match sent with
    | some k => decide (f.lines < k)
    | none => false)

/-- LAST_DT of a frame; a frame without a line has none, and the value is free (R203). [DESIGN CHOICE, log 68] -/
def State.lastDtOf (s : State) (f : FrameS) : Nat × State :=
  match f.lastDt with
  | some t => (t, s)
  | none => s.fresh 64

/-- The open frame of a Hearth ends (R180, R181, R191, R203): at its FRAME_END when `sent` has LINES_SENT, by the loss of its entry, or else
with NO_END. A frame that was not lost sends its frame-tag notice, and its records wait for the answer. `power` is what Bellows estimates
for its C2 item. [DESIGN CHOICE, log 66] -/
def State.endFrame (s : State) (n bad : Nat) (sent : Option Nat) (lost : Bool) (power : Nat) : State :=
  if (s.hth n).frame.isNone then s else
    let s := s.closeLine n bad
    let s := s.align n bad (s.frm n).lines true
    let f := s.frm n
    let h := s.logicalOf n
    let skipped := s.skippedOf f
    let short := f.short skipped
    let long := f.long sent
    let noEnd := sent.isNone && !lost
    let s := s.inc F.HEARTH_FRAMES_ENDED n
    let s := if short then s.inc F.HEARTH_FRAMES_SHORT n else s
    let s := if long then s.inc F.HEARTH_FRAMES_LONG n else s
    let s := s.frameFlag n short F.HEARTH_STATUS_SHORT
    let s := s.frameFlag n long F.HEARTH_STATUS_LONG
    let s := if sent.isSome && !lost then s.c2End n power else s
    let s := if short || long || noEnd || lost then s.clearPrev n else s
    let s := s.setHth n { s.hth n with frame := none, idleAt := s.clk }
    let r := s.lastDtOf f
    let flags := b2n short + 2 * b2n long + 8 * b2n noEnd + 16 * b2n f.missing + 32 * b2n (!f.gaps.isEmpty) + 64 * b2n f.deferred
    let e : EndedS := ⟨f, h, s.dt, skipped, r.1, flags, sent⟩
    let s := r.2
    if lost then s.frameRecords n e true true
    else
      let s := s.setHth n { s.hth n with ended := (s.hth n).ended ++ [e] }
      let s := s.notify ⟨n, f.idx, h, f.frameNo, true⟩
      if sent.isSome then s.shadowRan 1 h else s

/-- A ledger entry is declared lost (R104, R181): it is freed, and its open frame ends at once. -/
def State.loseEntry (s : State) (idx cause : Nat) : State :=
  match s.pos.ledger.find idx with
  | none => s
  | some e =>
    match s.hearthOf e.gen with
    | none => s.ledgerLost idx cause
    | some n => match (s.hth n).frame with
      | some f =>
        if f.idx = idx ∧ f.frameNo = e.frameNo then
          ((s.setFrm n { f with skipped := e.skipped }).ledgerLost idx cause).endFrame n 0 none true 0
        else s.ledgerLost idx cause
      | none => s.ledgerLost idx cause

/-- The frames of Hearth n that have ended without an answer, but for the first one of a ledger entry. -/
def dropEnded (f : EndedS → Bool) : List EndedS → List EndedS
  | [] => []
  | e :: es => if f e then es else e :: dropEnded f es

/-- The ledger answers a frame-tag notice: the entry it names retires, or had been declared lost before; and the frame's records are written
(R103, R203, R216). -/
def State.tagAnswer (s : State) (k : Notice) : State :=
  let held := s.holdsEntry k
  let s := if held then s.ledgerRetire k.idx else s
  let mine := fun (e : EndedS) => decide (e.frame.idx = k.idx ∧ e.frame.frameNo = k.frameNo)
  match (s.hth k.hearth).ended.find? mine with
  | some e =>
    (s.setHth k.hearth { s.hth k.hearth with ended := dropEnded mine (s.hth k.hearth).ended }).frameRecords k.hearth e
      (!held) false
  | none => s

/-! ### The start of a frame -/

/-- The Hearth that a master port feeds, while its bond is ACTIVE. -/
def State.fedBy (s : State) (p : Nat) : Option Nat :=
  if s.isMaster p && decide (s.bond p = 3) then s.hearthOf (s.rd F.COBEX_CFG_HEARTH p) else none

/-- A frame is discarded whole: its data is passed over, and the down-web bracket is cleared (R178, R191). -/
def State.discardFrame (s : State) (n : Nat) (count flag : Fld) : State := ((s.clearPrev n).inc count n).wr flag 1 n

/-- The word of HEARTH_SCFG as it stands. -/
def State.scfgWord (s : State) (n st : Nat) : Nat :=
  s.rd F.HEARTH_SCFG_ENABLE n st * 2 ^ 31 + s.rd F.HEARTH_SCFG_CLASS n st * 2 ^ 30 + s.rd F.HEARTH_SCFG_TAP n st * 2 ^ 24
    + s.rd F.HEARTH_SCFG_DECIM_M1 n st

/-- The word of HEARTH_STAT_ROI as it stands. -/
def State.roiWord (s : State) (n : Nat) : Nat :=
  s.rd F.HEARTH_STAT_ROI_LINE_COUNT n * 2 ^ 48 + s.rd F.HEARTH_STAT_ROI_LINE_FIRST n * 2 ^ 32
    + s.rd F.HEARTH_STAT_ROI_COL_COUNT n * 2 ^ 16 + s.rd F.HEARTH_STAT_ROI_COL_FIRST n

/-- A pending SWAP takes effect at a frame boundary (R193). -/
def State.tableBoundary (s : State) (n : Nat) : State :=
  if s.on F.HEARTH_TBL_CTL_SWAP_PENDING n then
    ((s.wr F.HEARTH_TBL_CTL_ACTIVE_BANK (1 - s.rd F.HEARTH_TBL_CTL_ACTIVE_BANK n) n).wr F.HEARTH_TBL_CTL_SWAP_PENDING 0 n).wr
      F.HEARTH_STATUS_TBL_SWAPPED 1 n
  else s

/-- Marks that wait for the next frame, one bit each (R199). -/
def State.pendingMarks (s : State) (n : Nat) : Nat :=
  ((List.range 4).map fun m => if s.on F.HEARTH_MARK_STATE_PENDING n m then 2 ^ m else 0).sum

/-- What waits for a frame boundary takes effect (R177): tables, streams, the window of the statistics, marks, and an order of
the exposure. [DESIGN CHOICE, log 65] -/
def State.frameBoundary (s : State) (n : Nat) : State :=
  let s := s.tableBoundary n
  let s := s.setHth n { s.hth n with scfg := (List.range 4).map (s.scfgWord n), roi := s.roiWord n,
                                     armedMarks := s.pendingMarks n }
  (s.regeom n).expBoundary n

/-- The frame of an open ledger entry opens (R178). [DESIGN CHOICE, log 71] -/
def State.openFrame (s : State) (h idx : Nat) (e : LedgerE) : State :=
  let s := s.safePoint 2 h fun s => s.closeReqs 2 (srcNo 7 h)
  let s := (s.safePoint 6 h fun s => s.subAfresh 1 h).unitBoundary 1 h
  match s.hearthOf h with
  | none => s
  | some n =>
    let s := s.frameBoundary n
    let f : FrameS := {
      frameNo := e.frameNo, idx := idx, trigDt := e.dt, posWord := posWord e.pos e.axis e.dir 0, expGen := e.expGen,
      lines := if s.on F.HEARTH_CFG_KIND n then e.lines else s.rd F.HEARTH_ROWS_ROWS n, skipped := e.skipped,
      firstDt := s.dt, unsure := (s.ex n).unsure }
    let x := s.hth n
    let s := s.setHth n { x with frame := some f, lastFrame := e.frameNo }
    let s := s.c2Begin n
    s.notify ⟨n, idx, h, e.frameNo, false⟩

/-- A FRAME_START reaches the Hearth (R178, R181). -/
def State.frameStart (s : State) (p n format streams frameNo bad : Nat) : State :=
  let s := s.endFrame n bad none false 0
  let h := s.logicalOf n
  match s.entryOf h frameNo with
  | none => s.discardFrame n F.HEARTH_ERRS_ORPHANS F.HEARTH_STATUS_ORPHAN
  | some (idx, e) =>
    if e.state ≠ 1 ∨ e.dt ≤ (s.port p).attachDt then
      s.discardFrame n F.HEARTH_ERRS_ORPHANS F.HEARTH_STATUS_ORPHAN
    else if format ≠ s.rd F.HEARTH_CFG_FORMAT n ∨ streams ≠ s.bandsN n then
      s.discardFrame n F.HEARTH_ERRS_FORMAT_ERR F.HEARTH_STATUS_FORMAT_ERR
    else s.openFrame h idx e

/-- FORMAT, streams per line and FRAME_NO of a FRAME_START block (R155). -/
def fsFormat (pay : Nat) : Nat := bits pay 11 8
def fsStreams (pay : Nat) : Nat := bits pay 13 12 + 1
def fsFrameNo (pay : Nat) : Nat := bits pay 47 16

/-- FRAME_START: the marker that the stream delivered first (R155, R178). A frame of a reserved FORMAT ends the open
frame, and the link discards it whole (R155, R181, R191). [DESIGN CHOICE, log 71] `bad` has
a bit for each C0 stream whose lines cannot be written now (R176). -/
def execFrameStart (d p bad : Nat) (s : State) : Host.Outcome State Fault Refusal :=
  cmd (decide (p < 512)) d s fun s => s.press fun s =>
    match s.firstOf p, s.fedBy p with
    | some (.frameStart pay _), some n =>
      let s := s.takeItem p
      if within 1 (fsFormat pay) 4 then
        (s.setPort p { s.port p with dropFrame := false }).frameStart p n (fsFormat pay) (fsStreams pay) (fsFrameNo pay) bad
      else
        let s := (s.setPort p { s.port p with dropFrame := true }).inc F.COBEX_ERRCNT_TRUNCATED p
        (s.endFrame n bad none false 0).clearPrev n
    | _, _ => s

/-- ORDER_ERR is set and counted (R181, R182). -/
def State.orderErr (s : State) (n : Nat) : State :=
  (s.inc F.HEARTH_ERRS_ORDER_ERR n).flag F.HEARTH_STATUS_ORDER_ERR n

/-- A FRAME_END reaches the Hearth (R181). -/
def State.frameEnd (s : State) (n frameNo sent power bad : Nat) : State :=
  let x := s.hth n
  match x.frame with
  | some f =>
    if f.frameNo = frameNo then s.endFrame n bad (some sent) false power
    else (s.orderErr n).endFrame n bad none false power
  | none => s.orderErr n

/-- FRAME_NO and LINES_SENT of a FRAME_END block (R155). -/
def feFrameNo (pay : Nat) : Nat := bits pay 39 8
def feSent (pay : Nat) : Nat := bits pay 63 40

/-- FRAME_END: the marker that the stream delivered first (R155, R181). -/
def execFrameEnd (d p power bad : Nat) (s : State) : Host.Outcome State Fault Refusal :=
  cmd (decide (p < 512)) d s fun s => s.press fun s =>
    match s.firstOf p, s.fedBy p with
    | some (.frameEnd pay _), some n =>
      let s := s.takeItem p
      if (s.port p).dropFrame then s.setPort p { s.port p with dropFrame := false }
      else s.frameEnd n (feFrameNo pay) (feSent pay) power bad
    | _, _ => s

/-! ### Image packets -/

/-- A packet names a line of the open frame (R179, R180, R182): it is of the current line, of a later one, which closes the
current one, out of order, or beyond the frame. `data` is none for a packet that the link passes on as missing data. -/
def State.takePacket (s : State) (n bad firstDt lastDt line stream offset : Nat) (isFirst isLast : Bool) (data : Option Bytes) :
    State :=
  let f := s.frm n
  let cur := match f.excess.getLast? with
    | some x => some x
    | none => f.cur
  let early := match cur with
    | some c => decide (line < c)
    | none => decide (line < f.nextLine)
  if f.lines ≤ line then
    let s := if early then s.orderErr n else s.closeLine n bad
    let f := s.frm n
    if line ∈ f.excess then s else (s.setFrm n { f with excess := f.excess ++ [line] }).inc F.HEARTH_LINECNT_EXCESS n
  else if early then s.orderErr n
  else
    let s := if cur = some line then s else
      let s := s.closeLine n bad
      s.setFrm n { s.frm n with cur := some line, curFirst := firstDt, received := (s.frm n).received + 1,
                                nextLine := line + 1 }
    let f := s.frm n
    match data with
    | none => s.setFrm n { f with lastDt := some lastDt }
    | some bytes =>
      let a := 8 * offset
      let clash := f.parts.any fun p => decide (p.stream = stream ∧ 8 * p.offset < a + bytes.length
        ∧ a < 8 * p.offset + p.data.length)
      if clash then s.orderErr n
      else s.setFrm n { f with lastDt := some lastDt, parts := f.parts ++ [⟨stream, offset, bytes, isFirst, isLast⟩] }

/-- The fields of IMG_SOP (R156). -/
def sopLen (pay : Nat) : Nat := bits pay 15 8
def sopLine (pay : Nat) : Nat := bits pay 31 16
def sopOffset (pay : Nat) : Nat := bits pay 45 32
def sopStream (pay : Nat) : Nat := bits pay 47 46
def sopFirst (pay : Nat) : Bool := decide (bit pay 56 = 1)
def sopLast (pay : Nat) : Bool := decide (bit pay 57 = 1)

/-- The fields of IMG_EOP (R156). -/
def eopValid (pay : Nat) : Nat := bits pay 11 8
def eopCrc (pay : Nat) : Nat := bits pay 47 16
def eopSeq (pay : Nat) : Nat := bits pay 55 48

/-- The valid bytes in the last data block: VALID, or a free value where IMG_EOP names no number from 1 to 8 (R156). [DESIGN CHOICE, log 68] -/
def State.validOf (s : State) (pay : Nat) : Nat × State :=
  if within 1 (eopValid pay) 8 then (eopValid pay, s)
  else
    let r := s.fresh 3
    (r.1 + 1, r.2)

/-- The valid data bytes of an image packet (R156). -/
def ImgS.data (k : ImgS) (valid : Nat) : Bytes := k.blocks.take (k.blocks.length - 8 + valid)

/-- An image packet has its end, and no more data blocks than it announced (R158). -/
def ImgS.fits (k : ImgS) : Bool := k.eop.isSome && decide (k.blocks.length ≤ 8 * (sopLen k.sop + 1))

/-- The CRC of an image packet matches: no error block lies in it, and IMG_EOP carries the CRC-32C of its header and data (R148, R156). -/
def ImgS.crcOk (k : ImgS) (valid : Nat) : Bool :=
  !k.err && decide (crc32c (headBytes k.sop ++ k.data valid) = eopCrc (k.eop.getD 0))

/-- PKT_SEQ of a packet whose end arrived: packets skipped add to MISSING (R158). -/
def State.packetSeq (s : State) (p : Nat) (k : ImgS) : State :=
  match k.eop with
  | none => s
  | some pay =>
    let seq := eopSeq pay
    let s := match (s.port p).pktSeq with
      | some e => s.inc F.COBEX_ERRCNT_MISSING p 0 ((seq + 256 - e) % 256)
      | none => s
    s.setPort p { s.port p with pktSeq := some ((seq + 1) % 256) }

/-- The link's check of an image packet (R158): its data where it is accepted, and none where it is discarded. -/
def State.checkPacket (s : State) (p : Nat) (k : ImgS) : Option Bytes × State :=
  let r := s.validOf (k.eop.getD 0x100)
  let s := r.2.packetSeq p k
  if !k.fits then (none, s.inc F.COBEX_ERRCNT_TRUNCATED p)
  else if !k.crcOk r.1 then (none, s.inc F.COBEX_PKTCNT_CRC_ERR p)
  else (some (k.data r.1), s.inc F.COBEX_PKTCNT_PACKETS p)

/-- IMAGE_PACKET: the image packet that the stream delivered first is checked and assembled into its line, or passed on as missing data
(R156 to R158, R182). [DESIGN CHOICE, log 71] -/
def execImagePacket (d p bad : Nat) (s : State) : Host.Outcome State Fault Refusal :=
  cmd (decide (p < 512)) d s fun s => s.press fun s =>
    match s.firstOf p, s.fedBy p with
    | some (.image k), some n =>
      let r := (s.takeItem p).checkPacket p k
      let s := r.2
      if (s.port p).dropFrame || (s.hth n).frame.isNone then s
      else s.takePacket n bad k.first k.last (sopLine k.sop) (sopStream k.sop) (sopOffset k.sop) (sopFirst k.sop)
        (sopLast k.sop) r.1
    | _, _ => s

/-! ### Tables, marks and counters -/

/-- TABLE_SWAP: a write of TBL_CTL.SWAP (R193). -/
def execTableSwap (d n : Nat) (s : State) : Host.Outcome State Fault Refusal :=
  cmd (decide (n < 264)) d s fun s => s.hostHold (F.HEARTH_TBL_CTL_SWAP.at_ n) 4 1 fun s => s.press fun s =>
    s.wr F.HEARTH_TBL_CTL_SWAP_PENDING 1 n

/-- A mark of a stream as a write of HEARTH_MARK_CTL leaves it (R199). -/
def State.setMark (s : State) (n m st lseq : Nat) (valid pending : Bool) : State :=
  (((s.wr F.HEARTH_MARK_STATE_VALID (b2n valid) n m).wr F.HEARTH_MARK_STATE_PENDING (b2n pending) n m).wr
    F.HEARTH_MARK_STATE_STREAM st n m).wr F.HEARTH_MARK_POS_LSEQ lseq n m

/-- What HEARTH_MARK_CTL orders (R199): OP 0b01 sets a mark at the next line not yet begun, 0b10 at the first line of the next
frame, 0b11 clears it. -/
def State.markOrder (s : State) (n op st m : Nat) : State :=
  match op with
  | 1 => s.setMark n m st (s.rd F.HEARTH_LSEQ_VALUE n st) true false
  | 2 =>
    let x := s.hth n
    let armed := if bit x.armedMarks m = 1 then x.armedMarks - 2 ^ m else x.armedMarks
    (s.setHth n { x with armedMarks := armed }).setMark n m st (s.rd F.HEARTH_MARK_POS_LSEQ n m) false true
  | 3 => (s.wr F.HEARTH_MARK_STATE_VALID 0 n m).wr F.HEARTH_MARK_STATE_PENDING 0 n m
  | _ => s

/-- A host write of HEARTH_MARK_CTL. -/
def State.markWrite (s : State) (n op st m : Nat) : State :=
  s.hostHold (F.HEARTH_MARK_CTL_OP.at_ n) 4 (0x100 * op + 0x10 * st + m) fun s => s.press fun s => s.markOrder n op st m

/-- MARK_SET_NOW: OP 0b01 sets a mark at the next line not yet begun (R199). -/
def execMarkSetNow (d n m st : Nat) (s : State) : Host.Outcome State Fault Refusal :=
  cmd (decide (n < 264 ∧ m < 4 ∧ st < 4)) d s fun s => s.markWrite n 1 st m

/-- MARK_SET_NEXT_FRAME: OP 0b10 sets a mark at the first line of the next frame (R199). -/
def execMarkSetNextFrame (d n m st : Nat) (s : State) : Host.Outcome State Fault Refusal :=
  cmd (decide (n < 264 ∧ m < 4 ∧ st < 4)) d s fun s => s.markWrite n 2 st m

/-- MARK_CLEAR: OP 0b11 clears a mark (R199). -/
def execMarkClear (d n m : Nat) (s : State) : Host.Outcome State Fault Refusal :=
  cmd (decide (n < 264 ∧ m < 4)) d s fun s => s.markWrite n 3 0 m

/-- The counters of a Hearth read 0 (HEARTH_CTL). [DESIGN CHOICE, log 44] -/
def State.hearthClear (s : State) (n : Nat) : State :=
  s.clrAll [F.HEARTH_FRAMES_LONG, F.HEARTH_FRAMES_SHORT, F.HEARTH_FRAMES_ENDED, F.HEARTH_ERRS_ORPHANS,
    F.HEARTH_ERRS_FORMAT_ERR, F.HEARTH_ERRS_NO_POSITION, F.HEARTH_ERRS_ORDER_ERR, F.HEARTH_LINECNT_EXCESS,
    F.HEARTH_LINECNT_MISSING_LINES, F.HEARTH_SAT_UNRESOLVED, F.HEARTH_SAT_SATURATED, F.HEARTH_DROP_DROPPED0,
    F.HEARTH_DROP_DROPPED1, F.HEARTH_DROP_DROPPED2, F.HEARTH_DROP_DROPPED3, F.HEARTH_EXP_CNT_STRADDLED,
    F.HEARTH_EXP_CNT_QUEUE_REPLACED, F.HEARTH_EXP_CNT_RETRIES, F.HEARTH_EXP_CNT_CHANGES] n

/-- HEARTH_CLEAR_COUNTS: HEARTH_CTL.CLEAR_COUNTS clears HEARTH_FRAMES to HEARTH_DROP and HEARTH_EXP_CNT. -/
def execHearthClearCounts (d n : Nat) (s : State) : Host.Outcome State Fault Refusal :=
  cmd (decide (n < 264)) d s fun s => s.hostHold (F.HEARTH_CTL_CLEAR_COUNTS.at_ n) 4 1 fun s => s.hearthClear n

end Sys2Proof.Machine
end

