-- ==== Sys2Proof/Machine/Bonds.lean ====
section
/-!
DEFINITION. Bonds of the Cobex link (chapter 5): their states, capabilities, alignment, attach and detach, commands, events
and heartbeats.
-/

namespace Sys2Proof.Machine

/-! ### Lanes as a bond sees them -/

/-- Every member lane is in ACTIVE. -/
def State.allActive (s : State) (p : Nat) : Bool := (s.members p).all fun q => decide (s.laneState q = 5)

/-- The key of a port's unavailability (R523). -/
def portKey (q : Nat) : Nat := 16 + q

/-- A port bound to an enabled Hearth has lost lock: it is unavailable until it is ACTIVE again (R523). -/
def State.portLost (s : State) (q : Nat) : State :=
  let bound := s.on F.COBEX_CFG_BOUND q && (match s.hearthOf (s.rd F.COBEX_CFG_HEARTH q) with
    | some n => s.on F.HEARTH_CFG_ENABLE n
    | none => false)
  if bound then s.unavailBegin (portKey q) else s

/-! ### Commands -/

/-- The byte address of COBEX_CMD_DATA of a port. -/
def cmdDataAddr (p : Nat) : Nat := 0x300200 + 0x400 * p

/-- A host command completes (R165, R167): its data blocks overwrite COBEX_CMD_DATA before DONE is set. -/
def State.hostDone (s : State) (p status : Nat) (data : Bytes) : State :=
  let s := s.bufWrite (cmdDataAddr p) data
  let s := (s.wr F.COBEX_RSP_STATUS status p).wr F.COBEX_RSP_LEN (data.length / 8) p
  (s.wr F.COBEX_RSP_BUSY 0 p).flag F.COBEX_RSP_DONE p

/-- Send LINK_RESET outside the host's command register (R150): it takes its TAG and completes without its RSP. -/
def State.sendReset (s : State) (p : Nat) : State :=
  let r := s.sendCmd p 7 2 0 0 []
  let x := r.2.port p
  r.2.setPort p { x with cmds := x.cmds.filter fun c => decide (c.tag ≠ r.1), quiet := x.quiet ++ [r.1] }

/-! ### Attach and detach -/

/-- A bond takes a state (R149). A bond outside ACTIVE has no stream, and one that goes DOWN waits for every member lane to enter CAPS
again. -/
def State.setBond (s : State) (p b : Nat) : State :=
  let s := s.wr F.COBEX_STATE_BOND b p
  let s := if b = 3 then s else s.dropStream p
  let x := s.port p
  let s := s.setPort p { x with marker := none, misses := 0, lined := 0, alignAt := s.clk, idled := false }
  if b = 0 then (s.members p).foldl (fun s q => s.setPort q { s.port q with entered := false }) s else s

/-- The camera attaches: its bond enters ACTIVE (R171, R214). -/
def State.attach (s : State) (p : Nat) : State :=
  let h := s.rd F.COBEX_CFG_HEARTH p
  let s := (s.setBond p 3).flag F.COBEX_STATUS_ATTACHED p
  let s := s.raise (ev 0x07 h)
  let x := s.port p
  let s := s.setPort p { x with attachDt := s.dt, hbAt := s.clk, hbSent := s.clk, pktSeq := none, dropFrame := false }
  let s := (s.members p).foldl (fun s q => s.unavailEnd (portKey q)) s
  match s.hearthOf h with
  | some n => s.expAttach n
  | none => s

/-- The ledger entries of a detached camera are lost (R173). -/
def State.loseAll (s : State) (h cause : Nat) : State :=
  ((s.openOf h).map (·.1)).foldl (fun s idx => s.loseEntry idx cause) s

/-- The camera detaches: its bond leaves ACTIVE or IDLE for another state (R172, R173). -/
def State.detach (s : State) (p b : Nat) : State :=
  let h := s.rd F.COBEX_CFG_HEARTH p
  let s := (s.setBond p b).flag F.COBEX_STATUS_DETACHED p
  let s := s.raise (ev 0x08 h)
  let x := s.port p
  let s := s.setPort p { x with cmds := [], dropFrame := false }
  let s := if x.cmds.any fun c => decide (c.owner = 0) then s.hostDone p 0xF0 [] else s
  let s := s.loseAll h 3
  match s.hearthOf h with
  | some n =>
    (s.expDetach n).clearPrev n
  | none => s

/-- A bond leaves its state for DOWN or ALIGNING; a camera that was attached detaches. A bond of one lane passes ALIGNING at once
(R149). [DESIGN CHOICE, log 73] -/
def State.bondLeave (s : State) (p b : Nat) : State :=
  let s := if 3 ≤ s.bond p then s.detach p b else if s.bond p = b then s else s.setBond p b
  if b = 2 ∧ s.laneCount p = 1 then s.attach p else s

/-- What a change at a member lane makes of its bond (R149): DOWN to CAPS, CAPS to ALIGNING, and on to ACTIVE when there is one
lane only. A bond whose LINK_RESET waits stays DOWN (R150). -/
def State.bondProgress (s : State) (p : Nat) : State :=
  let m := s.members p
  let s := if s.bond p = 0 ∧ !(s.port p).resetWaits ∧ m ≠ [] ∧ m.all (fun q => (s.port q).entered) then s.setBond p 1 else s
  if s.bond p = 1 ∧ m.all (fun q => (s.port q).capsOk && decide (s.laneState q = 5)) then
    let s := s.setBond p 2
    if s.laneCount p = 1 then s.attach p else s
  else s

/-- The lane of a port has entered CAPS (R149, R151). [DESIGN CHOICE, log 74] -/
def State.portCaps (s : State) (q : Nat) : State :=
  let s := s.setPort q { s.port q with entered := true, capsOk := false, capsReqAt := s.clk }
  match s.bondOf q with
  | some p => s.bondProgress p
  | none => s

/-- The lane of a port has entered ACTIVE. In a bond of one lane that returns from IDLE, the bond enters ACTIVE (R149, R171). -/
def State.portActive (s : State) (q : Nat) : State :=
  match s.bondOf q with
  | none => s
  | some p =>
    if s.bond p = 4 then
      if s.laneCount p = 1 ∧ (s.port p).idled then s.attach p else s
    else
      let s := if s.bond p = 3 then s.unavailEnd (portKey q) else s
      s.bondProgress p

/-- The lane of a port has entered electrical idle (R129, R149): in a bond that the camera idles it may; elsewhere the lane has left
ACTIVE. [DESIGN CHOICE, log 73] -/
def State.portIdle (s : State) (q : Nat) : State :=
  match s.bondOf q with
  | none => s
  | some p =>
    if s.bond p = 4 then s.setPort p { s.port p with idled := true }
    else if s.bond p = 0 then s else s.bondLeave p 0

/-- The lane of a port has left ACTIVE, RELOCK, EIDLE or EXIT for a state of bring-up, TEST, OFF or FAILED (R149, R172). -/
def State.portLeft (s : State) (q : Nat) : State :=
  let s := s.setPort q { s.port q with entered := false, capsOk := false }
  match s.bondOf q with
  | none => s
  | some p => if s.bond p = 0 then s else s.bondLeave p 0

/-! ### Alignment -/

/-- The marker that the lane with index i received. -/
def markerOf (ms : List (Option Marker)) (i : Nat) : Option Marker := ms.getD i none

/-- Lane indices of a bond whose ALIGN blocks a set must hold: a marker due in the gap of a lane is no miss (R148). -/
def State.alignLanes (s : State) (p : Nat) (ms : List (Option Marker)) : List Nat :=
  (List.range (s.laneCount p)).filter fun i => match s.memberAt p i with
    | some q => decide (s.laneState q ≠ 6) && (!(s.port q).gap || (markerOf ms i).isSome)
    | none => false

/-- The marker set is a miss: an ALIGN block is absent, names the wrong lane, or has another MARKER_SEQ (R148). -/
def setMisses (ms : List (Option Marker)) (is : List Nat) (seq : Nat) : Bool :=
  is.any fun i => match markerOf ms i with
    | none => true
    | some m => decide (m.1 ≠ i ∨ m.2.1 ≠ seq)

/-- The delays in blocks of a marker set. -/
def setDelays (ms : List (Option Marker)) (is : List Nat) : List Nat := is.filterMap fun i => (markerOf ms i).map (·.2.2)

/-- SKEW of each member lane: the delay applied, or 0xFF for a marker more than 48 blocks late (R147, R150). -/
def State.setSkew (s : State) (p : Nat) (ms : List (Option Marker)) (is : List Nat) (top : Nat) : State :=
  is.foldl (fun s i => match s.memberAt p i, markerOf ms i with
    | some q, some m =>
      if 48 < m.2.2 then s.wr F.COBEX_STATE_SKEW 0xFF q
      else if top ≤ 48 then s.wr F.COBEX_STATE_SKEW (top - m.2.2) q else s
    | _, _ => s) s

/-- The next expected MARKER_SEQ of a bond. -/
def State.setMarker (s : State) (p seq : Nat) : State := s.setPort p { s.port p with marker := some seq }

/-- What a marker set says of a bond (R147 to R150): it is a miss; its ALIGN blocks have one MARKER_SEQ and name their lanes; they are
spread over more than 48 blocks; and the MARKER_SEQ that follows. -/
structure SetView where
  miss : Bool
  equal : Bool
  wide : Bool
  next : Nat

/-- The marker set before a bond, as the link judges it (R147 to R150). -/
def State.viewSet (s : State) (p : Nat) (ms : List (Option Marker)) : SetView :=
  let is := s.alignLanes p ms
  let own := ((is.filterMap (markerOf ms)).map (·.2.1)).headD 0
  let equal := !setMisses ms is own
  { miss := setMisses ms is ((s.port p).marker.getD own), equal := equal,
    wide := equal && decide (48 < (setDelays ms is).foldl max 0), next := (((s.port p).marker.getD own) + 1) % 65536 }

/-- SKEW and SKEW_EXCESS after a marker set of one MARKER_SEQ (R147, R150). -/
def State.skewSet (s : State) (p : Nat) (ms : List (Option Marker)) (v : SetView) : State :=
  let is := s.alignLanes p ms
  let s := if v.equal then s.setSkew p ms is ((setDelays ms is).foldl max 0) else s
  if v.wide then s.flag F.COBEX_STATUS_SKEW_EXCESS p else s

/-- A marker set reaches a bond in ALIGNING (R149): the second of two consecutive sets that line up makes it ACTIVE. -/
def State.alignSet (s : State) (p : Nat) (ms : List (Option Marker)) (v : SetView) : State :=
  let x := s.port p
  let own := (((s.alignLanes p ms).filterMap (markerOf ms)).map (·.2.1)).headD 0
  if !v.equal || v.wide then (s.skipMarkers p).setPort p { (s.skipMarkers p).port p with lined := 0, marker := none }
  else if x.lined = 1 ∧ !v.miss then (((s.takeMarkers p).attach p).setMarker p v.next).pump p
  else (s.skipMarkers p).setPort p { (s.skipMarkers p).port p with lined := 1, marker := some ((own + 1) % 65536) }

/-- A marker set reaches an ACTIVE bond (R148): two misses in a row end ACTIVE. -/
def State.activeSet (s : State) (p : Nat) (v : SetView) : State :=
  if v.miss ∧ (s.port p).misses = 1 then
    (s.flag F.COBEX_STATUS_ALIGN_LOST p).bondLeave p (if s.allActive p then 2 else 0)
  else
    let s := s.takeMarkers p
    (s.setPort p { s.port p with misses := if v.miss then 1 else 0, marker := some v.next }).pump p

/-- A marker set reaches a bond (R147 to R150). -/
def State.markerSet (s : State) (p : Nat) : State :=
  let ms := s.markersOf p
  let v := s.viewSet p ms
  let s := s.skewSet p ms v
  let s := if v.miss then s.inc F.COBEX_STATE_ALIGN_MISS p else s
  if s.bond p = 2 then s.alignSet p ms v
  else if s.bond p = 3 then s.activeSet p v
  else if (s.port p).idled ∧ s.allActive p ∧ v.equal ∧ !v.wide then
    (((s.takeMarkers p).attach p).setMarker p v.next).pump p
  else s.skipMarkers p

/-- A marker set is before a bond: in ACTIVE its place in the stream is reached, or the one lane has an ALIGN block before it;
elsewhere some lane has one (R146, R148). -/
def State.setDue (s : State) (p : Nat) : Bool :=
  let some_ := (s.markerHeads p).any Option.isSome
  s.isMaster p && decide (2 ≤ s.bond p)
    && (if s.bond p = 3 ∧ s.laneCount p ≠ 1 then decide ((s.port p).row = 16383) else some_)

/-- MARKER_SET_RECEIVE: the ALIGN blocks of one set line up before the bond of a master port, or miss, and its stream is rebuilt (R146
to R150). -/
def execMarkerSetReceive (d p : Nat) (s : State) : Host.Outcome State Fault Refusal :=
  cmd (decide (p < 512)) d s fun s => s.press fun s => if s.setDue p then s.markerSet p else s

/-- A marker period of the bond of a master port, in ns rounded up (R146). -/
def State.markerPeriod (s : State) (p n : Nat) : Nat :=
  cdiv (n * 16384 * blockTime (s.rd F.LANE_CFG_RATE (s.sliceOf p))) 100

/-- The link sends its LINK_RESET, or holds it back within 100 ms of the last one (R150). -/
def State.linkReset (s : State) (p : Nat) : State :=
  let wait := match (s.port p).lastReset with
    | some t => !s.due t 100000000
    | none => false
  if wait then s.setPort p { s.port p with resetWaits := true }
  else (s.setPort p { s.port p with resetWaits := false, lastReset := some s.clk }).sendReset p

/-- ALIGN_TIMEOUT: 16 marker periods in ALIGNING end (R150). -/
def execAlignTimeout (d p : Nat) (s : State) : Host.Outcome State Fault Refusal :=
  cmd (decide (p < 512)) d s fun s => s.press fun s =>
    if s.isMaster p && decide (s.bond p = 2) && s.due (s.port p).alignAt (s.markerPeriod p 16) then
      ((s.flag F.COBEX_STATUS_ALIGN_TIMEOUT p).bondLeave p 0).linkReset p
    else s

/-- LINK_RESET_DEFERRED: the 100 ms have passed since the last LINK_RESET of the link, and the one that waits is sent (R150). -/
def execLinkResetDeferred (d p : Nat) (s : State) : Host.Outcome State Fault Refusal :=
  cmd (decide (p < 512)) d s fun s => s.press fun s => if (s.port p).resetWaits then s.linkReset p else s

/-! ### Capabilities -/

/-- CAPS_REQ_SEND: a lane in CAPS sends its CAPS_REQ block, every 1 ms (R151). -/
def execCapsReqSend (d l : Nat) (s : State) : Host.Outcome State Fault Refusal :=
  cmd (decide (l < 512)) d s fun s => s.press fun s =>
    if decide (s.laneState l = 4) && decide ((s.port l).capsReqAt ≤ s.clk) then
      let body := le 1 1 ++ le 2 l ++ le 1 (s.rd F.COBEX_CFG_LANE_INDEX l) ++ le 1 (s.laneCount l) ++ zeros 2
      let k := s.sliceOf l
      ((s.setPort l { s.port l with capsReqAt := s.clk + 1000000 }).txSync k).txBlock k l 2 (0x3C + 2 ^ 8 * fromLe body)
    else s

/-- The other members of a bond. -/
def State.others (s : State) (q : Nat) : List Nat :=
  match s.bondOf q with
  | some p => (s.members p).filter (· ≠ q)
  | none => []

/-- The checks of R204, once the last lane of a bond is accepted: the reason of a refusal, or 0. -/
def State.bondReason (s : State) (q : Nat) (b : Bytes) : Nat :=
  match s.hearthOf (s.rd F.COBEX_CFG_HEARTH q) with
  | none => 6
  | some n =>
    if leAt b 12 1 ≠ s.rd F.HEARTH_CFG_KIND n then 6
    else if leAt b 16 4 ≠ s.rd F.HEARTH_CFG_WIDTH n then 7
    else if leAt b 12 1 = 0 ∧ leAt b 20 4 ≠ s.rd F.HEARTH_ROWS_ROWS n then 7
    else if bit (leAt b 13 1) (s.rd F.HEARTH_CFG_FORMAT n) = 0 then 8
    else if leAt b 36 1 < s.bandsN n then 8
    else if !s.on F.HEARTH_CFG_ENABLE n then 6
    else 0

/-- The reason to refuse a CAPS packet, or 0 (R153, R204): the first check that fails, in the order CRC, VERSION, LANE_INDEX,
LANE_COUNT, RATE, CAM_ID, then those of the whole bond. [DESIGN CHOICE, log 74] -/
def State.capsReason (s : State) (q version : Nat) (b : Bytes) (crcOk : Bool) : Nat :=
  if !crcOk then 9
  else if version ≠ 1 ∨ leAt b 8 1 ≠ 1 then 1
  else if leAt b 9 1 ≠ s.rd F.COBEX_CFG_LANE_INDEX q then 2
  else if leAt b 10 1 ≠ s.laneCount q then 3
  else if bit (leAt b 11 1) (s.rd F.LANE_CFG_RATE (s.sliceOf q)) = 0 then 4
  else
    let rest := s.others q
    if rest.any fun o => (s.port o).capsOk && decide (s.capsByte o 0 8 ≠ leAt b 0 8) then 5
    else if s.on F.COBEX_CFG_BOUND q && rest.all (fun o => (s.port o).capsOk) then s.bondReason q b
    else 0

/-- Capabilities are held (R153). -/
def State.holdCaps (s : State) (q : Nat) (b : Bytes) : State :=
  let s := (List.range 8).foldl (fun s i => s.wr F.COBEX_CAPS_WORD (leAt b (8 * i) 8) q i) s
  s.setPort q { s.port q with capsOk := true }

/-- A whole CAPS packet (R151, R163): VERSION, the capability block, and whether its CRC matches. A packet that does not hold 8 data
blocks fails its CRC. [DESIGN CHOICE, log 96] -/
def capsPacket (bs : List Blk) : Option (Nat × Bytes × Bool) :=
  match bs.head?, bs.getLast? with
  | some a, some z =>
    if z.1 = 2 ∧ ctlType z.2.1 = 0xCC then
      let body := (bs.drop 1).dropLast
      let data := body.flatMap fun b => le 8 b.2.1
      some (bits a.2.1 15 8, data, body.all (fun b => decide (b.1 = 1)) && decide (data.length = 64
        ∧ crc32c (headBytes a.2.1 ++ data) = pktCrc z.2.1))
    else none
  | _, _ => none

/-- A lane's capabilities are accepted: it enters ACTIVE (R117, R153). What counts since entering ACTIVE starts anew (R122, R125, R136).
[DESIGN CHOICE, log 75] -/
def State.capsAccept (s : State) (q : Nat) (block : Bytes) : State :=
  let s := s.holdCaps q block
  let k := s.sliceOf q
  let s := s.setLane k { s.lane k with since := s.clk, needRef := true, snapped := false, lowFom := 0, invActive := 0,
                                       invPeriod := 0, lossActive := 0, trimN := 0, idleRun := 0 }
  (s.wr F.LANE_STATE_STATE 5 k).portActive q

/-- CAPS_RECEIVE: the CAPS packet that a lane in CAPS has received (R151 to R153, R204). -/
def execCapsReceive (d q : Nat) (s : State) : Host.Outcome State Fault Refusal :=
  cmd (decide (q < 512)) d s fun s => s.press fun s =>
    match (if s.laneState q = 4 then capsPacket (s.port q).caps else none) with
    | none => s
    | some (version, block, crcOk) =>
      let s := s.setPort q { s.port q with caps := [] }
      let r := s.capsReason q version block crcOk
      if r ≠ 0 then (s.wr F.COBEX_STATE_CAPS_REASON r q).flag F.COBEX_STATUS_CAPS_REFUSED q
      else s.capsAccept q block

/-! ### Commands and responses -/

/-- Send the data of a host command, or complete it at once (R164 to R167, COBEX_CMD). Where several statuses apply, BAD_PORT comes before
BAD_LEN, and that before NOT_ACTIVE. [DESIGN CHOICE, log 74] -/
def State.hostCmd (s : State) (p op len addr : Nat) : State :=
  if s.on F.COBEX_RSP_BUSY p then s
  else if !s.isMaster p ∨ op = 3 then s.hostDone p 0xF2 []
  else if 32 < len then s.hostDone p 0xF3 []
  else if !s.takesCmd p op then s.hostDone p 0xF0 []
  else
    let data := if op = 1 then [] else s.bufRead (cmdDataAddr p) (8 * len)
    let r := s.sendCmd p op 0 len addr data
    let s := (r.2.wr F.COBEX_RSP_TAG r.1 p).wr F.COBEX_RSP_BUSY 1 p
    if op = 7 then s.bondLeave p 0 else s

/-- A host write of COBEX_CMD. -/
def State.cmdWrite (s : State) (p op len addr : Nat) : State :=
  s.hostWrite (F.COBEX_CMD_OP.at_ p) fun s => s.press fun s => s.hostCmd p op len addr

/-- CMD_READ: OP 0x01 (R164). -/
def execCmdRead (d p len addr : Nat) (s : State) : Host.Outcome State Fault Refusal :=
  cmd (decide (p < 512)) d s fun s => s.cmdWrite p 1 (len % 256) (addr % 2 ^ 32)

/-- CMD_WRITE: OP 0x02 (R164). -/
def execCmdWrite (d p len addr : Nat) (s : State) : Host.Outcome State Fault Refusal :=
  cmd (decide (p < 512)) d s fun s => s.cmdWrite p 2 (len % 256) (addr % 2 ^ 32)

/-- CMD_EIDLE_DOWN: OP 0x04 (R164). -/
def execCmdEidleDown (d p : Nat) (s : State) : Host.Outcome State Fault Refusal :=
  cmd (decide (p < 512)) d s fun s => s.cmdWrite p 4 0 0

/-- CMD_WAKE_DOWN: OP 0x05 (R164). -/
def execCmdWakeDown (d p : Nat) (s : State) : Host.Outcome State Fault Refusal :=
  cmd (decide (p < 512)) d s fun s => s.cmdWrite p 5 0 0

/-- CMD_CAPS_READ: OP 0x06 (R164). -/
def execCmdCapsRead (d p : Nat) (s : State) : Host.Outcome State Fault Refusal :=
  cmd (decide (p < 512)) d s fun s => s.cmdWrite p 6 0 0

/-- CMD_LINK_RESET: OP 0x07; the camera detaches when it is sent (R164, R172). -/
def execCmdLinkReset (d p : Nat) (s : State) : Host.Outcome State Fault Refusal :=
  cmd (decide (p < 512)) d s fun s => s.cmdWrite p 7 0 0

/-- CMD_CAMERA_PRIVATE: OP 0x80 to 0xFF (R164). -/
def execCmdCameraPrivate (d p op len addr : Nat) (s : State) : Host.Outcome State Fault Refusal :=
  cmd (decide (p < 512)) d s fun s => s.cmdWrite p (0x80 + op % 128) (len % 256) (addr % 2 ^ 32)

/-- The bond is idled by its camera once EIDLE_DOWN has been answered OK (R149, R164). [DESIGN CHOICE, log 73] -/
def State.idleAfter (s : State) (p op status : Nat) : State :=
  if op = 4 ∧ status = 0 ∧ s.bond p = 3 then s.setBond p 4 else s

/-- An open command leaves the list of its bond. -/
def State.endCmd (s : State) (p tag : Nat) : State :=
  let x := s.port p
  s.setPort p { x with cmds := x.cmds.filter fun c => decide (c.tag ≠ tag) }

/-- The open command with a TAG. -/
def State.cmdAt (s : State) (p tag : Nat) : Option CmdS := (s.port p).cmds.find? fun c => decide (c.tag = tag)

/-- An RSP packet reaches the response arbiter (R167). [DESIGN CHOICE, log 73] -/
def State.response (s : State) (p tag status : Nat) (data : Bytes) : State :=
  match s.cmdAt p tag with
  | some c =>
    let s := s.endCmd p tag
    let s := if c.owner = 0 then s.hostDone p status data
      else if c.owner = 1 then match s.hearthOf (s.rd F.COBEX_CFG_HEARTH p) with
        | some n => s.exposeRsp n status data
        | none => s
      else s
    s.idleAfter p c.op status
  | none =>
    let x := s.port p
    if tag ∈ x.quiet then s.setPort p { x with quiet := x.quiet.filter (· ≠ tag) }
    else s.flag F.COBEX_STATUS_RSP_UNEXPECTED p

/-- RSP_RECEIVE: the RSP packet that the stream delivered first (R163, R167). One whose CRC fails, or that does not hold LEN data blocks,
is discarded. [DESIGN CHOICE, log 74] -/
def execRspReceive (d p : Nat) (s : State) : Host.Outcome State Fault Refusal :=
  cmd (decide (p < 512)) d s fun s => s.press fun s =>
    match s.firstOf p with
    | some (.rsp k ok) =>
      let s := s.takeItem p
      if ok then s.response p (bits k.head 15 8) (bits k.head 23 16) k.data else s
    | _ => s

/-- CMD_TIMEOUT: a command has been open CMD_TIMEOUT_US (R167). -/
def execCmdTimeout (d p tag : Nat) (s : State) : Host.Outcome State Fault Refusal :=
  cmd (decide (p < 512)) d s fun s => s.press fun s =>
    match s.cmdAt p tag with
    | none => s
    | some c =>
      if s.due c.at_ (1000 * s.rd F.COBEX_TIMING_CMD_TIMEOUT_US p) then
        let s := (s.endCmd p tag).flag F.COBEX_STATUS_CMD_TIMEOUT p
        if c.owner = 0 then s.hostDone p 0xF1 []
        else if c.owner = 1 then match s.hearthOf (s.rd F.COBEX_CFG_HEARTH p) with
          | some n => s.exposeFailed n
          | none => s
        else s
      else s

/-- COBEX_CTL.LINK_RESET of a master port (R172). [DESIGN CHOICE, log 73] -/
def State.linkResetOrder (s : State) (p : Nat) : State := if s.isMaster p then (s.sendReset p).bondLeave p 0 else s

/-- The counters of a port read 0. -/
def State.cobexClear (s : State) (p : Nat) : State :=
  s.clrAll [F.COBEX_PKTCNT_CRC_ERR, F.COBEX_PKTCNT_PACKETS, F.COBEX_ERRCNT_MISSING, F.COBEX_ERRCNT_TRUNCATED,
    F.COBEX_ERRCNT_STRAY, F.COBEX_ERRCNT_GAPS, F.COBEX_STATE_ALIGN_MISS] p

/-- COBEX_LINK_RESET: a write of COBEX_CTL.LINK_RESET sends OP 0x07, and the camera detaches (R172). -/
def execCobexLinkReset (d p : Nat) (s : State) : Host.Outcome State Fault Refusal :=
  cmd (decide (p < 512)) d s fun s => s.hostWrite (F.COBEX_CTL_LINK_RESET.at_ p) fun s => s.press fun s =>
    s.linkResetOrder p

/-- COBEX_CLEAR_COUNTS: COBEX_CTL.CLEAR_COUNTS clears COBEX_PKTCNT, COBEX_ERRCNT and ALIGN_MISS. -/
def execCobexClearCounts (d p : Nat) (s : State) : Host.Outcome State Fault Refusal :=
  cmd (decide (p < 512)) d s fun s => s.hostWrite (F.COBEX_CTL_CLEAR_COUNTS.at_ p) fun s => s.cobexClear p

/-! ### Events and heartbeats -/

/-- An EVENT of the camera (R168, R172): CODE, ARG and arrival DT. -/
def State.cameraEvent (s : State) (p code arg stamp : Nat) : State :=
  let s := s.raise (ev 0x09 (s.rd F.COBEX_CFG_HEARTH p))
  let src := srcNo 6 (s.rd F.COBEX_CFG_MASTER p)
  let s := if s.on F.COBEX_EVT_EVT_EN p then
      s.pushOr src (s.rd F.COBEX_EVT_EVT_TROUGH p)
        (record 0x0120 src stamp (le 1 code ++ le 1 0 ++ le 6 arg ++ le 8 (s.capsByte p 0 8)))
        F.COBEX_STATUS_RESOURCE_HELD p
    else s
  if code = 1 then s.bondLeave p 0 else s

/-- EVENT_RECEIVE: the EVENT block that the stream delivered first (R168, R172). -/
def execEventReceive (d p : Nat) (s : State) : Host.Outcome State Fault Refusal :=
  cmd (decide (p < 512)) d s fun s => s.press fun s =>
    match s.firstOf p with
    | some (.event pay dt) => (s.takeItem p).cameraEvent p (bits pay 15 8) (bits pay 63 16) dt
    | _ => s

/-- HEARTBEAT_RECEIVE: the downstream HEARTBEAT that the stream delivered first restarts the timer (R169, R170). -/
def execHeartbeatReceive (d p : Nat) (s : State) : Host.Outcome State Fault Refusal :=
  cmd (decide (p < 512)) d s fun s => s.press fun s =>
    match s.firstOf p with
    | some .beat =>
      let s := s.takeItem p
      s.setPort p { s.port p with hbAt := s.clk }
    | _ => s

/-- HEARTBEAT_TIMEOUT: no HEARTBEAT has arrived for HB_TIMEOUT (R170). -/
def execHeartbeatTimeout (d p : Nat) (s : State) : Host.Outcome State Fault Refusal :=
  cmd (decide (p < 512)) d s fun s => s.press fun s =>
    if s.isMaster p && decide (s.bond p = 3) && s.due (s.port p).hbAt (10000 * s.rd F.COBEX_TIMING_HB_TIMEOUT p) then
      (s.flag F.COBEX_STATUS_HB_TIMEOUT p).bondLeave p 0
    else s

/-- HEARTBEAT_SEND: every 100 µs an ACTIVE bond sends DT on its master port (R169). -/
def execHeartbeatSend (d p : Nat) (s : State) : Host.Outcome State Fault Refusal :=
  cmd (decide (p < 512)) d s fun s => s.press fun s =>
    if s.isMaster p && decide (s.bond p = 3) && s.due (s.port p).hbSent 100000 then
      let s := s.txSync (s.sliceOf p)
      (s.setPort p { s.port p with hbSent := s.clk, up := { (s.port p).up with beat := true } }).txSync (s.sliceOf p)
    else s

end Sys2Proof.Machine
end

