-- ==== Sys2Proof/Machine/Nozzle.lean ====
section
/-!
DEFINITION. Nozzle contexts and neighbour takeover (chapter 10): the context word, commits (R299 to R306), evidence
(R291 to R295), compensation (R297), snapshots (R307 to R310).
-/

namespace Sys2Proof.Machine

/-! ### Contexts -/

/-- Source number of the nozzle-context store of a channel. -/
def nozSrc (c : Nat) : Nat := srcNo 0x0A c

/-- The store of one channel beside its registers. -/
def State.noz (s : State) (c : Nat) : NozzleS := s.nozzle.getD c {}

/-- Update the store of one channel. -/
def State.setNoz (s : State) (c : Nat) (x : NozzleS) : State := { s with nozzle := s.nozzle.put c x {} }

/-- Nozzles of a channel (R286). -/
def State.nozzles (s : State) (c : Nat) : Nat := s.rd F.HAMMER_CFG_NOZZLES c

/-- What takeover sees of a nozzle: 0 taker, 1 donor, 2 excluded (R290, R297). -/
def nozKind (st mask : Nat) : Nat :=
  if mask = 3 then 2 else if mask = 1 ∨ st = 3 then 1 else 0

/-- The kind of nozzle n; beyond the channel's ends a search stops as at an EXCLUDED nozzle (R297). -/
def State.nozKindAt (s : State) (c n : Nat) : Nat :=
  if n < s.nozzles c then nozKind (s.rd F.NCTX_STATE c n) (s.rd F.NCTX_HMASK c n) else 2

/-- The first taker at distance k or more, at most `fuel` further steps, past donors only (R297). -/
def findTaker (kind : Nat → Nat) (n : Nat) (up : Bool) : Nat → Nat → Option Nat
  | 0, _ => none
  | fuel + 1, k =>
    if !up && decide (n < k) then none else
      let p := if up then n + k else n - k
      match kind p with
      | 0 => some p
      | 1 => findTaker kind n up fuel (k + 1)
      | _ => none

/-- The two takers of a donor (R297). -/
def State.takers (s : State) (c n : Nat) : Option Nat × Option Nat :=
  let m := s.rd F.NCTX_CFG_CHAIN_M1 c + 1
  (findTaker (s.nozKindAt c) n false m 1, findTaker (s.nozKindAt c) n true m 1)

/-- UNCOMP of a nozzle: a donor that no taker serves (R305). -/
def State.uncompOf (s : State) (c n : Nat) : Bool :=
  decide (s.nozKindAt c n = 1) &&
    (decide (s.rd F.NCTX_CFG_TAKEOVER c = 0) || ((s.takers c n).1.isNone && (s.takers c n).2.isNone))

/-- Recompute UNCOMP of one nozzle, with the count of NCTX_COUNT. Answers whether it became set (R305). -/
def State.refreshUncomp (s : State) (c n : Nat) : Bool × State :=
  let new := s.uncompOf c n
  let old := s.on F.NCTX_UNCOMP c n
  let cnt := s.rd F.NCTX_COUNT_UNCOMP c
  let s := s.wr F.NCTX_UNCOMP (b2n new) c n
  if new && !old then (true, s.wr F.NCTX_COUNT_UNCOMP (cnt + 1) c)
  else if old && !new then (false, s.wr F.NCTX_COUNT_UNCOMP (cnt - 1) c)
  else (false, s)

/-- Recompute UNCOMP of a list of nozzles; UNCOMP_NEW and its event when one became set (R305). -/
def State.refreshAll (s : State) (c : Nat) (ns : List Nat) : State :=
  let r := ns.foldl (fun (r : Bool × State) n =>
    let q := r.2.refreshUncomp c n
    (r.1 || q.1, q.2)) (false, s)
  if r.1 then (r.2.flag F.NCTX_STATUS_UNCOMP_NEW c).raise (ev 0x0F c) else r.2

/-- The nozzles within CHAIN_M1 + 1 of n (R305). -/
def State.nearby (s : State) (c n : Nat) : List Nat :=
  let m := s.rd F.NCTX_CFG_CHAIN_M1 c + 1
  (upto (n - m) (2 * m + 1)).filter fun p => decide (p < s.nozzles c ∧ p ≤ n + m)

/-- Set STATE and HMASK of a nozzle, with the counts of NCTX_COUNT. -/
def State.setContext (s : State) (c n st mask : Nat) : State :=
  let st0 := s.rd F.NCTX_STATE c n
  let k0 := nozKind st0 (s.rd F.NCTX_HMASK c n)
  let k1 := nozKind st mask
  let move := fun (s : State) (f : Fld) (was is_ : Bool) =>
    s.wr f (s.rd f c + b2n is_ - b2n was) c
  let s := move s F.NCTX_COUNT_DONORS (decide (k0 = 1)) (decide (k1 = 1))
  let s := move s F.NCTX_COUNT_WEAK (decide (st0 = 2)) (decide (st = 2))
  let s := move s F.NCTX_COUNT_SUSPECT (decide (st0 = 1)) (decide (st = 1))
  (s.wr F.NCTX_STATE st c n).wr F.NCTX_HMASK mask c n

/-! ### Commits -/

/-- Commit DT: the pass of the commit point, 2 ns later after the resynchronisation of R24 (R299). -/
def State.commitDt (s : State) : Nat := (s.dt + 2) % 2 ^ 64

/-- Every commit increments CTX_GEN (R299), and its history needs room (R301). -/
def State.commitGen (s : State) (c : Nat) : State :=
  (s.wr F.NCTX_GEN_CTX_GEN (s.rd F.NCTX_GEN_CTX_GEN c + 1) c).historyRoom c

/-- A commit that latch loads before its commit DT do not carry: what its nozzles held is kept (R300). -/
def State.keepUndo (s : State) (c : Nat) (old : List (Nat × Nat × Nat)) : State :=
  let x := s.noz c
  let live := x.undo.filter fun u => decide (s.dt ≤ u.1)
  s.setNoz c { x with undo := (s.commitDt, s.rd F.NCTX_GEN_CTX_GEN c, old) :: live }

/-- The contexts as a latch load at DT t sees them: commits of t or later are not in it (R300). Answers the generation of the last commit of
contexts that it carries. -/
def State.contextsAt (s : State) (c t : Nat) : Nat × State :=
  ((s.noz c).undo.filter fun u => decide (t ≤ u.1)).foldl (fun (r : Nat × State) u =>
    (u.2.1, u.2.2.foldl (fun s o => (s.wr F.NCTX_STATE o.2.1 c o.1).wr F.NCTX_HMASK o.2.2 c o.1) r.2))
    (s.rd F.NCTX_GEN_CTX_GEN c, s)

/-- The later of two generations, modulo 2^32. -/
def laterGen (a b : Nat) : Nat := if (b + 2 ^ 32 - a) % 2 ^ 32 < 2 ^ 31 then b else a

/-- The CTX_GEN that a latch load at DT t samples: that of the last commit it carries, which may be a commit of the column map (R296, R300).
[DESIGN CHOICE, log 97] -/
def State.genAt (s : State) (c t : Nat) : Nat :=
  let g := (s.contextsAt c t).1
  match (s.noz c).mapGen with
  | some m => laterGen g m
  | none => g

/-- A column-map commit of a channel (R296, R299). -/
def State.commitMap (s : State) (c : Nat) : State :=
  let s := s.commitGen c
  s.setNoz c { s.noz c with mapGen := some (s.rd F.NCTX_GEN_CTX_GEN c) }

/-- CTX_GEN is 0 at READY (R299). -/
def State.gensZero (s : State) : State :=
  (List.range 64).foldl (fun s c =>
    let s := if s.rd F.NCTX_GEN_CTX_GEN c = 0 then s else s.wr F.NCTX_GEN_CTX_GEN 0 c
    let x := s.noz c
    if x.undo.isEmpty && x.mapGen.isNone && decide (x.snapGen = 0) then s
    else s.setNoz c { x with undo := [], mapGen := none, snapGen := 0 }) s

/-- What caused a change: CAUSE, and Hearth, billet and evidence of the message where one did (R306). -/
structure NozCause where
  cause : Nat
  hearth : Nat := 0xFFFF
  bseq : Nat := 2 ^ 64 - 1
  readyDt : Nat := 0
  evF : Nat := 0
  evM : Nat := 0
  evW : Nat := 0

/-- The state-change record (R306). -/
def State.nozRecord (s : State) (c nozzle st0 st1 m0 m1 uncomp : Nat) (why : NozCause) : State :=
  let s := s.raise (ev 0x0E c)
  if s.on F.NCTX_REC_REC_EN c then
    let body := le 2 nozzle ++ le 1 (st0 + 8 * st1) ++ le 1 (m0 + 4 * m1 + 16 * uncomp) ++ le 1 why.cause ++ le 1 0
      ++ le 2 why.hearth ++ le 4 (s.rd F.NCTX_GEN_CTX_GEN c) ++ le 2 why.evF ++ le 2 why.evM ++ le 2 why.evW
      ++ le 2 (s.rd F.NCTX_COUNT_UNCOMP c) ++ le 4 0 ++ le 8 why.bseq ++ le 8 why.readyDt
    s.pushOr (nozSrc c) (s.rd F.NCTX_REC_TROUGH c) (record 0x0500 (nozSrc c) s.commitDt body)
      F.NCTX_STATUS_RESOURCE_HELD c
  else s

/-- Commit a change of STATE or HMASK of one nozzle (R293, R299, R305, R306). The EV fields take the values given. -/
def State.nozCommit (s : State) (c n st mask : Nat) (ev3 : Nat × Nat × Nat) (why : NozCause) : State :=
  let st0 := s.rd F.NCTX_STATE c n
  let m0 := s.rd F.NCTX_HMASK c n
  let s := (s.keepUndo c [(n, st0, m0)]).setContext c n st mask
  let s := ((s.wr F.NCTX_EV_FIRED ev3.1 c n).wr F.NCTX_EV_MISS ev3.2.1 c n).wr F.NCTX_EV_WEAK ev3.2.2 c n
  let s := (s.wr F.NCTX_HOLD 1 c n).wr F.NCTX_CHG_TIME (bits s.commitDt 35 20) c n
  let s := (s.commitGen c).refreshAll c (s.nearby c n)
  s.nozRecord c n st0 st m0 mask (s.rd F.NCTX_UNCOMP c n) why

/-! ### Requests of function 0x04 -/

/-- Whether a request is the one of nozzle (c, n). -/
def nozReq (c n : Nat) (unit : Nat) (func : Nat) (proposal : Bytes) : Bool :=
  decide (func = 4 ∧ unit = nozSrc c ∧ leAt proposal 2 2 = n)

/-- Close the open request of a nozzle (R288, R310): a later reply is STALE. -/
def State.closeNoz (s : State) (c n : Nat) : State :=
  { s.wr F.NCTX_REQ_OPEN 0 c n with
    dcs := { s.dcs with open_ := s.dcs.open_.filter (fun r => !nozReq c n r.unit r.func r.proposal) } }

/-- REASON of a proposal (R295). -/
def nozReason (st : Nat) : Nat := if st = 0 then 4 else st

/-- PROPOSAL of function 0x04 (R295). -/
def nozProposal (c n st0 st1 mask : Nat) (f3 m3 : Nat × Nat × Nat) (hearth bseq readyDt : Nat) : Bytes :=
  le 1 c ++ le 1 (st0 + 8 * st1 + 64 * mask) ++ le 2 n ++ le 2 f3.1 ++ le 2 f3.2.1 ++ le 2 f3.2.2
    ++ le 2 m3.1 ++ le 2 m3.2.1 ++ le 2 hearth ++ le 8 bseq ++ le 8 readyDt

/-- The cause carried by a proposal, for the record of its commit (R306). -/
def nozCauseOf (p : Bytes) (cause : Nat) : NozCause :=
  ⟨cause, leAt p 14 2, leAt p 16 8, leAt p 24 8, leAt p 4 2, leAt p 6 2, leAt p 8 2⟩

/-- Commit the STATE of a closed request (R295): the proposal's, or one that a reply gives. -/
def State.nozResolve (s : State) (proposal : Bytes) (st : Option Nat) (cause : Nat) : State :=
  let c := leAt proposal 0 1
  let n := leAt proposal 2 2
  let to_ := bits (leAt proposal 1 1) 5 3
  let s := s.wr F.NCTX_REQ_OPEN 0 c n
  s.nozCommit c n (st.getD to_) (s.rd F.NCTX_HMASK c n) (0, 0, 0) (nozCauseOf proposal cause)

/-! ### Evidence -/

/-- The age of the last change at a DT, in units of 2^20 ns, as a signed 16-bit value (R291). -/
def State.nozAge (s : State) (c n dt : Nat) : Int := sOf 16 (bits dt 35 20 + 65536 - s.rd F.NCTX_CHG_TIME c n)

/-- Divide the accumulated evidence until it lies below DECAY_AT (R292); fuel 16 halves any 16-bit value to 0. -/
def decay (at_ : Nat) : Nat → Nat × Nat × Nat → Nat × Nat × Nat
  | 0, e => e
  | k + 1, e => if at_ ≤ e.1 then decay at_ k (e.1 / 2, e.2.1 / 2, e.2.2 / 2) else e

/-- The STATE that evidence proposes (R292), given the state in force. -/
def State.evJudge (s : State) (c st : Nat) (f m : Nat) (tot : Nat × Nat × Nat) : Option Nat :=
  let minF := s.rd F.NCTX_CFG_MIN_FIRED c
  let dead := s.rd F.NCTX_RATIO_DEAD_RATIO c
  let bf := tot.1
  let bad := (tot.2.1 + tot.2.2) * 65536
  if st = 3 then none
  else if (minF ≤ f ∧ dead * f ≤ m * 65536) ∨ (minF ≤ bf ∧ dead * bf ≤ tot.2.1 * 65536) then some 3
  else if minF ≤ bf then
    if st ≤ 1 ∧ s.rd F.NCTX_RATIO_WEAK_RATIO c * bf ≤ bad then some 2
    else if st = 0 ∧ s.rd F.NCTX_RATIO_SUSPECT_RATIO c * bf ≤ bad then some 1
    else if st = 1 ∧ bad < s.rd F.NCTX_RATIO_CLEAR_RATIO c * bf then some 0
    else none
  else none

/-- Apply one evidence message (R291, R292, R295). -/
def State.evApply (s : State) (c : Nat) (m : EvMsg) : State :=
  let n := m.nozzle
  let st := s.rd F.NCTX_STATE c n
  let mask := s.rd F.NCTX_HMASK c n
  let young := s.on F.NCTX_HOLD c n && decide (s.nozAge c n m.readyDt < s.rd F.NCTX_CFG_HOLDOFF c)
  if !s.on F.NCTX_CFG_EV_EN c || decide (st = 3 ∨ mask = 1 ∨ mask = 3) || young || decide (s.nozzles c ≤ n) then
    s.inc F.NCTX_EVCNT_DISCARDED c
  else
    let s := (s.wr F.NCTX_HOLD 0 c n).inc F.NCTX_EVCNT_ACCEPTED c
    let tot := (min 65535 (s.rd F.NCTX_EV_FIRED c n + m.fired), min 4095 (s.rd F.NCTX_EV_MISS c n + m.miss),
      min 4095 (s.rd F.NCTX_EV_WEAK c n + m.weak))
    let store := fun (s : State) (e : Nat × Nat × Nat) =>
      ((s.wr F.NCTX_EV_FIRED e.1 c n).wr F.NCTX_EV_MISS e.2.1 c n).wr F.NCTX_EV_WEAK e.2.2 c n
    let keep := store s (decay (s.rd F.NCTX_CFG_DECAY_AT c) 16 tot)
    match s.evJudge c st m.fired m.miss tot with
    | none => keep
    | some to_ =>
      if mask = 2 ∨ s.on F.NCTX_REQ_OPEN c n then keep else
        let why : NozCause := ⟨1, m.hearth, m.bseq, m.readyDt, tot.1, tot.2.1, tot.2.2⟩
        if s.hwMode 4 c then s.nozCommit c n to_ mask (0, 0, 0) why
        else
          let p := nozProposal c n st to_ mask tot (m.fired, m.miss, m.weak) m.hearth m.bseq m.readyDt
          let r := (store s tot).post 4 (nozSrc c) (nozReason to_) p
          if r.1 then r.2.wr F.NCTX_REQ_OPEN 1 c n
          else r.2.nozCommit c n to_ mask (0, 0, 0) { why with cause := 4 }

/-- EVIDENCE_MESSAGE c i: the store of channel c applies the i-th message that waits for it (R292, R304). -/
def execEvidenceMessage (d c i : Nat) (s : State) : Host.Outcome State Fault Refusal :=
  cmd (decide (c < 64)) d s fun s => s.press fun s =>
    let x := s.noz c
    match x.msgs[i]? with
    | none => s
    | some m => (s.setNoz c { x with msgs := x.msgs.take i ++ x.msgs.drop (i + 1) }).evApply c m

/-! ### Host writes -/

/-- A host write to a context, of the given size (R286, R288). -/
def State.contextWrite (s : State) (c n size v : Nat) : State :=
  if s.nozzles c ≤ n then s
  else if size ≠ 8 ∨ 4 ≤ bits v 2 0 then s.flag F.NCTX_STATUS_BAD_WRITE c
  else
    let e := (bits v 39 24, bits v 51 40, bits v 63 52)
    let st := bits v 2 0
    let mask := bits v 4 3
    if st = s.rd F.NCTX_STATE c n ∧ mask = s.rd F.NCTX_HMASK c n then
      ((s.wr F.NCTX_EV_FIRED e.1 c n).wr F.NCTX_EV_MISS e.2.1 c n).wr F.NCTX_EV_WEAK e.2.2 c n
    else (s.closeNoz c n).nozCommit c n st mask e { cause := 5 }

/-- BAR0 address of a context (R286). -/
def nctxAddr (c n : Nat) : Nat := 0x1800000 + 0x20000 * c + 8 * n

/-- CONTEXT_WRITE c n: a host write to a nozzle context (R288). -/
def execContextWrite (d c n size v : Nat) (s : State) : Host.Outcome State Fault Refusal :=
  cmd (decide (c < 64 ∧ n < 16384)) d s fun s => s.hostWrite (nctxAddr c n) fun s =>
    s.contextWrite c n size v

/-- HOLD_SWEEP c n: the store visits a context and clears HOLD when its age has reached HOLDOFF (R291). -/
def execHoldSweep (d c n : Nat) (s : State) : Host.Outcome State Fault Refusal :=
  cmd (decide (c < 64 ∧ n < 16384)) d s fun s => s.press fun s =>
    if (s.rd F.NCTX_CFG_HOLDOFF c : Int) ≤ s.nozAge c n s.dt then s.wr F.NCTX_HOLD 0 c n else s

/-- Nozzles of a channel with an open request. -/
def State.openNozReqs (s : State) (c : Nat) : List Nat :=
  (s.dcs.open_.filter fun r => decide (r.func = 4 ∧ r.unit = nozSrc c)).map fun r => leAt r.proposal 2 2

/-- Hardware mode judges a nozzle afresh from its evidence (R43, R295). [DESIGN CHOICE, log 38] -/
def State.nozAfresh (s : State) (c n : Nat) : State :=
  let s := s.closeNoz c n
  let e := (s.rd F.NCTX_EV_FIRED c n, s.rd F.NCTX_EV_MISS c n, s.rd F.NCTX_EV_WEAK c n)
  let mask := s.rd F.NCTX_HMASK c n
  if decide (mask ≠ 0) || !s.on F.NCTX_CFG_EV_EN c then s else
    match s.evJudge c (s.rd F.NCTX_STATE c n) e.1 e.2.1 e with
    | none => s
    | some st => s.nozCommit c n st mask (0, 0, 0) ⟨1, 0xFFFF, 2 ^ 64 - 1, 0, e.1, e.2.1, e.2.2⟩

/-- A head reset (R293, R310): every nozzle HEALTHY with HOLD, masks unchanged, requests closed; one commit. -/
def State.headReset (s : State) (c tag : Nat) : State :=
  if s.armed .fire c then s.flag F.NCTX_STATUS_CFG_LOCKED c
  else
    let s := s.wr F.NCTX_HEAD_HEAD_TAG tag c
    let s := (s.openNozReqs c).foldl (fun s n => s.closeNoz c n) s
    let time := bits s.commitDt 35 20
    let ns := List.range (s.nozzles c)
    let s := s.keepUndo c (ns.map fun n => (n, s.rd F.NCTX_STATE c n, s.rd F.NCTX_HMASK c n))
    let s := ns.foldl (fun s n =>
      let s := s.setContext c n 0 (s.rd F.NCTX_HMASK c n)
      let s := ((s.wr F.NCTX_EV_FIRED 0 c n).wr F.NCTX_EV_MISS 0 c n).wr F.NCTX_EV_WEAK 0 c n
      (s.wr F.NCTX_HOLD 1 c n).wr F.NCTX_CHG_TIME time c n) s
    let s := (s.commitGen c).refreshAll c ns
    s.nozRecord c 0xFFFF 0 0 0 0 0 { cause := 6 }

/-- HEAD_RESET c: a write of NCTX_HEAD (R310). -/
def execHeadReset (d c tag : Nat) (s : State) : Host.Outcome State Fault Refusal :=
  cmd (decide (c < 64)) d s fun s => s.hostWrite (F.NCTX_HEAD_HEAD_TAG.at_ c) fun s =>
    s.headReset c (tag % 2 ^ 32)

/-! ### Snapshots -/

/-- Payload of a NOZZLE_MAP Ingot, 16,448 bytes (R308). -/
def State.nozzleMap (s : State) (c : Nat) : Bytes :=
  le 1 c ++ zeros 3 ++ le 4 (s.rd F.NCTX_HEAD_HEAD_TAG c) ++ le 4 (s.rd F.NCTX_GEN_CTX_GEN c) ++ le 2 (s.nozzles c)
    ++ zeros 2 ++ le 8 s.dt ++ zeros 40 ++ (List.range 16384).map fun n =>
      BitVec.ofNat 8 (s.rd F.NCTX_STATE c n + 8 * s.rd F.NCTX_HMASK c n)

/-- Take a snapshot of a channel (R307). -/
def State.snapshot (s : State) (c : Nat) : State :=
  (s.setNoz c { s.noz c with snapGen := s.rd F.NCTX_GEN_CTX_GEN c }).queueIngot 2 (s.nozzleMap c) c

/-- SNAPSHOT c: NCTX_CTL.SNAPSHOT (R307). -/
def execSnapshot (d c : Nat) (s : State) : Host.Outcome State Fault Refusal :=
  cmd (decide (c < 64)) d s fun s => s.hostWrite (F.NCTX_CTL_SNAPSHOT.at_ c) fun s => s.press fun s => s.snapshot c

/-- SNAPSHOT_PERIODIC: every PERIOD_MIN minutes, the channels that have changed (R307). -/
def execSnapshotPeriodic (d : Nat) (s : State) : Host.Outcome State Fault Refusal :=
  cmd true d s fun s => s.press fun s =>
    let p := s.rd F.NCTX_SNAP_PERIOD_MIN
    if p ≠ 0 ∧ s.due s.snapClk (p * 60000000000) then
      (List.range 64).foldl (fun s c =>
        if s.rd F.NCTX_GEN_CTX_GEN c ≠ (s.noz c).snapGen then s.snapshot c else s) { s with snapClk := s.clk }
    else s

/-- Restore STATE and HMASK of a channel from a NOZZLE_MAP payload; EV fields, HOLD and REQ_OPEN start at 0 (R309). -/
def State.restoreMap (s : State) (c : Nat) (payload : Bytes) : State :=
  let s := (List.range (s.nozzles c)).foldl (fun s n =>
    let e := leAt payload (64 + n) 1
    let s := (s.setContext c n (bits e 2 0) (bits e 4 3)).wr F.NCTX_HOLD 0 c n
    (((s.wr F.NCTX_REQ_OPEN 0 c n).wr F.NCTX_EV_FIRED 0 c n).wr F.NCTX_EV_MISS 0 c n).wr F.NCTX_EV_WEAK 0 c n) s
  s.refreshAll c (List.range (s.nozzles c))

/-- The counters of a nozzle-context channel read 0 (R297). -/
def State.nctxClear (s : State) (c : Nat) : State :=
  s.clrAll [F.NCTX_DROPS_CLIPPED, F.NCTX_DROPS_EXCL_LEVELS, F.NCTX_DROPS_UNCOMP_LEVELS,
    F.NCTX_EVCNT_ACCEPTED, F.NCTX_EVCNT_DISCARDED] c

/-- NCTX_CLEAR_COUNTS c (R297). -/
def execNctxClearCounts (d c : Nat) (s : State) : Host.Outcome State Fault Refusal :=
  cmd (decide (c < 64)) d s fun s => s.hostWrite (F.NCTX_CTL_SNAPSHOT.at_ c) fun s =>
    s.nctxClear c

/-! ### Compensation -/

/-- What compensation gives a channel's line (R297): levels out, and what NCTX_DROPS gains. -/
structure Compensated where
  levels : List Nat
  clipped : Nat
  excluded : Nat
  uncomp : Nat

/-- What a donor n with level l gives to its lower and its upper taker, at dot index D (R297); the third value is what
no taker gets. -/
def donate (takeover d l : Nat) (lo hi : Option Nat) : List (Nat × Nat) × Nat :=
  if takeover = 0 then ([], l) else
    match lo, hi with
    | none, none => ([], l)
    | some a, none => ([(a, l)], 0)
    | none, some b => ([(b, l)], 0)
    | some a, some b =>
      if takeover = 2 then ([(a, l)], 0)
      else
        let x := (l + 1) / 2
        if d % 2 = 0 then ([(a, x), (b, l - x)], 0) else ([(a, l - x), (b, x)], 0)

/-- The compensated levels of a line of dot index D; `line i` is the level of data index i (R297). -/
def State.compensate (s : State) (c d : Nat) (line : Int → Nat) : Compensated :=
  let nz := s.nozzles c
  let shift := sOf 8 (s.hm c).dataShift
  let takeover := s.rd F.NCTX_CFG_TAKEOVER c
  let chain := s.rd F.NCTX_CFG_CHAIN_M1 c + 1
  let level := fun (n : Nat) =>
    let i : Int := (n : Int) - shift
    if 0 ≤ i ∧ i < nz then line i else 0
  let given := fun (n : Nat) =>
    if s.nozKindAt c n = 1 ∧ level n ≠ 0 then donate takeover d (level n) (s.takers c n).1 (s.takers c n).2 else ([], 0)
  let own := fun (n : Nat) =>
    if s.nozKindAt c n ≠ 0 then 0
    else if s.rd F.NCTX_STATE c n = 2 ∧ s.on F.NCTX_CFG_WEAK_BOOST c ∧ level n ≠ 0 then min 3 (level n + 1)
    else level n
  let recv := fun (n : Nat) =>
    ((upto (n - chain) (2 * chain + 1)).filter fun p => decide (p < nz)).foldl (fun t p =>
      t + (((given p).1.filter fun g => decide (g.1 = n)).map Prod.snd).sum) 0
  let raw := (List.range nz).map fun n => own n + recv n
  ⟨raw.map (min 3), (raw.map fun r => r - 3).sum,
    ((List.range nz).map fun n => if s.nozKindAt c n = 2 then level n else 0).sum,
    ((List.range nz).map fun n => (given n).2).sum⟩

end Sys2Proof.Machine
end

