-- ==== Sys2Proof/Machine/Compare.lean ====
section
/-!
DEFINITION. Compare on an Anvil tile (R221, R226 to R258, R320, R330, R331): the samples of a billet, their classes, the
registration measurement, threshold adaptation and nozzle evidence, and the records of a billet.
-/

namespace Sys2Proof.Machine

/-! ### The samples of a billet -/

/-- An included sample (R234): band, line, column, d, z, the gradients, and the state of its four neighbours. -/
structure Sample where
  band : Nat
  line : BLine
  x : Nat
  d : Int
  z : Int
  gx : Int
  gy : Int

/-- The rendered level of an ink at a grid position; 0 outside the columns that exist (R227). -/
def State.levelAt (s : State) (q : CmpCtx) (ink : Nat) (x y : Int) : Nat :=
  if x < 0 then 0 else
    match q.view.find? fun v => decide (v.1 = ink) with
    | some v => (s.dropAt v.2 x.toNat y).level
    | none => 0

/-- Coverage of an ink at a grid position (R230). -/
def State.inkCover (s : State) (q : CmpCtx) (ink : Nat) (x y : Int) : Nat :=
  s.coverage q.base ink (s.levelAt q ink) x y

/-- The expected value E of a band at a grid position (R231, R232). -/
def State.expectedAt (s : State) (q : CmpCtx) (band : Nat) (x y : Int) : Nat :=
  s.expected q.base band (s.inkProduct q.base band q.mask fun i => s.inkCover q i x y)

/-- An included sample with its d, z and gradients (R234). -/
def State.sampleAt (s : State) (q : CmpCtx) (band x : Nat) (l : BLine) : Sample :=
  let c := (s.lineSample q.n l.lseq band x).getD 0
  let e := s.expectedAt q band x l.n
  let gx : Int := (s.expectedAt q band ((x : Int) + 1) l.n : Int) - s.expectedAt q band ((x : Int) - 1) l.n
  let gy : Int := (s.expectedAt q band x (l.n + 1) : Int) - s.expectedAt q band x (l.n - 1)
  ⟨band, l, x, (c : Int) - e, zScore (s.noise0 q.base band) (s.noise1 q.base band) (s.noise2 q.base band) c e
    (max gx.natAbs gy.natAbs), gx, gy⟩

/-- The included samples of one line, band by band. -/
def State.lineSamples (s : State) (q : CmpCtx) (b : BilletS) (l : BLine) : List Sample :=
  (List.range q.bands).flatMap fun band => b.columns.filterMap fun x =>
    if s.kindAt q b band x l.n = .included then some (s.sampleAt q band x l) else none

/-- The included samples of a billet. -/
def State.samples (s : State) (q : CmpCtx) (b : BilletS) : List Sample := b.lines.flatMap (s.lineSamples q b)

/-! ### Classes and defect records -/

/-- The thresholds in force for a billet (R236): T_SOFT, T_HARD, T_MISS and T_WEAK. -/
structure Thr where
  soft : Int
  hard : Int
  miss : Int
  weak : Int

def BilletS.thresholds (b : BilletS) : Thr :=
  ⟨effThr (bits b.thr 15 0) b.scale, effThr (bits b.thr 31 16) b.scale, effThr (bits b.thr 47 32) b.scale,
    effThr (bits b.thr 63 48) b.scale⟩

/-- Classes of a sample (R236). -/
def Sample.hardLight (p : Sample) (t : Thr) : Bool := decide (t.hard ≤ p.z)
def Sample.hardDark (p : Sample) (t : Thr) : Bool := decide (p.z ≤ -t.hard)
def Sample.soft (p : Sample) (t : Thr) : Bool := decide (t.soft ≤ (p.z.natAbs : Int) ∧ (p.z.natAbs : Int) < t.hard)

/-- A defect before it is written: class, HARD, SOFT, PEAK_Z, extent, cell (R252). -/
structure Defect where
  cls : Nat
  bands : Nat
  hard : Nat
  soft : Nat
  peak : Nat
  line : Int
  lines : Nat
  x : Nat
  cols : Nat
  stamp : Nat
  frameNo : Nat
  row : Nat
  col : Nat

/-- Smallest and largest of a list of numbers. -/
def spanInt (l : List Int) : Int × Int := (l.foldl min (l.headD 0), l.foldl max (l.headD 0))
def spanNat (l : List Nat) : Nat × Nat := (l.foldl min (l.headD 0), l.foldl max (l.headD 0))

/-- z of the largest |z|, the first of equals. [DESIGN CHOICE, log 69] -/
def peakZ (l : List Sample) : Int := l.foldl (fun m p => if m.natAbs < p.z.natAbs then p.z else m) 0

/-- A defect over its affected samples (R252). -/
def Defect.ofSamples (cls hard soft row col : Nat) (l : List Sample) : Defect :=
  let ys := spanInt (l.map fun p => p.line.n)
  let xs := spanNat (l.map Sample.x)
  let first := (l.find? fun p => decide (p.line.n = ys.1)).map Sample.line
  { cls := cls, bands := ((List.range 4).map fun b => if l.any (fun p => decide (p.band = b)) then 2 ^ b else 0).sum,
    hard := hard, soft := soft, peak := uOf 16 (peakZ l), line := ys.1, lines := (ys.2 - ys.1).toNat + 1, x := xs.1,
    cols := xs.2 - xs.1 + 1, stamp := (first.map BLine.stamp).getD 0, frameNo := (first.map BLine.frameNo).getD 0,
    row := row, col := col }

/-- The area defect of a cell (R237). -/
def areaDefect (b : BilletS) (t : Thr) (cr cc : Nat) (all : List Sample) : Option Defect :=
  let l := all.filter fun p => decide ((p.line.n - 256 * b.r) / 16 = cr ∧ (p.x - b.first) / 64 = cc)
  let hl := (l.filter fun p => p.hardLight t).length
  let hd := (l.filter fun p => p.hardDark t).length
  let soft := (l.filter fun p => p.soft t).length
  let hard := l.filter fun p => p.hardLight t || p.hardDark t
  let made := fun cls ps => some (Defect.ofSamples cls (hl + hd) soft cr cc ps)
  if bits b.cell 31 19 ≤ max hl hd then made (if hd ≤ hl then 1 else 2) hard
  else if bits b.cell 15 9 ≤ hl + hd then made (if hd ≤ hl then 3 else 4) hard
  else if bits b.cell 47 35 ≤ hl + hd + soft then
    made 5 (l.filter fun p => p.hardLight t || p.hardDark t || p.soft t)
  else none

/-- The streak class of a column of a band with its count (R238): 1 light, 2 dark, 0 none. -/
def streakOf (b : BilletS) (t : Thr) (col : List Sample) : Nat × Nat :=
  let ls := (col.filter fun p => decide (t.soft ≤ p.z)).length
  let ds := (col.filter fun p => decide (p.z ≤ -t.soft)).length
  let m := bits b.cell 8 0
  if m ≤ ls then (1, ls) else if m ≤ ds then (2, ds) else (0, 0)

/-- Group adjacent columns of one streak class: class, and the columns with their counts (R238). -/
def groupStreaks : List (Nat × Nat × Nat) → List (Nat × List (Nat × Nat))
  | [] => []
  | (x, k, c) :: rest => match groupStreaks rest with
    | (k', (x', c') :: cs) :: gs =>
      if k = k' ∧ x + 1 = x' then (k, (x, c) :: (x', c') :: cs) :: gs else (k, [(x, c)]) :: (k', (x', c') :: cs) :: gs
    | gs => (k, [(x, c)]) :: gs

/-- The streak defects of one band, in ascending first column (R238). -/
def streakDefects (b : BilletS) (t : Thr) (band : Nat) (all : List Sample) : List Defect :=
  let l := all.filter fun p => decide (p.band = band)
  let cols := b.columns.map fun x => (x, streakOf b t (l.filter fun p => decide (p.x = x)))
  ((groupStreaks cols).filter fun g => decide (g.1 ≠ 0)).map fun g =>
    let xs := g.2.map Prod.fst
    let here := l.filter fun p => decide (p.x ∈ xs) &&
      (if g.1 = 1 then decide (t.soft ≤ p.z) else decide (p.z ≤ -t.soft))
    Defect.ofSamples (if g.1 = 1 then 6 else 7) ((g.2.map Prod.snd).foldl max 0) 0 0xFF 0xFF here

/-- A defect record (R252). -/
def Defect.bytes (k : Defect) (h bseq : Nat) : Bytes :=
  record 0x0310 (srcNo 7 h) k.stamp (le 8 bseq ++ le 8 (uOf 64 k.line) ++ le 4 k.x ++ le 1 k.cls ++ le 1 k.bands
    ++ le 2 k.lines ++ le 2 k.cols ++ le 2 (min 65535 k.hard) ++ le 2 (min 65535 k.soft) ++ le 2 k.peak ++ le 4 k.frameNo
    ++ le 1 k.row ++ le 1 k.col ++ zeros 10)

/-! ### Registration -/

/-- The sums of a registration measurement (R243). -/
structure RegSums where
  n : Nat := 0
  sxx : Int := 0
  syy : Int := 0
  sxy : Int := 0
  sdx : Int := 0
  sdy : Int := 0

/-- A registration measurement (R243, R244). -/
structure RegMeas where
  n : Nat
  u : Int
  v : Int
  valid : Bool
  large : Bool
  clamped : Bool
  gx2 : Nat
  gy2 : Nat
  /-- U and V have a value: det is not 0. -/
  measured : Bool

/-- The sums over the samples of a band that R243 names; `inc` says whether a position is included. [DESIGN CHOICE, log 68] -/
def regSums (t : Thr) (band : Nat) (inc : Nat → Int → Bool) (all : List Sample) : RegSums :=
  (all.filter fun p => decide (p.band = band) && decide ((p.z.natAbs : Int) < t.hard) && decide (0 < p.x)
      && inc (p.x + 1) p.line.n && inc (p.x - 1) p.line.n && inc p.x (p.line.n + 1) && inc p.x (p.line.n - 1)).foldl
    (fun r p => ⟨r.n + 1, r.sxx + p.gx * p.gx, r.syy + p.gy * p.gy, r.sxy + p.gx * p.gy, r.sdx + p.d * p.gx,
      r.sdy + p.d * p.gy⟩) {}

/-- The mean of a sum of squares over n samples, or a free value where there is no sample (R253). [DESIGN CHOICE, log 68] -/
def State.meanOf (s : State) (sum : Int) (n : Nat) : Nat × State :=
  if n = 0 then s.fresh 32 else (min (2 ^ 32 - 1) (sum.toNat / n), s)

/-- U and V before they are clamped: free values where det is 0 (R243). [DESIGN CHOICE, log 68] -/
def State.rawOffsets (s : State) (q : RegSums) (det : Int) : (Int × Int) × State :=
  if det ≤ 0 then
    let u := s.fresh 32
    let v := u.2.fresh 32
    ((sOf 32 u.1, sOf 32 v.1), v.2)
  else
    ((rdiv (-512 * (q.syy * q.sdx - q.sxy * q.sdy)) det.toNat, rdiv (-512 * (q.sxx * q.sdy - q.sxy * q.sdx)) det.toNat), s)

/-- The measurement of a billet (R243, R244). -/
def State.regMeasure (s : State) (q : RegSums) : RegMeas × State :=
  let det := q.sxx * q.syy - q.sxy * q.sxy
  let gx2 := s.meanOf q.sxx q.n
  let gy2 := gx2.2.meanOf q.syy q.n
  let raw := gy2.2.rawOffsets q det
  let u := max (-512) (min 512 raw.1.1)
  let v := max (-512) (min 512 raw.1.2)
  let valid := decide (4096 ≤ q.n ∧ (64 * q.n : Int) ≤ q.sxx ∧ (64 * q.n : Int) ≤ q.syy ∧ 0 < det ∧ q.sxx * q.syy ≤ 4 * det)
  (⟨q.n, u, v, valid, decide (384 < u.natAbs ∨ 384 < v.natAbs), decide (u ≠ raw.1.1 ∨ v ≠ raw.1.2), gx2.1, gy2.1,
    decide (0 < det)⟩, raw.2)

/-- The channels whose fire delay a logical Hearth corrects (R245). [DESIGN CHOICE, log 69] -/
def State.regChannels (s : State) (h : Nat) : List Nat :=
  (List.range 64).filter fun c => decide (s.rd F.REG_SOURCE_HEARTH c = h)

/-- The correction of a channel (R245): 0 where its speed is not known. [DESIGN CHOICE, log 69] -/
def State.regDelta (s : State) (attr c : Nat) (v : Int) : Int :=
  let m := bits attr 47 32
  let x := rdiv (v * ((s.pitch .fire c * s.period (s.genAxis .fire c) * bits attr 23 16 : Nat) : Int)) (2 ^ 48)
  max (-(m : Int)) (min m (-x))

/-- Add a correction to FIRE_DELAY_NEXT (R246); it is committed under R99. -/
def State.regApply (s : State) (h c : Nat) (delta : Int) : State :=
  let x := (s.rd F.FIRE_DELAY_NEXT_DELAY_NS c : Int) + delta
  let y := max 0 (min 1048575 x)
  let s := if x = y then s else s.flag F.CMP_STATUS_REG_CLAMPED h
  (s.wr F.FIRE_DELAY_NEXT_DELAY_NS y.toNat c).setHm c
    { s.hm c with wDelay := (s.hm c).wDelay ++ [⟨s.dt, y.toNat, some h⟩] }

/-- A correction of a logical Hearth on its channels (R245, R246). [DESIGN CHOICE, log 68] -/
def State.regCorrect (s : State) (h : Nat) (ds : List (Nat × Int)) : State :=
  let s := ds.foldl (fun s e => s.regApply h e.1 e.2) s
  s.setCmp h { s.cmp h with uncommitted := ds.map Prod.fst }

/-- The proposal of a request of function 0x03 (R246). -/
def regProposal (h ink : Nat) (delta : Int) (m : RegMeas) (chans bseq : Nat) : Bytes :=
  le 2 h ++ le 1 ink ++ le 1 0 ++ le 4 (uOf 32 delta) ++ le 2 (uOf 16 m.u) ++ le 2 (uOf 16 m.v) ++ le 4 m.n ++ le 8 chans
    ++ le 8 bseq

/-- A billet is SETTLING (R245). -/
def State.settling (s : State) (b : BilletS) : Bool :=
  let x := s.cmp b.h
  (s.inkEntries (s.rd F.CMP_CFG_REG_INK b.h)).any fun ch => ch.2.any fun e =>
    decide (e.st = 0) && (!x.uncommitted.isEmpty || decide (e.issue < x.settled)) &&
      b.lines.any fun l => b.columns.any fun x => (e.nozzleAt x l.n).isSome

/-- What became of a measurement: NO_SPEED, APPLIED, POSTED and DELTA_NS (R253). -/
structure RegOut where
  noSpeed : Bool := false
  applied : Bool := false
  posted : Bool := false
  delta : Int := 0

/-- The correction that a measurement calls for is made, or posted (R245, R246). -/
def State.regAct (s : State) (b : BilletS) (m : RegMeas) (settling mixed : Bool) : RegOut × State :=
  let h := b.h
  let chans := s.regChannels h
  let speed := fun (c : Nat) => decide (s.period (s.genAxis .fire c) ≠ 0)
  let noSpeed := chans.any fun c => !speed c
  let good := s.on F.CMP_CFG_REG_EN h && m.valid && !m.large && !mixed && !settling
    && decide (bits b.attr 31 24 ≤ m.v.natAbs)
  let ds := (chans.filter speed).map fun c => (c, s.regDelta b.attr c m.v)
  if !good || ds.isEmpty then ({ noSpeed := noSpeed }, s)
  else
    let delta := (chans.head?.map fun c => s.regDelta b.attr c m.v).getD 0
    if s.reqOpen 3 (srcNo 7 h) then ({ noSpeed := noSpeed, delta := delta }, s)
    else if chans.all (fun c => s.hwMode 3 c) then
      ({ noSpeed := noSpeed, applied := true, delta := delta }, s.regCorrect h ds)
    else
      let p := regProposal h (s.rd F.CMP_CFG_REG_INK h) delta m ((chans.map (2 ^ ·)).sum) b.bseq
      let r := (s.setCmp h { s.cmp h with deltas := ds }).post 3 (srcNo 7 h) 1 p
      ({ noSpeed := noSpeed, posted := r.1, delta := delta }, r.2)

/-- A request of function 0x03 resolves (R246): the corrections that the measurement gives, or one step for every channel; or
the measurement is discarded. -/
def State.regResolve (s : State) (h : Nat) (proposal : Bytes) (verdict arg : Nat) : State :=
  let chans := (List.range 64).filter fun c => decide (bit (leAt proposal 16 8) c = 1)
  if verdict = 1 then s.regCorrect h (s.cmp h).deltas
  else if verdict = 3 then s.regCorrect h (chans.map fun c => (c, sOf 32 (arg % 2 ^ 32)))
  else s

/-- Whether the argument of a VERDICT 0x03 reply of function 0x03 is in range (R246). -/
def regArgOk (arg : Nat) : Bool :=
  decide (arg < 2 ^ 32) && decide ((sOf 32 arg).natAbs ≤ 1048575)

/-- The registration record (R253). [DESIGN CHOICE, log 68] -/
def regRecord (b : BilletS) (ink : Nat) (m : RegMeas) (mixed settling : Bool) (o : RegOut) : Bytes :=
  record 0x0320 (srcNo 7 b.h) ((b.lines.head?.map BLine.stamp).getD 0)
    (le 8 b.bseq ++ le 8 (uOf 64 (256 * b.r)) ++ le 2 (uOf 16 m.u) ++ le 2 (uOf 16 m.v) ++ le 1 ink
      ++ le 1 (b2n m.valid + 2 * b2n m.large + 4 * b2n m.clamped + 8 * b2n mixed + 16 * b2n settling + 32 * b2n o.noSpeed
        + 64 * b2n o.applied + 128 * b2n o.posted)
      ++ le 2 0 ++ le 4 (uOf 32 o.delta) ++ le 4 m.n ++ le 4 m.gx2 ++ le 4 m.gy2 ++ zeros 8)

/-! ### Threshold adaptation -/

/-- A new threshold scale (R242). -/
def State.setScale (s : State) (h v : Nat) : State :=
  let s := if s.rd F.CMP_SCALE_S h = v then s else s.flag F.CMP_STATUS_THR_CHANGED h
  s.wr F.CMP_SCALE_S v h

/-- The scale that n samples with a sum of z² ask for (R240): the root is exact and rounded by R9. -/
def newScale (n sumZ2 : Nat) : Nat :=
  let k := Nat.sqrt (256 * sumZ2 / n)
  let twice := (2 * k + 1) ^ 2 * n
  let r := if twice < 1024 * sumZ2 then k + 1 else if twice = 1024 * sumZ2 ∧ k % 2 = 1 then k + 1 else k
  max 0x0800 (min 0x8000 r)

/-- The proposal of a request of function 0x05 (R241). -/
def thrProposal (h now new nb n sum : Nat) : Bytes := le 2 h ++ le 2 now ++ le 2 new ++ le 2 nb ++ le 8 n ++ le 8 sum ++ zeros 8

/-- A billet of a Hearth has been compared: its thresholds may adapt (R240). -/
def State.adapt (s : State) (h sumZ2 count : Nat) : State :=
  if !s.on F.CMP_CFG_ADAPT_EN h then s else
    let x := s.cmp h
    let x := { x with nb := x.nb + 1, billets := x.billets + 1, sum := x.sum + sumZ2, cnt := x.cnt + count }
    if x.nb < s.rd F.CMP_CFG_EVAL_BILLETS h then s.setCmp h x
    else if x.cnt < 65536 ∨ s.reqOpen 5 (srcNo 7 h) then s.setCmp h { x with nb := 0 }
    else
      let s := s.setCmp h { x with nb := 0, billets := 0, sum := 0, cnt := 0 }
      let now := s.rd F.CMP_SCALE_S h
      let new := newScale x.cnt x.sum
      if (if now ≤ new then new - now else now - new) < 256 then s
      else if s.hwMode 5 h then s.setScale h new
      else (s.post 5 (srcNo 7 h) (if now < new then 1 else 2)
        (thrProposal h now new x.billets x.cnt x.sum)).2

/-- A request of function 0x05 resolves (R241). -/
def State.thrResolve (s : State) (h : Nat) (proposal : Bytes) (verdict arg : Nat) : State :=
  if verdict = 1 then s.setScale h (leAt proposal 4 2)
  else if verdict = 3 then s.setScale h (arg % 65536)
  else s

/-- Whether the argument of a VERDICT 0x03 reply of function 0x05 is in range (R241). -/
def thrArgOk (arg : Nat) : Bool := within 0x0800 arg 0x8000

/-! ### Nozzle evidence -/

/-- Count evidence for an owner: FIRED, MISS and WEAK by channel and nozzle, in ascending order (R247, R248). -/
def addEvidence (o : Nat × Nat) (ink : Nat) (miss weak : Bool) :
    List ((Nat × Nat) × Nat × Nat × Nat × Nat) → List ((Nat × Nat) × Nat × Nat × Nat × Nat)
  | [] => [(o, ink, 1, b2n miss, b2n weak)]
  | e :: es =>
    if e.1 = o then (o, e.2.1, e.2.2.1 + 1, e.2.2.2.1 + b2n miss, e.2.2.2.2 + b2n weak) :: es
    else if o.1 < e.1.1 ∨ (o.1 = e.1.1 ∧ o.2 < e.1.2) then (o, ink, 1, b2n miss, b2n weak) :: e :: es
    else e :: addEvidence o ink miss weak es

/-- The evidence of a billet, by owner (R247). -/
def State.evidence (s : State) (q : CmpCtx) (b : BilletS) (t : Thr) (all : List Sample) :
    List ((Nat × Nat) × Nat × Nat × Nat × Nat) :=
  if !s.on F.CMP_CFG_NOZZLE_EV b.h then [] else
    let band := s.rd F.CMP_CFG_EV_BAND b.h
    let limit := bits b.attr 15 0
    (all.filter fun p => decide (p.band = band)).foldl (fun acc p =>
      q.view.foldl (fun acc v =>
        let drop := s.dropAt v.2 p.x p.line.n
        let others := q.view.all fun w => decide (w.1 = v.1) || decide (s.inkCover q w.1 p.x p.line.n < limit)
        match drop.owner with
        | some o =>
          if 1 ≤ drop.level && others then
            addEvidence o v.1 (decide (t.miss ≤ p.z)) (decide (t.weak ≤ p.z ∧ p.z < t.miss)) acc
          else acc
        | none => acc) acc) []

/-- An evidence message (R248). -/
def evMessage (e : (Nat × Nat) × Nat × Nat × Nat × Nat) : Bytes :=
  le 8 (e.1.1 + 2 ^ 6 * e.1.2 + 2 ^ 20 * e.2.1 + 2 ^ 24 * min 65535 e.2.2.1 + 2 ^ 40 * min 4095 e.2.2.2.1
    + 2 ^ 52 * min 4095 e.2.2.2.2)

/-- Evidence records of a billet (R254), at most 8,184 messages in each. -/
def evRecords (b : BilletS) : Nat → List Bytes → List Bytes
  | 0, _ => []
  | fuel + 1, ms =>
    if ms.isEmpty then [] else
      let now := ms.take 8184
      record 0x0330 (srcNo 7 b.h) b.readyDt (le 8 b.bseq ++ le 4 now.length ++ zeros 36 ++ now.flatten)
        :: evRecords b fuel (ms.drop 8184)

/-- The messages of a billet go to the stores (R248). -/
def State.sendEvidence (s : State) (b : BilletS) (l : List ((Nat × Nat) × Nat × Nat × Nat × Nat)) : State :=
  l.foldl (fun s e =>
    let m : EvMsg := ⟨e.1.2, e.2.1, min 65535 e.2.2.1, min 4095 e.2.2.2.1, min 4095 e.2.2.2.2, b.h, b.bseq, b.readyDt⟩
    s.setNoz e.1.1 { s.noz e.1.1 with msgs := (s.noz e.1.1).msgs ++ [m] }) s

/-! ### The end of a billet -/

/-- The defects of a billet, in the order of R239; HARD, SOFT and PEAK_Z of MISREGISTER are free values, and it is made of
every offset that has a value (R238). [DESIGN CHOICE, log 68] -/
def State.defectsOf (s : State) (b : BilletS) (t : Thr) (bands regBand : Nat) (m : RegMeas) (all : List Sample) :
    List Defect × State :=
  let area := (List.range 16).flatMap fun cr => (List.range (cdiv b.cols 64)).filterMap fun cc => areaDefect b t cr cc all
  let streaks := (List.range bands).flatMap fun band => streakDefects b t band all
  let limit := bits b.attr 63 48
  if m.measured ∧ (limit ≤ m.u.natAbs ∨ limit ≤ m.v.natAbs) then
    let f1 := s.fresh 16
    let f2 := f1.2.fresh 16
    let f3 := f2.2.fresh 16
    let l0 := b.lines.headD default
    let k : Defect := { cls := 8, bands := 2 ^ regBand, hard := f1.1, soft := f2.1, peak := f3.1, line := 256 * b.r,
                        lines := 256, x := b.first, cols := b.cols, stamp := l0.stamp, frameNo := l0.frameNo,
                        row := 0xFF, col := 0xFF }
    (area ++ streaks ++ [k], f3.2)
  else (area ++ streaks, s)

/-- A running billet ends (R234 to R254). [DESIGN CHOICE, log 67] -/
def State.compareEnd (s : State) (t tile n : Nat) (b : BilletS) : State :=
  let q := s.cmpCtx n b
  let h := b.h
  let thr := b.thresholds
  let all := s.samples q b
  let regBand := s.rd F.CMP_CFG_REG_BAND h
  let inc := fun (x : Nat) (y : Int) => decide (b.first ≤ x ∧ x < b.first + b.cols)
    && decide (s.kindAt q b regBand x y = .included)
  let settling := s.settling b
  let mixed := b.lines.any (fun l => decide (l.dir = 0)) && b.lines.any (fun l => decide (l.dir = 1))
  let m := s.regMeasure (regSums thr regBand inc all)
  let ds := m.2.defectsOf b thr q.bands regBand m.1 all
  let limit := bits b.cell 63 51
  let kept := ds.1.take limit
  let ev := s.evidence q b thr all
  let zs := all.filter fun p => decide (p.band = regBand ∧ p.z.natAbs < 1024)
  let sumZ2 := (zs.map fun p => p.z.natAbs * p.z.natAbs).sum
  let late := decide (b.deadline < s.dt)
  let limited := decide (limit < ds.1.length)
  let o : BilletOut := {
    status := 1, tile := t, scale := b.scale, defects := kept.length, start := b.start, compared := all.length,
    flags := b2n late + 4 * b2n (s.anyPending q b) + 8 * b2n limited + 16 * (b.bank % 2)
      + 32 * b2n settling,
    notSeen := q.absent b + s.countOn q b .notSeen, unprinted := s.countOn q b .unprinted,
    lapped := s.countOn q b .lapped, sumZ2 := sumZ2,
    z2Count := zs.length, dropped := min 65535 (ds.1.length - limit), skipped := s.skippedLines q b,
    coverage := s.coverageOf q b true }
  let a := ds.2.regAct b m.1 settling mixed
  let s := a.2
  let s := kept.foldl (fun s k => s.cmpRecord h F.CMP_OUT_DEFECT_TROUGH (k.bytes h b.bseq)) s
  let s := if s.on F.CMP_OUT_REG_REC_EN h then
      s.cmpRecord h F.CMP_OUT_REG_TROUGH (regRecord b (s.rd F.CMP_CFG_REG_INK h) m.1 mixed settling a.1)
    else s
  let s := if s.on F.CMP_OUT_EV_REC_EN h then
      (evRecords b ev.length (ev.map evMessage)).foldl (fun s r => s.cmpRecord h F.CMP_OUT_EV_TROUGH r) s
    else s
  let s := s.retireBillet b o
  let s := if late then s.flag F.CMP_STATUS_LATE h else s
  let s := if limited then s.flag F.CMP_STATUS_DEFECT_LIMIT h else s
  let s := if b.lines.any BLine.lapped then s.flag F.CMP_STATUS_LAPPED h else s
  let total := s.anvil.part.getD tile 0 + all.length
  let s := { s with anvil := { s.anvil with running := s.anvil.running.del tile,
                                            part := s.anvil.part.put tile (total % 2 ^ 20) 0 } }
  let s := ((s.wr F.ANVIL_STATE_BUSY 0 tile).inc F.ANVIL_CNT_BILLETS tile).inc F.ANVIL_CNT_MSAMPLES tile 0 (total / 2 ^ 20)
  let s := (s.sendEvidence b ev).adapt h sumZ2 zs.length
  let s := s.needMoved h
  let s := s.hammer.foldl (fun s e => s.forceRelease e.1) s
  s.shadowRan 2 t

/-- BILLET_COMPARE_END: logical tile t finishes comparing its billet (R255). [DESIGN CHOICE, log 67] -/
def execBilletCompareEnd (d t : Nat) (s : State) : Host.Outcome State Fault Refusal :=
  cmd (decide (t < 128)) d s fun s => s.press fun s =>
    match s.tileOf t with
    | none => s
    | some tile => match s.anvil.running.find tile with
      | none => s
      | some b => match s.hearthOf b.h with
        | none => s
        | some n => if b.start ≤ s.dt then s.compareEnd t tile n b else s

/-! ### The start of a billet -/

/-- Power domain of a logical tile's cluster (R313). -/
def tileDomain (t : Nat) : Nat := 40 + t / 16

/-- Whether a tile ends a billet of S samples by a deadline when it starts at a DT: t_est is 2 µs plus S divided by R_t of
R320 (R257). -/
def State.inTime (s : State) (t samples start deadline : Nat) : Bool :=
  decide (start + 2000 ≤ deadline ∧ samples * 10 * s.rd F.BLW_DOM_TOK_CORNER (tileDomain t)
    ≤ (deadline - start - 2000) * 64 * s.rd F.BLW_DOM_TOK (tileDomain t)) && decide (s.rd F.BLW_DOM_TOK (tileDomain t) ≠ 0)

/-- START_DT of a billet that a tile starts now (R330). [DESIGN CHOICE, log 69] -/
def State.startDt (s : State) (t : Nat) : Nat := s.dt + exitLatency (s.rd F.BLW_DOM_LEVEL (tileDomain t))

/-- The ready billet that comes before all others: the earliest deadline, then the lower Hearth, then the lower BSEQ
(R330). -/
def firstBillet : List BilletS → Option BilletS
  | [] => none
  | b :: bs => match firstBillet bs with
    | none => some b
    | some c => if c.deadline < b.deadline ∨ (c.deadline = b.deadline ∧ (c.h < b.h ∨ (c.h = b.h ∧ c.bseq < b.bseq)))
        then some c else some b

/-- The words of CMP_THR, CMP_CELL and CMP_ATTR as they stand. -/
def State.thrWord (s : State) (h : Nat) : Nat :=
  s.rd F.CMP_THR_T_SOFT h + 2 ^ 16 * s.rd F.CMP_THR_T_HARD h + 2 ^ 32 * s.rd F.CMP_THR_T_MISS h
    + 2 ^ 48 * s.rd F.CMP_THR_T_WEAK h
def State.cellWord (s : State) (h : Nat) : Nat :=
  s.rd F.CMP_CELL_STREAK_MIN h + 2 ^ 9 * s.rd F.CMP_CELL_SPOT_MIN h + 2 ^ 19 * s.rd F.CMP_CELL_AREA_MIN h
    + 2 ^ 35 * s.rd F.CMP_CELL_MOTTLE_MIN h + 2 ^ 51 * s.rd F.CMP_CELL_MAX_DEFECTS h
def State.attrWord (s : State) (h : Nat) : Nat :=
  s.rd F.CMP_ATTR_ATTR_MAX h + 2 ^ 16 * s.rd F.CMP_ATTR_REG_GAIN h + 2 ^ 24 * s.rd F.CMP_ATTR_REG_DEADBAND h
    + 2 ^ 32 * s.rd F.CMP_ATTR_REG_MAX_STEP_NS h + 2 ^ 48 * s.rd F.CMP_ATTR_REG_LIMIT h

/-- A tile starts a ready billet (R221, R233, R242). [DESIGN CHOICE, log 67] -/
def State.startBillet (s : State) (t : Nat) (b : BilletS) : State :=
  let s := s.safePoint 5 b.h (fun s => s.closeReqs 5 (srcNo 7 b.h))
  let s := (s.safePoint 6 (256 + t) fun s => s.subAfresh 2 t).unitBoundary 2 t
  match s.tileOf t with
  | none => s
  | some tile =>
    let p := s.rd F.CMP_CFG_PROFILE b.h
    let start := s.startDt t
    let s := (s.dropReady b).beginExit (tileDomain t)
    let run := { b with start := start, bank := 2 * p + bit (s.rd F.MODEL_ACTIVE_BANK) p,
                        scale := s.rd F.CMP_SCALE_S b.h, thr := s.thrWord b.h, cell := s.cellWord b.h,
                        attr := s.attrWord b.h }
    let s := { s with anvil := { s.anvil with running := s.anvil.running.ins tile run,
                                              lastB := s.anvil.lastB.put tile b.bseq 0 } }
    ((s.wr F.ANVIL_STATE_BUSY 1 tile).wr F.ANVIL_STATE_HEARTH b.h tile).wr F.ANVIL_STATE_BSEQ b.bseq tile

/-- BILLET_START: the scheduler gives the lowest free tile of the run set the ready billet with the earliest deadline, of
those that it can end in time (R257, R330). -/
def execBilletStart (d : Nat) (s : State) : Host.Outcome State Fault Refusal :=
  cmd true d s fun s => s.press fun s =>
    let free := s.runSet.find? fun t => match s.tileOf t with
      | some n => (s.anvil.running.find n).isNone
      | none => false
    match free with
    | none => s
    | some t =>
      match firstBillet (s.anvil.ready.filter fun b => s.inTime t (s.samplesOf b) (s.startDt t) b.deadline) with
      | none => s
      | some b => s.startBillet t b

/-- BILLET_ABANDON i: the i-th ready billet can no longer meet its deadline, or no tile is in service (R331). -/
def execBilletAbandon (d i : Nat) (s : State) : Host.Outcome State Fault Refusal :=
  cmd true d s fun s => s.press fun s =>
    match s.anvil.ready[i]? with
    | none => s
    | some b =>
      let tiles := s.tilesInService
      if tiles.isEmpty then s.abandonBillet b 5
      else if tiles.any (fun t => s.inTime t (s.samplesOf b) s.dt b.deadline) then s
      else s.abandonBillet b s.abandonCause

/-! ### Host commands -/

/-- The other bank of a profile becomes active for later billets (R233). -/
def State.modelCommit (s : State) (p : Nat) : State := s.wr F.MODEL_ACTIVE_BANK (s.rd F.MODEL_ACTIVE_BANK ^^^ 2 ^ p)

/-- ANVIL_CNT and CMP_COUNT read 0 (R250). -/
def State.anvilClear (s : State) : State :=
  let s := (List.range 136).foldl (fun s n => s.clrAll [F.ANVIL_CNT_BILLETS, F.ANVIL_CNT_MSAMPLES] n) s
  let s := { s with anvil := { s.anvil with part := [] } }
  (List.range 256).foldl (fun s h => s.clrAll [F.CMP_COUNT_NOT_COMPARED, F.CMP_COUNT_COMPARED] h) s

/-- MODEL_COMMIT p: MODEL_CTL with OP COMMIT makes the other bank of a profile active (R233). -/
def execModelCommit (d p : Nat) (s : State) : Host.Outcome State Fault Refusal :=
  cmd (decide (p < 16)) d s fun s => s.hostWrite F.MODEL_CTL_OP.addr fun s => s.press fun s =>
    s.modelCommit p

/-- Compare of a logical Hearth ends: its ready billets are written as DISCARDED (R258). -/
def State.compareDisable (s : State) (h : Nat) : State := (s.wr F.CMP_CFG_ENABLE 0 h).discardBillets h

/-- COMPARE_DISABLE h: a write of CMP_CFG.ENABLE = 0 (R258). -/
def execCompareDisable (d h : Nat) (s : State) : Host.Outcome State Fault Refusal :=
  cmd (decide (h < 256)) d s fun s => s.hostWrite (F.CMP_CFG_ENABLE.at_ h) fun s =>
    if s.on F.CMP_CFG_ENABLE h then s.compareDisable h else s

/-- ANVIL_CLEAR_COUNTS: ANVIL_GCTL.CLEAR_COUNTS clears ANVIL_CNT and CMP_COUNT. -/
def execAnvilClearCounts (d : Nat) (s : State) : Host.Outcome State Fault Refusal :=
  cmd true d s fun s => s.hostWrite F.ANVIL_GCTL_CLEAR_COUNTS.addr State.anvilClear

end Sys2Proof.Machine
end

