-- ==== Sys2Proof/Machine/Lanes.lean ====
section
/-!
DEFINITION. Cobex lanes (chapter 4): bring-up, block lock, the block layer, trim and figure of merit, electrical idle, test
machinery, and the spare slice of a lane group.
-/

namespace Sys2Proof.Machine

/-! ### Slices, pads and groups -/

/-- STATE of a slice (R117). -/
def State.laneSt (s : State) (k : Nat) : Nat := s.rd F.LANE_STATE_STATE k

/-- One lane group beside its registers. -/
def State.lgrp (s : State) (g : Nat) : GroupS := s.groups.getD g {}

/-- Update one lane group. -/
def State.setLgrp (s : State) (g : Nat) (x : GroupS) : State := { s with groups := s.groups.put g x {} }

/-- The group's spare is parked and no substitution has claimed it (R136, R139). -/
def State.spareFree (s : State) (g : Nat) : Bool :=
  decide (s.rd F.LGRP_SPARE_SPARE_STATE g = 0 ∧ s.rd F.LGRP_SPARE_SPARE_SLICE g ≠ 0x1F) && (s.lgrp g).pad.isNone

/-- The physical spare slice of a group. -/
def State.spareSlice (s : State) (g : Nat) : Nat := 17 * g + s.rd F.LGRP_SPARE_SPARE_SLICE g

/-- The table entry of a logical lane has PRESENT set at the configured rate of its slice (R117, R123). -/
def State.present (s : State) (k l : Nat) : Bool := decide (bit (s.eqByte (s.rd F.LANE_CFG_RATE k) l 7) 0 = 1)

/-- A slice loads its equaliser from the table entry of a logical lane and rate, with trim offsets 0 (R119). -/
def State.loadEqAt (s : State) (k l rate : Nat) : State :=
  let s := (s.wr F.LANE_EQ_CTLE (s.eqByte rate l 0) k).wr F.LANE_EQ_DFE1 (s.eqByte rate l 1) k
  (s.wr F.LANE_EQ_CTLE_TRIM 0 k).wr F.LANE_EQ_DFE1_TRIM 0 k

/-- A slice loads its equaliser from the entry of a logical lane at its configured rate (R119). -/
def State.loadEq (s : State) (k l : Nat) : State := s.loadEqAt k l (s.rd F.LANE_CFG_RATE k)

/-- A listen begins anew: the streams are to be aligned and compared (R137). -/
def GroupS.restart (x : GroupS) : GroupS :=
  { x with serveQ := [], spareQ := [], aligned := false, cmpN := 0, cmpDiff := 0, cmpBad := false }

/-- The spare of a group returns to parked: a listen ends without a switch. -/
def State.listenEnd (s : State) (g : Nat) : State :=
  let k := s.spareSlice g
  let x := s.lgrp g
  if x.pad.isNone then s else
    let s := s.setLgrp g { x.restart with pad := none, restarts := 0, byLoss := false, cause := 4 }
    let s := ((s.wr F.LANE_STATE_LISTEN 0 k).wr F.LANE_STATE_SPARE 1 k).wr F.LGRP_SPARE_SPARE_STATE 0 g
    let s := s.setLane k { s.lane k with good := 0, winN := 0, winBad := 0, winFail := false }
    (s.wr F.LANE_STATE_CDR_LOCK 0 k).wr F.LANE_STATE_BLOCK_LOCK 0 k

/-- A listen on behalf of a slice ends: its lane has left ACTIVE and RELOCK. -/
def State.listenDrop (s : State) (k : Nat) : State :=
  let g := k / 17
  if (s.lgrp g).pad = some (s.rd F.LANE_STATE_PAD k) then s.listenEnd g else s

/-! ### States of bring-up -/

/-- What the pattern code of LANE_TEST makes a transmitter send (R132). -/
def testFill (code : Nat) : Nat := if within 1 code 3 then 8 + code else if code = 4 then 4 else if code = 5 then 2 else 1

/-- The transmitter of a slice in TEST (R132, R133): its pattern on the pads, or only inside the slice in a near loop, or nothing of its own
in the far loop. A PRBS generator starts in a state that the spec leaves open. [DESIGN CHOICE, log 76] -/
def State.txTest (s : State) (k : Nat) : State :=
  let code := s.rd F.LANE_TEST_TX_PATTERN k
  let loop := s.rd F.LANE_TEST_LOOP k
  let s := if within 1 code 3 && decide ((s.lane k).tx.fill ≠ testFill code) then
      let r := s.fresh 31
      (r.2.txSync k).setLane k { (r.2.txSync k).lane k with tx := { ((r.2.txSync k).lane k).tx with prbs := prbsSeed code r.1 } }
    else s
  s.txTo k (if loop = 3 then 0 else testFill code) (decide (loop = 0)) (s.on F.LANE_STATE_BLOCK_LOCK k)

/-- The transmitter of a slice as its state asks (R118, R129, R132): TRAIN blocks in DETECT, TRAIN, LOCK and a HELD that a timeout led to;
16 more of them and then IDLE once LOCK is left toward CAPS or HELD; IDLE until the link has traffic in the states after.
[DEDUCED, log 95] -/
def State.txState (s : State) (k old : Nat) : State :=
  let st := s.laneSt k
  let locked := s.on F.LANE_STATE_BLOCK_LOCK k
  let idle := (s.lane k).tx.idle
  if st = 0 ∨ st = 0xB then s.txTo k 0 false locked
  else if st = 0xA then s.txTest k
  else if within 1 st 3 || (decide (st = 9) && decide (old ≠ 3)) then s.txTo k 2 true locked
  else if (st = 4 ∨ st = 9) ∧ (s.lane k).tx.fill = 2 then ((s.txTo k 1 true locked).txTrain k 16 1)
  else s.txTo k 1 (!idle) locked

/-- A slice takes a state of R117; its transmitter and the bond of its lane follow (R118, R149). Out of ACTIVE it
is at the safe point of function 0x01 (R44). -/
def State.toLane (s : State) (k st : Nat) : State :=
  let old := s.laneSt k
  let s := (s.wr F.LANE_STATE_STATE st k).setLane k { s.lane k with since := s.clk, good := 0 }
  let s := s.txState k old
  let s := match s.laneOf k with
    | some l => if old = 5 ∧ st ≠ 5 then s.safePoint 1 l fun s => s.closeReqs 1 (srcNo 5 l) else s
    | none => s
  match s.laneOf k with
  | none => s
  | some l =>
    if st = 4 then s.portCaps l
    else if st = 5 then s.portActive l
    else if st = 6 then s
    else if st = 7 then (s.portIdle l).listenDrop k
    else if st = 8 then s
    else if within 5 old 8 then (s.portLeft l).listenDrop k
    else if old = 4 then s.setPort l { s.port l with entered := false, capsOk := false }
    else s

/-- BLOCK_LOCK of a slice changes, and with it RX_LOCKED of the TRAIN blocks that it sends (R118). Each hunt starts anew. -/
def State.setLock (s : State) (k v : Nat) : State :=
  let s := s.wr F.LANE_STATE_BLOCK_LOCK v k
  let x := s.lane k
  let s := s.setLane k { x with synced := false, trainRun := 0, eidle := [], good := 0, winN := 0, winBad := 0, winFail := false }
  if (s.laneOf k).isSome ∧ x.tx.fill = 2 then s.txTo k 2 x.tx.pads (decide (v = 1)) else s

/-- A receiver is at rest: no clock and no block lock, and trimming is not frozen. -/
def State.rxOff (s : State) (k : Nat) : State :=
  ((s.wr F.LANE_STATE_CDR_LOCK 0 k).setLock k 0).wr F.LANE_STATE_TRIM_FROZEN 0 k

/-- TRAIN is entered: the equaliser is loaded, and a new rate takes effect (R119, LANE_CFG). -/
def State.toTrain (s : State) (k : Nat) : State :=
  let s := s.toLane k 2
  let s := s.inc F.LANE_EVTCNT_TRAINS k
  let s := (s.loadEq k ((s.laneOf k).getD 0)).txSync k
  (s.setLane k { s.lane k with rate := s.rd F.LANE_CFG_RATE k, trimN := 0, idleRun := 0 }).rxOff k

/-- DETECT is entered. -/
def State.toDetect (s : State) (k : Nat) : State := (s.toLane k 1).rxOff k

/-- The domain of a lane group is on: neither gated nor off (R117, R342). -/
def State.groupOn (s : State) (g : Nat) : Bool := decide (s.rd F.BLW_DOM_LEVEL g ≤ 1)

/-- A slice may leave OFF: it is enabled, its table entry is present, its domain is on, and it serves a pad pair (R117). -/
def State.mayRun (s : State) (k : Nat) : Bool :=
  s.on F.LANE_CFG_ENABLE k && s.groupOn (k / 17) && (match s.laneOf k with
    | some l => s.present k l
    | none => false)

/-- A slice leaves OFF when it may; work at a banked domain wakes it (R117, R345). It leaves with the configured rate. [DESIGN CHOICE, log 95] -/
def State.laneOn (s : State) (k : Nat) : State :=
  let s := if s.on F.LANE_CFG_ENABLE k then s.beginExit (k / 17) else s
  if s.laneSt k = 0 ∧ s.mayRun k then (s.setLane k { s.lane k with rate := s.rd F.LANE_CFG_RATE k }).toDetect k else s

/-- A slice goes to OFF: ENABLE is 0 or its domain goes off (R117). A FAILED slice stays FAILED. [DESIGN CHOICE, log 76] -/
def State.laneOff (s : State) (k : Nat) : State :=
  if s.laneSt k = 0xB then s else
    let s := match s.laneOf k with
      | some l => s.closeReqs 1 (srcNo 5 l)
      | none => s
    ((s.toLane k 0).rxOff k).wr F.LANE_STATE_SIGNAL 0 k

/-- LANE_CFG as it reads. -/
def State.laneCfgWord (s : State) (k : Nat) : Nat := s.word R.LANE_CFG.desc.flds k 0

/-- LANE_ENABLE: LANE_CFG.ENABLE is set (R117). -/
def execLaneEnable (d k : Nat) (s : State) : Host.Outcome State Fault Refusal :=
  cmd (decide (k < 544)) d s fun s => 
    s.hostHold (F.LANE_CFG_ENABLE.at_ k) 4 (s.laneCfgWord k ||| 1) fun s =>
      (s.wr F.LANE_CFG_ENABLE 1 k).press fun s => s.laneOn k

/-! ### Function 0x01 -/

/-- The PROPOSAL of function 0x01 (R122). -/
def State.laneProposal (s : State) (k l action target : Nat) : Bytes :=
  let x := s.lane k
  le 2 l ++ le 1 (k % 17) ++ le 1 action ++ le 1 target ++ le 1 x.rate ++ le 1 (s.rd F.LANE_FOM_FOM k)
    ++ le 1 (s.rd F.LANE_FOM_FOM_REF k) ++ le 4 (min x.invActive (2 ^ 32 - 1)) ++ le 2 (min x.lossActive 65535) ++ zeros 18

/-- A group without a parked spare meets a rule of R136, or a claim of a spare already claimed (R136, R139). -/
def State.noSpare (s : State) (g : Nat) : State :=
  (s.flag F.LGRP_STATUS_SPARE_EXHAUSTED g).err 0x1D (srcNo 0x12 0) (detail [3, g])

/-- The spare of a group is claimed for a pad pair: a substitution is applied (R137 to R140). Without a parked spare it is answered by
SPARE_EXHAUSTED (R136, R139). Of the requests of one cycle the lowest pad pair has the spare, whatever their order (R139). -/
def State.claimSpare (s : State) (g pad cause : Nat) (byLoss : Bool) : State :=
  let x := s.lgrp g
  let sooner := match x.pad with
    | some q => decide (pad < q ∧ x.claimAt = s.clk ∧ s.rd F.LGRP_SPARE_SPARE_STATE g = 0)
    | none => false
  let claim := fun (s : State) =>
    s.setLgrp g { (s.lgrp g).restart with pad := some pad, restarts := 0, byLoss := byLoss, cause := cause, claimAt := s.clk }
  if s.spareFree g then claim s
  else if sooner then (claim s).noSpare g
  else s.noSpare g

/-- Enter CAPS (R117). -/
def State.toCaps (s : State) (k : Nat) : State := s.toLane k 4

/-- An action of function 0x01 is applied to a lane (R121): 1 enter CAPS, which R117 gives from HELD only; 2 retrain; 3 substitute the
spare. A HELD lane leaves HELD whatever the action: with action 3 it goes on as its PROPOSAL asked, while the spare is claimed.
[DESIGN CHOICE, log 75] -/
def State.laneAction (s : State) (l proposed action : Nat) (byLoss : Bool) : State :=
  let k := s.sliceOf l
  let st := s.laneSt k
  let held := decide (st = 9)
  let move := fun (s : State) (a : Nat) => if a = 1 then s.toCaps k else s.toTrain k
  if action = 1 then if held then s.toCaps k else s
  else if action = 2 then if st = 0 ∨ st = 0xA ∨ st = 0xB then s else s.toTrain k
  else (if held then move s proposed else s).claimSpare (l / 16) (l % 16) 4 byLoss

/-- In host-assisted mode a lane that asks goes to HELD; a request that cannot be posted takes its PROPOSAL at once
(R38, R121). [DESIGN CHOICE, log 75] -/
def State.laneAsk (s : State) (k l reason action : Nat) : State :=
  let s := if reason ≤ 2 then s.toLane k 9 else s
  let target := if action = 3 then s.rd F.LGRP_SPARE_SPARE_SLICE (l / 16) else 0xFF
  let r := s.post 1 (srcNo 5 l) reason (s.laneProposal k l action target)
  if r.1 then r.2 else r.2.laneAction l action action false

/-- A timeout of bring-up (R117, R121): in hardware mode the state that R117 gives follows; in host-assisted mode a request with
REASON 0x02 is posted. -/
def State.laneFailed (s : State) (k : Nat) (next : State → State) : State :=
  match s.laneOf k with
  | none => next s
  | some l => if s.hwMode 1 (l) then next s else s.laneAsk k l 2 2

/-- A slice meets a degradation rule, or its lane has lost lock with SPARE_ON_LOSS (R121, R136, R138): reason 0x03 or 0x04. A spare that
listens already for a lane that loses lock goes on as R138 says. A loss that finds no parked spare sets SPARE_EXHAUSTED as a
degradation does. [DESIGN CHOICE, log 75] -/
def State.laneSpare (s : State) (k l reason : Nat) : State :=
  let g := l / 16
  let x := s.lgrp g
  if x.pad = some (l % 16) then
    if reason = 4 ∧ s.hwMode 1 l then s.setLgrp g { x with byLoss := true } else s
  else if s.reqOpen 1 (srcNo 5 l) then s
  else if s.hwMode 1 l then s.claimSpare g (l % 16) 4 (decide (reason = 4))
  else if !s.spareFree g then s.noSpare g
  else s.laneAsk k l reason 3

/-- Whether the argument of a VERDICT 0x03 reply of function 0x01 is in range (R122). -/
def State.laneArgOk (s : State) (l arg : Nat) : Bool :=
  let action := bits arg 7 0
  let target := bits arg 12 8
  decide (arg < 2 ^ 18 ∧ bits arg 15 13 = 0 ∧ 1 ≤ action ∧ action ≤ 3 ∧ target ≤ 16
    ∧ bits arg 17 16 = s.rd F.LANE_CFG_RATE (s.sliceOf l))
    && (decide (action ≠ 3) || (s.spareFree (l / 16) && decide (target = s.rd F.LGRP_SPARE_SPARE_SLICE (l / 16))))

/-- A request of function 0x01 resolves (R121): the PROPOSAL or the ARGUMENT is applied. A decline keeps the lane out of ACTIVE: a HELD lane
goes to DETECT. [DESIGN CHOICE, log 75] -/
def State.laneResolve (s : State) (l : Nat) (proposal : Bytes) (verdict arg : Nat) : State :=
  let proposed := leAt proposal 3 1
  if verdict = 1 then s.laneAction l proposed proposed false
  else if verdict = 3 then s.laneAction l proposed (bits arg 7 0) false
  else if s.laneState l = 9 then s.toDetect (s.sliceOf l)
  else s

/-! ### Bring-up events -/

/-- SIGNAL_DETECT: SIGNAL has been held for 10 µs in DETECT (R117). -/
def execSignalDetect (d k : Nat) (s : State) : Host.Outcome State Fault Refusal :=
  cmd (decide (k < 544)) d s fun s => s.press fun s =>
    let s := s.wr F.LANE_STATE_SIGNAL 1 k
    if s.laneSt k = 1 then s.toTrain k else s

/-- CDR_LOCK: the receiver's clock locks, in TRAIN, in EXIT with the held equaliser, in TEST, or at a listening spare (R117, R130, R132,
R137). -/
def execCdrLock (d k : Nat) (s : State) : Host.Outcome State Fault Refusal :=
  cmd (decide (k < 544)) d s fun s => s.press fun s =>
    let st := s.laneSt k
    if st = 2 then (s.wr F.LANE_STATE_CDR_LOCK 1 k).toLane k 3
    else if st = 8 ∨ st = 0xA ∨ s.on F.LANE_STATE_LISTEN k then s.wr F.LANE_STATE_CDR_LOCK 1 k
    else s

/-- The positions that a lane lost between a loss of lock and now, as error blocks of the link (R120, R148): the blocks that its receiver
framed meanwhile are there already, and the rest follows from the time that has passed. -/
def State.fillGap (s : State) (k l : Nat) : State :=
  let x := s.lane k
  let n := (s.now10 - 100 * x.lossClk) / blockTime x.rate
  let s := (List.range (n - x.lossN)).foldl (fun s _ => s.toLink l (0, 0, s.dt)) s
  s.setLane k { s.lane k with lossN := 0 }

/-- Lock is regained by the serving slice (R120, R138): the lost blocks are one gap. [DESIGN CHOICE, log 74] -/
def State.regain (s : State) (k : Nat) : State :=
  let g := k / 17
  let pad := s.rd F.LANE_STATE_PAD k
  let s := if (s.lgrp g).pad = some pad && (s.lgrp g).byLoss then s.listenEnd g else s
  let s := match s.laneOf k with
    | some l => (s.inc F.COBEX_ERRCNT_GAPS l).fillGap k l
    | none => s
  s.toLane k 5

/-- A fast exit completes (R130); a proposal that electrical idle broke off is made again (R139). -/
def State.exitDone (s : State) (k : Nat) : State :=
  let g := k / 17
  let s := (s.inc F.LANE_EVTCNT_EXITS k).toLane k 5
  match s.laneOf k with
  | none => s
  | some l =>
    let x := s.lgrp g
    if l % 16 ∈ x.again then
      (s.setLgrp g { x with again := x.again.filter (· ≠ l % 16) }).laneSpare k l 3
    else s

/-- Valid headers in a row that block lock needs (R115, R130, R137): 8 in a fast exit, else 64. -/
def State.goodNeeded (s : State) (k : Nat) : Nat := if s.laneSt k = 8 then 8 else 64

/-- The hunt of a receiver runs: in LOCK, RELOCK, EXIT and TEST, and at a listening spare; not while block lock is held (R115). -/
def State.hunting (s : State) (k : Nat) : Bool :=
  !s.on F.LANE_STATE_BLOCK_LOCK k && (decide (s.laneSt k ∈ [3, 6, 8, 0xA]) || s.on F.LANE_STATE_LISTEN k)

/-- BLOCK_LOCK: the hunt has seen the valid headers that it needs, and block lock is held (R115). In RELOCK and EXIT the lane enters
ACTIVE. -/
def execBlockLock (d k : Nat) (s : State) : Host.Outcome State Fault Refusal :=
  cmd (decide (k < 544)) d s fun s => s.press fun s =>
    let st := s.laneSt k
    if s.hunting k && decide (s.goodNeeded k ≤ (s.lane k).good) then
      let s := s.setLock k 1
      if st = 6 then s.regain k else if st = 8 then s.exitDone k else s
    else s

/-- Block lock ends (R116): in ACTIVE the lane enters RELOCK, the blocks of the failing window are lost, and its spare may listen
(R120, R138). -/
def State.lockLost (s : State) (k : Nat) : State :=
  let s := (s.flag F.LANE_STATUS_LOCK_LOST k).inc F.LANE_ERRCNT_LOCK_LOSSES k
  let x := s.lane k
  let s := s.setLock k 0
  let s := s.setLane k { s.lane k with lossActive := x.lossActive + 1 }
  if s.laneSt k = 5 then
    let s := s.toLane k 6
    let s := s.setLane k { s.lane k with lossClk := s.clk, lossN := 0 }
    match s.laneOf k with
    | none => s
    | some l =>
      let s := (s.loseTail l x.winN).portLost l
      if s.on F.LANE_CFG_SPARE_ON_LOSS k then s.laneSpare k l 4 else s
  else s

/-- LOCK_WINDOW_LOSS: a window of 64 blocks has ended with 16 or more invalid headers (R116). -/
def execLockWindowLoss (d k : Nat) (s : State) : Host.Outcome State Fault Refusal :=
  cmd (decide (k < 544)) d s fun s => s.press fun s =>
    if s.on F.LANE_STATE_BLOCK_LOCK k && (s.lane k).winFail then s.lockLost k else s

/-- LOSS_OF_SIGNAL: signal is lost; in ACTIVE without EIDLE blocks that is a loss of lock (R129). -/
def execLossOfSignal (d k : Nat) (s : State) : Host.Outcome State Fault Refusal :=
  cmd (decide (k < 544)) d s fun s => s.press fun s =>
    let s := s.wr F.LANE_STATE_SIGNAL 0 k
    if s.laneSt k = 5 then (s.flag F.LANE_STATUS_LOS k).lockLost k else s

/-- A timeout of bring-up is due. [DESIGN CHOICE, log 3] -/
def State.laneDue (s : State) (k st ns : Nat) : Bool := decide (s.laneSt k = st) && s.due (s.lane k).since ns

/-- TRAIN_TIMEOUT: TRAIN has lasted 2 ms (R117). -/
def execTrainTimeout (d k : Nat) (s : State) : Host.Outcome State Fault Refusal :=
  cmd (decide (k < 544)) d s fun s => s.press fun s =>
    if s.laneDue k 2 2000000 then (s.flag F.LANE_STATUS_TRAIN_TIMEOUT k).laneFailed k (·.toDetect k) else s

/-- LOCK_TIMEOUT: LOCK has lasted 1 ms (R117). -/
def execLockTimeout (d k : Nat) (s : State) : Host.Outcome State Fault Refusal :=
  cmd (decide (k < 544)) d s fun s => s.press fun s =>
    if s.laneDue k 3 1000000 then (s.flag F.LANE_STATUS_LOCK_TIMEOUT k).laneFailed k (·.toTrain k) else s

/-- CAPS_TIMEOUT: CAPS has lasted 100 ms (R117). -/
def execCapsTimeout (d k : Nat) (s : State) : Host.Outcome State Fault Refusal :=
  cmd (decide (k < 544)) d s fun s => s.press fun s =>
    if s.laneDue k 4 100000000 then (s.flag F.LANE_STATUS_CAPS_TIMEOUT k).laneFailed k (·.toDetect k) else s

/-- RELOCK_TIMEOUT: RELOCK has lasted 2 µs (R117, R120). -/
def execRelockTimeout (d k : Nat) (s : State) : Host.Outcome State Fault Refusal :=
  cmd (decide (k < 544)) d s fun s => s.press fun s =>
    if s.laneDue k 6 2000 then (s.inc F.LANE_ERRCNT_RELOCK_FAIL k).laneFailed k (·.toDetect k) else s

/-- EXIT_DETECT: signal is detected in EIDLE (R130). -/
def execExitDetect (d k : Nat) (s : State) : Host.Outcome State Fault Refusal :=
  cmd (decide (k < 544)) d s fun s => s.press fun s =>
    if s.laneSt k = 7 then (s.wr F.LANE_STATE_SIGNAL 1 k).toLane k 8 else s

/-- EXIT_FAIL: no lock by the end of the burst of 32 blocks plus 64 blocks (R130). -/
def execExitFail (d k : Nat) (s : State) : Host.Outcome State Fault Refusal :=
  cmd (decide (k < 544)) d s fun s => s.press fun s =>
    if s.laneDue k 8 (cdiv (96 * blockTime (s.lane k).rate) 100) then
      (s.flag F.LANE_STATUS_EXIT_FAIL k).laneFailed k (·.toTrain k)
    else s

/-- TX_EXIT: the transmitter reaches valid swing and sends its burst of 32 TRAIN blocks with EXIT set before any other block (R130). -/
def execTxExit (d k : Nat) (s : State) : Host.Outcome State Fault Refusal :=
  cmd (decide (k < 544)) d s fun s => s.press fun s =>
    let x := s.lane k
    if x.tx.idle ∧ (s.laneOf k).isSome then
      let s := s.setLane k { x with tx := { x.tx with idle := false } }
      (s.txTo k 1 true x.tx.locked).txTrain k 32 (2 + b2n (s.on F.LANE_STATE_BLOCK_LOCK k))
    else s

/-! ### The block layer -/

/-- Descramble one payload (R112): the payload, and the last 58 line bits. -/
def descramble (hist c : Nat) : Nat × Nat :=
  let big := c * 2 ^ 58 + hist
  ((c ^^^ (big >>> 19) ^^^ big) % 2 ^ 64, big >>> 64)

/-- The control blocks that travel downstream (R145). -/
def downTypes : List Nat := [0x1E, 0x2D, 0x33, 0x66, 0x78, 0x87, 0x99, 0xAA, 0xC3, 0xCC, 0xD2, 0xE1, 0xF0]

/-- LOCK is left with both sides locked (R117, R121). -/
def State.lockLeft (s : State) (k : Nat) : State :=
  match s.laneOf k with
  | none => s
  | some l => if s.hwMode 1 l then s.toCaps k else s.laneAsk k l 1 1

/-- A TRAIN block is received (R113, R117, R119). -/
def State.trainBlock (s : State) (k payload : Nat) : State :=
  let x := s.lane k
  let x := { x with eidle := (false :: x.eidle).take 3 }
  if bits payload 23 16 ≠ x.rate then (s.setLane k { x with trainRun := 0 }).inc F.LANE_EVTCNT_RATE_MISMATCH k
  else
    let run := if bit payload 8 = 1 then x.trainRun + 1 else 0
    let s := s.setLane k { x with trainRun := run }
    if s.laneSt k = 3 ∧ 16 ≤ run then s.lockLeft k else s

/-- An EIDLE block is received (R129): two within four consecutive blocks idle a receiver in ACTIVE, which holds its equaliser, its trim,
FOM_REF and its boundary phase. A listen for it is abandoned, and its proposal made again after the next EXIT (R139). -/
def State.eidleBlock (s : State) (k : Nat) : State :=
  let x := s.lane k
  let two := x.eidle.any id
  let s := s.setLane k { x with trainRun := 0, eidle := (true :: x.eidle).take 3 }
  if s.laneSt k = 5 ∧ two then
    let g := k / 17
    let pad := s.rd F.LANE_STATE_PAD k
    let gx := s.lgrp g
    let s := if gx.pad = some pad then (s.listenEnd g).setLgrp g { (s.listenEnd g).lgrp g with again := gx.again ++ [pad] } else s
    let s := (s.inc F.LANE_EVTCNT_EIDLE_ENTRIES k).toLane k 7
    ((s.wr F.LANE_STATE_SIGNAL 0 k).wr F.LANE_STATE_CDR_LOCK 0 k).setLock k 0
  else s

/-- A block that is neither TRAIN nor EIDLE breaks their runs. -/
def State.otherBlock (s : State) (k : Nat) : State :=
  let x := s.lane k
  s.setLane k { x with trainRun := 0, eidle := (false :: x.eidle).take 3 }

/-- A data block in ACTIVE (R126, R127): it ends a run of IDLE blocks and a freeze, and counts toward the trim decision. -/
def State.trimData (s : State) (k : Nat) : State :=
  if s.laneSt k ≠ 5 then s else
    let x := s.lane k
    let n := if s.on F.LANE_STATE_TRIM_FROZEN k then 1 else if s.on F.LANE_CFG_TRIM_EN k then x.trimN + 1 else 0
    (s.setLane k { x with idleRun := 0, trimN := n }).wr F.LANE_STATE_TRIM_FROZEN 0 k

/-- An IDLE block in ACTIVE counts toward the freeze (R127). -/
def State.trimIdle (s : State) (k : Nat) : State :=
  if s.laneSt k ≠ 5 then s else s.setLane k { s.lane k with idleRun := (s.lane k).idleRun + 1 }

/-- An invalid header in ACTIVE (R114), and the rule of R136 on invalid headers. -/
def State.badHeader (s : State) (k : Nat) : State :=
  if s.laneSt k ≠ 5 then s else
    let s := s.inc F.LANE_ERRCNT_INVALID_HDR k
    let x := s.lane k
    let s := s.setLane k { x with invActive := x.invActive + 1, invPeriod := x.invPeriod + 1 }
    match s.laneOf k with
    | some l => if x.invPeriod = s.rd F.LANE_CFG_ERR_LIMIT k then s.laneSpare k l 3 else s
    | none => s

/-- One received bit at a PRBS checker (R132): unsynchronised, the reference is the received bits; synchronised, it runs
free. Answers the checker and how many bits and errors are counted. -/
def prbsBit (code : Nat) (st : LaneS × Bool × Nat × Nat) (b : Nat) : LaneS × Bool × Nat × Nat :=
  let (x, sync, n, e) := st
  let t := prbsTaps code
  let want := (bit x.chkHist (t.1 - 1) + bit x.chkHist (t.2 - 1)) % 2
  let wrong := decide (want ≠ b)
  if sync then
    let bits := x.chkBits + 1
    let errs := x.chkErrs + b2n wrong
    let hist := (2 * x.chkHist + want) % 2 ^ 31
    if 32 ≤ errs then ({ x with chkHist := hist, chkRun := 0, chkBits := 0, chkErrs := 0 }, false, n + 1, e + b2n wrong)
    else
      let full := decide (1024 ≤ bits)
      ({ x with chkHist := hist, chkBits := if full then 0 else bits, chkErrs := if full then 0 else errs },
        true, n + 1, e + b2n wrong)
  else
    let run := if wrong then 0 else x.chkRun + 1
    ({ x with chkHist := (2 * x.chkHist + b) % 2 ^ 31, chkRun := run, chkBits := 0, chkErrs := 0 },
      decide (64 ≤ run), n, e)

/-- The raw bits of a block, first bit first (R111). -/
def blockBits (hdr payload : Nat) : List Nat := [bit hdr 0, bit hdr 1] ++ (List.range 64).map (bit payload)

/-- The payload of a block check (R132): what a TRAIN or IDLE block holds. -/
def checkPayload (code : Nat) (x : LaneS) (payload : Nat) : Bool :=
  if code = 6 then decide (payload = 0x1E)
  else decide (bits payload 7 0 = 0x2D ∧ bits payload 15 10 = 0 ∧ bits payload 23 16 = x.rate ∧ bits payload 63 48 = 0)
    && (decide (x.chkHist = 0) || decide (bits payload 31 24 = x.chkHist % 256))

/-- Add to the counts of a checker. -/
def State.chkCount (s : State) (k n e : Nat) : State :=
  (s.inc F.LANE_CHK_BITS_COUNT k 0 n).inc F.LANE_CHK_ERRS_COUNT k 0 e

/-- 66 line bits reach the PRBS checker of a slice in TEST (R132). [DESIGN CHOICE, log 76] -/
def State.checkBits (s : State) (k hdr raw : Nat) : State :=
  let r := (blockBits hdr raw).foldl (prbsBit (s.rd F.LANE_TEST_RX_CHECK k)) (s.lane k, s.on F.LANE_TEST_CHK_SYNC k, 0, 0)
  ((s.setLane k r.1).wr F.LANE_TEST_CHK_SYNC (b2n r.2.1) k).chkCount k r.2.2.1 r.2.2.2

/-- A block reaches the block checker of a slice in TEST (R132). [DESIGN CHOICE, log 76] -/
def State.checkBlock (s : State) (k hdr payload : Nat) (synced : Bool) : State :=
  let code := s.rd F.LANE_TEST_RX_CHECK k
  let x := s.lane k
  if (code = 5 ∨ code = 6) ∧ synced then
    let wrong := !checkPayload code x payload
    let s := s.setLane k { x with chkHist := if code = 5 then bits payload 31 24 + 1 else 0 }
    s.chkCount k 1 (b2n (decide (hdr ≠ 2)) + b2n wrong)
  else s

/-- The receive path after the deserialiser corrupts blocks while an injection is armed (R135). -/
def State.injectRx (s : State) (k hdr payload : Nat) : (Nat × Nat) × State :=
  let x := s.lane k
  if 0 < x.inject then
    (corrupt (s.rd F.LANE_INJECT_KIND k) (s.injectPos k) hdr payload,
      (s.setLane k { x with inject := x.inject - 1, injN := x.injN + 1 }).inc F.LANE_INJECTED_INJECTED k)
  else ((hdr, payload), s.setLane k { x with injN := x.injN + 1 })

/-- The window of R116 and the period of R124 take a block of a receiver that holds block lock. -/
def LaneS.count (x : LaneS) (hdr : Nat) : LaneS :=
  let n := x.winN + 1
  let bad := x.winBad + b2n (decide (hdr ≠ 1 ∧ hdr ≠ 2))
  let x := { x with fomN := x.fomN + 1 }
  if n < 64 then { x with winN := n, winBad := bad }
  else if 16 ≤ bad then { x with winN := n, winBad := bad, winFail := true }
  else { x with winN := 0, winBad := 0 }

/-- What the link gets of a block of its lane (R114, R151): in CAPS the packet of the capability exchange, in ACTIVE a position of the
stream. -/
def State.passBlock (s : State) (k hdr pay : Nat) : State :=
  match s.laneOf k with
  | none => s
  | some l =>
    let b : Blk := if hdr = 1 ∨ hdr = 2 then (hdr, pay, s.dt) else (0, 0, s.dt)
    if s.laneSt k = 4 then s.toCapsRx l b else if s.laneSt k = 5 ∨ s.laneSt k = 6 then s.toLink l b else s

/-- A group that compares two streams takes the next block of one of them (R137). Before they are aligned it keeps the last 12 blocks of
each, and aligns them where the last 4 of one match 4 consecutive ones of the other within 8 positions; after that it compares 256. -/
def GroupS.feed (x : GroupS) (spare : Bool) (b : Nat × Nat) : GroupS :=
  if x.aligned then
    let x := if spare then { x with spareQ := x.spareQ ++ [b] } else { x with serveQ := x.serveQ ++ [b] }
    match x.serveQ, x.spareQ with
    | a :: as_, c :: cs =>
      let x := { x with serveQ := as_, spareQ := cs }
      if 256 ≤ x.cmpN then x
      else { x with cmpN := x.cmpN + 1, cmpDiff := x.cmpDiff + b2n (decide (a ≠ c)),
                    cmpBad := x.cmpBad || decide (c.1 ≠ 1 ∧ c.1 ≠ 2) }
    | _, _ => x
  else
    let x := if spare then { x with spareQ := (b :: x.spareQ).take 12 } else { x with serveQ := (b :: x.serveQ).take 12 }
    let at_ := fun (a c : List (Nat × Nat)) => (List.range 9).find? fun o =>
      decide (4 ≤ a.length ∧ 4 ≤ (c.drop o).length ∧ a.take 4 = (c.drop o).take 4)
    match at_ x.spareQ x.serveQ, at_ x.serveQ x.spareQ with
    | some o, _ => { x with aligned := true, serveQ := (x.serveQ.take o).reverse, spareQ := [] }
    | none, some o => { x with aligned := true, serveQ := [], spareQ := (x.spareQ.take o).reverse }
    | none, none => x

/-- A listen in progress takes a block of its serving slice or of its spare (R137). -/
def State.listenFeed (s : State) (k hdr pay : Nat) : State :=
  let g := k / 17
  let x := s.lgrp g
  let spare := s.on F.LANE_STATE_LISTEN k
  match x.pad with
  | none => s
  | some pad =>
    if s.rd F.LGRP_SPARE_SPARE_STATE g = 1 ∧ !x.byLoss ∧ s.on F.LANE_STATE_BLOCK_LOCK (s.spareSlice g)
        ∧ (spare ∨ s.rd F.LANE_STATE_PAD k = pad) then
      let x := x.feed spare (hdr, pay)
      (s.setLgrp g x).wr F.LGRP_SPARE_LISTEN_MISMATCH (min x.cmpDiff 255) g
    else s

/-- What the lane layer makes of a block of a lane that serves (R113, R114, R117, R145). -/
def State.serveBlock (s : State) (k hdr pay : Nat) (synced : Bool) : State :=
  if hdr = 1 then (s.otherBlock k).trimData k
  else if hdr ≠ 2 then (s.otherBlock k).badHeader k
  else if !synced then s
  else
    let typ := bits pay 7 0
    if typ = 0x2D then s.trainBlock k pay
    else if typ = 0x33 then s.eidleBlock k
    else
      let s := s.otherBlock k
      if typ = 0x1E then s.trimIdle k else
        match s.laneOf k with
        | some l => if typ ∈ downTypes then s else s.flag F.COBEX_STATUS_UNKNOWN_CTL l
        | none => s

/-- A block that the receiver has framed while it holds block lock (R112 to R116, R145). The payload in which the descrambler synchronises
reaches the link as an error block, and so do the blocks after a window that ended block lock. [DESIGN CHOICE, log 95] -/
def State.laneBlock (s : State) (k hdr raw : Nat) : State :=
  let x := s.lane k
  let r := descramble x.hist raw
  let synced := x.synced && !x.winFail
  let lost := x.winFail
  let s := s.setLane k { (if lost then x else x.count hdr) with hist := r.2, synced := true }
  if s.laneSt k = 0xA then s.checkBlock k hdr r.1 synced
  else if lost then s.passBlock k 0 0
  else
    let s := s.listenFeed k hdr r.1
    if s.on F.LANE_STATE_LISTEN k then s
    else
      let s := s.passBlock k (if synced then hdr else 0) r.1
      s.serveBlock k hdr r.1 synced

/-- The hunt takes the header at its boundary candidate (R115): one more valid one, or the boundary slips by one bit. -/
def LaneS.hunt (x : LaneS) (hdr : Nat) : LaneS :=
  if hdr = 1 ∨ hdr = 2 then { x with good := x.good + 1 }
  else if x.bufBits = 0 then { x with good := 0, skip := true }
  else { x with good := 0, buf := x.buf / 2, bufBits := x.bufBits - 1 }

/-- A receiver takes 66 line bits (R111, R115): the block that ends with them at the boundary in force, if one does. -/
def LaneS.frame (x : LaneS) (line : Nat) : Option Nat × LaneS :=
  let buf := x.buf + line * 2 ^ x.bufBits
  let n := x.bufBits + 66
  let buf := if x.skip then buf / 2 else buf
  let n := if x.skip then n - 1 else n
  if 66 ≤ n then (some (buf % 2 ^ 66), { x with buf := buf / 2 ^ 66, bufBits := n - 66, skip := false })
  else (none, { x with buf := buf, bufBits := n, skip := false })

/-- A receiver has framed a block at its boundary candidate (R115, R116, R135). In RELOCK it is a position of the gap (R120). -/
def State.framed (s : State) (k line : Nat) : State :=
  let r := s.injectRx k (line % 4) (line / 4)
  let s := r.2
  if s.on F.LANE_STATE_BLOCK_LOCK k then s.laneBlock k r.1.1 r.1.2
  else if s.hunting k then
    let x := (s.lane k).hunt r.1.1
    let s := s.setLane k { x with hist := (descramble x.hist r.1.2).2 }
    if s.laneSt k = 6 then (s.setLane k { s.lane k with lossN := (s.lane k).lossN + 1 }).passBlock k 0 0 else s
  else s

/-- The 66 line bits that reach the receiver of a slice (R123, R133): what arrives at the pads, with P and N exchanged where the board has
swapped them; in a near loop what its own transmitter sends next. -/
def State.lineIn (s : State) (k line : Nat) : Nat × State :=
  let x := s.lane k
  let l := (s.laneOf k).getD x.lastLane
  if s.laneSt k = 0xA ∧ within 1 (s.rd F.LANE_TEST_LOOP k) 2 then
    let r := x.fillNext l
    (s.setLane k { r.2 with tx := { r.2.tx with sent := r.2.tx.sent + 1 } }).injectTx k r.1
  else (if bit (s.eqByte x.rate l 7) 1 = 1 then 2 ^ 66 - 1 - line else line, s)

/-- LANE_BLOCK_RECEIVE: 66 line bits arrive at a receiver whose clock is locked, or at a slice in TEST: the first two of them, and the 64
after (R111 to R116). In the far loop they go back upstream unchanged (R133). -/
def execLaneBlockReceive (d k hdr payload : Nat) (s : State) : Host.Outcome State Fault Refusal :=
  cmd (decide (k < 544)) d s fun s => s.press fun s =>
    let test := decide (s.laneSt k = 0xA)
    if test || s.on F.LANE_STATE_CDR_LOCK k then
      let r := s.lineIn k (hdr % 4 + 4 * (payload % 2 ^ 64))
      let s := r.2
      let s := match s.laneOf k with
        | some l => if test && decide (s.rd F.LANE_TEST_LOOP k = 3) then (s.txSync k).txLine k l r.1 else s
        | none => s
      if test && within 1 (s.rd F.LANE_TEST_RX_CHECK k) 3 then
        let c := s.injectRx k (r.1 % 4) (r.1 / 4)
        c.2.checkBits k c.1.1 c.1.2
      else
        let fr := (s.lane k).frame r.1
        let s := s.setLane k fr.2
        match fr.1 with
        | some line => s.framed k line
        | none => s
    else s

/-! ### Figure of merit and trim -/

/-- What a new FOM does to a lane in ACTIVE (R125, R128, R136): it becomes FOM_REF, or it snaps the trim back, or it is one more low value.
Snap-backs count since ACTIVE was entered from CAPS, and three low values count anew after they have led to a proposal.
[DESIGN CHOICE, log 75] -/
def State.newFom (s : State) (k fom : Nat) : State :=
  let x := s.lane k
  let s := if x.needRef then s.wr F.LANE_FOM_FOM_REF fom k else s
  let snap := !x.needRef && decide (fom + 24 ≤ s.rd F.LANE_FOM_FOM_REF k)
  let low := if x.snapped && decide (fom < s.rd F.LANE_CFG_FOM_MIN k) then x.lowFom + 1 else 0
  let rule := decide (3 ≤ low)
  let s := s.setLane k { x with needRef := false, snapped := x.snapped || snap, lowFom := if rule then 0 else low,
                                trimN := if snap then 0 else x.trimN }
  let s := if snap then
      let s := (s.wr F.LANE_EQ_CTLE_TRIM 0 k).wr F.LANE_EQ_DFE1_TRIM 0 k
      (s.inc F.LANE_FOM_ADAPT_RESETS k).flag F.LANE_STATUS_SNAPBACK k
    else s
  match s.laneOf k with
  | some l => if rule then s.laneSpare k l 3 else s
  | none => s

/-- Received blocks of a measurement period (R124). -/
def fomPeriod : Nat := 65536

/-- FOM_MEASURE: a measurement period of 65,536 received blocks has ended, with a vertical and a horizontal opening (R124, R125, R128,
R136). -/
def execFomMeasure (d k v h : Nat) (s : State) : Host.Outcome State Fault Refusal :=
  cmd (decide (k < 544)) d s fun s => s.press fun s =>
    let v := v % 128
    let h := h % 64
    if (s.lane k).fomN < fomPeriod then s else
      let fom := 255 * v * h / 8001
      let s := ((s.wr F.LANE_EYE_V v k).wr F.LANE_EYE_H h k).wr F.LANE_FOM_FOM fom k
      let s := s.setLane k { s.lane k with fomN := (s.lane k).fomN - fomPeriod, invPeriod := 0 }
      if s.laneSt k = 5 then s.newFom k fom else s

/-- A trim offset after a decision: one step up, one step down, or none, within its window (R126). -/
def trimmed (v w step : Nat) : Nat :=
  let now := sOf 4 v
  let to_ := if step = 1 then now + 1 else if step = 2 then now - 1 else now
  uOf 4 (max (-(w : Int)) (min (w : Int) to_))

/-- TRIM_DECISION: 4,096 data blocks have been taken; each offset goes up (1), down (2) or stays (R126). A snap-back on the same block
boundary has discarded the decision (R128). -/
def execTrimDecision (d k ctle dfe : Nat) (s : State) : Host.Outcome State Fault Refusal :=
  cmd (decide (k < 544)) d s fun s => s.press fun s =>
    let x := s.lane k
    if decide (s.laneSt k = 5 ∧ 4096 ≤ x.trimN) && s.on F.LANE_CFG_TRIM_EN k && !s.on F.LANE_STATE_TRIM_FROZEN k then
      let s := s.setLane k { x with trimN := x.trimN - 4096 }
      (s.wr F.LANE_EQ_CTLE_TRIM (trimmed (s.rd F.LANE_EQ_CTLE_TRIM k) 2 ctle) k).wr F.LANE_EQ_DFE1_TRIM
        (trimmed (s.rd F.LANE_EQ_DFE1_TRIM k) 4 dfe) k
    else s

/-- TRIM_FREEZE: 65,536 consecutive IDLE blocks have been received: the partial decision is discarded (R127). -/
def execTrimFreeze (d k : Nat) (s : State) : Host.Outcome State Fault Refusal :=
  cmd (decide (k < 544)) d s fun s => s.press fun s =>
    if s.laneSt k = 5 ∧ 65536 ≤ (s.lane k).idleRun then
      (s.setLane k { s.lane k with trimN := 0 }).wr F.LANE_STATE_TRIM_FROZEN 1 k
    else s

/-! ### Control, test and injection -/

/-- A lane enters TRAIN by order; its open function 0x01 request closes (R117). -/
def State.retrain (s : State) (k : Nat) : State :=
  let st := s.laneSt k
  if st = 0 ∨ st = 0xA ∨ st = 0xB then s else
    (match s.laneOf k with
      | some l => s.closeReqs 1 (srcNo 5 l)
      | none => s).toTrain k

/-- RETRAIN: LANE_CTL.RETRAIN (R117). -/
def execRetrain (d k : Nat) (s : State) : Host.Outcome State Fault Refusal :=
  cmd (decide (k < 544)) d s fun s => s.hostHold (F.LANE_CTL_RETRAIN.at_ k) 4 1 fun s => s.press fun s => s.retrain k

/-- The counters of a lane slice read 0 (R135). -/
def State.laneClear (s : State) (k : Nat) : State :=
  s.clrAll [F.LANE_ERRCNT_RELOCK_FAIL, F.LANE_ERRCNT_LOCK_LOSSES, F.LANE_ERRCNT_INVALID_HDR, F.LANE_EVTCNT_RATE_MISMATCH,
    F.LANE_EVTCNT_EIDLE_ENTRIES, F.LANE_EVTCNT_EXITS, F.LANE_EVTCNT_TRAINS, F.LANE_INJECTED_INJECTED] k

/-- LANE_CLEAR_COUNTS: LANE_CTL.CLEAR_COUNTS clears LANE_ERRCNT, LANE_EVTCNT and INJECTED (R135). -/
def execLaneClearCounts (d k : Nat) (s : State) : Host.Outcome State Fault Refusal :=
  cmd (decide (k < 544)) d s fun s => s.hostHold (F.LANE_CTL_CLEAR_COUNTS.at_ k) 4 2 fun s => s.laneClear k

/-- The fields of a LANE_TEST write (R132, R133). -/
def State.testFields (s : State) (k v : Nat) : State :=
  ((s.wr F.LANE_TEST_RX_CHECK (bits v 10 8) k).wr F.LANE_TEST_TX_PATTERN (bits v 6 4) k).wr F.LANE_TEST_LOOP (bits v 1 0) k

/-- The state that a slice takes when it leaves TEST: DETECT for a slice that serves, OFF or FAILED for others. [DESIGN CHOICE, log 76] -/
def State.leaveTest (s : State) (k : Nat) : State :=
  if s.sliceState (k / 17) (k % 17) = 3 then s.toLane k 0xB
  else if s.mayRun k then s.toDetect k
  else s.toLane k 0

/-- A write of LANE_TEST (R132 to R134): one with a reserved code is ignored. -/
def State.testWrite (s : State) (k v : Nat) : State :=
  let st := s.laneSt k
  if bits v 10 8 = 7 ∨ bits v 6 4 = 7 then s
  else if bit v 16 = 1 then
    if st = 5 ∨ st = 6 ∨ st = 9 ∨ s.on F.LANE_STATE_LISTEN k then s.flag F.LANE_STATUS_TEST_REFUSED k
    else
      let s := ((s.txSync k).testFields k v).wr F.LANE_TEST_TEST_EN 1 k
      let s := if st = 0xA then s.txTest k else s.toLane k 0xA
      let s := ((s.wr F.LANE_CHK_BITS_COUNT 0 k).wr F.LANE_CHK_ERRS_COUNT 0 k).wr F.LANE_TEST_CHK_SYNC 0 k
      (s.setLock k 0).setLane k { (s.setLock k 0).lane k with chkHist := 0, chkRun := 0, chkBits := 0, chkErrs := 0 }
  else
    let s := (s.testFields k v).wr F.LANE_TEST_TEST_EN 0 k
    if st = 0xA then s.leaveTest k else s

/-- TEST_ENTER: a write of LANE_TEST with TEST_EN 1 (R134). -/
def execTestEnter (d k v : Nat) (s : State) : Host.Outcome State Fault Refusal :=
  cmd (decide (k < 544)) d s fun s =>
    s.hostHold (F.LANE_TEST_TEST_EN.at_ k) 4 (v % 2 ^ 32) fun s => s.press fun s => s.testWrite k v

/-- TEST_EXIT: a write of LANE_TEST with TEST_EN 0 (R117). -/
def execTestExit (d k v : Nat) (s : State) : Host.Outcome State Fault Refusal :=
  cmd (decide (k < 544)) d s fun s =>
    s.hostHold (F.LANE_TEST_TEST_EN.at_ k) 4 (v % 2 ^ 32) fun s => s.press fun s => s.testWrite k v

/-- One injection acts (R135): on the next blocks that the transmitter sends, or on the next ones that the receiver frames. A transmitter on
the pads sends the corrupted blocks of its fill at once. In OFF nothing is corrupted. [DESIGN CHOICE, log 76] -/
def State.injectNow (s : State) (k : Nat) : State :=
  let n := injectCount (s.rd F.LANE_INJECT_KIND k)
  let s := s.txSync k
  let x := s.lane k
  if s.laneSt k = 0 then s
  else if s.rd F.LANE_INJECT_WHERE k = 1 then
    let s := s.setLane k { x with tx := { x.tx with inject := n, sent := 0 } }
    match s.laneOf k with
    | some l => if x.tx.fill ≠ 0 ∧ x.tx.pads then (List.range n).foldl (fun s _ => s.txFillOne k l) s else s
    | none => s
  else if s.rd F.LANE_INJECT_WHERE k = 2 then s.setLane k { x with inject := n, injN := 0 }
  else s

/-- Blocks since the last repeated injection, on the path that WHERE names (R135). -/
def State.injectDue (s : State) (k : Nat) : Bool :=
  let n := s.rd F.LANE_INJECT_INTERVAL k
  let s := s.txSync k
  decide (n ≤ if s.rd F.LANE_INJECT_WHERE k = 1 then (s.lane k).tx.sent else (s.lane k).injN)

/-- A write of LANE_INJECT (R135): one with a reserved KIND or WHERE is ignored, and an INTERVAL of 0 is. -/
def State.injectWrite (s : State) (k v : Nat) : State :=
  if 5 ≤ bits v 5 3 ∨ bits v 1 0 = 3 ∨ bits v 31 8 = 0 then s else
    let s := s.wr F.LANE_INJECT_INTERVAL (bits v 31 8) k
    let s := (s.wr F.LANE_INJECT_REPEAT (bit v 6) k).wr F.LANE_INJECT_KIND (bits v 5 3) k
    let s := s.wr F.LANE_INJECT_WHERE (bits v 1 0) k
    if bit v 7 = 1 ∧ bit v 6 = 0 then s.injectNow k else s

/-- INJECT_FIRE: a write of LANE_INJECT with FIRE set (R135). -/
def execInjectFire (d k v : Nat) (s : State) : Host.Outcome State Fault Refusal :=
  cmd (decide (k < 544)) d s fun s =>
    s.hostHold (F.LANE_INJECT_FIRE.at_ k) 4 (v % 2 ^ 32) fun s => s.press fun s => s.injectWrite k v

/-- INJECT_REPEAT: INTERVAL blocks have passed with REPEAT set (R135). -/
def execInjectRepeat (d k : Nat) (s : State) : Host.Outcome State Fault Refusal :=
  cmd (decide (k < 544)) d s fun s => s.press fun s =>
    if s.on F.LANE_INJECT_REPEAT k && s.injectDue k then s.injectNow k else s

/-! ### The spare slice -/

/-- SPARE_LISTEN_START: the spare is connected to the receive pair of the pad pair that has claimed it (R137). -/
def execSpareListenStart (d g : Nat) (s : State) : Host.Outcome State Fault Refusal :=
  cmd (decide (g < 32)) d s fun s => s.press fun s =>
    match (s.lgrp g).pad with
    | none => s
    | some pad =>
      if s.rd F.LGRP_SPARE_SPARE_STATE g ≠ 0 then s else
        let k := s.spareSlice g
        let l := 16 * g + pad
        let s := ((s.wr F.LGRP_SPARE_SPARE_STATE 1 g).wr F.LGRP_SPARE_LISTEN_MISMATCH 0 g).wr F.LANE_STATE_LISTEN 1 k
        let s := s.wr F.LANE_STATE_SPARE 0 k
        let rate := (s.lane (s.sliceOf l)).rate
        let s := (s.setLgrp g (s.lgrp g).restart).setLane k { s.lane k with rate := rate, lastLane := l, bufBits := 0, buf := 0 }
        s.loadEqAt k l rate

/-- The replaced slice's LANE_CFG is copied to the spare (R140), and so is its restore copy. [DESIGN CHOICE, log 92] -/
def State.copyLaneCfg (s : State) (from_ into : Nat) : State :=
  let k := s.kindle
  let s := { s with kindle := { k with restore := [F.LANE_CFG_ERR_LIMIT, F.LANE_CFG_FOM_MIN, F.LANE_CFG_SPARE_ON_LOSS,
    F.LANE_CFG_TRIM_EN, F.LANE_CFG_RATE, F.LANE_CFG_ENABLE].foldl (fun (r : Assoc Nat) f =>
      r.put (f.key into 0) (k.restore.getD (f.key from_ 0) (f.rst from_ 0)) (f.rst into 0)) k.restore } }
  [F.LANE_CFG_ERR_LIMIT, F.LANE_CFG_FOM_MIN, F.LANE_CFG_SPARE_ON_LOSS, F.LANE_CFG_TRIM_EN, F.LANE_CFG_RATE,
    F.LANE_CFG_ENABLE].foldl (fun s f => s.wr f (s.rd f from_) into) s

/-- The spare takes over the pad pair, and the replaced slice becomes SUSPECT (R137, R140, R506). [DESIGN CHOICE, log 75] -/
def State.spareTakes (s : State) (g pad : Nat) : State :=
  let l := 16 * g + pad
  let old := s.sliceOf l
  let new := s.spareSlice g
  let gx := s.lgrp g
  let was := s.laneSt old
  let s := s.copyLaneCfg old new
  let s := s.wr (lgrpMap pad) (new % 17) g
  let s := ((s.wr F.LANE_STATE_PAD pad new).wr F.LANE_STATE_LISTEN 0 new).wr F.LANE_STATE_SPARE 0 new
  let s := ((s.wr F.LANE_STATE_STATE was new).wr F.LANE_STATE_SIGNAL 1 new).wr F.LANE_STATE_CDR_LOCK 1 new
  let s := s.wr F.LANE_STATE_BLOCK_LOCK 1 new
  let x := s.lane new
  let s := s.setLane new { x with
    since := s.clk, needRef := true, snapped := false, lowFom := 0, invActive := 0, invPeriod := 0, lossActive := 0,
    fomN := 0, trimN := 0, idleRun := 0, eidle := [], tx := (s.lane old).tx }
  let s := ((s.wr F.LANE_STATE_PAD 0x3F old).wr F.LANE_STATE_STATE 0 old).wr F.LANE_STATE_TRIM_FROZEN 0 old
  let s := ((s.wr F.LANE_STATE_SIGNAL 0 old).wr F.LANE_STATE_CDR_LOCK 0 old).wr F.LANE_STATE_BLOCK_LOCK 0 old
  let s := s.setLane old { s.lane old with lastLane := l, tx := {} }
  let s := (s.wr F.LGRP_SPARE_SPARE_STATE 2 g).wr F.LGRP_SPARE_SPARE_SLICE (old % 17) g
  let s := (s.inc F.LGRP_SPARE_SWAPS g).flag F.LGRP_STATUS_SWAP_DONE g
  let s := (s.setSlice g (new % 17) 0).setSlice g (old % 17) 2
  let s := s.setLgrp g { gx with pad := none, restarts := 0, byLoss := false, cause := 4, test := some (old, s.clk) }
  let body := subBody 9 gx.cause (old % 17) (new % 17) l 0 0 0 0
  (s.subRecord (srcNo 5 l) body).ledgerChange body true

/-- A listen that saw an invalid header at the spare restarts, up to 3 times, after which it is abandoned (R137). The spare hunts anew.
[DESIGN CHOICE, log 75] -/
def State.listenAgain (s : State) (g : Nat) : State :=
  let x := s.lgrp g
  if x.restarts < 3 then
    (s.setLgrp g { x.restart with restarts := x.restarts + 1 }).setLock (s.spareSlice g) 0
  else (s.flag F.LGRP_STATUS_SWAP_ABANDONED g).listenEnd g

/-- SPARE_SWITCH: 256 blocks of the aligned streams have been compared; the spare takes over, unless it saw an invalid header among
them (R137). -/
def execSpareSwitch (d g : Nat) (s : State) : Host.Outcome State Fault Refusal :=
  cmd (decide (g < 32)) d s fun s => s.press fun s =>
    let x := s.lgrp g
    let spare := s.spareSlice g
    match x.pad with
    | none => s
    | some pad =>
      if s.rd F.LGRP_SPARE_SPARE_STATE g ≠ 1 ∨ x.byLoss ∨ x.cmpN < 256 then s
      else if x.cmpBad then s.listenAgain g
      else if s.on F.LANE_STATE_CDR_LOCK spare && s.on F.LANE_STATE_BLOCK_LOCK spare && decide (s.laneState (16 * g + pad) = 5) then
        s.spareTakes g pad
      else s

/-- SPARE_LOSS_TAKEOVER: after a loss of lock the spare holds block lock, and the serving slice has not regained it (R138). When both
regain it in one cycle, the serving slice keeps the lane. -/
def execSpareLossTakeover (d g : Nat) (s : State) : Host.Outcome State Fault Refusal :=
  cmd (decide (g < 32)) d s fun s => s.press fun s =>
    let x := s.lgrp g
    match x.pad with
    | none => s
    | some pad =>
      let l := 16 * g + pad
      let k := s.sliceOf l
      if !x.byLoss || decide (s.laneSt k ≠ 6) || decide (s.rd F.LGRP_SPARE_SPARE_STATE g ≠ 1)
          || !s.on F.LANE_STATE_BLOCK_LOCK (s.spareSlice g) then s
      else if s.goodNeeded k ≤ (s.lane k).good then (s.setLock k 1).regain k
      else
        let x := s.lane k
        let s := s.spareTakes g pad
        let s := s.setLane (s.sliceOf l) { s.lane (s.sliceOf l) with lossClk := x.lossClk, lossN := x.lossN }
        ((s.inc F.COBEX_ERRCNT_GAPS l).fillGap (s.sliceOf l) l).toLane (s.sliceOf l) 5

/-- SUSPECT_TEST_DONE: the 1 s test of a slice ends with so many bit errors (R140, R503). [DESIGN CHOICE, log 75] -/
def execSuspectTestDone (d g errs : Nat) (s : State) : Host.Outcome State Fault Refusal :=
  cmd (decide (g < 32)) d s fun s => s.press fun s =>
    let x := s.lgrp g
    match x.test with
    | none => s
    | some (k, t) =>
      if !s.due t 1000000000 then s else
        let s := s.setLgrp g { x with test := none }
        let l := (s.lane k).lastLane
        let src := srcNo 5 l
        if errs = 0 then
          let s := (s.wr F.LGRP_SPARE_SPARE_STATE 0 g).wr F.LGRP_SPARE_SPARE_SLICE (k % 17) g
          let s := (s.wr F.LANE_STATE_SPARE 1 k).wr F.LANE_STATE_STATE 0 k
          let body := subBody 8 4 0xFF (k % 17) l 0 0 0 0
          ((s.setSlice g (k % 17) 1).subRecord src body).ledgerChange body false
        else
          let s := (s.wr F.LGRP_SPARE_SPARE_STATE 3 g).wr F.LGRP_SPARE_SPARE_SLICE 0x1F g
          let s := (s.wr F.LANE_STATE_STATE 0xB k).err 0x1E (srcNo 0x12 0) (detail [3, k])
          let body := subBody 7 4 (k % 17) 0xFF l 0 0 0 0
          ((s.setSlice g (k % 17) 3).subRecord src body).ledgerChange body false

/-- An ordered substitution of the spare for a pad pair, or BAD_ORDER (R140). -/
def State.orderSpare (s : State) (g pad : Nat) : State :=
  if s.laneState (16 * g + pad) ≠ 5 ∨ (s.lgrp g).pad.isSome then s.flag F.LGRP_STATUS_BAD_ORDER g
  else s.claimSpare g pad 3 false

/-- LGRP_SUBSTITUTE: LGRP_CTL OP 0x1 orders a substitution, in either mode of function 0x01 (R140). -/
def execLgrpSubstitute (d g pad : Nat) (s : State) : Host.Outcome State Fault Refusal :=
  cmd (decide (g < 32 ∧ pad < 16)) d s fun s =>
    s.hostHold (F.LGRP_CTL_OP.at_ g) 4 (0x10 + pad) fun s => s.press fun s => s.orderSpare g pad

/-- LGRP_ABANDON: LGRP_CTL OP 0x2 abandons a running listen (R137). -/
def execLgrpAbandon (d g : Nat) (s : State) : Host.Outcome State Fault Refusal :=
  cmd (decide (g < 32)) d s fun s => 
    s.hostHold (F.LGRP_CTL_OP.at_ g) 4 0x20 fun s => s.press fun s => s.listenEnd g

/-- A write of LANE_CFG (LANE_CFG, R117, R141): a RATE of 0b11 or an ERR_LIMIT of 0 makes it ignored whole
(R565). -/
def State.laneCfgWrite (s : State) (k v : Nat) : State :=
  if bits v 2 1 = 3 ∨ bits v 31 24 = 0 then s else
    let s := s.wr F.LANE_CFG_ERR_LIMIT (bits v 31 24) k
    let s := (s.wr F.LANE_CFG_FOM_MIN (bits v 23 16) k).wr F.LANE_CFG_SPARE_ON_LOSS (bit v 5) k
    let s := (s.wr F.LANE_CFG_TRIM_EN (bit v 4) k).wr F.LANE_CFG_RATE (bits v 2 1) k
    let s := s.wr F.LANE_CFG_ENABLE (bit v 0) k
    s.press fun s =>
      if bit v 0 = 1 then s.laneOn k
      else if s.laneSt k = 0 then s else s.laneOff k

end Sys2Proof.Machine
end

