-- ==== Sys2Proof/Machine/Hammer.lean ====
section
/-!
DEFINITION. Hammer (chapter 9): latch loads and their timing (R262 to R264), shift order (R267), dot lines (R268 to
R271), the fire log (R272), scanning passes (R273 to R276, R283) and over-temperature holds (R280 to R284).
-/

namespace Sys2Proof.Machine

/-! ### Timing and shift order -/

/-- Data lines in use (R264). -/
def State.dataLines (s : State) (c : Nat) : Nat := 2 ^ s.rd F.HAMMER_CFG_WIDTH c

/-- Shift cycles of a latch load (R264). -/
def State.shiftCycles (s : State) (c : Nat) : Nat :=
  cdiv (cdiv (s.nozzles c) (s.dataLines c) * (1 + s.rd F.HAMMER_CFG_BPN c)) (1 + s.rd F.HAMMER_CFG_DDR c)

/-- T_shift in ns (R264). -/
def State.tShift (s : State) (c : Nat) : Nat := s.shiftCycles c * s.rd F.HAMMER_CFG_SCLK_DIV c

/-- T_lat: HD_LAT rises this long after LOAD_DT (R263). -/
def State.tLat (s : State) (c : Nat) : Nat :=
  max (24 + s.tShift c + s.rd F.HAMMER_TIMING_LAT_SETUP c) (s.rd F.HAMMER_TIMING_STB_W c + s.rd F.HAMMER_TIMING_STB_TO_LAT c)

/-- The end of the HD_LAT pulse after LOAD_DT (R263). -/
def State.tPulse (s : State) (c : Nat) : Nat := s.tLat c + s.rd F.HAMMER_TIMING_LAT_W c

/-- T_cyc: the earliest strobe after LOAD_DT (R263). -/
def State.tCyc (s : State) (c : Nat) : Nat := s.tPulse c + s.rd F.HAMMER_TIMING_LAT_TO_STB c

/-- The bits of one nozzle in the order they are sent (R267). -/
def State.nozzleBits (s : State) (c level : Nat) : List Nat :=
  if s.on F.HAMMER_CFG_BPN c then
    (if s.on F.HAMMER_CFG_BIT_ORDER c then [level % 2, level / 2] else [level / 2, level % 2])
  else [b2n (decide (0 < level))]

/-- The bits of each data line, the first sent first; padding comes first (R264, R267). -/
def State.shiftLines (s : State) (c : Nat) (levels : List Nat) : List (List Nat) :=
  let w := s.dataLines c
  let per := cdiv (s.nozzles c) w
  let total := s.shiftCycles c * (1 + s.rd F.HAMMER_CFG_DDR c)
  (List.range w).map fun line =>
    let ns := (List.range (s.nozzles c)).filter fun n =>
      decide ((if s.on F.HAMMER_CFG_LANE_MAP c then n / per else n % w) = line)
    let ns := if s.on F.HAMMER_CFG_ORDER c then ns else ns.reverse
    let bs := ns.flatMap fun n => s.nozzleBits c (levels.getD n 0)
    List.replicate (total - bs.length) 0 ++ bs

/-! ### Dot lines -/

/-- The slot number of line D. -/
def State.slotOf (s : State) (c d : Nat) : Nat := d % max 1 (s.rd F.HAMMER_DOTGEOM_SLOTS c)

/-- HBM byte offset of the slot of line D (R268). -/
def State.slotAddr (s : State) (c d : Nat) : Nat :=
  s.rd F.HAMMER_DOTBASE_VALUE c + s.slotOf c d * s.rd F.HAMMER_DOTGEOM_SLOT_BYTES c

/-- Set the state of a slot; 0 frees it (R269). -/
def State.setSlot (s : State) (c d st : Nat) : State :=
  let x := s.hm c
  let n := s.slotOf c d
  s.setHm c { x with slots := if st = 0 then x.slots.del n else x.slots.put n ⟨st, d⟩ {} }

/-- Whether a print group has a swath owed. -/
def State.owed (s : State) (c : Nat) : Bool := s.scanning c && s.on F.HGRP_PASS_OWED (s.grpOf c)

/-- The slot check of line D, and its fetch into the line buffer (R270). The reprint of an owed swath takes its lines
from the slots that still hold them, whatever has become of the slots (R278, R283). [DESIGN CHOICE, log 63] -/
def State.fetchLine (s : State) (c d : Nat) : Fetched :=
  let sl := (s.hm c).slots.getD (s.slotOf c d) {}
  let hdr := s.hbmRead (s.slotAddr c d) 64
  let again := s.owed c && (if sl.state = 0 then decide (leAt hdr 0 8 = d) else decide (sl.d = d))
  if !(decide (sl.state = 1) || again) then ⟨d, s.dt, true, false, []⟩ else
    let a := s.slotAddr c d
    if leAt hdr 0 8 ≠ d ∨ leAt hdr 8 2 ≠ s.nozzles c then ⟨d, s.dt, true, true, []⟩
    else if bit (leAt hdr 10 1) 0 = 1 then ⟨d, s.dt, false, false, []⟩
    else ⟨d, s.dt, false, false, s.hbmRead (a + 64) (s.rd F.HAMMER_DOTGEOM_SLOT_BYTES c - 64)⟩

/-- Check lines D of a list that the buffer lacks, dropping what lies before the first of them; the reserve test goes
with every check (R270, R279). -/
def State.check (s : State) (c : Nat) (ds : List Nat) : State :=
  let s := s.forceRelease c
  let x := s.hm c
  s.setHm c { x with buf := ds.map fun d =>
    match x.buf.find? (fun f => decide (f.d = d)) with
    | some f => f
    | none => s.fetchLine c d }

/-- The level of data index i of a line (R268). -/
def State.lineLevel (s : State) (c : Nat) (data : Bytes) (i : Int) : Nat :=
  let n := i.toNat
  if s.rd F.HAMMER_CFG_DOT_FORMAT c = 1 then bits (leAt data (n / 4) 1) (2 * (n % 4) + 1) (2 * (n % 4))
  else if bit (leAt data (n / 8) 1) (n % 8) = 1 then s.rd F.HAMMER_CFG_LEVEL_1BIT c else 0

/-! ### Latch loads -/

/-- Commit the FIRE_DELAY written before the cycle t of a latch load (R99); the last channel of a correction commits it (R245). -/
def State.delayCommit (s : State) (c t : Nat) : State :=
  let x := s.hm c
  let due := x.wDelay.filter fun w => decide (w.at_ < t)
  match due.getLast? with
  | none => s
  | some w =>
    let s := (s.setHm c { x with wDelay := x.wDelay.filter fun w => decide (t ≤ w.at_) }).wr
      F.FIRE_DELAY_NOW_DELAY_NS w.value c
    due.foldl (fun s w => match w.by_ with
      | some h =>
        let y := s.cmp h
        let rest := y.uncommitted.filter (fun k => k ≠ c)
        s.setCmp h { y with uncommitted := rest,
                            settled := if !y.uncommitted.isEmpty && rest.isEmpty then t else y.settled }
      | none => s) s

/-- Commit what was written before the cycle t of a latch load: FIRE_DELAY (R99), HAMMER_OFFSET (R276), and the column
map, which counts as a commit of the channel (R296). What was written in that cycle or later waits. -/
def State.loadCommits (s : State) (c t : Nat) : State :=
  let s := s.delayCommit c t
  let x := s.hm c
  let s := match (x.wOffset.filter fun w => decide (w.1 < t)).getLast? with
    | some w =>
      s.setHm c { x with wOffset := x.wOffset.filter fun w => decide (t ≤ w.1), fwd := w.2.1, rev := w.2.2 }
    | none => s
  let x := s.hm c
  match (x.wMap.filter fun w => decide (w.1 < t)).getLast? with
  | some w =>
    (s.setHm c { x with wMap := x.wMap.filter fun w => decide (t ≤ w.1), colBase := w.2.1, dataShift := w.2.2 }).commitMap c
  | none => s

/-- Begin a latch load at DT t: the safe point of functions 0x03 and 0x04, LOAD_DT, commits, the generation, the slot check of the next line
(R44, R262, R270, R300). [DESIGN CHOICE, log 63] -/
def State.beginLoad (s : State) (c t : Nat) : State :=
  let s := s.safePoint 3 c fun s => (s.regReqs c).foldl (fun s r => s.closeId r.id) s
  let s := s.safePoint 4 c fun s => (s.openNozReqs c).foldl (fun s n => s.nozAfresh c n) s
  let d := s.rd F.HAMMER_NEXT_INDEX c
  let s := s.loadCommits c t
  let gen := s.genAt c t
  let s := s.check c [d, d + 1]
  let x := s.hm c
  let f := (x.buf.find? fun f => decide (f.d = d)).getD (s.fetchLine c d)
  let s := s.setHm c { x with load := some ⟨d, t, gen, f.under, f.seq⟩, loadAt := none, levels := [] }
  let s := if f.under then
      let s := (s.flag F.HAMMER_STATUS_UNDERRUN c).inc F.HAMMER_CNT_UNDERRUNS c
      let s := if f.seq then (s.flag F.HAMMER_STATUS_SEQ_ERR c).inc F.HAMMER_CNT_SEQ_ERRS c else s
      s.raise (ev 0x0B c)
    else s
  let sl := (s.hm c).slots.getD (s.slotOf c d) {}
  if (sl.d = d ∧ sl.state = 1) ∨ (s.owed c ∧ !f.under ∧ (sl.d = d ∨ sl.state = 0)) then s.setSlot c d 2 else s

/-- The latch load compensates its line, shifts it and pulses HD_LAT (R263, R267, R297). -/
def State.shiftLoad (s : State) (c : Nat) : State :=
  match (s.hm c).load with
  | none => s
  | some l =>
    let data := ((s.hm c).buf.find? fun f => decide (f.d = l.d)).map Fetched.data
    let v := (s.contextsAt c l.dt).2
    let r := v.compensate c l.d (fun i => match data with
      | some bs => if bs.isEmpty then 0 else s.lineLevel c bs i
      | none => 0)
    let s := ((s.inc F.NCTX_DROPS_CLIPPED c 0 r.clipped).inc F.NCTX_DROPS_EXCL_LEVELS c 0 r.excluded).inc
      F.NCTX_DROPS_UNCOMP_LEVELS c 0 r.uncomp
    let s := s.setHm c { s.hm c with levels := r.levels }
    let lines := s.shiftLines c r.levels
    (s.emit (.shift c (l.dt + 32) (s.rd F.HAMMER_CFG_SCLK_DIV c) (s.shiftCycles c)
      (lines ++ List.replicate (8 - lines.length) []))).emit
      (.latch c (l.dt + s.tLat c + 8) (s.rd F.HAMMER_TIMING_LAT_W c))

/-- A context read with an uncorrectable error is rebuilt from its mirror: STATE and HMASK stay, the EV fields restart,
and the error is reported (R311). -/
def State.rebuildContext (s : State) (c n : Nat) : State :=
  let s := ((s.wr F.NCTX_EV_FIRED 0 c n).wr F.NCTX_EV_MISS 0 c n).wr F.NCTX_EV_WEAK 0 c n
  s.err 0x05 (nozSrc c) (le 8 c ++ le 8 n)

/-! ### Passes -/

/-- The print-grid column of the j-th fire point of a pass (R274). -/
def State.passColumn (s : State) (g dir j : Nat) : Nat :=
  let x0 := s.rd F.HGRP_CFG_X0 g
  if dir = 1 then x0 + s.rd F.HGRP_CFG_PASS_COLUMNS g - 1 - j else x0 + j

/-- Channels of a print group. -/
def State.groupChannels (s : State) (g : Nat) : List Nat :=
  (List.range 64).filter fun c => s.on F.HAMMER_CFG_ENABLE c && decide (s.grpOf c = g)

/-- One print group beside its registers. -/
def State.grp (s : State) (g : Nat) : HgrpS := s.hgrp.getD g {}

/-- Update one print group. -/
def State.setGrp (s : State) (g : Nat) (x : HgrpS) : State := { s with hgrp := s.hgrp.put g x {} }

/-- Whether a direction is permitted to begin a pass (R274, R283). -/
def State.passDirOk (s : State) (g dir : Nat) : Bool :=
  match (s.grp g).pass with
  | some p => decide (p = dir)
  | none =>
    if s.on F.HGRP_PASS_OWED g then decide (s.rd F.HGRP_PASS_OWED_DIR g = dir)
    else
      let e := s.rd F.HGRP_FEED_DIR g (s.rd F.HGRP_PASS_TABLE_IDX g)
      decide (e = 2 ∨ e = dir)

/-- Begin a pass on a channel (R274, R283). -/
def State.beginPass (s : State) (c dir : Nat) : State :=
  let g := s.grpOf c
  let x := s.hm c
  let owed := s.on F.HGRP_PASS_OWED g
  let first := if owed then x.passD else s.rd F.HAMMER_NEXT_INDEX c + x.pend.length
  let s := s.setHm c { x with j := some 0, passDir := dir, fired := [], passD := first }
  let y := s.grp g
  if y.pass.isNone then
    s.setGrp g { y with pass := some dir, heldInPass := decide (2 ≤ s.rd F.HGRP_PASS_MODE g), reprint := owed }
  else s

/-- Write one fire-log entry: the ring, the record, and what is retained of it; a fired line is RETAINED, a skipped or held one frees its slot
(R270, R272, R277, R278). `flags` is byte 48. -/
def State.logEntryAt (s : State) (c d stamp pos dir delay loadDt gen flags : Nat) (line : Int) (col : Nat)
    (levels : List Nat) : State :=
  let g := s.grpOf c
  let scan := s.scanning c
  let a := s.genAxis .fire c
  let rec_ := header 0x0400 1 (srcNo 9 c) stamp ++ le 8 d ++ le 8 (posWord pos a dir 0) ++ le 8 (uOf 64 line)
    ++ le 4 col ++ le 4 gen ++ le 1 flags ++ le 1 (if scan then s.rd F.HGRP_PASS_TABLE_IDX g else 0xFF) ++ le 2 0
    ++ le 4 delay ++ le 8 loadDt
  let s := s.hbmWrite (s.rd F.HAMMER_FLOG_VALUE c + 64 * (d % 131072)) rec_
  let s := if s.on F.HAMMER_LOG_LOG_EN c then
      s.pushOr (srcNo 9 c) (s.rd F.HAMMER_LOG_LOG_TROUGH c) rec_ F.HAMMER_STATUS_RESOURCE_HELD c
    else s
  let st := bits flags 1 0
  let e : RetE := {
    d := d, st := if bit flags 6 = 1 then 2 else st, gen := gen, issue := stamp, scan := scan, line := line, col := col,
    base := if scan then s.lineBase c else sOf 32 (s.hm c).colBase,
    step := if scan then s.lineStep c else s.colStep c, nozzles := s.nozzles c, levels := levels }
  let x := s.hm c
  let s := s.setHm c { x with ret := x.ret ++ [e] }
  let s := if x.ret.isEmpty then s.wr F.HAMMER_REL_INDEX d c else s
  -- a line that was never written leaves its slot FREE
  let sl := (s.hm c).slots.getD (s.slotOf c d) {}
  if sl.state ≠ 0 ∧ sl.d = d then s.setSlot c d (if st = 0 then 3 else 0) else s

/-- Write the entry of a handled fire point and consume its line (R270, R272). Answers nothing but the state: HAMMER_NEXT
and the fire index move on. [DESIGN CHOICE, log 63] -/
def State.consume (s : State) (c : Nat) (p : FirePt) (l : LoadS) (late : Bool) : State :=
  let x := s.hm c
  let g := s.grpOf c
  let scan := s.scanning c
  let j := x.j.getD 0
  let col := if scan then s.passColumn g x.passDir j else 0
  let again := scan && (s.grp g).reprint
  let first := again && decide (p.kind = 0) && decide (col ∈ x.earlier)
  let flags := p.kind + 4 * b2n (l.under || late) + 8 * b2n l.seq + 16 * b2n late + 32 * b2n (again && decide (p.kind = 0))
    + 64 * b2n first
  let line := if scan then s.swathBase g else s.gridLineOf c x.nextK
  let levels := if p.kind = 0 ∧ !late then x.levels else []
  let s := s.logEntryAt c l.d p.dt p.pos p.dir p.delay l.dt l.gen flags line col levels
  let x := s.hm c
  let fired := if scan && decide (p.kind = 0) && !late then col :: x.fired else x.fired
  let s := s.setHm c { x with nextK := x.nextK + 1, load := none, j := x.j.map (· + 1), fired := fired }
  s.wr F.HAMMER_NEXT_INDEX (l.d + 1) c

/-- The columns of a channel that a short pass leaves: HELD entries with MISSING_COLUMN, each consuming its line (R275).
[DESIGN CHOICE, log 66] -/
def State.missColumns (s : State) (c : Nat) : Nat → State
  | 0 => s
  | n + 1 =>
    let x := s.hm c
    let g := s.grpOf c
    let d := s.rd F.HAMMER_NEXT_INDEX c
    let j := x.j.getD 0
    let s := s.logEntryAt c d 0 0 x.passDir 0 0 (s.rd F.NCTX_GEN_CTX_GEN c) (2 + 128) (s.swathBase g)
      (s.passColumn g x.passDir j) []
    let s := s.setHm c { s.hm c with nextK := x.nextK + 1, load := none, j := some (j + 1) }
    State.missColumns (s.wr F.HAMMER_NEXT_INDEX (d + 1) c) c n

/-- A pass of a print group ends (R275, R282, R283): the swath is owed, or the feed follows. Armed channels listed have
their latch loads begun anew by the caller. -/
def State.passEnd (s : State) (g : Nat) : State :=
  let y := s.grp g
  let dir := y.pass.getD 0
  let cs := s.groupChannels g
  let s := s.inc F.HGRP_PASS_ENDED g
  let s := s.setGrp g { y with pass := none, heldInPass := false, reprint := false }
  if y.heldInPass then
    let s := ((s.wr F.HGRP_PASS_OWED 1 g).wr F.HGRP_PASS_OWED_DIR dir g).flag F.HGRP_STATUS_SWATH_OWED g
    let s := s.raise (ev 0x12 g)
    cs.foldl (fun s c =>
      let x := s.hm c
      if x.j.isSome then
        (s.setHm c { x with j := none, earlier := x.earlier ++ x.fired, fired := [], buf := [] }).wr
          F.HAMMER_NEXT_INDEX x.passD c
      else s) s
  else
    let idx := s.rd F.HGRP_PASS_TABLE_IDX g
    let s := s.wr F.HGRP_PASS_OWED 0 g
    let s := s.wr F.HGRP_SWATH_SWATH_BASE (uOf 64 (s.swathBase g + s.rd F.HGRP_FEED_FEED_LINES g idx)) g
    let s := s.wr F.HGRP_PASS_TABLE_IDX ((idx + 1) % max 1 (s.rd F.HGRP_CFG_PASSES g)) g
    let s := s.raise (ev 0x13 g)
    cs.foldl (fun s c =>
      let x := s.hm c
      (s.setHm c { x with j := none, earlier := [], fired := [], passD := s.rd F.HAMMER_NEXT_INDEX c }).releaseTest c) s

/-- Whether every armed channel of a group has handled its PASS_COLUMNS fire points. -/
def State.passDone (s : State) (g : Nat) : Bool :=
  (s.groupChannels g).all fun c =>
    !s.armed .fire c || decide ((s.hm c).j = some (s.rd F.HGRP_CFG_PASS_COLUMNS g))

/-- End the pass of a group when all its channels have done their columns (R275, R283). When the swath is owed, the latch
loads of the other channels begin anew, in this cycle, with the lines of the owed swath. -/
def State.passCheck (s : State) (c : Nat) : State :=
  let g := s.grpOf c
  if s.scanning c && (s.grp g).pass.isSome && s.passDone g then
    let held := (s.grp g).heldInPass
    let s := s.passEnd g
    if held then
      (s.groupChannels g).foldl (fun s c' =>
        if c' ≠ c ∧ s.armed .fire c' then s.setHm c' { s.hm c' with load := none, loadAt := some s.dt } else s) s
    else s
  else s

/-! ### Fire points -/

/-- A fire point is handled by the latch load of its line (R270, R271, R275). `early`: it was issued before that latch
load began. The pass it completes ends. [DESIGN CHOICE, log 63] -/
def State.handle (s : State) (c : Nat) (p : FirePt) (l : LoadS) (early : Bool) : State :=
  let late := decide (p.kind = 0) && (early || decide (p.dt < l.dt + s.tCyc c))
  let s := if late then
      ((s.flag F.HAMMER_STATUS_LATE c).inc F.HAMMER_CNT2_LATE c).unavailFor (s.targetNs .fire c)
    else if p.kind = 0 then
      (s.emit (.strobe c (p.dt + 8) (s.rd F.HAMMER_TIMING_STB_W c))).inc F.HAMMER_FIRED_FIRED c
    else s
  ((s.consume c p l late).releaseTest c).passCheck c

/-- Latch loads of a channel that begin in this cycle: each fire point that waited for its latch load ends it without an
edge, until one load waits for its fire point (R262, R271). -/
def State.loads (s : State) (c t : Nat) : Nat → State
  | 0 => (s.beginLoad c t).shiftLoad c
  | n + 1 =>
    match (s.hm c).pend with
    | [] => (s.beginLoad c t).shiftLoad c
    | p :: ps =>
      let s := s.beginLoad c t
      let s := s.setHm c { s.hm c with pend := ps }
      match (s.hm c).load with
      | some l => State.loads (s.handle c p l true) c t n
      | none => s

/-- Begin the latch loads due at DT t. -/
def State.startLoads (s : State) (c t : Nat) : State := s.loads c t (s.hm c).pend.length

/-- A fire point that belongs to channel c is handled, or waits for its latch load to begin (R262, R271). [DESIGN CHOICE, log 63] -/
def State.takePoint (s : State) (c : Nat) (p : FirePt) : State :=
  match (s.hm c).load with
  | none => s.setHm c { s.hm c with pend := (s.hm c).pend ++ [p] }
  | some l =>
    let late := decide (p.kind = 0) && decide (p.dt < l.dt + s.tCyc c)
    let strobed := decide (p.kind = 0) && !late
    let s := s.handle c p l false
    if strobed ∨ l.dt + s.tPulse c ≤ p.dt then s.startLoads c p.dt
    else s.setHm c { s.hm c with loadAt := some (l.dt + s.tPulse c) }

/-- Whether a fire point issued at DT t for the dot index d is held (R281, R282). -/
def State.heldPoint (s : State) (c d t : Nat) : Bool :=
  let g := s.grpOf c
  if s.rd F.HGRP_PASS_MODE g < 2 then false
  else match (if s.scanning c then none else (s.hm c).holdD) with
    | some h => decide (h ≤ d)
    | none => decide ((s.grp g).heldFrom ≤ t)

/-- A fire point of the generator of channel c: fired or skipped, issued at DT t (R270, R274, R281, R282). -/
def State.firePoint (s : State) (c : Nat) (cr : Crossing) (skipped : Bool) : State :=
  let g := s.grpOf c
  let scan := s.scanning c
  let d := s.rd F.HAMMER_NEXT_INDEX c + (s.hm c).pend.length
  let jAll := (s.hm c).j.map (· + (s.hm c).pend.length)
  let ok := !scan || (match jAll with
    | some j => decide (j < s.rd F.HGRP_CFG_PASS_COLUMNS g ∧ cr.dir = (s.hm c).passDir)
    | none => s.passDirOk g cr.dir)
  if !ok then s.inc F.HAMMER_CNT2_WRONG_DIR c
  else
    let s := if scan && jAll.isNone then s.beginPass c cr.dir else s
    let held := !skipped && s.heldPoint c d cr.at_
    let s := if held then
        let y := s.grp g
        (s.setGrp g { y with held := y.held + 1 }).inc F.HAMMER_CNT2_HELD c
      else s
    s.takePoint c ⟨cr.at_, cr.pos, cr.dir, if skipped then 1 else if held then 2 else 0, cr.delay⟩

/-- FIRE_POINT_ISSUE c: the first crossing that waits at generator c has reached its issue DT (R94, R98). On a FROZEN
axis no fire point is issued: the crossing is skipped (R87). -/
def execFirePointIssue (d c : Nat) (s : State) : Host.Outcome State Fault Refusal :=
  cmd (decide (c < 64)) d s fun s => s.press fun s =>
    let x := s.gen .fire c
    match x.waiting with
    | [] => s
    | cr :: rest =>
      if s.dt < cr.at_ then s else
        let frozen := !cr.skipped && decide (s.rd F.AXIS_STATUS_STATE (s.genAxis .fire c) = 2)
        let s := if frozen then s.skip .fire c 1 else s
        let skipped := cr.skipped || frozen
        let s := s.setGen .fire c { x with waiting := rest, last := if skipped then x.last else some cr.at_ }
        let s := if skipped then s else s.inc F.FIRE_COUNT_ISSUED c
        s.firePoint c cr skipped

/-- LATCH_LOAD_BEGIN c: 1,000 ns after ARM, latch load 0 begins; the contexts listed read with uncorrectable errors
(R262, R311). -/
def execLatchLoadBegin (d c : Nat) (bad : List Nat) (s : State) : Host.Outcome State Fault Refusal :=
  cmd (decide (c < 64)) d s fun s => s.press fun s =>
    let s := bad.foldl (fun s n => if n < s.nozzles c then s.rebuildContext c n else s) s
    match (s.hm c).loadAt with
    | some t => if t ≤ s.dt then s.startLoads c t else s
    | none => s

/-- LATCH_PULSE_END c: the HD_LAT pulse of a latch load that a skip, a hold or a LATE ended has ended (R262, R271). -/
def execLatchPulseEnd (d c : Nat) (s : State) : Host.Outcome State Fault Refusal :=
  cmd (decide (c < 64)) d s fun s => s.press fun s =>
    match (s.hm c).loadAt with
    | some t => if t ≤ s.dt ∧ 0 < (s.hm c).nextK then s.startLoads c t else s
    | none => s

/-- The write of a dot line into its slot completes (R269, R270); whether the slot becomes LOADED. -/
def State.dotCommit (s : State) (c : Nat) : Bool × State :=
  match (s.hm c).writing with
  | none => (false, s)
  | some image =>
    let w := s.rd F.HAMMER_WR_INDEX c
    let begun := decide (w < s.rd F.HAMMER_NEXT_INDEX c) || (match (s.hm c).load with
      | some l => decide (w ≤ l.d)
      | none => false)
    let s := s.setHm c { s.hm c with writing := none }
    let s := s.wr F.HAMMER_WR_INDEX (w + 1) c
    if begun then (false, s.inc F.HAMMER_CNT_LATE_LINES c)
    else
      let s := (s.hbmWrite (s.slotAddr c w) image).setSlot c w 1
      -- a check of this cycle counts as made after the completion
      let x := s.hm c
      (true, s.setHm c { x with buf := x.buf.map fun f =>
        if f.d = w ∧ f.at_ = s.dt then s.fetchLine c w else f })

/-! ### Arming -/

/-- The cause for which channel c refuses ARM, 0 for none (R266, R273). -/
def State.armRefuse (s : State) (c : Nat) : Nat :=
  let dirs := s.rd F.FIRE_CFG_DIRS c
  let bi := s.on F.AXIS_CFG_MODE (s.genAxis .fire c)
  let geo := match s.geometry c with
    | 0 => decide (dirs = 1 ∨ dirs = 2)
    | 1 => bi && decide (dirs = 1)
    | 2 => bi && decide (dirs = 3)
    | _ => false
  let slots := s.rd F.HAMMER_DOTGEOM_SLOTS c
  let res := s.rd F.HAMMER_DOT_RESERVE_LINES c
  let need := if s.scanning c then 2 * s.rd F.HGRP_CFG_PASS_COLUMNS (s.grpOf c) + res else res + 2
  if !s.on F.HAMMER_CFG_ENABLE c || decide (s.rd F.HAMMER_DOT_SHARE_MIB c = 0) then 1
  else if s.rd F.FIRE_MINPER_VALUE c < s.tCyc c then 2
  else if !geo then 3
  else if slots < need then 4
  else 0

/-- Channel c accepts ARM: the slots of the first two lines are checked, and latch load 0 begins 1,000 ns later (R262,
R270). [DESIGN CHOICE, log 63] -/
def State.hammerArm (s : State) (c : Nat) : State :=
  let d := s.rd F.HAMMER_NEXT_INDEX c
  let x := s.hm c
  let s := s.setHm c { x with nextK := 0, load := none, loadAt := some (s.dt + 1000), buf := [], pend := [], j := none,
                              passD := (if s.owed c then x.passD else d) }
  let s := if s.scanning c then s.wr F.HGRP_SWATH_SWATH_BASE (s.rd F.HAMMER_GRID_GRID_BASE c) (s.grpOf c) else s
  s.check c [d, d + 1]

/-- Disarming abandons the latch load in progress; its line stays LOADED (R271). [DESIGN CHOICE, log 63] -/
def State.hammerDisarm (s : State) (c : Nat) : State :=
  let x := s.hm c
  let s := match x.load with
    | some l => if x.slots.getD (s.slotOf c l.d) {} = (⟨2, l.d⟩ : SlotS) then s.setSlot c l.d 1 else s
    | none => s
  let s := s.setHm c { s.hm c with
    load := none, loadAt := none, buf := [], pend := [], j := none, fired := [],
    -- no latch load is left that a hot channel may strobe (R281)
    holdD := (s.hm c).holdD.map fun _ => 0 }
  let g := s.grpOf c
  if (s.groupChannels g).any (fun c' => decide (c' ≠ c) && s.armed .fire c') then s
  else s.setGrp g { s.grp g with pass := none, heldInPass := false, reprint := false }

/-- The fire points that wait for their latch loads are handled now, each ending its latch load without an edge (R271). -/
def State.drainPend (s : State) (c t : Nat) : Nat → State
  | 0 => s
  | n + 1 =>
    match (s.hm c).pend with
    | [] => s
    | p :: ps =>
      let s := s.beginLoad c t
      let s := s.setHm c { s.hm c with pend := ps }
      match (s.hm c).load with
      | some l => State.drainPend (s.handle c p l true) c t n
      | none => s

/-- The scan axis of a group turns during a pass: fire points issued before are handled, and the pass ends with its remaining columns held
(R271, R275). [DESIGN CHOICE, log 66] -/
def State.hammerTurn (s : State) (a : Nat) : State :=
  (List.range 8).foldl (fun s g =>
    let cs := (s.groupChannels g).filter fun c =>
      s.armed .fire c && s.scanning c && decide (s.genAxis .fire c = a)
    if cs.isEmpty ∨ (s.grp g).pass.isNone then s
    else
      let dir := (s.grp g).pass.getD 0
      let s := cs.foldl (fun s c => s.drainPend c (((s.hm c).loadAt).getD s.dt) (s.hm c).pend.length) s
      if (s.grp g).pass.isNone then s
      else
        let n := s.rd F.HGRP_CFG_PASS_COLUMNS g
        let s := cs.foldl (fun s c =>
          let x := s.hm c
          let s := s.setHm c { x with
            passDir := dir, load := none, loadAt := none,
            passD := (if x.j.isNone && !s.owed c then s.rd F.HAMMER_NEXT_INDEX c else x.passD) }
          s.missColumns c (n - x.j.getD 0)) s
        let s := (s.flag F.HGRP_STATUS_SHORT_PASS g).passEnd g
        cs.foldl (fun s c => s.startLoads c s.dt) s) s

/-- HAMMER_CTL.FLUSH, accepted only while disarmed: every LOADED slot is freed (R271). -/
def State.hammerFlush (s : State) (c : Nat) : State :=
  if s.armed .fire c then s else
    let x := s.hm c
    (s.setHm c { x with slots := x.slots.filter (fun e => e.2.state ≠ 1), writing := none,
                        flushes := x.flushes + 1 }).wr F.HAMMER_WR_INDEX (s.rd F.HAMMER_NEXT_INDEX c) c

/-- HAMMER_FLUSH c (R271). -/
def execHammerFlush (d c : Nat) (s : State) : Host.Outcome State Fault Refusal :=
  cmd (decide (c < 64)) d s fun s => 
    s.hostHold (F.HAMMER_CTL_FLUSH.at_ c) 4 2 fun s => s.press fun s => s.hammerFlush c

/-- The counters of a channel read 0 (R272). -/
def State.hammerClear (s : State) (c : Nat) : State :=
  s.clrAll [F.HAMMER_FIRED_FIRED, F.HAMMER_CNT_UNDERRUNS, F.HAMMER_CNT_SEQ_ERRS, F.HAMMER_CNT_LATE_LINES,
    F.HAMMER_CNT_FORCED, F.HAMMER_CNT2_HELD, F.HAMMER_CNT2_WRONG_DIR, F.HAMMER_CNT2_LATE] c

/-- HAMMER_CLEAR_COUNTS c (R272). -/
def execHammerClearCounts (d c : Nat) (s : State) : Host.Outcome State Fault Refusal :=
  cmd (decide (c < 64)) d s fun s => s.hostHold (F.HAMMER_CTL_FLUSH.at_ c) 4 1 fun s => s.hammerClear c

/-! ### Over-temperature -/

/-- SOURCE of a print group: its lowest channel (R284). -/
def State.grpSrc (s : State) (g : Nat) : Nat := srcNo 9 ((s.groupChannels g).headD 0)

/-- Whether HD_HOT_N of every enabled channel of a group has been accepted high (R283). -/
def State.grpCool (s : State) (g : Nat) : Bool := (s.groupChannels g).all fun c => !s.on F.HAMMER_STATE_HOT c

/-- The open and held requests of function 0x09 of a group close, whichever channel was its lowest when they were posted (R284). -/
def State.closeGrp (s : State) (g : Nat) : State :=
  let mine := fun (func : Nat) (p : Bytes) => decide (func = 9 ∧ leAt p 0 1 = g)
  { s with dcs := { s.dcs with open_ := s.dcs.open_.filter (fun r => !mine r.func r.proposal),
                               held := s.dcs.held.filter (fun r => !mine r.func r.proposal) } }

/-- Over-temperature holds end: the group fires again, which is the safe point of function 0x09 (R44, R283). -/
def State.grpResume (s : State) (g : Nat) : State :=
  let s := (s.wr F.HGRP_PASS_MODE 0 g).flag F.HGRP_STATUS_RESUMED g
  let s := (s.setGrp g { s.grp g with resumeAt := none }).closeGrp g
  let s := (s.groupChannels g).foldl (fun s c => s.setHm c { s.hm c with holdD := none }) s
  (s.raise (ev 0x11 g)).safePoint 9 g fun s => s.closeGrp g

/-- PROPOSAL of function 0x09 (R284). -/
def State.grpProposal (s : State) (g : Nat) : Bytes :=
  let owed := s.on F.HGRP_PASS_OWED g
  le 1 g ++ le 1 (if owed then s.rd F.HGRP_PASS_TABLE_IDX g else 0xFF) ++ le 2 0
    ++ le 4 (s.rd F.HGRP_HOT_RESUME_DELAY_MS g) ++ le 8 (s.rd F.HGRP_HOLD_HOLD_DT g) ++ le 8 (s.grp g).hotMask
    ++ le 4 (s.grp g).held ++ le 4 0

/-- Post the request of function 0x09 of a held group (R284). -/
def State.grpAsk (s : State) (g : Nat) (repost : Bool) : State :=
  (s.post 9 (s.grpSrc g) (if s.on F.HGRP_PASS_OWED g then 2 else 1) (s.grpProposal g) repost).2

/-- A held group that has become cool starts its resume delay, or asks host software (R283, R284). -/
def State.grpCooled (s : State) (g : Nat) : State :=
  if s.rd F.HGRP_PASS_MODE g = 2 ∧ s.grpCool g then
    let s := s.wr F.HGRP_PASS_MODE 3 g
    if s.hwMode 9 g then
      s.setGrp g { s.grp g with resumeAt := some (s.clk + 1000000 * s.rd F.HGRP_HOT_RESUME_DELAY_MS g) }
    else s.grpAsk g false
  else s

/-- HD_HOT_N of a channel is sampled at a level (R280). -/
def State.samplePin (s : State) (c : Nat) (high : Bool) : State :=
  if (s.hm c).pinHigh = high then s else s.setHm c { s.hm c with pinHigh := high, pinAt := s.clk }

/-- The sampled level of HD_HOT_N is accepted: it has been sampled unchanged for HOT_FILTER_NS + 2 ns (R280). -/
def State.pinAccepted (s : State) (c : Nat) : Bool :=
  s.due (s.hm c).pinAt (s.rd F.HGRP_HOT_HOT_FILTER_NS (s.grpOf c) + 2)

/-- A low HD_HOT_N is accepted: the channel is hot, and its group enters HOLD unless it is already there (R280 to R284). -/
def State.headHot (s : State) (c : Nat) : State :=
  let g := s.grpOf c
  let s := ((s.wr F.HAMMER_STATE_HOT 1 c).flag F.HAMMER_STATUS_HOT_SEEN c).raise (ev 0x0D c)
  let y := s.grp g
  if s.rd F.HGRP_PASS_MODE g < 2 then
    let s := s.setGrp g { y with hotMask := 2 ^ c, held := 0, heldFrom := s.dt + 40, resumeAt := none,
                                 heldInPass := y.heldInPass || y.pass.isSome }
    let x := s.hm c
    let first := match x.load with
      | some l => l.d + 1
      | none => s.rd F.HAMMER_NEXT_INDEX c + x.pend.length
    let s := s.setHm c { x with holdD := some first }
    let s := ((s.wr F.HGRP_PASS_MODE 2 g).flag F.HGRP_STATUS_HOLD g).wr F.HGRP_HOLD_HOLD_DT s.dt g
    (s.raise (ev 0x10 g)).alert 7
  else
    let s := s.setGrp g { y with hotMask := y.hotMask ||| 2 ^ c, resumeAt := none }
    (s.wr F.HGRP_PASS_MODE 2 g).closeGrp g

/-- HEAD_HOT_ACCEPT c: HD_HOT_N is sampled low, and accepted low once that has lasted HOT_FILTER_NS + 2 ns (R280 to R284).
[DESIGN CHOICE, log 91] -/
def execHeadHotAccept (d c : Nat) (s : State) : Host.Outcome State Fault Refusal :=
  cmd (decide (c < 64)) d s fun s => s.press fun s =>
    if !s.on F.HAMMER_CFG_ENABLE c then s
    else
      let s := s.samplePin c false
      if !s.on F.HAMMER_STATE_HOT c && s.pinAccepted c then s.headHot c else s

/-- HEAD_COOL_ACCEPT c: HD_HOT_N is sampled high, and accepted high once that has lasted HOT_FILTER_NS + 2 ns (R280, R283, R284).
[DESIGN CHOICE, log 91] -/
def execHeadCoolAccept (d c : Nat) (s : State) : Host.Outcome State Fault Refusal :=
  cmd (decide (c < 64)) d s fun s => s.press fun s =>
    if !s.on F.HAMMER_CFG_ENABLE c then s
    else
      let s := s.samplePin c true
      if s.on F.HAMMER_STATE_HOT c && s.pinAccepted c then (s.wr F.HAMMER_STATE_HOT 0 c).grpCooled (s.grpOf c) else s

/-- RESUME_DELAY_EXPIRY g: the delay after cool, or of a reply, has passed (R283, R284). -/
def execResumeDelayExpiry (d g : Nat) (s : State) : Host.Outcome State Fault Refusal :=
  cmd (decide (g < 8)) d s fun s => s.press fun s =>
    match (s.grp g).resumeAt with
    | some t => if t ≤ s.clk then s.grpResume g else s
    | none => s

/-- HGRP_CTL.RESUME resumes a held group that is cool; in one that is not cool it is ignored (R283). -/
def State.grpResumeWrite (s : State) (g : Nat) : State := if s.rd F.HGRP_PASS_MODE g = 3 then s.grpResume g else s

/-- HGRP_RESUME g (R283). -/
def execHgrpResume (d g : Nat) (s : State) : Host.Outcome State Fault Refusal :=
  cmd (decide (g < 8)) d s fun s => s.hostHold (F.HGRP_CTL_RESUME.at_ g) 4 1 fun s => s.press fun s => s.grpResumeWrite g

end Sys2Proof.Machine
end

