-- ==== Sys2Proof/Machine/Triggers.lean ====
section
/-!
DEFINITION. Arming, stopping and flushing of generators, the issue of triggers and pulses (R92 to R101), the ledger's notices
and timeouts (R103, R104), and the commands on encoders and axes (R79 to R91).
-/

namespace Sys2Proof.Machine

/-! ### Encoders and axes -/

/-- Axes that have turned: their generators are laid anew and passes on them end (R92, R275). -/
def State.turned (s : State) (axes : List Nat) : State := axes.foldl (fun s a => (s.axisTurned a).hammerTurn a) s

/-- A cycle of the position block in which the samplers take new levels: what earlier samples make due is accepted first, since a level
is never accepted in the cycle that first samples it (R78, R79). -/
def State.encCycle (s : State) (sample : State → State) : State :=
  if s.power.on && s.ready then
    let r := s.posCycle
    sample (r.2.turned r.1)
  else (sample s).followPins

/-- ENCODER_EDGE: a cycle in which levels of A and B may be accepted, and new ones sampled (R78 to R91). [DESIGN CHOICE, log 91] -/
def execEncoderEdge (d : Nat) (smp : List (Nat × Nat × Nat)) (s : State) : Host.Outcome State Fault Refusal :=
  cmd (smp.all fun x => decide (x.1 < 16)) d s fun s => s.encCycle fun s => s.sampleAB smp

/-- ENCODER_INDEX: a cycle in which levels of Z may be accepted, and new ones sampled (R78, R79, R81). [DESIGN CHOICE, log 91] -/
def execEncoderIndex (d : Nat) (smp : List (Nat × Nat)) (s : State) : Host.Outcome State Fault Refusal :=
  cmd (smp.all fun x => decide (x.1 < 16)) d s fun s => s.encCycle fun s => s.sampleZ smp

/-- A host write of AXIS_CTL. -/
def State.axisCtl (s : State) (a : Nat) (f : State → State) : State :=
  s.hostWrite (F.AXIS_CTL_RESUME.at_ a) fun s => s.press f

/-- AXIS_RESUME: AXIS_CTL.RESUME (R88). -/
def execAxisResume (d a : Nat) (s : State) : Host.Outcome State Fault Refusal :=
  cmd (decide (a < 8)) d s fun s => s.axisCtl a fun s => s.axResume a

/-- USE_REDUNDANT: AXIS_CTL.USE_REDUNDANT (R91). -/
def execUseRedundant (d a : Nat) (s : State) : Host.Outcome State Fault Refusal :=
  cmd (decide (a < 8)) d s fun s => s.axisCtl a fun s => s.axUseRedundant a

/-- USE_PRIMARY: AXIS_CTL.USE_PRIMARY (R91). -/
def execUsePrimary (d a : Nat) (s : State) : Host.Outcome State Fault Refusal :=
  cmd (decide (a < 8)) d s fun s => s.axisCtl a fun s => s.axUsePrimary a

/-! ### Arming -/

/-- Bellows wakes an idle bond at the ARM of its generator (R344). [DEDUCED, log 62] -/
def State.wakeBond (s : State) (g : Nat) : State :=
  match s.masterOf g with
  | some p =>
    if s.bond p = 4 ∧ !(s.port p).cmds.any (fun c => decide (c.owner = 2)) then (s.sendCmd p 5 2 0 0 []).2 else s
  | none => s

/-- An order to arm a generator, by CTL.ARM or by a Striker task (R92, R266). An armed generator stays as it is. [DESIGN CHOICE, log 61] -/
def State.armOrder (s : State) (k : GenKind) (g : Nat) : State :=
  if s.armed k g then s
  else if s.pitch k g < 2 ^ 24 then s.flag (gf k F.CTRIG_STATUS_ARM_REFUSED) g
  else match k with
    | .ctrig => (s.armGen k g).wakeBond g
    | .ptrig => s.armGen k g
    | .fire =>
      let why := s.armRefuse g
      if why ≠ 0 then (s.flag F.HAMMER_STATUS_ARM_REFUSED g).wr F.HAMMER_STATE_REFUSE why g
      else ((s.beginExit (48 + g / 16)).armGen k g).hammerArm g

/-- An order to stop a generator (R96). -/
def State.disarmOrder (s : State) (k : GenKind) (g : Nat) : State :=
  match k with
  | .fire => if s.armed k g then (s.disarm k g).hammerDisarm g else s.disarm k g
  | _ => s.disarm k g

/-- A flush: a stop, and every open entry of the generator is lost with CAUSE 0b100 (R96, R104). -/
def State.flushOrder (s : State) (k : GenKind) (g : Nat) : State :=
  let s := s.disarmOrder k g
  match k with
  | .ctrig => s.loseAll g 4
  | _ => s

/-- A host write of the CTL register of a generator. [DESIGN CHOICE, log 61] -/
def State.genCtl (s : State) (k : GenKind) (g : Nat) (f : State → State) : State :=
  s.hostWrite ((gf k F.CTRIG_CTL_ARM).at_ g) fun s => s.press f

/-- GENERATOR_ARM: CTL.ARM (R92). -/
def execGeneratorArm (d : Nat) (k : GenKind) (g : Nat) (s : State) : Host.Outcome State Fault Refusal :=
  cmd (decide (g < genCount k)) d s fun s => s.genCtl k g fun s => s.armOrder k g

/-- GENERATOR_DISARM: CTL.DISARM (R96). -/
def execGeneratorDisarm (d : Nat) (k : GenKind) (g : Nat) (s : State) : Host.Outcome State Fault Refusal :=
  cmd (decide (g < genCount k)) d s fun s => s.genCtl k g fun s => s.disarmOrder k g

/-- GENERATOR_FLUSH: CTL.FLUSH (R96). -/
def execGeneratorFlush (d : Nat) (k : GenKind) (g : Nat) (s : State) : Host.Outcome State Fault Refusal :=
  cmd (decide (g < genCount k)) d s fun s => s.genCtl k g fun s => s.flushOrder k g

/-! ### Issue -/

/-- The axis of a generator is FROZEN: nothing is issued (R87). -/
def State.frozen (s : State) (k : GenKind) (g : Nat) : Bool :=
  decide (s.rd F.AXIS_STATUS_STATE (s.genAxis k g) = 2)

/-- The payload of a trigger block after its type (R160). -/
def trigPayload (scan : Bool) (wait line frameNo : Nat) : Nat :=
  fromLe (le 1 (b2n scan) ++ le 2 wait ++ (if line = 0 then le 4 frameNo else le 2 line ++ le 1 frameNo ++ zeros 1))

/-- The master port that takes a trigger block of a camera generator: the one of its bond, while that is ACTIVE (R173).
[DEDUCED, log 62] -/
def State.trigPort (s : State) (g : Nat) : Option Nat :=
  match s.masterOf g with
  | some p => if s.bond p = 3 then some p else none
  | none => none

/-- A trigger block goes to the upstream block selector of its master port (R161, R162): its first bit leaves 32 ns and WAIT after the issue
DT, WAIT being less than one block time. -/
def State.sendTrigBlock (s : State) (p wait typ pay at_ : Nat) : State :=
  let k := s.sliceOf p
  let s := s.txSync k
  let start := 100 * (s.clk - (s.dt - at_)) + 3200 + wait
  (s.setPort p { s.port p with up := { (s.port p).up with trigs := (s.port p).up.trigs ++ [(start, typ + 2 ^ 8 * pay)] } }).txSync k

/-- The stamp and position of a trigger pass to the Hearth, which keeps the last 4,096 (R94, R189). -/
def State.pushTrig (s : State) (g : Nat) (t : LineTrig) : State :=
  match s.hearthOf g with
  | some n => s.setHth n { s.hth n with trigs := (t :: (s.hth n).trigs).take 4096 }
  | none => s

/-- What every issued trigger does: its block, its stamp and position, and TRIG[g] (R94, R160, R173). [DEDUCED, log 62] -/
def State.sendTrig (s : State) (g wait frameNo : Nat) (cr : Crossing) (dropped : Bool) : State :=
  let s := match (if dropped then none else s.trigPort g) with
    | some p =>
      let wait := wait % blockTime (s.lane (s.sliceOf p)).rate
      let pay := trigPayload (s.on F.CTRIG_CFG_KIND g) wait cr.line frameNo
      s.sendTrigBlock p wait (if cr.line = 0 then 0x4B else 0x55) pay cr.at_
    | none => s
  let s := s.pushTrig g ⟨frameNo % 256, cr.line, cr.at_, cr.pos, cr.dir⟩
  if s.on F.CTRIG_CFG_STRIKER_OUT g then s.raiseT (ev 0x05 g) else s

/-- A frame trigger that opens no entry: the frame is not triggered at all, so its lines that wait are dropped (R101). [DESIGN CHOICE, log 61] -/
def State.refuseFrame (s : State) (g : Nat) (cr : Crossing) : State :=
  let no := s.rd F.CTRIG_COUNT_FRAME_NO g
  let e : LedgerE := ⟨cr.at_, cr.pos, s.rd F.CTRIG_CFG_AXIS g, cr.dir, 4, no, g, 0, s.frameLines g, cr.skips⟩
  let s := (s.inc F.CTRIG_COUNT_SKIPS g).flag F.CTRIG_STATUS_LEDGER_FULL g
  let s := s.raiseT (ev 0x01 4)
  let gen := match s.hearthOf g with
    | some n => s.expGenOf n no cr.at_
    | none => 0
  let s := s.trigRecord g 0x0101 s.dt (LedgerE.bytes { e with expGen := gen } 4 5) 0xFFFFFFFF
  let x := s.gen .ctrig g
  s.setGen .ctrig g { x with refused := true, entry := none, waiting := x.waiting.dropWhile fun c => decide (c.line ≠ 0) }

/-- A frame trigger is issued: it opens its ledger entry (R94, R101, R105), which is lost at once when there is no camera
(R173). -/
def State.issueFrame (s : State) (g wait : Nat) (cr : Crossing) : State :=
  if s.rd F.CTRIG_QUOTA_VALUE g ≤ (s.openOf g).length ∨ 131072 ≤ s.pos.ledger.length then s.refuseFrame g cr
  else
    let no := s.rd F.CTRIG_COUNT_FRAME_NO g
    let r := s.expGenFor g no cr.at_
    let s := r.2
    let e : LedgerE := ⟨cr.at_, cr.pos, s.rd F.CTRIG_CFG_AXIS g, cr.dir, 1, no, g, r.1, s.frameLines g, cr.skips⟩
    let idx := freeIndex 0 s.pos.ledger
    let s := s.setLedger (s.pos.ledger.ins idx e)
    let s := s.trigRecord g 0x0100 cr.at_ (e.bytes 1 0) idx
    let s := s.wr F.CTRIG_COUNT_FRAME_NO ((no + 1) % 2 ^ 32) g
    let dropped := (s.trigPort g).isNone
    let x := s.gen .ctrig g
    let s := s.setGen .ctrig g { x with
      last := some cr.at_, count := x.count + 1, entry := some (idx, no), refused := false, dropped := dropped }
    let s := s.sendTrig g wait no cr dropped
    if dropped then
      let s := match s.masterOf g with
        | some p => s.flag F.COBEX_STATUS_TRIG_DROPPED p
        | none => s
      s.loseEntry idx 3
    else s

/-- A crossing of a camera generator comes to its issue (R87, R94). On a FROZEN axis it is skipped instead. [DESIGN CHOICE, log 59] -/
def State.issueCam (s : State) (g wait : Nat) (cr : Crossing) : State :=
  let x := s.gen .ctrig g
  if s.frozen .ctrig g then
    if cr.line = 0 then
      (s.skip .ctrig g 1).setGen .ctrig g { x with
        refused := true, entry := none, suppressed := x.suppressed || decide (x.waiting.all fun c => decide (c.line ≠ 0)) }
    else if x.refused then s
    else
      let s := s.skip .ctrig g 1
      match x.entry with
      | some e => s.ledgerSkip e.1 1
      | none => s
  else if cr.line = 0 then s.issueFrame g wait cr
  else if x.refused then s
  else
    let no := match x.entry with
      | some e => e.2
      | none => 0
    (s.setGen .ctrig g { x with last := some cr.at_ }).sendTrig g wait no cr x.dropped

/-- After the issue of a frame trigger that ends the last counted frame, the generator disarms itself (R93). -/
def State.issueDone (s : State) (g : Nat) (cr : Crossing) : State :=
  let fr := s.rd F.CTRIG_FRAME_FRAMES g
  let x := s.gen .ctrig g
  if s.armed .ctrig g ∧ cr.line = 0 ∧ fr ≠ 0 ∧ fr ≤ x.count ∧ s.frameOver g cr.k cr.dir then s.selfDisarm g else s

/-- TRIGGER_ISSUE: the first crossing that waits at camera generator g has reached its issue DT; `wait` is the sub-block wait of
R161 (R94, R101, R173). -/
def execTriggerIssue (d g wait : Nat) (s : State) : Host.Outcome State Fault Refusal :=
  cmd (decide (g < 256)) d s fun s => s.press fun s =>
    let x := s.gen .ctrig g
    match x.waiting with
    | [] => s
    | cr :: rest =>
      if s.dt < cr.at_ then s
      else ((s.setGen .ctrig g { x with waiting := rest }).issueCam g wait cr).issueDone g cr

/-- The level of PTRIG[p]: high during a pulse, inverted by POLARITY (R97). -/
def State.pinLevel (s : State) (p : Nat) : State :=
  let high := (s.gen .ptrig p).pulseEnd.isSome
  s.setLevel (ev 0x06 p) (b2n (high != s.on F.PTRIG_CFG_POLARITY p))

/-- PIN_PULSE_ISSUE: the first crossing that waits at pin generator p has reached its issue DT (R87, R97). -/
def execPinPulseIssue (d p : Nat) (s : State) : Host.Outcome State Fault Refusal :=
  cmd (decide (p < 32)) d s fun s => s.press fun s =>
    let x := s.gen .ptrig p
    match x.waiting with
    | [] => s
    | cr :: rest =>
      if s.dt < cr.at_ then s
      else if s.frozen .ptrig p then (s.skip .ptrig p 1).setGen .ptrig p { x with waiting := rest }
      else
        let w := s.rd F.PTRIG_PULSE_WIDTH_NS p
        let s := s.setGen .ptrig p { x with
          waiting := rest, last := some cr.at_, count := x.count + 1, pulseEnd := some (s.dt + w) }
        let s := (s.inc F.PTRIG_COUNT_ISSUED p).emit (.pulse p cr.at_ w)
        let s := s.pinLevel p
        let n := s.rd F.PTRIG_PULSE_COUNT p
        if n ≠ 0 ∧ n ≤ x.count + 1 then s.disarm .ptrig p else s

/-- PIN_PULSE_END: the pulse of pin generator p has lasted WIDTH_NS (R97). -/
def execPinPulseEnd (d p : Nat) (s : State) : Host.Outcome State Fault Refusal :=
  cmd (decide (p < 32)) d s fun s => s.press fun s =>
    let x := s.gen .ptrig p
    match x.pulseEnd with
    | some t => if t ≤ s.dt then (s.setGen .ptrig p { x with pulseEnd := none }).pinLevel p else s
    | none => s

/-! ### The ledger -/

/-- The oldest notice of a kind that names a ledger index. -/
def State.noticeFor (s : State) (idx : Nat) (tag : Bool) : Option Notice :=
  s.pos.notices.find? fun k => decide (k.idx = idx ∧ k.tag = tag)

/-- A notice reaches the ledger. -/
def State.takeNotice (s : State) (k : Notice) : State := { s with pos := { s.pos with notices := s.pos.notices.erase k } }

/-- LEDGER_FIRST_BLOCK_NOTICE: the Hearth's first-block notice reaches the ledger (R103). -/
def execLedgerFirstBlockNotice (d idx : Nat) (s : State) : Host.Outcome State Fault Refusal :=
  cmd (decide (idx < 131072)) d s fun s => s.press fun s =>
    match s.noticeFor idx false with
    | some k => (s.takeNotice k).ledgerFirst k
    | none => s

/-- LEDGER_FRAME_TAG_NOTICE: the Hearth's frame-tag notice reaches the ledger, which answers it (R103, R203). -/
def execLedgerFrameTagNotice (d idx : Nat) (s : State) : Host.Outcome State Fault Refusal :=
  cmd (decide (idx < 131072)) d s fun s => s.press fun s =>
    match s.noticeFor idx true with
    | some k => (s.takeNotice k).tagAnswer k
    | none => s

/-- FIRST_BLOCK_TIMEOUT: an entry is still open FIRST_TIMEOUT_US after its trigger (R104). A notice applied in the same cycle stands before
it in the queue (R78). [DESIGN CHOICE, log 3] -/
def execFirstBlockTimeout (d idx : Nat) (s : State) : Host.Outcome State Fault Refusal :=
  cmd (decide (idx < 131072)) d s fun s => s.press fun s =>
    match s.pos.ledger.find idx with
    | none => s
    | some e =>
      if e.state = 1 ∧ e.dt + 1000 * s.rd F.CTRIG_TIMEOUT_FIRST_TIMEOUT_US e.gen ≤ s.dt then
        s.loseEntry idx 1
      else s

/-- FRAME_TIMEOUT: an entry is not retired FRAME_TIMEOUT_US after its trigger (R104). -/
def execFrameTimeout (d idx : Nat) (s : State) : Host.Outcome State Fault Refusal :=
  cmd (decide (idx < 131072)) d s fun s => s.press fun s =>
    match s.pos.ledger.find idx with
    | none => s
    | some e =>
      if e.dt + 1000 * s.rd F.CTRIG_TIMEOUT_FRAME_TIMEOUT_US e.gen ≤ s.dt then s.loseEntry idx 2 else s

end Sys2Proof.Machine
end

