-- ==== Sys2Proof/Machine/Bellows.lean ====
section
/-!
DEFINITION. Bellows (chapter 11): sensors, PMBus on SMB_C0, the budget guard and its restores, rail steps, the schedule and
function 0x08, and banking.
-/

namespace Sys2Proof.Machine

/-- Bellows beside its registers, updated. -/
def State.setBlw (s : State) (x : BlwS) : State := { s with blw := x }

/-- The source number of Bellows. -/
def blwSrc : Nat := srcNo 0x0B 0

/-! ### Sensors -/

/-- T_MAX, the highest of the latest readings, sQ8.8 °C (R317). -/
def State.tMax (s : State) : Int :=
  (List.range 32).foldl (fun m i => max m (sOf 16 (s.rd F.BLW_TEMP_TEMP i))) (sOf 16 (s.rd F.BLW_TEMP_TEMP 0))

/-- The latest readings of the temperature sensors, and the peaks (R317). -/
def State.readTemps (s : State) (readings : List Nat) : State :=
  (readings.take 32).zipIdx.foldl (fun (s : State) (e : Nat × Nat) =>
    let s := s.wr F.BLW_TEMP_TEMP e.1 e.2
    let now := s.rd F.BLW_TEMP_TEMP e.2
    if sOf 16 (s.rd F.BLW_TEMP_PEAK e.2) < sOf 16 now then s.wr F.BLW_TEMP_PEAK now e.2 else s) s

/-- THERMTRIP_N is asserted and a fatal internal error recorded; Bellows commands no further voltage (R329). -/
def State.thermTrip (s : State) (sensor : Nat) : State :=
  if s.blw.thermtrip then s
  else
    (s.setBlw { s.blw with thermtrip := true, cmd := [], queue := s.blw.queue.filter fun q => decide (q.code ≠ 0x21 ∧ q.for_ ≠ 0x21) }).err
      0x30 blwSrc (detail [sensor, s.rd F.BLW_TEMP_TEMP sensor])

/-- TEMP_SAMPLE: the die temperature sensors are sampled, at all times (R317, R545); a reading of 125 °C trips (R329). A sensor without a
reading keeps its latest. [DESIGN CHOICE, log 5] -/
def execTempSample (d : Nat) (readings : List Nat) (s : State) : Host.Outcome State Fault Refusal :=
  cmd true d s fun s => s.powered fun s =>
    let s := s.readTemps readings
    match (List.range 32).find? fun i => decide (0x7D00 ≤ sOf 16 (s.rd F.BLW_TEMP_TEMP i)) with
    | some i => s.thermTrip i
    | none => s

/-- The handshake-rate monitors of the domains on rails 0 to 13 report TOK (R319); a monitor without a reading keeps its latest.
[DESIGN CHOICE, log 5] -/
def State.readToks (s : State) (toks : List Nat) : State :=
  (toks.take 64).zipIdx.foldl (fun (s : State) (e : Nat × Nat) =>
    if domainRail e.2 < 14 then s.wr F.BLW_DOM_TOK e.1 e.2 else s) s

/-! ### PMBus on SMB_C0 -/

/-- Bellows does not own SMB_C0 (R322). -/
def State.noPmbus (s : State) : Bool := decide (s.owner 0x0A 0 ≠ blwSrc)

/-- The exponent N of a rail's VOUT_MODE, once read and linear (R323). -/
def State.voutExp (s : State) (k : Nat) : Option Int :=
  match s.blw.vmode.find k with
  | some v => if bits (v - 1) 7 5 = 0 then some (sOf 5 (v - 1)) else none
  | none => none

/-- round(x × 2^e): exact for a positive exponent. -/
def scale2 (x : Int) (e : Int) : Int := if 0 ≤ e then x * 2 ^ e.toNat else rdiv x (2 ^ (-e).toNat)

/-- VOUT_COMMAND of a set point in mV: round(mV × 2^−N / 1,000) (R323). -/
def voutRaw (mv : Nat) (n : Int) : Nat :=
  (if 0 ≤ n then rdiv mv (1000 * 2 ^ n.toNat) else rdiv ((mv : Int) * 2 ^ (-n).toNat) 1000).toNat % 65536

/-- Millivolts of a READ_VOUT (R323). -/
def voutMv (raw : Nat) (n : Int) : Nat := satU 16 (scale2 ((raw : Int) * 1000) n)

/-- A READ_IOUT in linear11, in 1/16 A (R323). -/
def ioutOf (raw : Nat) : Nat := satU 16 (scale2 (sOf 11 raw) (sOf 5 (raw >>> 11) + 4))

/-- Operation code and written bytes of a PMBus command of Bellows (R323, SMBC_CMD). -/
def State.blwOp (s : State) (t : BlwTx) : Nat × Bytes :=
  if t.code = 0x00 then (2, le 1 t.value)
  else if t.code = 0x03 then (1, [])
  else if t.code = 0x20 then (4, [])
  else if t.code = 0x21 then (3, le 2 (voutRaw t.value ((s.voutExp t.rail).getD 0)))
  else (5, [])

/-- Bellows may send on SMB_C0: it owns the port, and the port is enabled (R322). -/
def State.mayPmbus (s : State) : Bool := !s.noPmbus && s.on F.SMBC_CFG_ENABLE 0

/-- A VOUT_COMMAND to a rail whose mode is not known as linear is not sent (R324). -/
def State.voutBarred (s : State) (t : BlwTx) : Bool := decide (t.for_ = 0x21) && (s.voutExp t.rail).isNone

/-- The next command that waits goes onto the bus; without the port Bellows sends nothing (R322, R324). -/
def State.blwPump (s : State) : State :=
  if s.blw.busy.isSome ∨ (s.smb.tx.find 0).isSome then s
  else if !s.mayPmbus then s.setBlw { s.blw with queue := [], cmd := [] }
  else
    let barred := s.blw.queue.takeWhile s.voutBarred
    let s := s.setBlw { s.blw with cmd := barred.foldl (fun (m : Assoc Nat) t => m.put t.rail 0 0) s.blw.cmd }
    match s.blw.queue.dropWhile s.voutBarred with
    | [] => s.setBlw { s.blw with queue := [] }
    | t :: rest =>
      let s := s.setBlw { s.blw with queue := rest, busy := some t }
      let op := s.blwOp t
      let addr := s.rd F.BLW_RAIL_ADDR t.rail
      let tx : SmbcTx := ⟨op.1, addr, t.code, op.2, 0, s.on F.BLW_RAIL_PEC t.rail, some t.rail, 0, 0⟩
      ((s.setTx 0 tx).wr F.SMBC_RSLT_BUSY 1 0).smbcSend 0 tx s.clk

/-- Queue commands to a rail, each with its PAGE write where the rail has a page (R322, R323). -/
def State.blwSend (s : State) (front : Bool) (k : Nat) (cs : List (Nat × Nat)) : State :=
  if !s.mayPmbus then s else
    let page := s.rd F.BLW_RAIL_PAGE k
    let one := fun (c : Nat × Nat) =>
      (if page = 0xFF then [] else [(⟨k, 0x00, page, c.1⟩ : BlwTx)]) ++ [⟨k, c.1, c.2, c.1⟩]
    let l := cs.flatMap one
    let q := s.blw.queue
    (s.setBlw { s.blw with queue := if front then l ++ q else q ++ l }).blwPump

/-! ### Set points -/

/-- The lowest and the highest set point of an adaptive rail: multiples of 5 mV within FLOOR_MV and CEIL_MV (R314). -/
def State.railLow (s : State) (k : Nat) : Nat := cdiv (s.rd F.BLW_RAIL_FLOOR_MV k) 5 * 5
def State.railHigh (s : State) (k : Nat) : Nat := s.rd F.BLW_RAIL_CEIL_MV k / 5 * 5

/-- A set point that a rail may take: on the grid of 5 mV and within its range; 0 for none (R314). -/
def State.railFit (s : State) (k mv : Nat) : Nat :=
  if mv = 0 ∨ s.railHigh k < s.railLow k then 0 else max (s.railLow k) (min (s.railHigh k) (mv / 5 * 5))

/-- The set point from which a rail moves: the last acknowledged one; before the first, what the regulator was last read at, brought onto the
rail's set points (R314, R316, R325). [DESIGN CHOICE, log 78] -/
def State.railBase (s : State) (k : Nat) : Nat :=
  let set := s.rd F.BLW_RAIL_STATE_SET_MV k
  let read := s.rd F.BLW_RAIL_STATE_VOUT_MV k
  if set ≠ 0 then set else if 14 ≤ k then read else s.railFit k read

/-- A rail takes a new set point now: it is not frozen, its mode is linear as far as it is known, no command to it is under way, and Bellows
may send (R322, R324, R329). -/
def State.railFree (s : State) (k : Nat) : Bool :=
  !s.blw.thermtrip && !s.on F.BLW_RAIL_STATE_FAULT k && !s.on F.BLW_RAIL_STATE_MODE_ERR k
    && decide (s.blw.cmd.getD k 0 = 0) && s.mayPmbus

/-- Order a set point of a rail that is free (R325). -/
def State.setRail (s : State) (k mv : Nat) : State :=
  if !s.railFree k || decide (mv = 0 ∨ s.rd F.BLW_RAIL_STATE_SET_MV k = mv) then s
  else (s.setBlw { s.blw with cmd := s.blw.cmd.put k mv 0 }).blwSend false k [(0x21, mv)]

/-- One step of at most 10 mV from the base toward a set point (R325). -/
def stepTo (base mv : Nat) : Nat :=
  if base < mv then min mv (base + 10) else max mv (base - 10)

/-- P_MEAS: the sum of VOUT × IOUT over the rails, in 1/16 W (R9, R318). -/
def State.pMeas (s : State) : Nat :=
  satU 16 (rdiv ((((List.range 16).map fun k => s.rd F.BLW_RAIL_STATE_VOUT_MV k * s.rd F.BLW_RAIL_STATE_IOUT k).sum : Nat) : Int)
    1000)

/-- The scale of the activity model that makes the mean of the estimates since it last moved equal P_MEAS, at most 2 % from the scale in
force (R318). [DESIGN CHOICE, log 98] -/
def newActScale (old actSum actN meas : Nat) : Nat :=
  if actSum = 0 then old
  else max (old - old / 50) (min (old + old / 50) (rdiv ((65536 * meas * actN : Nat) : Int) actSum).toNat)

/-- A round of telemetry is over: P_MEAS is formed, and the activity model is scaled (R318). -/
def State.roundDone (s : State) : State :=
  let s := s.wr F.BLW_POWER_P_MEAS s.pMeas
  let x := s.blw
  s.setBlw { x with scale := newActScale x.scale x.actSum x.actN (s.rd F.BLW_POWER_P_MEAS), actSum := 0, actN := 0,
                    round := false }

/-- A transaction of Bellows has failed (R324): the rail freezes at its last acknowledged set point, its STATUS_WORD is read, and then the
error is raised; a STATUS_WORD that cannot be read is a free value in it. [DESIGN CHOICE, log 78] -/
def State.blwFailed (s : State) (t : BlwTx) : State :=
  let k := t.rail
  let s := s.wr F.BLW_RAIL_STATE_FAULT 1 k
  let was := s.on F.BLW_STATUS_REG_FAULT
  let s := s.flag F.BLW_STATUS_REG_FAULT
  let s := if was then s else s.alert 6
  let s := s.setBlw { s.blw with cmd := s.blw.cmd.put k 0 0, queue := s.blw.queue.filter fun q => decide (q.rail ≠ k) }
  if t.for_ = 0x79 || !s.mayPmbus then
    let r := s.fresh 16
    r.2.err 0x16 blwSrc (detail [k, r.1])
  else s.blwSend true k [(0x79, 0)]

/-- A transaction of Bellows has succeeded with the bytes read (R318, R323 to R325). A PAGE write and a STATUS_WORD are no retry of the
rail: they clear no FAULT. [DESIGN CHOICE, log 78] -/
def State.blwOk (s : State) (t : BlwTx) (data : Bytes) : State :=
  let k := t.rail
  let s := if t.code = 0x79 ∨ t.code = 0x00 then s else s.wr F.BLW_RAIL_STATE_FAULT 0 k
  if t.code = 0x20 then
    let v := leAt data 0 1
    let s := s.wr F.BLW_RAIL_STATE_MODE_ERR (b2n (decide (bits v 7 5 ≠ 0))) k
    s.setBlw { s.blw with vmode := s.blw.vmode.put k (v + 1) 0 }
  else if t.code = 0x21 then
    (s.wr F.BLW_RAIL_STATE_SET_MV t.value k).setBlw { s.blw with cmd := s.blw.cmd.put k 0 0 }
  else if t.code = 0x79 then s.err 0x16 blwSrc (detail [k, leAt data 0 2])
  else if t.code = 0x8B then
    match s.voutExp k with
    | some n => s.wr F.BLW_RAIL_STATE_VOUT_MV (voutMv (leAt data 0 2) n) k
    | none => s
  else if t.code = 0x8C then s.wr F.BLW_RAIL_STATE_IOUT (ioutOf (leAt data 0 2)) k
  else s

/-- The transaction of Bellows on SMB_C0 ends (R486): the next one starts, or a round of telemetry is over. -/
def State.blwDone (s : State) (ok : Bool) (data : Bytes) : State :=
  match s.blw.busy with
  | none => s
  | some t =>
    let s := s.setBlw { s.blw with busy := none }
    let s := (if ok then s.blwOk t data else s.blwFailed t).blwPump
    if s.blw.round && s.blw.busy.isNone && s.blw.queue.isEmpty then s.roundDone else s

/-- TELEMETRY_READ: READ_VOUT and READ_IOUT of every rail, every 1 ms (R318). A round that has not ended is not begun again,
and a frozen rail is left to the retry of each epoch. -/
def execTelemetryRead (d : Nat) (s : State) : Host.Outcome State Fault Refusal :=
  cmd true d s fun s => s.press fun s =>
    if s.blw.busy.isSome ∨ !s.blw.queue.isEmpty ∨ !s.mayPmbus then s else
      (List.range 16).foldl (fun s k =>
        if s.on F.BLW_RAIL_STATE_FAULT k then s else s.blwSend false k [(0x8B, 0), (0x8C, 0)])
        (s.setBlw { s.blw with round := true })

/-- What Bellows sends at READY (R314, R323): CLEAR_FAULTS and VOUT_MODE to every rail, and the set points of rails 14 and 15. -/
def State.blwReady (s : State) : State :=
  let s := s.setBlw { s.blw with readyClk := s.clk, c2Ran := [] }
  let s := (s.wr F.BLW_SCHED_EPOCH 0).wr F.BLW_POWER_P_ALLOW (s.rd F.BLW_CAP_P_CAP)
  let s := (List.range 16).foldl (fun s k => s.blwSend false k [(0x03, 0), (0x20, 0)]) s
  if !s.mayPmbus then s else
    [14, 15].foldl (fun s k =>
      let mv := s.rd F.BLW_RAIL_FLOOR_MV k
      (s.setBlw { s.blw with target := s.blw.target.put k mv 0 }).setRail k mv) s

/-- One retry of each frozen rail at an epoch, unless a command to it still waits: READ_VOUT, or VOUT_MODE where it has not been read (R324).
[DESIGN CHOICE, log 78] -/
def State.retryRails (s : State) : State :=
  (List.range 16).foldl (fun s k =>
    if s.on F.BLW_RAIL_STATE_FAULT k && !(s.blw.busy.toList ++ s.blw.queue).any (fun q => decide (q.rail = k)) then
      s.blwSend false k [(if (s.blw.vmode.find k).isNone then 0x20 else 0x8B, 0)]
    else s) s

/-! ### The budget guard -/

/-- Running tiles. [DESIGN CHOICE, log 78] -/
def State.tilesRunning (s : State) : Nat := s.anvil.running.length

/-- Some C2 work is admitted (R327). -/
def State.c2Admitted (s : State) : Bool :=
  decide (s.rd F.BLW_SCHED_C2_FLOOR < 4) && (List.range 264).any fun n =>
    s.on F.HEARTH_ID_SERVING n && s.on F.HEARTH_CFG_ENABLE n && s.hasC2 n && s.c2Prio (s.rd F.HEARTH_ID_LOGICAL n)

/-- floor((P − (P_AVG − P_TILE × n)) / P_TILE), not below 0, for an allowance P in 1/16 W (R327, R328); free where Bellows
estimates no power for a tile. [DESIGN CHOICE, log 69] -/
def State.tilesFor (s : State) (p : Int) : Nat × State :=
  let tile := s.rd F.BLW_EST_P_TILE
  if tile = 0 then s.fresh 8
  else (((16 * (p - s.rd F.BLW_POWER_P_AVG) + tile * s.tilesRunning) / (tile : Int)).toNat, s)

/-- A guard action (R327). -/
def State.guardAction (s : State) : State := (s.inc F.BLW_CNT_GUARD_ACTIONS).raise (ev 0x01 5)

/-- The fall of P_AVG since C2 work was last withheld, watched over ten checks (R328). [DESIGN CHOICE, log 78] -/
def State.watchFall (s : State) : State :=
  match s.blw.shedFrom with
  | none => s
  | some (p, n) =>
    let s := s.wr F.BLW_EST_P_C2 (max (s.rd F.BLW_EST_P_C2) (p - s.rd F.BLW_POWER_P_AVG))
    s.setBlw { s.blw with shedFrom := if n < 9 then some (p, n + 1) else none }

/-- The guard acts (R327). -/
def State.guard (s : State) : State :=
  if s.c2Admitted then
    let s := (s.wr F.BLW_SCHED_C2_FLOOR 4).wr F.BLW_STATUS_STATE 1
    let s := (s.wr F.BLW_EST_P_C2 0).setBlw { s.blw with shedFrom := some (s.rd F.BLW_POWER_P_AVG, 0) }
    s.c2Shed.guardAction
  else
    let none_ := decide (s.rd F.BLW_SCHED_N_RUN = 0)
    let s := if none_ then s.c2Withhold else s
    let s := if none_ && decide (s.tilesRunning = 0) && !s.on F.BLW_STATUS_CAP_UNMET then
        (s.flag F.BLW_STATUS_CAP_UNMET).err 0x18 blwSrc (detail [s.rd F.BLW_POWER_P_AVG, s.rd F.BLW_POWER_P_ALLOW])
      else s
    let r := s.tilesFor (s.rd F.BLW_POWER_P_ALLOW)
    let s := (r.2.wr F.BLW_SCHED_N_RUN (min 128 r.1)).wr F.BLW_STATUS_STATE 2
    s.guardAction

/-- P_EST of the activity model's estimate, and P_AVG over the last 100 µs (R9, R318). -/
def State.estimate (s : State) (act : Nat) : State :=
  let x := s.blw
  let pEst := satU 16 (rdiv ((act * x.scale : Nat) : Int) 65536)
  let l := (pEst :: x.samples).take 10
  let s := s.setBlw { x with samples := l, actSum := x.actSum + act, actN := x.actN + 1 }
  s.wr F.BLW_POWER_P_AVG (satU 16 (rdiv ((l.sum + l.length * s.rd F.BLW_POWER_P_FIXED : Nat) : Int) l.length))

/-- BUDGET_GUARD: every 10 µs P_EST is formed from what the handshake activity shows, with the estimate of one running tile and the monitors'
readings, and the guard acts while P_AVG exceeds P_ALLOW (R318, R319, R327). -/
def execBudgetGuard (d act pTile : Nat) (toks : List Nat) (s : State) : Host.Outcome State Fault Refusal :=
  cmd true d s fun s => s.powered fun s =>
    let s := (s.estimate act).readToks toks
    let s := s.wr F.BLW_EST_P_TILE (min 65535 pTile)
    if !s.ready then s
    else
      let s := s.watchFall
      if s.rd F.BLW_POWER_P_ALLOW < s.rd F.BLW_POWER_P_AVG then s.guard else s

/-! ### The epoch -/

/-- P_ALLOW moves with T_MAX (R326). -/
def State.stepAllow (s : State) : State :=
  let cap := s.rd F.BLW_CAP_P_CAP
  let now := s.rd F.BLW_POWER_P_ALLOW
  let hot := sOf 16 (s.rd F.BLW_THERM_T_HOT)
  let next := if hot ≤ s.tMax then max 2400 (now - 80)
    else if s.tMax < hot - 256 * s.rd F.BLW_THERM_T_HYST then min cap (now + 80)
    else now
  let was := s.on F.BLW_STATUS_THERMAL
  let s := (s.wr F.BLW_POWER_P_ALLOW next).wr F.BLW_STATUS_THERMAL (b2n (decide (next < cap)))
  if next < cap ∧ !was then s.alert 1 else s

/-- A write of P_CAP moves P_ALLOW with it (R326). [DESIGN CHOICE, log 78] -/
def State.capMoved (s : State) (old : Nat) : State :=
  let cap := s.rd F.BLW_CAP_P_CAP
  let now := s.rd F.BLW_POWER_P_ALLOW
  let next := if now = old then cap else min now cap
  let was := s.on F.BLW_STATUS_THERMAL
  let s := (s.wr F.BLW_POWER_P_ALLOW next).wr F.BLW_STATUS_THERMAL (b2n (decide (next < cap)))
  if next < cap ∧ !was then s.alert 1 else s

/-- The domains of a rail (R313). -/
def railDomains (k : Nat) : List Nat := (List.range 64).filter fun d => decide (domainRail d = k)

/-- A rail at CEIL_MV still reads below TOK_CORNER: CORNER_UNMET is set, and an error raised as the rail enters this condition (R321).
[DESIGN CHOICE, log 78] -/
def State.cornerUnmet (s : State) (k dom : Nat) : State :=
  let s := s.flag F.BLW_STATUS_CORNER_UNMET
  if k ∈ s.blw.unmet then s
  else (s.setBlw { s.blw with unmet := s.blw.unmet ++ [k] }).err 0x17 blwSrc (detail [k, dom, s.rd F.BLW_DOM_TOK dom])

/-- The guardband raise of a C0 rail (R321): what Bellows cannot order is no raise. -/
def State.guardband (s : State) (k : Nat) : State :=
  let met := s.setBlw { s.blw with unmet := s.blw.unmet.filter (· ≠ k) }
  match (railDomains k).find? fun d => decide (s.rd F.BLW_DOM_TOK d < s.rd F.BLW_DOM_TOK_CORNER d) with
  | none => met
  | some d =>
    let base := s.railBase k
    if base = 0 then met
    else if s.railHigh k ≤ base then s.cornerUnmet k d
    else if !s.railFree k then met
    else
      let mv := min (s.railHigh k) (base + 10)
      let s := (met.flag F.BLW_STATUS_GUARDBAND).wr F.BLW_RAIL_STATE_GUARDBAND 1 k
      (s.setBlw { s.blw with guard := s.blw.guard.put k mv 0 }).setRail k mv

/-- A restore of the schedule at an epoch (R328). -/
def State.restored (s : State) (c : Sched) : Sched × State :=
  let allow : Int := s.rd F.BLW_POWER_P_ALLOW
  let hyst : Int := s.rd F.BLW_CAP_P_HYST
  let tiles := s.tilesInService.length
  let r : Sched × State := if c.state = 2 then
      let q := s.tilesFor (allow - hyst)
      let n := min tiles q.1
      ({ c with nRun := n, state := if n = tiles then 1 else 2 }, q.2)
    else (c, s)
  let c := r.1
  let s := r.2
  if c.state = 1 then
    if c.floor = 0 then ({ c with state := 0 }, s)
    else if (s.rd F.BLW_EST_P_C2 : Int) + hyst ≤ allow - s.rd F.BLW_POWER_P_AVG then
      ({ c with floor := c.floor - 1, state := if c.floor = 1 then 0 else 1 }, s)
    else (c, s)
  else (c, s)

/-- The rate of a tile, in samples per ns times 2^32 (R320). -/
def State.tileRate (s : State) (t : Nat) : Nat :=
  let c := s.rd F.BLW_DOM_TOK_CORNER (tileDomain t)
  if c = 0 then 0 else 2 ^ 32 * 64 * s.rd F.BLW_DOM_TOK (tileDomain t) / (10 * c)

/-- The running billets with the samples that they have still to compare, and the ready ones, by deadline (R333). -/
def State.billetLoad (s : State) : List (Nat × Nat) :=
  let run := s.anvil.running.map fun e =>
    (e.2.deadline, s.samplesOf e.2 - (s.dt - e.2.start) * s.tileRate (s.rd F.ANVIL_ID_LOGICAL e.1) / 2 ^ 32)
  let ready := s.anvil.ready.map fun b => (b.deadline, s.samplesOf b)
  (run ++ ready).mergeSort fun a b => decide (a.1 ≤ b.1)

/-- The sum of R_t over tiles, in samples per ns, as a fraction (R320, R333). -/
def State.rateSum (s : State) (set : List Nat) : Nat × Nat :=
  (List.range 8).foldl (fun (q : Nat × Nat) c =>
    let tiles := (set.filter fun t => decide (t / 16 = c)).length
    let corner := 10 * s.rd F.BLW_DOM_TOK_CORNER (40 + c)
    if tiles = 0 ∨ corner = 0 then q
    else (q.1 * corner + tiles * 64 * s.rd F.BLW_DOM_TOK (40 + c) * q.2, q.2 * corner)) (0, 1)

/-- What R333 finds of the load: tight, loose, and w in tile-ns as a fraction of the denominator given second. With no rate the
samples add nothing. [DESIGN CHOICE, log 78] -/
def State.load (s : State) (n : Nat) (set : List Nat) : (Bool × Bool × Nat) × Nat :=
  let q := s.rateSum set
  let den := max 1 q.1
  (s.billetLoad.foldl (fun (o : Bool × Bool × Nat) (b : Nat × Nat) =>
    let w := o.2.2 + 2000 * den + (if q.1 = 0 then 0 else b.2 * n * q.2)
    let room : Int := n * ((b.1 : Int) - s.dt) * den
    (o.1 || decide (9 * room < 10 * w), o.2.1 && !decide (6 * room < 10 * w), w)) (false, true, 0), den)

/-- The step of the Anvil rails (R333) from given set points; BACKLOG_US is kept in BLW_EST. -/
def State.railStep (s : State) (c : Sched) : List Nat × State :=
  let set := s.tilesInService.take c.nRun
  let q := s.load c.nRun set
  let l := q.1
  let s := s.wr F.BLW_EST_BACKLOG_US
    (if c.nRun = 0 then 0 else satU 32 (rdiv ((l.2.2 : Nat) : Int) (1000 * c.nRun * q.2)))
  let allow : Int := s.rd F.BLW_POWER_P_ALLOW
  let up := l.1 && decide (c.state = 0) && decide ((s.rd F.BLW_POWER_P_AVG : Int) ≤ allow - s.rd F.BLW_CAP_P_HYST)
  let step := fun k (mv : Nat) =>
    if mv = 0 ∨ 8 ≤ k then mv
    else if up then
      if set.any fun t => decide (t / 16 = k) then max mv (min (s.railHigh k) (mv + 10)) else mv
    else if l.2.1 then min mv (max (s.railLow k) (mv - 10))
    else mv
  if c.nRun = 0 then (c.rails, s) else (c.rails.zipIdx.map fun e => step e.2 e.1, s)

/-- The schedule in force (R339). -/
def State.schedule (s : State) : Sched :=
  ⟨s.rd F.BLW_STATUS_STATE, s.rd F.BLW_SCHED_C2_FLOOR, s.rd F.BLW_SCHED_N_RUN,
    (List.range 14).map fun k => if s.blw.target.getD k 0 = 0 then s.railBase k else s.blw.target.getD k 0⟩

/-- Apply a schedule (R339): a rail moves toward its set point by at most 10 mV per epoch. -/
def State.applySched (s : State) (c : Sched) : State :=
  let s := (s.wr F.BLW_STATUS_STATE c.state).wr F.BLW_SCHED_C2_FLOOR c.floor
  let s := s.wr F.BLW_SCHED_N_RUN c.nRun
  c.rails.zipIdx.foldl (fun (s : State) (e : Nat × Nat) =>
    if e.1 = 0 ∨ e.1 = s.railBase e.2 then s
    else s.setBlw { s.blw with target := s.blw.target.put e.2 e.1 0 }) s

/-- Rails on their way to an accepted set point take their step (R325); the minimum that a guardband raise left stays. [DESIGN CHOICE, log 78] -/
def State.railsMove (s : State) : State :=
  (List.range 14).foldl (fun s k =>
    let want := s.blw.target.getD k 0
    let base := s.railBase k
    if want = 0 ∨ base = 0 ∨ !s.railFree k then s else
      let mv := stepTo base (s.railFit k (max want (s.blw.guard.getD k 0)))
      let s := if mv = want then s.setBlw { s.blw with target := s.blw.target.put k 0 0 } else s
      s.setRail k mv) s

/-- Rails 14 and 15 step toward the FLOOR_MV that READY or a runtime write has given them, and are not moved else (R314, R325).
[DESIGN CHOICE, log 78] -/
def State.fixedRails (s : State) : State :=
  [14, 15].foldl (fun s k =>
    let want := s.blw.target.getD k 0
    let base := s.railBase k
    if want = 0 ∨ !s.railFree k then s
    else if s.rd F.BLW_RAIL_STATE_SET_MV k = want then s.setBlw { s.blw with target := s.blw.target.put k 0 0 }
    else s.setRail k (if base = 0 then want else stepTo base want)) s

/-- The PROPOSAL of function 0x08 (R341). -/
def State.schedProposal (s : State) (c : Sched) : Bytes :=
  le 4 (s.rd F.BLW_SCHED_EPOCH) ++ le 1 (c.state + 4 * s.rd F.BLW_STATUS_THERMAL) ++ le 1 c.floor ++ le 1 c.nRun ++ le 1 0
    ++ le 2 (s.rd F.BLW_POWER_P_AVG) ++ le 2 (s.rd F.BLW_POWER_P_ALLOW) ++ le 2 (uOf 16 s.tMax)
    ++ le 4 (s.rd F.BLW_EST_BACKLOG_US) ++ c.rails.flatMap fun mv => le 1 ((mv - 500) / 5)

/-- Whether a proposal differs from the schedule in force (R341). -/
def Sched.differs (a b : Sched) : Bool :=
  decide (a.state ≠ b.state ∨ a.floor ≠ b.floor ∨ a.nRun ≠ b.nRun)
    || (List.zip a.rails b.rails).any fun e => decide (20 ≤ e.1 - e.2 + (e.2 - e.1))

/-- Whether a proposal raises power over the schedule in force (R341). -/
def Sched.raises (a b : Sched) : Bool :=
  decide (b.nRun < a.nRun ∨ a.floor < b.floor) || decide (b.rails.sum < a.rails.sum)

/-- A proposal is posted under function 0x08 (R341); one that cannot be posted is taken. -/
def State.schedAsk (s : State) (cur next : Sched) : State :=
  let s := s.setBlw { s.blw with proposal := some next }
  if s.reqOpen 8 blwSrc || !next.differs cur || decide (s.blw.posted = some next) then s else
    let s := s.setBlw { s.blw with posted := some next }
    let r := s.post 8 blwSrc (if next.raises cur then 1 else 2) (s.schedProposal next)
    if r.1 then r.2 else r.2.setBlw { r.2.blw with reply := some next }

/-- The changes of an epoch (R328, R333, R339 to R341). -/
def State.epochChanges (s : State) : State :=
  let cur := s.schedule
  if s.hwMode 8 0 then
    let r := s.restored cur
    let q := r.2.railStep r.1
    let s := (q.2.applySched { r.1 with rails := q.1 }).railsMove
    s.setBlw { s.blw with proposal := none, posted := none }
  else
    let r := s.restored cur
    let from_ := match s.blw.proposal with
      | some p => p.rails
      | none => cur.rails
    let q := r.2.railStep { r.1 with rails := from_ }
    (q.2.schedAsk cur { r.1 with rails := q.1 }).railsMove

/-- A request of function 0x08 resolves: the schedule applies at the next epoch boundary (R341). -/
def State.schedResolve (s : State) (verdict arg : Nat) : State :=
  match s.blw.posted with
  | none => s
  | some p =>
    if verdict = 1 then s.setBlw { s.blw with reply := some p }
    else if verdict = 3 then s.setBlw { s.blw with reply := some { p with floor := bits arg 7 0, nRun := bits arg 15 8 } }
    else s

/-- Whether the argument of a VERDICT 0x03 reply of function 0x08 is in range (R341). -/
def State.schedArgOk (s : State) (arg : Nat) : Bool :=
  decide (arg < 65536 ∧ bits arg 7 0 ≤ 4 ∧ bits arg 15 8 ≤ s.tilesInService.length)

/-- The schedule of a reply applies (R341). -/
def State.takeReply (s : State) : State :=
  match s.blw.reply with
  | some c => let t := s.applySched c
              t.setBlw { t.blw with reply := none }
  | none => s

/-- Function 0x08 passes to hardware mode: its open request closes (R43). -/
def State.schedAfresh (s : State) : State :=
  let s := s.closeReqs 8 blwSrc
  s.setBlw { s.blw with posted := none, proposal := none }

/-- BELLOWS_EPOCH: an epoch boundary, with the monitors' readings of the 64 domains (R319 to R341); it is the safe point of function 0x08
(R44, R339). -/
def execBellowsEpoch (d : Nat) (toks : List Nat) (s : State) : Host.Outcome State Fault Refusal :=
  cmd true d s fun s => s.press fun s =>
    let s := s.wr F.BLW_SCHED_EPOCH ((s.rd F.BLW_SCHED_EPOCH + 1) % 2 ^ 32)
    let s := (s.readToks toks).takeReply
    let s := (s.safePoint 8 0 State.schedAfresh).stepAllow
    let s := (upto 8 6).foldl (fun s k => s.guardband k) s
    s.epochChanges.fixedRails.retryRails

/-! ### Banking -/

/-- The wake class of a domain; class 4 stands for none beyond B1 (R343). -/
def wakeClass (d : Nat) : Nat := if d < 32 then 0 else if d < 40 then 1 else if d < 48 then 2 else if d < 52 then 3 else 4

/-- The deepest banking level that a domain may enter now (R313). -/
def State.deepest (s : State) (d : Nat) : Nat :=
  if d < 32 then
    if (upto (17 * d) 17).all fun k => decide (s.rd F.LANE_STATE_STATE k = 0 ∨ s.rd F.LANE_STATE_STATE k = 0xB) then 4 else 1
  else if d < 40 then
    let hs := upto (32 * (d - 32)) 32
    if (upto (33 * (d - 32)) 33).all fun n => !s.on F.HEARTH_CFG_ENABLE n then 4
    else if hs.all fun h => match s.masterOf h with
        | some p => decide (s.bond p = 0 ∨ s.bond p = 4)
        | none => true
      then 2
    else 1
  else if d < 48 then
    if s.anvil.running.any fun e => decide (e.1 / 17 = d - 40) then 1 else 4
  else if d < 52 then
    if (upto (16 * (d - 48)) 16).any fun c => s.armed .fire c then 1 else 3
  else if d = 57 ∨ d = 62 then 0 else 1

/-- The level that an idle domain enters: the deepest permitted whose exit latency WAKE_NS covers (R343). -/
def State.bankLevel (s : State) (d : Nat) : Nat :=
  let top := s.deepest d
  let k := wakeClass d
  let wake := if k = 4 then 0 else s.rd F.BLW_WAKE_WAKE_NS k
  ((List.range (top + 1)).filter fun l => decide (exitLatency l ≤ wake)).foldl max 0

/-- BANK_ENTRY: a domain has been idle for IDLE_US (R313, R343). [DESIGN CHOICE, log 4] -/
def execBankEntry (d dom : Nat) (s : State) : Host.Outcome State Fault Refusal :=
  cmd (decide (dom < 64)) d s fun s => s.press fun s =>
    let l := s.bankLevel dom
    if (s.blw.exits.find dom).isSome ∨ l ≤ s.rd F.BLW_DOM_LEVEL dom then s else s.wr F.BLW_DOM_LEVEL l dom

/-- BANK_EXIT: work arrives at a banked domain, and its exit starts (R345). -/
def execBankExit (d dom : Nat) (s : State) : Host.Outcome State Fault Refusal :=
  cmd (decide (dom < 64)) d s fun s => s.press fun s => s.beginExit dom

/-- The domain of a class, in order. -/
def classDomains (k : Nat) : List Nat := (List.range 64).filter fun d => decide (wakeClass d = k ∧ k < 4)

/-- The fields of a BLW_WAKE write: an IDLE_US out of range makes it ignored (R565), and a domain banked deeper than the new value allows exits at
once (R343). -/
def State.wakeWrite (s : State) (k v : Nat) : State :=
  if !within 1 (bits v 63 32) 10000000 then s
  else
    let s := (s.wr F.BLW_WAKE_IDLE_US (bits v 63 32) k).wr F.BLW_WAKE_WAKE_NS (bits v 31 0) k
    (classDomains k).foldl (fun s d =>
      if bits v 31 0 < exitLatency (s.rd F.BLW_DOM_LEVEL d) then s.beginExit d else s) s

/-- WAKE_NS_WRITE: an 8-byte write of BLW_WAKE (R343). -/
def execWakeNsWrite (d k v : Nat) (s : State) : Host.Outcome State Fault Refusal :=
  cmd (decide (k < 6)) d s fun s => s.hostWrite (F.BLW_WAKE_WAKE_NS.at_ k) fun s => s.wakeWrite k v

/-- The lane exit latency at a RATE code, in ns (R131). -/
def laneExit (rate : Nat) : Nat := if rate = 0 then 300 else if rate = 1 then 400 else 450

/-- BOND_IDLE_ENTRY: Bellows sends EIDLE_DOWN to a bond that meets every condition of R344, and the upstream directions of its
other members go into electrical idle after 4 EIDLE blocks (R129). [DESIGN CHOICE, log 74] -/
def execBondIdleEntry (d p : Nat) (s : State) : Host.Outcome State Fault Refusal :=
  cmd (decide (p < 512)) d s fun s => s.press fun s =>
    let h := s.rd F.COBEX_CFG_HEARTH p
    let rate := s.rd F.LANE_CFG_RATE (s.sliceOf p)
    let calm := match s.hearthOf h with
      | some n => (s.hth n).frame.isNone && s.due (s.hth n).idleAt (1000 * s.rd F.BLW_WAKE_IDLE_US 5)
      | none => false
    let free := !(s.port p).cmds.any fun c => decide (c.owner = 2)
    if s.isMaster p && decide (s.bond p = 3) && !s.armed .ctrig h && calm && free
        && decide (laneExit rate + s.markerPeriod p 1 ≤ s.rd F.BLW_WAKE_WAKE_NS 5 ∧ (s.port p).cmds.length < 8) then
      let s := (s.sendCmd p 4 2 0 0 []).2
      ((s.members p).filter (· ≠ p)).foldl (fun s q =>
        let k := s.sliceOf q
        let s := (List.range 4).foldl (fun s _ => s.txBlock k q 2 0x33) (s.txSync k)
        let s := s.setLane k { s.lane k with tx := { (s.lane k).tx with idle := true } }
        s.txTo k 1 false (s.lane k).tx.locked) s
    else s

/-! ### Registers -/

/-- The ranges of BLW_RAIL that a runtime write may give (R314, R346). -/
def State.railRangeOk (s : State) (k floor ceil : Nat) : Bool :=
  let set := s.rd F.BLW_RAIL_STATE_SET_MV k
  let cmd_ := s.blw.cmd.getD k 0
  if k < 14 then
    within 500 floor 850 && within 500 ceil 850 && decide (floor ≤ ceil ∧ (k < 8 ∨ 620 ≤ floor))
      && (decide (set = 0) || within floor set ceil) && (decide (cmd_ = 0) || within floor cmd_ ceil)
  else decide (floor = ceil) && within 700 floor 850

/-- Every PEAK takes its current TEMP (R317). -/
def State.clearPeaks (s : State) : State :=
  (List.range 32).foldl (fun s i => s.wr F.BLW_TEMP_PEAK (s.rd F.BLW_TEMP_TEMP i) i) s

/-- BLW_CNT reads 0 (R327). -/
def State.blwClear (s : State) : State :=
  s.clrAll [F.BLW_CNT_ABANDONED, F.BLW_CNT_C2_DROPPED, F.BLW_CNT_GUARD_ACTIONS]

/-- BLW_CLEAR_PEAKS: BLW_CTL.CLEAR_PEAKS sets every PEAK to its current TEMP (R317). -/
def execBlwClearPeaks (d : Nat) (s : State) : Host.Outcome State Fault Refusal :=
  cmd true d s fun s => s.hostWrite F.BLW_CTL_CLEAR_PEAKS.addr State.clearPeaks

/-- BLW_CLEAR_COUNTS: BLW_CTL.CLEAR_COUNTS clears BLW_CNT (R327). -/
def execBlwClearCounts (d : Nat) (s : State) : Host.Outcome State Fault Refusal :=
  cmd true d s fun s => s.hostWrite F.BLW_CTL_CLEAR_COUNTS.addr State.blwClear

end Sys2Proof.Machine
end

