-- ==== Sys2Proof/Machine/Smbc.lean ====
section
/-!
DEFINITION. The SMBus controller ports (R484 to R488): host commands, retries, completions and bus clearing.
-/

namespace Sys2Proof.Machine

/-- Source number of controller port p (R32). -/
def smbcSrc (p : Nat) : Nat := srcNo 0x10 (p + 1)

/-- First byte of SMBC_DATA[p]. -/
def smbcBuf (p : Nat) : Nat := 0xC1040 + 0x100 * p

/-- The result of a host command (SMBC_RSLT). -/
def State.smbcResult (s : State) (p status rlen attempts : Nat) : State :=
  let s := (s.wr F.SMBC_RSLT_BUSY 0 p).flag F.SMBC_RSLT_DONE p
  ((s.wr F.SMBC_RSLT_STATUS status p).wr F.SMBC_RSLT_RLEN rlen p).wr F.SMBC_RSLT_ATTEMPTS attempts p

/-- A read with PEC: the bytes before its last, and whether that one is the PEC of all the bytes before it, a Block Read's count among
them (R463, R486). -/
def SmbcTx.checked (x : SmbcTx) (data : Bytes) : Bytes × Bool :=
  if x.pec && x.reads then
    let b := data.dropLast
    let count := if x.op = 7 then le 1 b.length else []
    (b, decide (data.drop b.length = le 1 (crc8 (x.sent ++ count ++ b)) ∧ data ≠ []))
  else (data, true)

/-- The bytes of a successful read as its protocol counts them. [DESIGN CHOICE, log 40] -/
def SmbcTx.readBytes (x : SmbcTx) (data : Bytes) : Bytes :=
  if x.op = 4 then fitTo 1 data
  else if x.op = 5 then fitTo 2 data
  else if x.op = 7 then data.take 32
  else if x.op = 9 then fitTo x.rlen data
  else []

/-- TIMEOUT, PROTO and BUS_STUCK are reported to Weld (R487, R488). [DESIGN CHOICE, log 41] -/
def State.smbcReport (s : State) (p status : Nat) : State :=
  if status = 5 ∨ status = 7 ∨ status = 8 then s.err 0x15 (smbcSrc p) (detail [p, status]) else s

/-- The transaction of a port ends (R484 to R488). [DESIGN CHOICE, log 40] -/
def State.smbcEnd (s : State) (p : Nat) (x : SmbcTx) (status : Nat) (data : Bytes) : State :=
  let s := { s with smb := { s.smb with tx := s.smb.tx.del p } }
  let got := if status = 1 then x.readBytes data else []
  let s := if status = 5 then s.inc F.SMBC_CNT_TIMEOUTS p else s
  if x.bellows.isSome then
    let s := ((s.wr F.SMBC_RSLT_BUSY 0 p).wr F.SMBC_RSLT_STATUS status p).wr F.SMBC_RSLT_ATTEMPTS x.retries p
    (s.smbcReport p status).blwDone (decide (status = 1)) got
  else
    ((s.bufWrite (smbcBuf p) got).smbcResult p status got.length x.retries).smbcReport p status

/-- A port whose SDA has been low for DAT_LOW_MS clears its bus before it starts (R488): sda is 0 for a free bus, 1 for one that the
pulses free, 2 for one that stays low. [DESIGN CHOICE, log 40] -/
def State.smbcStart (s : State) (p : Nat) (x : SmbcTx) (sda lowMs : Nat) : State :=
  let s := (s.setTx p x).wr F.SMBC_RSLT_BUSY 1 p
  let clears := decide (sda ≠ 0 ∧ s.rd F.SMBC_CFG_DAT_LOW_MS p ≤ lowMs)
  let s := if clears then s.inc F.SMBC_CNT_CLEARS p else s
  if clears && decide (sda = 2) then s.smbcEnd p x 8 [] else s.smbcSend p x s.clk

/-- Bytes that a host command writes. -/
def State.smbcWrites (s : State) (p op wlen : Nat) : Bytes :=
  let n := if op = 2 then 1 else if op = 3 then 2 else if op = 6 ∨ op = 8 then wlen else 0
  s.bufRead (smbcBuf p) n

/-- A write of SMBC_CMD (R484). [DESIGN CHOICE, log 40] -/
def State.smbcCmd (s : State) (p op addr code wlen rlen : Nat) (pec : Bool) (sda lowMs : Nat) : State :=
  if op = 0 ∨ 9 < op ∨ s.on F.SMBC_RSLT_BUSY p ∨ !s.on F.SMBC_CFG_ENABLE p then s
  else if s.owner 0x0A p ≠ hostOwner then s.smbcResult p 9 0 0
  else if 32 < wlen ∨ (op = 9 ∧ !within 1 rlen 32) then s.smbcResult p 10 0 0
  else s.smbcStart p ⟨op, addr, code, s.smbcWrites p op wlen, rlen, pec, none, 0, 0⟩ sda lowMs

/-- A host command on controller port p (R484). -/
def smbcOp (d p op : Nat) (x : SmbcArg) (s : State) : Host.Outcome State Fault Refusal :=
  cmd (decide (p < 2)) d s fun s => s.hostWrite (F.SMBC_CMD_OP.at_ p) fun s =>
    s.smbcCmd p op (x.addr % 128) (x.code % 256) (x.wlen % 256) (x.rlen % 256) x.pec (min x.sda 2) x.lowMs

/-- SMBC_SEND_BYTE: the byte sent is CODE (R484). -/
def execSmbcSendByte (d p : Nat) (x : SmbcArg) (s : State) : Host.Outcome State Fault Refusal :=
  smbcOp d p 1 x s
/-- SMBC_WRITE_BYTE (R484). -/
def execSmbcWriteByte (d p : Nat) (x : SmbcArg) (s : State) : Host.Outcome State Fault Refusal :=
  smbcOp d p 2 x s
/-- SMBC_WRITE_WORD (R484). -/
def execSmbcWriteWord (d p : Nat) (x : SmbcArg) (s : State) : Host.Outcome State Fault Refusal :=
  smbcOp d p 3 x s
/-- SMBC_READ_BYTE (R484). -/
def execSmbcReadByte (d p : Nat) (x : SmbcArg) (s : State) : Host.Outcome State Fault Refusal :=
  smbcOp d p 4 x s
/-- SMBC_READ_WORD (R484). -/
def execSmbcReadWord (d p : Nat) (x : SmbcArg) (s : State) : Host.Outcome State Fault Refusal :=
  smbcOp d p 5 x s
/-- SMBC_BLOCK_WRITE (R484). -/
def execSmbcBlockWrite (d p : Nat) (x : SmbcArg) (s : State) : Host.Outcome State Fault Refusal :=
  smbcOp d p 6 x s
/-- SMBC_BLOCK_READ (R484). -/
def execSmbcBlockRead (d p : Nat) (x : SmbcArg) (s : State) : Host.Outcome State Fault Refusal :=
  smbcOp d p 7 x s
/-- SMBC_FIXED_WRITE (R484). -/
def execSmbcFixedWrite (d p : Nat) (x : SmbcArg) (s : State) : Host.Outcome State Fault Refusal :=
  smbcOp d p 8 x s
/-- SMBC_FIXED_READ (R484). -/
def execSmbcFixedRead (d p : Nat) (x : SmbcArg) (s : State) : Host.Outcome State Fault Refusal :=
  smbcOp d p 9 x s

/-- Arbitration is lost (R485): the whole transaction is retried, until it has lost RETRIES + 1 times. [DESIGN CHOICE, log 41] -/
def State.smbcArbLost (s : State) (p : Nat) (x : SmbcTx) : State :=
  let s := s.inc F.SMBC_CNT_ARB_LOST p
  let y := { x with losses := x.losses + 1, retries := x.retries + 1 }
  if s.rd F.SMBC_CFG_RETRIES p + 1 ≤ y.losses then s.smbcEnd p { x with losses := y.losses } 4 []
  else ((s.setTx p y).wr F.SMBC_RSLT_ATTEMPTS (min 7 y.retries) p).smbcSend p y s.clk

/-- An address is not acknowledged (R486): it is retried after RETRY_GAP_US, up to RETRIES times. [DESIGN CHOICE, log 41] -/
def State.smbcAddrNack (s : State) (p : Nat) (x : SmbcTx) : State :=
  let s := s.inc F.SMBC_CNT_ADDR_NACKS p
  if s.rd F.SMBC_CFG_RETRIES p ≤ x.retries - x.losses then s.smbcEnd p x 2 []
  else
    let y := { x with retries := x.retries + 1 }
    ((s.setTx p y).wr F.SMBC_RSLT_ATTEMPTS (min 7 y.retries) p).smbcSend p y (s.clk + 1000 * s.rd F.SMBC_CFG_RETRY_GAP_US p)

/-- An event of the transaction that runs on port p. -/
def smbcEvent (ok : Bool) (d p : Nat) (s : State) (f : State → SmbcTx → State) : Host.Outcome State Fault Refusal :=
  cmd ok d s fun s => s.powered fun s =>
    match s.smb.tx.find p with
    | some x => f s x
    | none => s

/-- SMBC_COMPLETE: the transaction ends with OK and the bytes read, its PEC last where one is expected, or with ADDR_NACK, DATA_NACK,
ARB_FAIL, TIMEOUT, PEC_ERR, PROTO or BUS_STUCK (R485 to R488); a loss or an address NACK that leaves a retry is retried, and another
status is none of a transaction. [DESIGN CHOICE, log 41] -/
def execSmbcComplete (d p status : Nat) (data : Bytes) (s : State) : Host.Outcome State Fault Refusal :=
  smbcEvent (decide (p < 2)) d p s fun s x =>
    let r := x.checked data
    if !within 1 status 8 then s
    else if status = 2 then s.smbcAddrNack p x
    else if status = 4 then s.smbcArbLost p x
    else if status = 8 then (s.inc F.SMBC_CNT_CLEARS p).smbcEnd p x 8 []
    else if status = 1 then s.smbcEnd p x (if r.2 then 1 else 6) (if r.2 then r.1 else [])
    else s.smbcEnd p x status []

/-- SMBC_ARB_RETRY (R485). -/
def execSmbcArbRetry (d p : Nat) (s : State) : Host.Outcome State Fault Refusal :=
  smbcEvent (decide (p < 2)) d p s fun s x => s.smbcArbLost p x

/-- SMBC_ADDR_RETRY (R486). -/
def execSmbcAddrRetry (d p : Nat) (s : State) : Host.Outcome State Fault Refusal :=
  smbcEvent (decide (p < 2)) d p s fun s x => s.smbcAddrNack p x

/-- SMBC_TIMEOUT (R487). -/
def execSmbcTimeout (d p : Nat) (s : State) : Host.Outcome State Fault Refusal :=
  smbcEvent (decide (p < 2)) d p s fun s x => s.smbcEnd p x 5 []

/-- SMBC_PROTOCOL_STOP (R487). -/
def execSmbcProtocolStop (d p : Nat) (s : State) : Host.Outcome State Fault Refusal :=
  smbcEvent (decide (p < 2)) d p s fun s x => s.smbcEnd p x 7 []

/-- CLEAR_COUNTS of a controller port (R485 to R488); a write of SMBC_CFG while BUSY is ignored. -/
def State.smbcClear (s : State) (p : Nat) : State :=
  if s.on F.SMBC_RSLT_BUSY p then s else
    s.clrAll [F.SMBC_CNT_ARB_LOST, F.SMBC_CNT_ADDR_NACKS, F.SMBC_CNT_TIMEOUTS, F.SMBC_CNT_CLEARS] p

/-- SMBC_CLEAR_COUNTS (R485). -/
def execSmbcClearCounts (d p : Nat) (s : State) : Host.Outcome State Fault Refusal :=
  cmd (decide (p < 2)) d s fun s => s.hostWrite (F.SMBC_CFG_CLEAR_COUNTS.at_ p) fun s => s.smbcClear p

end Sys2Proof.Machine
end

