-- ==== Sys2Proof/Machine/Trough.lean ====
section
/-!
DEFINITION. Troughs (chapter 12): commit, pop order, watermarks, flush, marks, parity (R347 to R371). Admission lies in
Ops, since every producer uses it.
-/

namespace Sys2Proof.Machine

/-- The source number of a Trough (R32). -/
def troughSrc (t : Nat) : Nat := srcNo 0x0C t

/-! ### Push and commit -/

/-- A record of whole units, 1 to 1,024 of them (R36): what is short of a unit is filled with 0x00. [DESIGN CHOICE, log 5] -/
def wholeUnits (data : Bytes) : Bytes := fitTo (64 * min (max (cdiv data.length 64) 1) 1024) data

/-- RECORD_PUSH t: a producer's push of a whole record, into a Trough that it owns (R349, R350); source 0 is no producer. -/
def execRecordPush (d t source : Nat) (data : Bytes) (s : State) : Host.Outcome State Fault Refusal :=
  cmd (decide (t < 1536)) d s fun s => s.press fun s =>
    if source = 0 then s else (s.pushAs source t (wholeUnits data)).2

/-- Records that are committed at clock c and were not before (R351). -/
def TroughS.stampCommits (x : TroughS) (old c : Nat) : TroughS :=
  let n := x.count
  { x with recs := x.recs.zipIdx.map fun e => if old ≤ e.2 ∧ e.2 < n then { e.1 with at_ := c } else e.1 }

/-- After a record has been written: the records that commit count in PUSHED (R351). [DESIGN CHOICE, log 48] -/
def State.committed (s : State) (t old : Nat) : State :=
  let x := s.tr t
  let n := x.count - old
  (s.setTr t { x.stampCommits old s.clk with pushed := x.pushed + n }).inc F.TRGH_CNT_PUSHED t 0 n

/-- The last unit of an admitted record is written: the i-th of those not yet written, in the order of admission. The
inverted parity of INJECT falls on its first unit (R351, R368). -/
def State.commitRec (s : State) (t i : Nat) : State :=
  let x := s.tr t
  match (x.recs.zipIdx.filter fun e => !e.1.committed)[i]? with
  | none => s
  | some (r, k) =>
    let r' := { r with committed := true, bad := if x.inject then [0] else r.bad }
    (s.setTr t { x with recs := x.recs.set k r', inject := false }).committed t x.count

/-- RECORD_COMMIT t (R351). -/
def execRecordCommit (d t i : Nat) (s : State) : Host.Outcome State Fault Refusal :=
  cmd (decide (t < 1536)) d s fun s => s.press fun s => s.commitRec t i

/-! ### Pop -/

/-- What a pop takes: the unit's bytes, its index in the record, and the first word that fails parity, if any. -/
structure PopUnit where
  data : Bytes
  idx : Nat
  bad : Option Nat
  last : Bool

/-- The oldest committed unit of a Trough; `bad` is a word whose stored parity fails of itself (R354, R366). -/
def TroughS.oldest (x : TroughS) (bad : Option Nat) : Option PopUnit :=
  match x.recs with
  | r :: _ =>
    if r.committed then
      let u := r.popped
      some ⟨(r.data.drop (64 * u)).take 64, u, if u ∈ r.bad then some 0 else bad, decide (64 * (u + 1) = r.data.length)⟩
    else none
  | [] => none

/-- Remove the oldest committed unit (R354). -/
def TroughS.popped (x : TroughS) : TroughS :=
  match x.recs with
  | r :: rs =>
    if r.left ≤ 1 then { x with recs := rs, overdue := false }
    else { x with recs := { r with popped := r.popped + 1 } :: rs, overdue := false }
  | [] => x

/-- Discard the committed records that the reader has not begun (R361). -/
def State.flushNow (s : State) (t : Nat) : State :=
  let x := s.tr t
  let n := x.count
  let whole := fun (e : TRec × Nat) => decide (e.2 < n ∧ e.1.popped = 0)
  let gone := (x.recs.zipIdx.filter whole).length
  let keep := (x.recs.zipIdx.filter fun e => !whole e).map Prod.fst
  let s := s.setTr t { x with recs := keep, flushed := x.flushed + gone, overdue := false }
  ((s.inc F.TRGH_CNT2_FLUSHED t 0 gone).wr F.TRGH_STATUS_FLUSH_PENDING 0 t).watermark t

/-- A unit is popped: DEPTH, POPPED at an END, the flush that waits for it, the watermark test, and the report of a parity
failure with the Trough number and the unit's index (R354, R359, R361, R366). [DESIGN CHOICE, log 49] -/
def State.popUnit (s : State) (t : Nat) (u : PopUnit) : State :=
  let s := (s.setTr t (s.tr t).popped).watermark t
  let s := if u.bad.isSome then
      ((s.inc F.TRGH_CNT2_POISONED t).flag F.TRGH_STATUS_POISON t).err 0x12 (troughSrc t) (le 8 t ++ le 8 u.idx ++ le 8 (u.bad.getD 0))
    else s
  if u.last then
    let s := s.inc F.TRGH_CNT_POPPED t
    if s.on F.TRGH_STATUS_FLUSH_PENDING t then s.flushNow t else s
  else s

/-- A side tag fails its parity: every committed unit is discarded, and the next admitted record carries DROP_GAP 1
(R367). [DESIGN CHOICE, log 49] -/
def State.tagError (s : State) (t : Nat) : State :=
  let x := s.tr t
  let n := x.count
  let gone := ((x.recs.take n).filter fun r => decide (r.popped = 0)).length
  let s := s.setTr t { x with recs := x.recs.drop n, flushed := x.flushed + gone, pend := 1, overdue := false }
  let s := ((s.inc F.TRGH_CNT2_FLUSHED t 0 gone).flag F.TRGH_STATUS_TAG_ERR t).wr F.TRGH_STATUS_FLUSH_PENDING 0 t
  (s.err 0x13 (troughSrc t) (le 8 t)).watermark t

/-! ### Flush and marks -/

/-- A reader is inside a record of a Trough: it has popped a unit of it and not its END (R361). -/
def State.readerInside (s : State) (t : Nat) : Bool :=
  s.tongs.any fun e => match e.2.pop with
    | some p => decide (p.trough = t ∧ p.data.length < 64 * p.units)
    | none => false

/-- TRGH_CTL.FLUSH (R361). -/
def State.troughFlush (s : State) (t : Nat) : State :=
  if s.readerInside t then s.wr F.TRGH_STATUS_FLUSH_PENDING 1 t else s.flushNow t

/-- TROUGH_FLUSH t (R361, R362). -/
def execTroughFlush (d t : Nat) (s : State) : Host.Outcome State Fault Refusal :=
  cmd (decide (t < 1536)) d s fun s => s.hostWrite (F.TRGH_CTL_FLUSH.at_ t) fun s => s.troughFlush t

/-- The mark record of R363. [DESIGN CHOICE, log 44] -/
def markRecord (t seq pushed dropped flushed stamp : Nat) : Bytes :=
  record 0x0700 (troughSrc t) stamp (le 4 seq ++ zeros 4 ++ le 8 pushed ++ le 8 dropped ++ le 8 flushed ++ zeros 16)

/-- TRGH_CTL.MARK: a mark is pushed under the admission rule, and the Trough writes it itself (R363). [DESIGN CHOICE, log 48] -/
def State.troughMark (s : State) (t : Nat) : State :=
  let x := s.tr t
  let ahead := (x.recs.drop x.count).length
  let seq := (s.rd F.TRGH_MARKSEQ_MARK_SEQ t + 1) % 2 ^ 32
  let rec_ := markRecord t seq (x.pushed + ahead) x.dropped x.flushed s.dt
  if s.admits t 1 then
    let s := (s.push t rec_).wr F.TRGH_MARKSEQ_MARK_SEQ seq t
    s.commitRec t (((s.tr t).recs.filter fun r => !r.committed).length - 1)
  else (s.push t rec_).flag F.TRGH_STATUS_MARK_REFUSED t

/-- TROUGH_MARK t (R363). -/
def execTroughMark (d t : Nat) (s : State) : Host.Outcome State Fault Refusal :=
  cmd (decide (t < 1536)) d s fun s => s.hostWrite (F.TRGH_CTL_MARK.at_ t) fun s => s.troughMark t

/-- The parity of the next unit written is inverted (R368). [DESIGN CHOICE, log 49] -/
def State.troughInject (s : State) (t : Nat) : State := s.setTr t { s.tr t with inject := true }

/-- The counters of a Trough read 0 (R363). [DESIGN CHOICE, log 44] -/
def State.troughClear (s : State) (t : Nat) : State :=
  s.clrAll [F.TRGH_CNT_POPPED, F.TRGH_CNT_PUSHED, F.TRGH_CNT2_DROPPED, F.TRGH_CNT2_FLUSHED, F.TRGH_CNT2_POISONED] t

/-- TROUGH_INJECT t: the parity of word 0 of the next unit written is inverted (R368). -/
def execTroughInject (d t : Nat) (s : State) : Host.Outcome State Fault Refusal :=
  cmd (decide (t < 1536)) d s fun s => s.hostWrite (F.TRGH_CTL_INJECT.at_ t) fun s =>
    s.troughInject t

/-- TROUGH_CLEAR_COUNTS t (R363). -/
def execTroughClearCounts (d t : Nat) (s : State) : Host.Outcome State Fault Refusal :=
  cmd (decide (t < 1536)) d s fun s => s.hostWrite (F.TRGH_CTL_CLEAR_COUNTS.at_ t) fun s =>
    s.troughClear t

/-! ### Registers -/

/-- A write of TRGH_WM: a setting that breaks R359 is ignored while it sets WM_EN (R359). -/
def State.wmWrite (s : State) (t v : Nat) : State :=
  let low := bits v 48 32
  let high := bits v 16 0
  if bit v 63 = 1 ∧ ¬(low < high ∧ high ≤ s.rd F.TRGH_CFG_SIZE t) then s.flag F.TRGH_STATUS_BAD_WRITE t
  else (((s.wr F.TRGH_WM_WM_EN (bit v 63) t).wr F.TRGH_WM_LOW_WM low t).wr F.TRGH_WM_HIGH_WM high t).watermark t

/-- WATERMARK_WRITE t: an 8-byte write of TRGH_WM (R359). -/
def execWatermarkWrite (d t v : Nat) (s : State) : Host.Outcome State Fault Refusal :=
  cmd (decide (t < 1536)) d s fun s => s.hostWrite (F.TRGH_WM_WM_EN.at_ t) fun s => s.wmWrite t v

/-- A write of TRGH_CFG: READER outside the GENERAL channels, the lock while ENABLE reads 1, and PKT_SEQ at a change of MODE
(R365, R373). -/
def State.troughCfgWrite (s : State) (t v : Nat) : State :=
  let reader := bits v 58 48
  if !within 1088 reader 1151 then s.flag F.TRGH_STATUS_BAD_WRITE t
  else
    let moved := decide (bit v 62 ≠ s.rd F.TRGH_CFG_MODE t)
    let s := if s.on F.TRGH_CFG_ENABLE t then
        if moved || decide (reader ≠ s.rd F.TRGH_CFG_READER t) then s.flag F.TRGH_STATUS_CFG_LOCKED t else s
      else
        let s := (s.wr F.TRGH_CFG_MODE (bit v 62) t).wr F.TRGH_CFG_READER reader t
        if moved then s.setTr t { s.tr t with seq := 0 } else s
    (s.wr F.TRGH_CFG_ENABLE (bit v 63) t).wr F.TRGH_CFG_PRIORITY (bits v 61 59) t

/-- TRGH_DEPTH and TRGH_PEAK as they read now: a write of PEAK resets it to the current DEPTH. -/
def State.troughPeakReset (s : State) (t : Nat) : State := s.wr F.TRGH_PEAK_PEAK (s.tr t).depth t

end Sys2Proof.Machine
end

