-- ==== Sys2Proof/Machine/Tongs.lean ====
section
/-!
DEFINITION. Tongs (chapter 13): descriptors and links, read tags, upstream buffers, delivery records, dot channels, disabling
and halts (R372 to R400), and the completion rules of the host port (R405, R416 to R421).
-/

namespace Sys2Proof.Machine

/-! ### Channels -/

def State.tg (s : State) (ch : Nat) : TongsS := s.tongs.getD ch {}
def State.setTg (s : State) (ch : Nat) (x : TongsS) : State := { s with tongs := s.tongs.put ch x {} }

/-- The source number of a channel (R32). -/
def tongsSrc (ch : Nat) : Nat := srcNo 0x0D ch

/-- STATE as it reads: QUENCHED where the channel stops before its next host request (R400). [DESIGN CHOICE, log 52] -/
def State.tongsState (s : State) (ch : Nat) : Nat :=
  let st := (s.tg ch).st
  if s.hostBlocked && within 1 st 4 then 8 else st

/-- Reads of a channel that are outstanding (R381). -/
def State.outstanding (s : State) (ch : Nat) : Nat :=
  (s.hep.tags.filter fun e => decide (e.2.ch = ch) && !e.2.quarantined).length

/-- L_TAG (R405). -/
def State.lTag (s : State) : Nat :=
  let c := s.hep.cfg
  if c.tag14 then 4096 else if c.tag10 then 768 else if c.extTag then 256 else 32

/-- After tags have moved: IN_USE, its peak, and QUARANTINED. -/
def State.tagsMoved (s : State) : State :=
  let q := (s.hep.tags.filter fun e => e.2.quarantined).length
  let u := s.hep.tags.length - q
  ((s.wr F.TONGS_TAGS_IN_USE u).wr F.TONGS_TAGS_PEAK (max u (s.rd F.TONGS_TAGS_PEAK))).wr F.HEP_TAGS_QUARANTINED q

/-- Data moved, in units of 1,024 bytes. -/
def State.kbytes (s : State) (ch n : Nat) : State :=
  let x := s.tg ch
  (s.setTg ch { x with part := (x.part + n) % 1024 }).inc F.TONGS_CNT_KBYTES ch 0 ((x.part + n) / 1024)

/-! ### Delivery records -/

/-- Entries of the completion ring (R391). -/
def State.cqSize (s : State) (ch : Nat) : Nat := 2 ^ s.rd F.TONGS_CQ_CFG_LOG2 ch

/-- The ring holds E − 1 records (R391). -/
def State.cqFull (s : State) (ch : Nat) : Bool :=
  decide ((s.rd F.TONGS_CQ_CFG_WR ch + 1) % s.cqSize ch = s.rd F.TONGS_CQ_RD_RD ch)

/-- Bytes 0 to 62 of a delivery record (R392). A STREAM record of no line has no first LSEQ: a free value. [DESIGN CHOICE, log 53] -/
def State.deliveryBody (s : State) (ch : Nat) (d : Desc) (status halt : Nat) : Bytes × State :=
  let b := (s.tg ch).buf
  let f := match b.first with
    | some q => (q, s)
    | none => if isDot ch then (2 ^ 64 - 1, s) else if isGeneral ch then (0, s) else s.fresh 64
  (header 0x0800 1 (tongsSrc ch) s.dt ++ le 8 d.at_ ++ le 8 d.cookie ++ le 4 b.bytes ++ le 4 b.items ++ le 8 f.1
    ++ le 4 b.skipped ++ le 4 (b.poisonAt.getD 0xFFFFFFFF) ++ le 1 status ++ le 1 b.flags ++ le 1 halt ++ zeros 4, f.2)

/-- Write a delivery record into the ring: entry WR, PHASE, TONGS_DONE (R391, R392). -/
def State.cqWrite (s : State) (ch : Nat) (body : Bytes) (irq : Bool) : State :=
  let w := s.rd F.TONGS_CQ_CFG_WR ch
  let p := s.rd F.TONGS_CQ_CFG_PHASE ch
  let s := s.emit (.hostWrite ch (s.rd F.TONGS_CQ_BASE_ADDR ch + 64 * w) (body ++ le 1 p) false false)
  let w' := (w + 1) % s.cqSize ch
  let s := s.wr F.TONGS_CQ_CFG_WR w' ch
  let s := if w' = 0 then s.wr F.TONGS_CQ_CFG_PHASE (1 - p) ch else s
  let s := s.inc F.TONGS_CNT_CLOSED ch
  if irq then s.raise (ev 0x17 ch) else s

/-! ### Descriptors and links -/

/-- Ask for a read of 32 bytes at a descriptor's address. -/
def State.fetchAt (s : State) (ch a : Nat) : State :=
  s.setTg ch { s.tg ch with st := 1, want := (s.tg ch).want ++ [⟨0, a, 32⟩] }

/-- Re-fetch the link word of a descriptor (R376, R377). [DESIGN CHOICE, log 54] -/
def State.refetch (s : State) (ch : Nat) (d : Desc) : State :=
  (s.setTg ch { s.tg ch with st := 1, want := (s.tg ch).want ++ [⟨1, d.at_ + 8, 8⟩] }).wr F.TONGS_STATE_REFETCH 0 ch

/-- The channel reaches the end mark: it re-fetches the link word when REFETCH is set, else it parks (R377, R378). -/
def State.park (s : State) (ch : Nat) (d : Desc) : State :=
  if s.on F.TONGS_STATE_REFETCH ch then s.refetch ch d else s.setTg ch { s.tg ch with st := 5 }

/-- Leave at an item boundary: the channel passes through DRAINING (R398). -/
def State.goOff (s : State) (ch : Nat) : State :=
  s.setTg ch { s.tg ch with st := 6, want := [], fetched := none }

/-- The descriptor in hand has been closed: what the channel does next (R375, R377, R398). -/
def State.afterClose (s : State) (ch : Nat) : State :=
  let x := s.tg ch
  match x.desc with
  | none => s
  | some d =>
    let s := s.setTg ch { x with desc := none, closed := some d, buf := {}, closing := none, line := 0 }
    if x.stop then s.goOff ch else if d.last then s.park ch d else s.fetchAt ch d.next

/-- Close the buffer in hand with a STATUS; the channel waits in WAIT_CQ while its ring holds E − 1 records, and before any
host request that it may not start (R384, R393, R400). -/
def State.close (s : State) (ch status : Nat) : State :=
  match (s.tg ch).desc with
  | none => s
  | some d =>
    if s.cqFull ch then
      (s.setTg ch { s.tg ch with closing := some status, st := 4 }).flag F.TONGS_STATUS_CQ_WAIT ch
    else if s.hostBlocked then s.setTg ch { s.tg ch with closing := some status }
    else
      let r := s.deliveryBody ch d status 0
      (r.2.cqWrite ch r.1 d.irq).afterClose ch

/-- Address of the descriptor that a halt reports: the one in hand, else the last one executed (R508). [DESIGN CHOICE, log 52] -/
def State.haltDesc (s : State) (ch : Nat) : Nat :=
  match (s.tg ch).desc with
  | some d => d.at_
  | none => 32 * s.rd F.TONGS_STATE_CUR_DESC ch

/-- Halt the channel (R383): reported in the non-fatal class with the channel number; a descriptor in hand closes as
HALTED, and reads that still run belong to no line any more. [DESIGN CHOICE, log 52] -/
def State.halt (s : State) (ch code : Nat) : State :=
  let s := (s.wr F.TONGS_STATUS_HALT_CODE code ch).flag F.TONGS_STATUS_HALTED ch
  let s := (s.raise (ev 0x18 ch)).err 0x14 (tongsSrc ch) (le 8 ch ++ le 8 code ++ le 8 (s.haltDesc ch))
  let orphan := fun (e : Nat × TagS) => if e.2.ch = ch ∧ !e.2.quarantined then (e.1, { e.2 with kind := 3 }) else e
  let s := { s with hep := { s.hep with tags := s.hep.tags.map orphan } }
  let x := s.tg ch
  let off := fun (x : TongsS) => { x with st := 7, stop := false, restart := false, desc := none, buf := {}, fetched := none,
                                          want := [], closing := none, reading := false, got := [], line := 0 }
  match x.desc with
  | none => s.setTg ch (off x)
  | some d =>
    let r := s.deliveryBody ch d 5 code
    let s := r.2.setTg ch { off (r.2.tg ch) with closed := some d }
    if s.cqFull ch || s.hostBlocked then
      let s := s.setTg ch { s.tg ch with heldRec := some (r.1, d.irq) }
      if s.cqFull ch then s.flag F.TONGS_STATUS_CQ_WAIT ch else s
    else s.cqWrite ch r.1 d.irq

/-! ### Dot lines -/

/-- Line bytes of a host layout (R395). -/
def layoutBytes (layout n : Nat) : Nat :=
  let b := cdiv n 8
  if layout = 0 then cdiv n 4 else if layout = 1 then b else if layout = 2 then cdiv b 64 * 64 + b
  else if layout = 3 then n else cdiv n 2

/-- Members that a layout feeds (R396). -/
def gangSize (layout : Nat) : Nat := if layout = 3 then 4 else if layout = 4 then 2 else 1

/-- The Hammer channels of a DOT channel's descriptor. -/
def gangOf (ch layout : Nat) : List Nat := upto (ch - 1024) (gangSize layout)

/-- JOB and NOZZLES of a DOT descriptor's COOKIE (R374). -/
def Desc.job (d : Desc) : Nat := bits d.cookie 31 0
def Desc.nozzles (d : Desc) : Nat := bits d.cookie 46 32

/-- The level of nozzle n of member i in a host line (R395). -/
def hostLevel (layout n : Nat) (data : Bytes) (i k : Nat) : Nat :=
  let byte := fun (j : Nat) => ((data[j]?).map BitVec.toNat).getD 0
  let p := cdiv (cdiv n 8) 64 * 64
  if layout = 0 then bits (byte (k / 4)) (2 * (k % 4) + 1) (2 * (k % 4))
  else if layout = 1 then bit (byte (k / 8)) (k % 8)
  else if layout = 2 then bit (byte (k / 8)) (k % 8) + 2 * bit (byte (p + k / 8)) (k % 8)
  else if layout = 3 then bits (byte k) (2 * i + 1) (2 * i)
  else bits (byte (k / 2)) (4 * (k % 2) + 2 * i + 1) (4 * (k % 2) + 2 * i)

/-- Packed dot data of a line's levels: 2 bits or 1 bit each (R268). -/
def packLevels (two : Bool) (levels : List Nat) : Bytes :=
  let per := if two then 4 else 8
  let w := if two then 2 else 1
  (List.range (cdiv levels.length per)).map fun j =>
    BitVec.ofNat 8 (((List.range per).map fun k => levels.getD (per * j + k) 0 * 2 ^ (w * k)).sum)

/-- DOT_FORMAT of a channel is 2-bit (R268). -/
def State.twoBit (s : State) (c : Nat) : Bool := decide (s.rd F.HAMMER_CFG_DOT_FORMAT c = 1)

/-- The slot image of a line: header and data, cut or filled to the slot (R268, R394). [DESIGN CHOICE, log 51] -/
def State.slotImage (s : State) (c : Nat) (d : Desc) (data : Bytes) (i : Nat) : Bytes :=
  let n := d.nozzles
  let hdr := le 8 (s.rd F.HAMMER_WR_INDEX c) ++ le 2 n ++ le 1 (b2n d.blank) ++ zeros 5 ++ le 4 d.job ++ zeros 44
  let body := if d.blank then [] else
    packLevels (s.twoBit c) ((List.range n).map fun k => hostLevel d.layout n data i k)
  fitTo (s.rd F.HAMMER_DOTGEOM_SLOT_BYTES c) (hdr ++ body)

/-- The next slot of a Hammer channel is FREE (R269, R394). [DESIGN CHOICE, log 51] -/
def State.slotFree (s : State) (c : Nat) : Bool :=
  decide (0 < s.rd F.HAMMER_DOTGEOM_SLOTS c) &&
    decide (((s.hm c).slots.getD (s.slotOf c (s.rd F.HAMMER_WR_INDEX c)) {}).state = 0)

/-- The read requests of a line: from its first byte, of at most Max_Read_Request_Size, ending at 4 KiB boundaries (R381). -/
def chunks (mrrs : Nat) : Nat → Nat → Nat → List ReadReq
  | 0, _, _ => []
  | fuel + 1, a, n =>
    if n = 0 then [] else
      let k := min (min mrrs (4096 - a % 4096)) n
      ⟨2, a, k⟩ :: chunks mrrs fuel (a + k) (n - k)

/-- Max_Read_Request_Size in bytes. -/
def State.mrrsBytes (s : State) : Nat := 128 * 2 ^ min s.hep.cfg.mrrs 5

/-- Host address of a line of a descriptor (R394). -/
def Desc.lineAt (d : Desc) (i : Nat) : Nat := d.addr + i * (d.len / max 1 d.lines)

/-- Begin the write of a line into the slots of its gang (R394, R396). A member whose store has been flushed since the read
began takes no write: its line is discarded and counted (R397). -/
def State.writeSlots (s : State) (ch : Nat) (d : Desc) (data : Bytes) : State :=
  let x := s.tg ch
  (gangOf ch d.layout).zipIdx.foldl (fun (s : State) (e : Nat × Nat) =>
    let c := e.1
    let x' := s.tg ch
    if (s.hm c).flushes ≠ x.flushes.getD e.2 0 then
      s.setTg ch { x' with buf := { x'.buf with skipped := x'.buf.skipped + 1 } }
    else
      let s := s.setHm c { s.hm c with writing := some (s.slotImage c d data e.2) }
      s.setTg ch { x' with commits := x'.commits ++ [c] })
    (s.setTg ch { x with reading := false, got := [], lineGood := false })

/-- Start the next line of the descriptor in hand, or wait for its slots; a transfer that waits tests for forced releases (R278, R279, R394,
R396, R399). [DESIGN CHOICE, log 50] -/
def State.startLine (s : State) (ch : Nat) : State :=
  let x := s.tg ch
  match x.desc with
  | none => s
  | some d =>
    if x.reading || !x.commits.isEmpty || x.stop || x.closing.isSome || decide (d.lines ≤ x.line) then s
    else
      let cs := gangOf ch d.layout
      let s := cs.foldl (fun s c => if s.slotFree c then s else s.forceRelease c) s
      if !(cs.all fun c => s.slotFree c) then s.setTg ch { x with st := 3 }
      else
        let x := { x with st := 2, flushes := cs.map fun c => (s.hm c).flushes }
        if d.blank then (s.setTg ch x).writeSlots ch d []
        else
          let n := layoutBytes d.layout d.nozzles
          s.setTg ch { x with reading := true, got := [], want := x.want ++ chunks s.mrrsBytes n (d.lineAt x.line) n }

/-- A stop that was ordered takes effect at an item boundary (R398, R399). -/
def State.stopNow (s : State) (ch : Nat) : State :=
  let x := s.tg ch
  if x.stop && x.closing.isNone && x.pop.isNone && !x.reading && x.commits.isEmpty && decide (x.st ≠ 6 ∧ x.st ≠ 7 ∧ x.st ≠ 0) then
    if x.desc.isSome && decide (0 < x.buf.items) then s.close ch 4 else s.goOff ch
  else s

/-- Every member's slot write of the present line has ended: the next line, or the end of the descriptor (R394). [DESIGN CHOICE, log 54] -/
def State.lineDone (s : State) (ch : Nat) : State :=
  let x := s.tg ch
  match x.desc with
  | none => s
  | some d =>
    if x.reading || !x.commits.isEmpty then s
    else
      let n := if d.blank || !x.lineGood then 0 else layoutBytes d.layout d.nozzles
      let x := { x with line := x.line + 1, lineGood := false, buf := { x.buf with bytes := x.buf.bytes + n } }
      let s := s.setTg ch x
      if d.lines ≤ x.line then s.close ch 3
      else if x.stop then s.stopNow ch
      else s.startLine ch

/-- DOT_LINE_COMMIT c: the write of a dot line into a slot of Hammer channel c completes: the slot becomes LOADED, or the line
is too late, or a flush has discarded it; the DOT channel that wrote it counts it (R269, R270, R394, R396, R397). -/
def State.dotLineCommit (s : State) (c : Nat) : State :=
  match s.tongs.find? fun e => e.2.commits.contains c with
  | none => (s.dotCommit c).2
  | some (ch, _) =>
    let w := s.rd F.HAMMER_WR_INDEX c
    let flushed := (s.hm c).writing.isNone
    let r := s.dotCommit c
    let x := r.2.tg ch
    let b := x.buf
    let b := if r.1 then
        { b with items := b.items + 1, lastAt := r.2.clk,
                 first := if b.first.isNone && decide (c + 1024 = ch) then some w else b.first }
      else { b with skipped := b.skipped + 1, flags := if flushed then b.flags else b.flags ||| 2 ^ 5 }
    let s := r.2.setTg ch { x with buf := b, commits := x.commits.filter (fun k => k ≠ c), lineGood := x.lineGood || r.1 }
    let s := if r.1 || flushed then s else s.flag F.TONGS_STATUS_LATE ch
    s.lineDone ch

/-- DOT_LINE_COMMIT c (R269). -/
def execDotLineCommit (d c : Nat) (s : State) : Host.Outcome State Fault Refusal :=
  cmd (decide (c < 64)) d s fun s => s.press fun s => s.dotLineCommit c

/-- DOT_SLOT_WAIT_END ch: the slot for the next dot line becomes FREE, and the channel reads the line (R394). -/
def execDotSlotWaitEnd (d ch : Nat) (s : State) : Host.Outcome State Fault Refusal :=
  cmd (isDot ch && decide (ch < 1152)) d s fun s => s.press fun s =>
    if (s.tg ch).st = 3 then s.startLine ch else s

/-! ### Enabling and disabling -/

/-- Start the channel: at TONGS_HEAD when it has been written since the last enable, else with the descriptor in hand, else at
the link word of the last one (R375, R398). -/
def State.tongsStart (s : State) (ch : Nat) : State :=
  let s := s.wr F.TONGS_CFG_ENABLE 1 ch
  let x := { s.tg ch with tokens := ((256000 * s.rd F.TONGS_PACE_BURST ch : Nat) : Int), tokenClk := s.clk,
                          stop := false, restart := false }
  let head := s.rd F.TONGS_HEAD_ADDR ch
  let s := s.setTg ch x
  if s.rd F.TONGS_CQ_BASE_ADDR ch % 64 ≠ 0 then s.halt ch 7
  else if x.headNew || (x.desc.isNone && x.closed.isNone) then
    let s := s.setTg ch { x with headNew := false, desc := none, buf := {}, line := 0 }
    if head % 32 ≠ 0 then s.halt ch 1 else s.fetchAt ch head
  else if x.desc.isSome then
    let s := s.setTg ch { x with st := 2 }
    if isDot ch then s.startLine ch else s
  else match x.closed with
    | some d => s.refetch ch d
    | none => s

/-- A write of ENABLE = 1 (R375, R396, R398). Before READY it stands until the press blocks are released (R72). [DESIGN CHOICE, log 52] -/
def State.tongsEnable (s : State) (ch : Nat) : State :=
  let x := s.tg ch
  if isDot ch && s.on F.TONGS_CFG_GANGED ch then s
  else if !s.ready then s.wr F.TONGS_CFG_ENABLE 1 ch
  else if x.stop || decide (x.st = 6) then
    (s.setTg ch { x with restart := true }).wr F.TONGS_CFG_ENABLE 1 ch
  else if x.st = 0 then s.tongsStart ch
  else s

/-- CHANNEL_ENABLE ch: a write of TONGS_CFG.ENABLE = 1 (R375). -/
def execChannelEnable (d ch : Nat) (s : State) : Host.Outcome State Fault Refusal :=
  cmd (decide (ch < 1152)) d s fun s => s.hostWrite (F.TONGS_CFG_ENABLE.at_ ch) fun s => s.tongsEnable ch

/-- A write of ENABLE = 0 (R383, R398, R399). -/
def State.tongsDisable (s : State) (ch : Nat) : State :=
  let x := s.tg ch
  if isDot ch && s.on F.TONGS_CFG_GANGED ch then s
  else
    let s := s.wr F.TONGS_CFG_ENABLE 0 ch
    if x.st = 0 then s
    else if x.st = 6 then s.setTg ch { x with restart := false }
    else if x.st = 7 then
      if x.heldRec.isSome then s.setTg ch { x with stop := true, restart := false }
      else s.setTg ch { x with st := 0, stop := false, restart := false }
    else (s.setTg ch { x with stop := true, restart := false }).stopNow ch

/-- CHANNEL_DISABLE ch (R398). -/
def execChannelDisable (d ch : Nat) (s : State) : Host.Outcome State Fault Refusal :=
  cmd (decide (ch < 1152)) d s fun s => s.hostWrite (F.TONGS_CFG_ENABLE.at_ ch) fun s => s.tongsDisable ch

/-- The channel is DISABLED, and an ENABLE = 1 written since then restarts it (R398). -/
def State.tongsOff (s : State) (ch : Nat) : State :=
  let x := s.tg ch
  let s := s.setTg ch { x with st := 0, stop := false, restart := false }
  if x.restart then s.tongsStart ch else s

/-- DRAIN_COMPLETE ch: the outstanding requests of a DRAINING channel have ended (R398). -/
def execDrainComplete (d ch : Nat) (s : State) : Host.Outcome State Fault Refusal :=
  cmd (decide (ch < 1152)) d s fun s => s.press fun s =>
    if (s.tg ch).st = 6 ∧ s.outstanding ch = 0 then s.tongsOff ch else s

/-- A doorbell (R376, R377). -/
def State.doorbell (s : State) (ch : Nat) : State :=
  let x := s.tg ch
  if isDot ch && s.on F.TONGS_CFG_GANGED ch then s
  else if within 1 x.st 4 then s.wr F.TONGS_STATE_REFETCH 1 ch
  else if x.st = 5 then
    match x.closed with
    | some d => s.refetch ch d
    | none => s
  else s

/-- DOORBELL ch (R377). -/
def execDoorbell (d ch : Nat) (s : State) : Host.Outcome State Fault Refusal :=
  cmd (decide (ch < 1152)) d s fun s => s.hostWrite (F.TONGS_DOORBELL_VALUE.at_ ch) fun s => s.doorbell ch

/-! ### Descriptor execution -/

/-- The descriptor that 32 fetched bytes spell (R374). -/
def parseDesc (a : Nat) (bs : Bytes) : Desc :=
  let w1 := leAt bs 8 8
  let w2 := leAt bs 20 4
  { at_ := a, addr := leAt bs 0 8, last := decide (bit w1 0 = 1), next := w1 / 32 * 32, len := leAt bs 16 4,
    irq := decide (bit w2 0 = 1), relaxed := decide (bit w2 1 = 1), ns := decide (bit w2 2 = 1),
    blank := decide (bit w2 3 = 1), layout := bits w2 7 4, lines := bits w2 31 16, cookie := leAt bs 24 8 }

/-- The halt code that a descriptor earns, 0 for none (R383, R396). -/
def State.descHalt (s : State) (ch : Nat) (d : Desc) : Nat :=
  let badBuf := decide (d.addr % 64 ≠ 0 ∨ d.len = 0 ∨ d.len % 64 ≠ 0)
  if !isDot ch then (if badBuf then 1 else 0)
  else
    let two := s.twoBit (ch - 1024)
    let n := d.nozzles
    let ganged := decide (d.layout = 3 ∨ d.layout = 4)
    let k := gangSize d.layout
    if !d.blank && badBuf then 1
    else if d.lines = 0 ∨ 4 < d.layout ∨ n = 0 ∨ 16384 < n then 3
    else if !ganged && decide (two = decide (d.layout = 1)) then 3
    else if !d.blank && (decide (d.len % (64 * d.lines) ≠ 0) || decide (d.len / d.lines < layoutBytes d.layout n)) then 3
    else if ganged then
      let ok := decide (ch + k ≤ 1088) && !s.on F.TONGS_CFG_GANGED ch
        && ((upto 1 (k - 1)).all fun i => s.on F.TONGS_CFG_GANGED (ch + i))
        && ((gangOf ch d.layout).all fun c => s.twoBit c && decide (s.rd F.HAMMER_CFG_NOZZLES c = n))
      if ok then 0 else 4
    else 0

/-- Execute a fetched descriptor (R375, R383). -/
def State.runDesc (s : State) (ch : Nat) (d : Desc) : State :=
  let s := s.wr F.TONGS_STATE_CUR_DESC (d.at_ / 32) ch
  let s := s.setTg ch { s.tg ch with desc := some d, buf := {}, line := 0, st := 2 }
  let code := s.descHalt ch d
  if code ≠ 0 then s.halt ch code else if isDot ch then s.startLine ch else s

/-- DESCRIPTOR_FETCH ch: the channel executes the descriptor whose read has completed (R375). [DESIGN CHOICE, log 50] -/
def execDescriptorFetch (d ch : Nat) (s : State) : Host.Outcome State Fault Refusal :=
  cmd (decide (ch < 1152)) d s fun s => s.press fun s =>
    match (s.tg ch).fetched with
    | some (r, bs) =>
      if r.kind = 0 ∧ (s.tg ch).st = 1 then (s.setTg ch { s.tg ch with fetched := none }).runDesc ch (parseDesc r.addr bs) else s
    | none => s

/-- LINK_REFETCH ch: a re-fetched link word leads on, or the channel parks (R376, R377). [DESIGN CHOICE, log 50] -/
def execLinkRefetch (d ch : Nat) (s : State) : Host.Outcome State Fault Refusal :=
  cmd (decide (ch < 1152)) d s fun s => s.press fun s =>
    match (s.tg ch).fetched, (s.tg ch).closed with
    | some (r, bs), some c =>
      if r.kind = 1 ∧ (s.tg ch).st = 1 then
        let w := leAt bs 0 8
        let c' := { c with last := decide (bit w 0 = 1), next := w / 32 * 32 }
        let s := s.setTg ch { s.tg ch with fetched := none, closed := some c' }
        if c'.last then s.park ch c' else s.fetchAt ch c'.next
      else s
    | _, _ => s

/-! ### Tags and completions -/

/-- Channels that wait for a tag and may issue (R381, R400). -/
def State.tagWaiters (s : State) : List Nat :=
  (s.tongs.filter fun e => !e.2.want.isEmpty && decide (s.outstanding e.1 ≤ s.rd F.TONGS_CFG_MAX_READS_M1 e.1)).map Prod.fst

/-- The lowest tag that is free. -/
def State.freeTag (s : State) : Option Nat :=
  (List.range s.lTag).find? fun t => (s.hep.tags.find t).isNone

/-- TAG_GRANT: a free tag is granted to the next waiting channel in rotation, and its read is issued (R381, R405, R416,
R438). -/
def State.tagGrant (s : State) : State :=
  if s.hostBlocked || decide (s.lTag ≤ s.hep.tags.length) then s
  else
    let ws := s.tagWaiters
    match (ws.find? fun c => decide (s.hep.tagNext ≤ c)).orElse (fun _ => ws.head?), s.freeTag with
    | some ch, some t =>
      let x := s.tg ch
      match x.want with
      | [] => s
      | r :: rest =>
        let dot := decide (r.kind = 2)
        let ro := dot && (x.desc.any Desc.relaxed) && s.hep.cfg.roEn
        let ns := dot && (x.desc.any Desc.ns) && s.on F.TONGS_CFG_NS_EN ch && s.hep.cfg.nsEn
        let tag : TagS := ⟨ch, r.kind, r.addr, r.len, [], s.clk, false⟩
        let s := s.setTg ch { x with want := rest }
        let s := { s with hep := { s.hep with tags := s.hep.tags.ins t tag, tagNext := ch + 1 } }
        (s.emit (.hostRead ch t r.addr r.len ro ns)).tagsMoved
    | _, _ => s

/-- TAG_GRANT (R381). -/
def execTagGrant (d : Nat) (s : State) : Host.Outcome State Fault Refusal :=
  cmd true d s fun s => s.press fun s => s.tagGrant

/-- A read of a channel has completed whole (R381). -/
def State.readDone (s : State) (t : TagS) : State :=
  let x := s.tg t.ch
  if x.st = 6 ∨ x.st = 7 ∨ x.st = 0 ∨ t.kind = 3 then
    -- a DOT channel finishes the line under way even while it stops; others discard what they no longer need
    s
  else if t.kind ≠ 2 then
    if x.stop then s else s.setTg t.ch { x with fetched := some (⟨t.kind, t.addr, t.len⟩, t.got) }
  else match x.desc with
    | none => s
    | some d =>
      if !x.reading then s
      else
        let n := layoutBytes d.layout d.nozzles
        let a := d.lineAt x.line
        let got := (t.got.zipIdx.foldl (fun (m : Mem) e => m.ins (t.addr - a + e.2) e.1) x.got)
        let s := (s.setTg t.ch { x with got := got }).kbytes t.ch t.got.length
        if got.length < n then s
        else ((s.writeSlots t.ch d (got.map Prod.snd)).lineDone t.ch)

/-- Release a tag. -/
def State.freeTags (s : State) (t : Nat) : State :=
  ({ s with hep := { s.hep with tags := s.hep.tags.del t } }).tagsMoved

/-- A failed read of a channel halts it (R382). A channel that no longer waits for the read is left as it is. -/
def State.readFailed (s : State) (t : TagS) (code : Nat) : State :=
  let x := s.tg t.ch
  if x.st = 0 ∨ x.st = 6 ∨ x.st = 7 ∨ t.kind = 3 then s else s.halt t.ch code

/-- COMPLETION_RECEIVE: a completion with its data, its status (0 successful, 1 Unsupported Request, 2 Completer Abort) and
whether it is poisoned; `last` tells that its Byte Count equals its payload length (R381, R382, R418 to R421). [DESIGN CHOICE, log 50] -/
def State.completion (s : State) (tag : Nat) (data : Bytes) (status : Nat) (poisoned last : Bool) : State :=
  match s.hep.tags.find tag with
  | none => ((s.inc F.HEP_CPL_UNEXPECTED).flag F.HEP_STATUS_LATE_CPL).hostErr .unexpectedCompletion true []
  | some t =>
    if t.quarantined then
      let s := ((s.inc F.HEP_CPL_LATE_CPL).flag F.HEP_STATUS_LATE_CPL).hostErr .unexpectedCompletion true []
      if last || decide (status ≠ 0) then s.freeTags tag else s
    else if status ≠ 0 then (s.freeTags tag).readFailed t 6
    else if poisoned then
      let s := s.hostErr .poisonedTlp true []
      if t.got.length + data.length < t.len then
        -- the rest of the request's completions are still to come: the tag stays quarantined until the last of them
        ((({ s with hep := { s.hep with tags := s.hep.tags.ins tag { t with quarantined := true, at_ := s.clk } } }).tagsMoved).readFailed
          t 6)
      else (s.freeTags tag).readFailed t 6
    else
      let t' := { t with got := (t.got ++ data).take t.len }
      if t'.got.length < t.len then { s with hep := { s.hep with tags := s.hep.tags.ins tag t' } }
      else (s.freeTags tag).readDone t'

/-- COMPLETION_RECEIVE (R381, R419). -/
def execCompletionReceive (d tag : Nat) (data : Bytes) (status : Nat) (poisoned last : Bool) (s : State) :
    Host.Outcome State Fault Refusal :=
  cmd true d s fun s => s.powered fun s =>
    s.completion tag data status poisoned last

/-- T_CTO in ns (R417). -/
def State.tCto (s : State) : Nat :=
  let e := s.hep.cfg.ctoVal
  1000 * (if e = 1 then 100 else if e = 2 then 10000 else if e = 5 then 55000 else if e = 6 then 210000
    else if e = 9 then 900000 else if e = 10 then 3500000 else if e = 13 then 13000000 else if e = 14 then 64000000 else 50000)

/-- The CTO_STORM cause: CTO_LIMIT timeouts within any 1 ms (R432). -/
def State.ctoStorm (s : State) : State :=
  let ts := (s.hep.ctos ++ [s.clk]).filter fun c => decide (s.clk ≤ c + 1000000)
  let s := { s with hep := { s.hep with ctos := ts } }
  let lim := s.rd F.HEP_QUENCH_CFG_CTO_LIMIT
  if lim ≠ 0 ∧ lim ≤ ts.length then s.quenchCause 1 else s

/-- COMPLETION_TIMEOUT: a non-posted request passes T_CTO (R418). -/
def State.ctoTimeout (s : State) (tag : Nat) : State :=
  match s.hep.tags.find tag with
  | none => s
  | some t =>
    if t.quarantined || !s.due t.at_ s.tCto then s
    else
      let t' := { t with quarantined := true, at_ := s.clk }
      let s := ({ s with hep := { s.hep with tags := s.hep.tags.ins tag t' } }).tagsMoved
      let s := (s.inc F.HEP_CPL_CTO).flag F.HEP_STATUS_CTO
      let s := s.hostErr .completionTimeout true []
      (s.readFailed t 5).ctoStorm

/-- COMPLETION_TIMEOUT (R418). [DESIGN CHOICE, log 3] -/
def execCompletionTimeout (d tag : Nat) (s : State) : Host.Outcome State Fault Refusal :=
  cmd true d s fun s => s.powered fun s => s.ctoTimeout tag

/-- QUARANTINE_EXPIRY: 4 × T_CTO after the timeout the tag is released (R418). -/
def execQuarantineExpiry (d tag : Nat) (s : State) : Host.Outcome State Fault Refusal :=
  cmd true d s fun s => s.powered fun s =>
    match s.hep.tags.find tag with
    | none => s
    | some t => if t.quarantined && s.due t.at_ (4 * s.tCto) then (s.inc F.HEP_CPL_QUAR_EXPIRED).freeTags tag else s

/-! ### Upstream items -/

/-- Tokens of the rate limiter now, in 1/256,000 units (R390). -/
def State.tokensNow (s : State) (ch : Nat) : Int :=
  let x := s.tg ch
  min (x.tokens + (((s.clk - x.tokenClk) * s.rd F.TONGS_PACE_RATE ch : Nat) : Int))
    ((256000 * s.rd F.TONGS_PACE_BURST ch : Nat) : Int)

/-- Bring the token count up to date. -/
def State.refill (s : State) (ch : Nat) : State :=
  s.setTg ch { s.tg ch with tokens := s.tokensNow ch, tokenClk := s.clk }

/-- An item of n units may start under the rate limiter (R390). -/
def State.rateOk (s : State) (ch n : Nat) : Bool :=
  decide (((256000 * min n (s.rd F.TONGS_PACE_BURST ch) : Nat) : Int) ≤ s.tokensNow ch)

/-- The start of an item of n units takes its tokens (R390). [DESIGN CHOICE, log 51] -/
def State.charge (s : State) (ch n : Nat) : State :=
  let s := s.refill ch
  s.setTg ch { s.tg ch with tokens := (s.tg ch).tokens - ((256000 * n : Nat) : Int) }

/-- Whether an item of n bytes fits: 0 it does, 1 the buffer closes as FULL, 2 it fits no empty buffer (R383, R384). -/
def State.fits (s : State) (ch n : Nat) : Nat :=
  match (s.tg ch).desc with
  | none => 1
  | some d =>
    if (s.tg ch).buf.bytes + n ≤ d.len then 0 else if (s.tg ch).buf.items = 0 then 2 else 1

/-- The channel may take an item: it is ACTIVE with a buffer in hand, not stopping, and no close waits (R393, R399, R400). -/
def State.mayTake (s : State) (ch : Nat) : Bool :=
  let x := s.tg ch
  decide (x.st = 2) && x.desc.isSome && !x.stop && x.closing.isNone && x.pop.isNone && !s.hostBlocked

/-- An item is written into the buffer in hand; `poison` is the offset in it of its first poisoned unit (R384, R388). [DESIGN CHOICE, log 51] -/
def State.putItem (s : State) (ch : Nat) (data : Bytes) (items flags skipped : Nat) (first poison : Option Nat) : State :=
  let x := s.tg ch
  match x.desc with
  | none => s
  | some d =>
    let b := x.buf
    let s := s.emit (.hostWrite ch (d.addr + b.bytes) data (d.relaxed && s.hep.cfg.roEn) false)
    let b := { b with
      bytes := b.bytes + data.length, items := b.items + items, flags := b.flags ||| flags, skipped := b.skipped + skipped,
      lastAt := s.clk, first := b.first.orElse (fun _ => first),
      poisonAt := b.poisonAt.orElse (fun _ => poison.map fun o => b.bytes + o) }
    (s.setTg ch { s.tg ch with buf := b }).kbytes ch data.length

/-- The next line of a STREAM channel: LSEQ, HBM address and bytes, when it is visible (R385). -/
def State.nextLine (s : State) (ch : Nat) : Option (Nat × Nat × Nat) :=
  let st := ch % 4
  match s.hearthOf (ch / 4) with
  | none => none
  | some n =>
    let q := s.readers.getD ch 0
    let cap := s.rd F.HEARTH_SGEOM_CAPACITY n st
    let lb := s.rd F.HEARTH_SGEOM_LINE_BYTES n st
    if q < s.rd F.HEARTH_LSEQ_VALUE n st ∧ cap ≠ 0 then
      some (q, (s.rd F.HEARTH_RING_BASE_MIB n + s.rd F.HEARTH_SREGION_OFFSET_MIB n st) * 2 ^ 20 + q % cap * lb, lb)
    else none

/-- STREAM_LINE_DELIVER ch: a visible line is copied into the buffer; lines passed over since the last one count as lapped
(R384, R385, R390). -/
def State.lineDeliver (s : State) (ch : Nat) : State :=
  if !s.mayTake ch then s
  else match s.nextLine ch with
    | none => s
    | some (q, a, n) =>
      let f := s.fits ch n
      if f = 2 then s.halt ch 2
      else if f = 1 then s.close ch 1
      else if s.on F.TONGS_CFG_RATE_EN ch && !s.rateOk ch (n / 64) then s
      else
        let s := s.charge ch (n / 64)
        let x := s.tg ch
        let lap := q - x.expect
        let bad := s.hbmBad a n
        let flags := b2n bad + 2 * b2n (decide (0 < lap)) + 4 * b2n x.rewound
        let s := s.putItem ch (s.hbmRead a n) 1 flags lap (some q) none
        let s := { s with readers := s.readers.put ch (q + 1) 0 }
        let s := s.setTg ch { s.tg ch with expect := q + 1, rewound := false }
        if bad then s.flag F.TONGS_STATUS_POISON ch else s

/-- STREAM_LINE_DELIVER ch (R385). -/
def execStreamLineDeliver (d ch : Nat) (s : State) : Host.Outcome State Fault Refusal :=
  cmd (isStream ch) d s fun s => s.press fun s => s.lineDeliver ch

/-- A Trough takes part in the selection of its reader (R355, R389). -/
def State.takesPart (s : State) (ch t : Nat) : Bool :=
  let x := s.tr t
  decide (s.rd F.TRGH_CFG_READER t = ch ∧ 0 < x.count) &&
    (decide (s.rd F.TONGS_CFG_PACE ch = 0) || s.on F.TRGH_STATUS_ABOVE t || !s.on F.TRGH_WM_WM_EN t
      || (decide (s.rd F.TONGS_PACE_HOLD_US ch ≠ 0) && x.overdue))

/-- The Trough that a reader takes next: the highest PRIORITY, then the lowest number (R355). -/
def State.selectTrough (s : State) (ch : Nat) : Option Nat :=
  (s.trough.map Prod.fst).foldl (fun best t =>
    if s.takesPart ch t then
      match best with
      | none => some t
      | some b => if s.rd F.TRGH_CFG_PRIORITY b < s.rd F.TRGH_CFG_PRIORITY t then some t else best
    else best) none

/-- Pop one unit of the record in hand (R354, R366, R386). -/
def State.popOne (s : State) (ch : Nat) (bad : Option Nat) : State :=
  match (s.tg ch).pop with
  | none => s
  | some p =>
    match (s.tr p.trough).oldest bad with
    | none => s
    | some u =>
      let p := { p with data := p.data ++ u.data, poison := if u.bad.isSome then p.poison ++ [u.idx] else p.poison }
      (s.setTg ch { s.tg ch with pop := some p }).popUnit p.trough u

/-- A Trough's side tag fails while the channel reads a record of it: what it has popped of the record is withdrawn
(R367, R388). -/
def State.popTagError (s : State) (ch t : Nat) : State :=
  let s := s.tagError t
  let x := s.tg ch
  match x.pop with
  | none => s
  | some p =>
    if p.trough = t then
      let b := if p.data.isEmpty then x.buf else { x.buf with flags := x.buf.flags ||| 8 }
      let s := s.setTg ch { x with pop := none, buf := b }
      if p.data.isEmpty then s else s.flag F.TONGS_STATUS_TRUNCATED ch
    else s

/-- UNIT_POP ch: at a record boundary the reader selects its next Trough, closes a buffer that the record and its drop record
do not fit, and starts the record under the rate limiter; then it pops one unit (R354 to R357, R384, R386 to R390). `bad` is
a word of the unit that fails parity of itself, `tagBad` a failure of its side tag. -/
def State.unitPop (s : State) (ch : Nat) (bad : Option Nat) (tagBad : Bool) : State :=
  let go := fun (s : State) (t : Nat) => if tagBad then (s.popTagError ch t).stopNow ch else s.popOne ch bad
  match (s.tg ch).pop with
  | some p =>
    if p.data.length = 64 * p.units ∨ s.hostBlocked then s else go s p.trough
  | none =>
    if !s.mayTake ch then s
    else match s.selectTrough ch with
      | none => s
      | some t =>
        match (s.tr t).recs with
        | [] => s
        | r :: _ =>
          let units := r.data.length / 64
          let drop := !s.on F.TRGH_CFG_MODE t && decide (r.dropGap ≠ 0)
          let need := units + b2n drop
          let f := s.fits ch (64 * need)
          let limited := s.on F.TONGS_CFG_RATE_EN ch
            || (decide (s.rd F.TONGS_CFG_PACE ch = 1) && !s.on F.TRGH_WM_WM_EN t)
          if f = 2 then s.halt ch 2
          else if f = 1 then s.close ch 1
          else if limited && !s.rateOk ch need then s
          else
            let s := s.charge ch need
            go (s.setTg ch { s.tg ch with pop := some ⟨t, units, [], [], r.dropGap, r.seq⟩ }) t

/-- UNIT_POP ch (R354). -/
def execUnitPop (d ch : Nat) (bad : Option Nat) (tagBad : Bool) (s : State) : Host.Outcome State Fault Refusal :=
  cmd (isGeneral ch && decide (ch < 1152)) d s fun s => s.press fun s =>
    s.unitPop ch (bad.map (· % 16)) tagBad

/-- The drop record of R387. -/
def dropRecord (t gap stamp : Nat) : Bytes := record 0x0810 (troughSrc t) stamp (le 2 gap ++ zeros 46)

/-- The prefix of Molath MX4 mode (R364). -/
def mx4Prefix (p : PopS) : Bytes :=
  le 4 (64 * p.units + 2 ^ 24 * b2n (!p.poison.isEmpty) + 2 ^ 25 * b2n (decide (p.dropGap ≠ 0)))
    ++ p.data.take 2 ++ le 2 p.seq ++ (p.data.drop 8).take 8

/-- TROUGH_RECORD_DELIVER ch: a record popped to its END is written into the buffer, after its drop record (R364, R386 to
R388). -/
def State.recordDeliver (s : State) (ch : Nat) : State :=
  match (s.tg ch).pop with
  | none => s
  | some p =>
    if p.data.length ≠ 64 * p.units ∨ s.hostBlocked then s
    else
      let s := s.setTg ch { s.tg ch with pop := none }
      let gap := decide (p.dropGap ≠ 0)
      let mx4 := s.on F.TRGH_CFG_MODE p.trough
      let s := if gap && !mx4 then s.putItem ch (dropRecord p.trough p.dropGap s.dt) 1 0 0 none none else s
      let data := if mx4 then mx4Prefix p ++ p.data.drop 16 else p.data
      let flags := b2n (!p.poison.isEmpty) + 16 * b2n gap
      let s := s.putItem ch data 1 flags p.dropGap none (p.poison.head?.map (64 * ·))
      let s := if gap then s.flag F.TONGS_STATUS_DROP ch else s
      let s := if p.poison.isEmpty then s else s.flag F.TONGS_STATUS_POISON ch
      s.stopNow ch

/-- TROUGH_RECORD_DELIVER ch (R386). -/
def execTroughRecordDeliver (d ch : Nat) (s : State) : Host.Outcome State Fault Refusal :=
  cmd (isGeneral ch && decide (ch < 1152)) d s fun s => s.press fun s => s.recordDeliver ch

/-- BUFFER_CLOSE_TIMEOUT ch: CLOSE_US after the last item the buffer closes as TIMED (R384). [DESIGN CHOICE, log 52] -/
def execBufferCloseTimeout (d ch : Nat) (s : State) : Host.Outcome State Fault Refusal :=
  cmd (decide (ch < 1152)) d s fun s => s.press fun s =>
    let x := s.tg ch
    let us := s.rd F.TONGS_CFG_CLOSE_US ch
    if !isDot ch && decide (x.st = 2 ∧ us ≠ 0 ∧ 0 < x.buf.items) && x.closing.isNone && x.pop.isNone
        && s.due x.buf.lastAt (1000 * us) then s.close ch 2 else s

/-- PACING_HOLD_EXPIRY t: the oldest record has waited HOLD_US of its reader and joins FILL selection (R389). -/
def execPacingHoldExpiry (d t : Nat) (s : State) : Host.Outcome State Fault Refusal :=
  cmd (decide (t < 1536)) d s fun s => s.press fun s =>
    let us := s.rd F.TONGS_PACE_HOLD_US (s.rd F.TRGH_CFG_READER t)
    let x := s.tr t
    match x.recs with
    | r :: _ => if r.committed && decide (us ≠ 0) && s.due r.at_ (1000 * us) then s.setTr t { x with overdue := true } else s
    | [] => s

/-! ### Completion ring -/

/-- A channel that waited for the ring, or for leave to issue, goes on (R383, R393, R400, R437). -/
def State.tongsResume (s : State) (ch : Nat) : State :=
  let x := s.tg ch
  match x.heldRec with
  | some (body, irq) =>
    if s.cqFull ch || s.hostBlocked then s
    else
      let s := (s.setTg ch { x with heldRec := none }).cqWrite ch body irq
      if x.st = 7 && x.stop then s.tongsOff ch else s
  | none =>
    match x.closing with
    | some status => (s.setTg ch { x with closing := none, st := 2 }).close ch status
    | none => s

/-- A write of TONGS_CQ_RD: a value outside the range from RD to WR in ring order is ignored (R391). -/
def State.cqReturn (s : State) (ch rd : Nat) : State :=
  let e := s.cqSize ch
  let old := s.rd F.TONGS_CQ_RD_RD ch
  let held := (s.rd F.TONGS_CQ_CFG_WR ch + e - old) % e
  if rd < e ∧ (rd + e - old) % e ≤ held then (s.wr F.TONGS_CQ_RD_RD rd ch).tongsResume ch else s

/-- CQ_RETURN ch (R391). -/
def execCqReturn (d ch rd : Nat) (s : State) : Host.Outcome State Fault Refusal :=
  cmd (decide (ch < 1152)) d s fun s => s.hostWrite (F.TONGS_CQ_RD_RD.at_ ch) fun s =>
    s.cqReturn ch (bits rd 19 0)

/-- A write of TONGS_CQ_CFG (R391). -/
def State.cqCfgWrite (s : State) (ch v : Nat) : State :=
  let l := bits v 24 20
  if s.on F.TONGS_CFG_ENABLE ch || !within 4 l 20 then s
  else (((s.wr F.TONGS_CQ_CFG_LOG2 l ch).wr F.TONGS_CQ_CFG_WR 0 ch).wr F.TONGS_CQ_RD_RD 0 ch).wr F.TONGS_CQ_CFG_PHASE 1 ch

/-- CQ_CFG_WRITE ch (R391). -/
def execCqCfgWrite (d ch v : Nat) (s : State) : Host.Outcome State Fault Refusal :=
  cmd (decide (ch < 1152)) d s fun s => s.hostWrite (F.TONGS_CQ_CFG_LOG2.at_ ch) fun s => s.cqCfgWrite ch v

/-- The counters of a channel read 0 (R392). -/
def State.tongsClear (s : State) (ch : Nat) : State := s.clrAll [F.TONGS_CNT_CLOSED, F.TONGS_CNT_KBYTES] ch

/-- TONGS_CLEAR_COUNTS ch: TONGS_CTL.CLEAR_COUNTS clears TONGS_CNT (R392). -/
def execTongsClearCounts (d ch : Nat) (s : State) : Host.Outcome State Fault Refusal :=
  cmd (decide (ch < 1152)) d s fun s => s.hostWrite (F.TONGS_CTL_CLEAR_COUNTS.at_ ch) fun s => s.tongsClear ch

/-- A write of TONGS_CFG (R396, R398). -/
def State.tongsCfgWrite (s : State) (ch v : Nat) : State :=
  let pace := bits v 59 58
  let close := bits v 47 32
  let reads := bits v 21 16
  if 1 < pace then s
  else
    let old := (s.rd F.TONGS_CFG_GANGED ch, s.rd F.TONGS_CFG_NS_EN ch, s.rd F.TONGS_CFG_PACE ch, s.rd F.TONGS_CFG_MAX_READS_M1 ch)
    let new := (bit v 62, bit v 61, pace, reads)
    let s := (s.refill ch)
    let s := (s.wr F.TONGS_CFG_RATE_EN (bit v 60) ch).wr F.TONGS_CFG_CLOSE_US close ch
    let s := if s.on F.TONGS_CFG_ENABLE ch then
        if old = new then s else s.flag F.TONGS_STATUS_CFG_LOCKED ch
      else
        (((s.wr F.TONGS_CFG_GANGED (bit v 62) ch).wr F.TONGS_CFG_NS_EN (bit v 61) ch).wr F.TONGS_CFG_PACE pace ch).wr
          F.TONGS_CFG_MAX_READS_M1 reads ch
    if bit v 63 = 1 then s.tongsEnable ch else s.tongsDisable ch

/-- A write of TONGS_PACE: a RATE or BURST of 0 makes the write ignored (R390). -/
def State.tongsPaceWrite (s : State) (ch v : Nat) : State :=
  if bits v 63 48 = 0 ∨ bits v 47 32 = 0 then s
  else
    let s := s.refill ch
    ((s.wr F.TONGS_PACE_RATE (bits v 63 48) ch).wr F.TONGS_PACE_BURST (bits v 47 32) ch).wr F.TONGS_PACE_HOLD_US (bits v 31 0) ch

/-- A write of TONGS_HEAD (R375). -/
def State.tongsHeadWrite (s : State) (ch v : Nat) : State :=
  (s.wr F.TONGS_HEAD_ADDR v ch).setTg ch { s.tg ch with headNew := true }

/-! ### Resets and rewinds -/

/-- The units that a reader had popped of a record it had not delivered lie in their Trough again (R369, R400). [DESIGN CHOICE, log 53] -/
def State.unpop (s : State) (p : PopS) : State :=
  let x := s.tr p.trough
  if p.data.length = 64 * p.units then
    s.setTr p.trough { x with recs := ⟨p.data, p.dropGap, p.seq, true, 0, p.poison, s.clk⟩ :: x.recs }
  else match x.recs with
    | r :: rs => s.setTr p.trough { x with recs := { r with popped := 0, bad := r.bad } :: rs }
    | [] => s

/-- One channel returns to DISABLED at once; its outstanding requests are abandoned and their tags quarantined (R400,
R420). [DESIGN CHOICE, log 53] -/
def State.tongsAbandon (s : State) (ch : Nat) : State :=
  let x := s.tg ch
  let s := match x.pop with
    | some p => s.unpop p
    | none => s
  let s := x.commits.foldl (fun s c => s.setHm c { s.hm c with writing := none }) s
  let tags : Assoc TagS := s.hep.tags.map fun (e : Nat × TagS) =>
    if e.2.ch = ch ∧ !e.2.quarantined then (e.1, { e.2 with quarantined := true, at_ := s.clk }) else e
  let s := ({ s with hep := { s.hep with tags := tags } }).tagsMoved
  let s := s.wr F.TONGS_CFG_ENABLE 0 ch
  s.setTg ch { x with st := 0, stop := false, restart := false, fetched := none, want := [], closing := none, pop := none,
                      reading := false, got := [], commits := [], lineGood := false }

/-- Every channel returns to DISABLED (R400, R425). -/
def State.tongsReset (s : State) : State := (s.tongs.map Prod.fst).foldl State.tongsAbandon s

/-- Every channel goes on once the last condition of R400 has ended (R429, R437). -/
def State.tongsResumeAll (s : State) : State := (s.tongs.map Prod.fst).foldl State.tongsResume s

/-- HEARTH_REWIND.GO: the reader of the mark's stream goes back to the mark, or the reason why not (R201, R202). [DESIGN CHOICE, log 54] -/
def State.rewind (s : State) (n m : Nat) : State :=
  let st := s.rd F.HEARTH_MARK_STATE_STREAM n m
  let ch := 4 * s.logicalOf n + st
  let valid := s.on F.HEARTH_MARK_STATE_VALID n m
  let code :=
    if valid then (if (s.tg ch).st = 0 then 4 else 1)
    else if s.on F.HEARTH_MARK_STATE_PENDING n m then 5
    else if s.on F.HEARTH_MARK_STATE_LAPPED n m then 2 else 3
  let s := s.wr F.HEARTH_REWIND_RESULT code n
  if code = 1 then
    let q := s.rd F.HEARTH_MARK_POS_LSEQ n m
    ({ s with readers := s.readers.put ch q 0 }).setTg ch { s.tg ch with expect := q, rewound := true }
  else s

/-- REWIND (R201). -/
def execRewind (d n m : Nat) (s : State) : Host.Outcome State Fault Refusal :=
  cmd (decide (n < 264 ∧ m < 4)) d s fun s => 
    s.hostHold (F.HEARTH_REWIND_GO.at_ n) 4 (0x100 + m) fun s => s.press fun s => s.rewind n m

/-- TONGS_POS as it reads now. -/
def State.tongsPos (s : State) (ch : Nat) : Nat :=
  if isStream ch then s.readers.getD ch 0 else if isDot ch then s.rd F.HAMMER_WR_INDEX (ch - 1024) else 0

end Sys2Proof.Machine
end

