-- ==== Sys2Proof/Machine/HostPort.lean ====
section
/-!
DEFINITION. The host endpoint (chapter 14): MSI-X (R439 to R444), Quench and its release (R432 to R438), resets (R425 to
R428), BAR2 apertures (R410 to R415), BAR4 (R568), errors (R422 to R424), power states (R429 to R431).
-/

namespace Sys2Proof.Machine

def State.setHep (s : State) (x : HepS) : State := { s with hep := x }

/-- An Unsupported Request: a read is completed with UR status, a write discarded; both are reported (R407, R409, R423). -/
def State.unsupported (s : State) (isRead : Bool) : State :=
  (if isRead then s.emit (.completion 1 [] false) else s).hostErr .unsupportedRequest true []

/-- A BAR0 request that R407 accepts. -/
def bar0Good (addr size : Nat) (whole : Bool) : Bool :=
  whole && decide ((size = 4 ∨ size = 8 ∨ size = 16 ∨ size = 32 ∨ size = 64) ∧ addr % size = 0)

/-- A BAR0 request that R407 does not accept: an Unsupported Request that sets BAR0_BAD; in D3hot every BAR0 request is an Unsupported
Request (R429). -/
def State.bar0Bad (s : State) (isRead : Bool) : State :=
  if s.hep.d3hot then s.unsupported isRead else (s.unsupported isRead).flag F.HEP_STATUS_BAR0_BAD

/-! ### MSI-X -/

/-- Word w of entry v of the MSI-X table; the Mask bit is set after reset (R439). -/
def State.msixWord (s : State) (v w : Nat) : Nat := s.hep.table.getD (4 * v + w) (if w = 3 then 1 else 0)

/-- Set a word of the MSI-X table. -/
def State.setMsixWord (s : State) (v w x : Nat) : State :=
  s.setHep { s.hep with table := s.hep.table.put (4 * v + w) (x % 2 ^ 32) (if w = 3 then 1 else 0) }

/-- A vector may not send now (R441). -/
def State.vectorBlocked (s : State) (v : Nat) : Bool :=
  let c := s.hep.cfg
  c.funcMask || decide (bit (s.msixWord v 3) 0 = 1) || !c.msixEn || s.hostBlocked
    || (match s.hep.lastMsg.find v with
      | some t => !s.due t (1000 * s.rd F.HEP_MSIX_SRC_MODERATE_US v)
      | none => false)

/-- Send the message of a vector and clear its pending bit (R442, R443). -/
def State.sendMsix (s : State) (v : Nat) : State :=
  let a := s.msixWord v 0 + 2 ^ 32 * s.msixWord v 1
  let s := s.setHep { s.hep with pba := s.hep.pba.del v, lastMsg := s.hep.lastMsg.ins v s.clk }
  s.emit (.msix v a (s.msixWord v 2))

/-- A trigger of a vector (R441). -/
def State.triggerVector (s : State) (v : Nat) : State :=
  if s.vectorBlocked v then s.setHep { s.hep with pba := s.hep.pba.put v 1 0 } else s.sendMsix v

/-- A pending vector sends when nothing blocks it (R442). -/
def State.sendIfFree (s : State) (v : Nat) : State :=
  if (s.hep.pba.find v).isSome && !s.vectorBlocked v then s.sendMsix v else s

/-- Pending vectors send in ascending order (R442). -/
def State.sendPending (s : State) : State := (s.hep.pba.map Prod.fst).foldl State.sendIfFree s

/-- Channel ch may drive resource (cls, idx): its owner is the channel's own source number or the channel's owner
(R440, R460). -/
def State.drives (s : State) (ch cls idx : Nat) : Bool :=
  let o := s.owner cls idx
  decide (o ≠ 0) && (decide (o = srcNo 0x0F ch) || decide (o = s.owner 4 ch))

/-- Enabled vectors. -/
def State.vectorsOn (s : State) : List Nat := s.instances F.HEP_MSIX_SRC_ENABLE 2048 1

/-- A Striker channel triggers its vectors, where it may drive them (R440). -/
def State.triggerVectors (s : State) (ch : Nat) : State :=
  s.vectorsOn.foldl (fun s v =>
    if s.rd F.HEP_MSIX_SRC_CHANNEL v = ch then
      if s.drives ch 8 v then s.triggerVector v else s.flag F.HEP_STATUS_RESOURCE_HELD
    else s) s

/-- After an ownership change: an enabled vector whose rule is broken (R440). -/
def State.vectorsRecheck (s : State) : State :=
  if s.vectorsOn.all fun v => s.drives (s.rd F.HEP_MSIX_SRC_CHANNEL v) 8 v then s else s.flag F.HEP_STATUS_RESOURCE_HELD

/-- A write of HEP_MSIX_SRC (R440); a shorter MODERATE_US can free a pending vector (R442). -/
def State.msixSrcWrite (s : State) (v x : Nat) : State :=
  let ch := bits x 8 0
  if bit x 31 = 1 ∧ !s.drives ch 8 v then s.flag F.HEP_STATUS_RESOURCE_HELD
  else (((s.wr F.HEP_MSIX_SRC_ENABLE (bit x 31) v).wr F.HEP_MSIX_SRC_MODERATE_US (bits x 25 16) v).wr
    F.HEP_MSIX_SRC_CHANNEL ch v).sendIfFree v

/-- MSIX_SRC_WRITE v (R440). -/
def execMsixSrcWrite (d v x : Nat) (s : State) : Host.Outcome State Fault Refusal :=
  cmd (decide (v < 2048)) d s fun s => s.hostWrite (F.HEP_MSIX_SRC_ENABLE.at_ v) fun s => s.msixSrcWrite v x

/-- VECTOR_UNMASK: one vector, or the function, is unmasked, and what is pending sends (R442, R444). -/
def execVectorUnmask (d : Nat) (v : Option Nat) (s : State) : Host.Outcome State Fault Refusal :=
  cmd (v.all fun v => decide (v < 2048)) d s fun s => s.powered fun s =>
    match v with
    | some v => let w := s.msixWord v 3
      (s.setMsixWord v 3 (w - bit w 0)).sendIfFree v
    | none => (s.setHep { s.hep with cfg := { s.hep.cfg with funcMask := false } }).sendPending

/-- MODERATION_EXPIRY v: the interval ends and a pending message is sent (R442). -/
def execModerationExpiry (d v : Nat) (s : State) : Host.Outcome State Fault Refusal :=
  cmd (decide (v < 2048)) d s fun s => s.powered fun s => s.sendIfFree v

/-! ### Quench -/

/-- A cause of Quench clears (R432). -/
def State.clearCause (s : State) (b : Nat) : State :=
  let c := s.rd F.HEP_QUENCH_CAUSE
  if bit c b = 1 then s.wr F.HEP_QUENCH_CAUSE (c - 2 ^ b) else s

/-- The unit of function 0x07. -/
def hepSrc : Nat := srcNo 0x0E 0

/-- The port is released (R437): it is not quenched, which is the safe point of function 0x07 (R44). [DESIGN CHOICE, log 55] -/
def State.release (s : State) : State :=
  let s := ((s.closeReqs 7 hepSrc).dropHeld 7 hepSrc).wr F.HEP_QUENCH_RELEASE_PENDING 0
  let s := s.setHep { s.hep with releaseAt := none, asked := false }
  let s := ((s.wr F.HEP_QUENCH_QUENCHED 0).flag F.HEP_STATUS_QUENCH_RELEASED).safePoint 7 0 id
  let s := s.raise (ev 0x01 9)
  (s.tongsResumeAll).sendPending.sendRequests

/-- The PROPOSAL of function 0x07 (R436). -/
def State.quenchProposal (s : State) : Bytes :=
  le 1 (s.rd F.HEP_QUENCH_SEEN) ++ zeros 3 ++ le 4 ((s.clk - s.hep.qClk) / 1000000) ++ le 8 (s.rd F.HEP_QUENCH_DT_ENTRY_DT)
    ++ le 2 s.hep.pba.length ++ le 2 ((s.tongs.filter fun e => decide (s.tongsState e.1 = 8)).length)
    ++ le 4 s.hep.qBar2 ++ le 4 s.hep.qOverruns ++ le 4 s.hep.qLaps

/-- Post a request of function 0x07 (R435). -/
def State.quenchAsk (s : State) (repost : Bool) : State :=
  let s := s.setHep { s.hep with asked := true }
  (s.post 7 hepSrc 1 s.quenchProposal repost).2

/-- No cause holds and the link is up: the port is released, or the request goes out (R435). -/
def State.quenchRelease (s : State) : State :=
  if s.on F.HEP_QUENCH_QUENCHED && decide (s.rd F.HEP_QUENCH_CAUSE = 0) && s.on F.HEP_LINK_DL_ACTIVE && !s.hep.l1
      && s.hep.releaseAt.isNone then
    if s.hwMode 7 0 then s.release
    else if s.hep.asked then s else s.quenchAsk false
  else s

/-- QUENCH_RELEASE (R435, R437). -/
def execQuenchRelease (d : Nat) (s : State) : Host.Outcome State Fault Refusal :=
  cmd true d s fun s => s.powered State.quenchRelease

/-- A request of function 0x07 resolves (R435). [DESIGN CHOICE, log 55] -/
def State.quenchResolve (s : State) (verdict arg : Nat) : State :=
  if verdict = 1 then s.release
  else if verdict = 3 then
    (s.setHep { s.hep with releaseAt := some (s.clk + 1000000 * arg) }).wr F.HEP_QUENCH_RELEASE_PENDING 1
  else s

/-- The range of ARGUMENT of function 0x07 (R435). -/
def quenchArgOk (arg : Nat) : Bool := decide (arg ≤ 60000)

/-- QUENCH_RELEASE_DELAY_EXPIRY (R435). -/
def execQuenchReleaseDelayExpiry (d : Nat) (s : State) : Host.Outcome State Fault Refusal :=
  cmd true d s fun s => s.powered fun s =>
    match s.hep.releaseAt with
    | some t => if t ≤ s.clk then s.release else s
    | none => s

/-- The effects of an accepted HEP_QUENCH_CTL write: causes, then ASK (R432, R435). -/
def State.quenchAskNow (s : State) : State :=
  if s.on F.HEP_QUENCH_QUENCHED && decide (s.rd F.HEP_QUENCH_CAUSE = 0) && !s.reqOpen 7 hepSrc && !s.hwMode 7 0 then
    s.quenchAsk false else s

/-- A write of HEP_QUENCH_CTL (R432, R435): ignored without its KEY, or with ENTER beside a CLEAR bit. -/
def State.quenchCtl (s : State) (v : Nat) : State :=
  if bits v 15 8 ≠ 0x5E ∨ (bit v 0 = 1 ∧ (bit v 1 = 1 ∨ bit v 2 = 1)) then s
  else
    let s := if bit v 0 = 1 then s.quenchCause 2 else s
    let s := if bit v 1 = 1 then s.clearCause 1 else s
    let s := if bit v 2 = 1 then s.clearCause 2 else s
    if bit v 3 = 1 then s.quenchAskNow else s

/-- QUENCH_ENTER: ENTER sets the HOST cause (R432). -/
def execQuenchEnter (d : Nat) (s : State) : Host.Outcome State Fault Refusal :=
  cmd true d s fun s => s.hostWrite F.HEP_QUENCH_CTL_KEY.addr fun s => s.quenchCause 2

/-- QUENCH_CLEAR_HOST (R432). -/
def execQuenchClearHost (d : Nat) (s : State) : Host.Outcome State Fault Refusal :=
  cmd true d s fun s => s.hostWrite F.HEP_QUENCH_CTL_KEY.addr fun s => s.clearCause 2

/-- QUENCH_CLEAR_CTO (R432). -/
def execQuenchClearCto (d : Nat) (s : State) : Host.Outcome State Fault Refusal :=
  cmd true d s fun s => s.hostWrite F.HEP_QUENCH_CTL_KEY.addr fun s => s.clearCause 1

/-- QUENCH_ASK (R435). -/
def execQuenchAsk (d : Nat) (s : State) : Host.Outcome State Fault Refusal :=
  cmd true d s fun s => s.hostWrite F.HEP_QUENCH_CTL_KEY.addr State.quenchAskNow

/-- AER_STATUS_CLEAR: host software clears bits of the uncorrectable and correctable status registers; with no fatal-severity
bit left, the FATAL cause clears (R422, R432). -/
def execAerStatusClear (d unc cor : Nat) (s : State) : Host.Outcome State Fault Refusal :=
  cmd true d s fun s => s.powered fun s =>
    let a := s.hep.aer
    let a := { a with unc := a.unc - (a.unc &&& unc), cor := a.cor - (a.cor &&& cor),
                      headers := a.headers.filter fun h => decide (bit unc h.1 = 0) }
    let s := s.setHep { s.hep with aer := a }
    if a.unc &&& a.uncSev = 0 then s.clearCause 0 else s

/-! ### Resets -/

/-- Semaphores freed by a reset: all of them, or those whose OWNER has bit 15 clear (R561). -/
def State.freeSems (s : State) (all : Bool) : State :=
  (List.range 8).foldl (fun s i =>
    if all || decide (bit (s.rd F.GLB_SEM_OWNER i) 15 = 0) then s.wr F.GLB_SEM_OWNER 0 i else s) s

/-- L_TAG as HEP_TAGS reports it (R405). -/
def State.limitMoved (s : State) : State := s.wr F.HEP_TAGS_LIMIT s.lTag

/-- A host-port reset (R400, R425, R438): configuration space and MSI-X table, every Tongs channel, Quench, semaphores. `last`
is its code in HEP_RESET and `cnt` its counter; with `down` the link leaves DL_Active. -/
def State.hostReset (s : State) (cnt : Fld) (last : Nat) (down : Bool) : State :=
  let s := s.tongsReset
  let s := ((s.closeReqs 7 hepSrc).dropHeld 7 hepSrc).wr F.HEP_QUENCH_RELEASE_PENDING 0
  let s := (((s.wr F.HEP_QUENCH_QUENCHED 0).wr F.HEP_QUENCH_CAUSE 0).wr F.HEP_QUENCH_SEEN 0).safePoint 7 0 id
  let s := s.setHep { s.hep with cfg := {}, table := [], pba := [], lastMsg := [], d3hot := false, releaseAt := none,
                                 asked := false, resetting := true, l1 := false }
  let s := if down then ((((((s.wr F.HEP_LINK_L0P 0).wr F.HEP_LINK_DL_ACTIVE 0).wr F.HEP_LINK_FLIT 0).wr F.HEP_LINK_SPEED 0).wr
    F.HEP_LINK_WIDTH 0).wr F.HEP_LINK_ACTIVE_WIDTH 0) else s
  let s := (s.inc cnt).wr F.HEP_RESET_LAST last
  (s.freeSems false).limitMoved

/-- A host-port reset ends (R428). -/
def State.hostResetEnd (s : State) : State :=
  if s.hep.resetting then
    let s := s.setHep { s.hep with resetting := false, flr := false }
    ((s.flag F.HEP_STATUS_HOST_RESET).raise (ev 0x01 10)).alert 3
  else s

/-- HOT_RESET: an in-band hot reset (R425). -/
def execHotReset (d : Nat) (s : State) : Host.Outcome State Fault Refusal :=
  cmd true d s fun s => s.powered fun s => s.hostReset F.HEP_RESET_HOT_RESETS 2 true

/-- LINK_DOWN: DL_Down while the link was up acts as an in-band hot reset (R426). -/
def execLinkDown (d : Nat) (s : State) : Host.Outcome State Fault Refusal :=
  cmd true d s fun s => s.powered fun s =>
    if s.on F.HEP_LINK_DL_ACTIVE then s.hostReset F.HEP_RESET_HOT_RESETS 3 true else s

/-- FUNCTION_LEVEL_RESET: the link stays up (R425). -/
def execFunctionLevelReset (d : Nat) (s : State) : Host.Outcome State Fault Refusal :=
  cmd true d s fun s => s.powered fun s =>
    let s := s.hostReset F.HEP_RESET_FLRS 4 false
    s.setHep { s.hep with flr := true }

/-- FUNCTION_LEVEL_RESET_COMPLETE (R427, R428). [DESIGN CHOICE, log 55] -/
def execFunctionLevelResetComplete (d : Nat) (s : State) : Host.Outcome State Fault Refusal :=
  cmd true d s fun s => s.powered fun s => if s.hep.flr then s.hostResetEnd else s

/-- HOST_LINK_UP: the data link becomes DL_Active at a speed, a width and a mode, none of them above MAX_SPEED and MAX_WIDTH, in flit mode
always at 64.0 GT/s; a reset that ran ends (R70, R402, R428, R445). A speed or a width that no link has is no such event.
[DESIGN CHOICE, log 5; DESIGN CHOICE, log 55] -/
def execHostLinkUp (d speed width : Nat) (flit : Bool) (s : State) : Host.Outcome State Fault Refusal :=
  cmd true d s fun s => s.powered fun s =>
    if s.power.perst ∨ !within 1 speed 6 ∨ width ∉ [1, 4, 8, 16] then s
    else
      let v := min speed (s.rd F.HEP_LINK_CFG_MAX_SPEED)
      let w := min width (s.rd F.HEP_LINK_CFG_MAX_WIDTH)
      let s := ((s.wr F.HEP_LINK_DL_ACTIVE 1).wr F.HEP_LINK_SPEED v).wr F.HEP_LINK_WIDTH w
      let s := ((s.wr F.HEP_LINK_ACTIVE_WIDTH w).wr F.HEP_LINK_FLIT (b2n (flit || decide (v = 6)))).wr F.HEP_LINK_L0P 0
      s.hostResetEnd

/-! ### Configuration space -/

/-- The fields as the configuration space stores them: codes of their width, and bases that are multiples of their BAR's size (R402, R406). -/
def cutCfg (c : CfgSpace) : CfgSpace :=
  { c with mrrs := c.mrrs % 8, mps := c.mps % 8, ctoVal := c.ctoVal % 16, bar0 := c.bar0 % 2 ^ 64 / 2 ^ 26 * 2 ^ 26,
           bar2 := c.bar2 % 2 ^ 64 / 2 ^ 37 * 2 ^ 37, bar4 := c.bar4 % 2 ^ 64 / 2 ^ 16 * 2 ^ 16 }

/-- The base of BAR k, k even, with its type bits: 64-bit memory, prefetchable for BAR2 (R406). [PRESUMED, log 9] -/
def State.barBase (s : State) (k : Nat) : Nat :=
  let c := s.hep.cfg
  if k = 0 then c.bar0 + 4 else if k = 2 then c.bar2 + 12 else c.bar4 + 4

/-- The bytes that a configuration read of a field returns (R404, R406, R422, R439). -/
def State.configRead (s : State) (f : CfgField) : Bytes :=
  let h := s.hep.header
  match f with
  | .vendorId | .subsystemVendorId => le 2 (s.rd F.ID_DEVICE_VENDOR_ID)
  | .deviceId => le 2 h.deviceId
  | .revisionId => le 1 (s.rd F.ID_DEVICE_REVISION)
  | .classCode => le 3 h.classCode
  | .headerType => le 1 h.headerType
  | .subsystemId => le 2 h.subsystemId
  | .interruptPin => le 1 h.interruptPin
  | .bar k => if 5 < k then le 4 0 else le 4 (s.barBase (k / 2 * 2) / 2 ^ (32 * (k % 2)))
  | .serialNumber => le 8 (s.rd F.ID_SERIAL_SERIAL)
  | .msixTableSize => le 2 h.msixTableSize
  | .msixTableBir | .msixPbaBir => le 1 h.msixBir
  | .msixTableOffset => le 4 h.msixTableOffset
  | .msixPbaOffset => le 4 h.msixPbaOffset
  | .noSoftReset => le 1 h.noSoftReset
  | .pmeSupport => le 1 h.pmeSupport
  | .aerUncStatus => le 4 s.hep.aer.unc
  | .aerUncMask => le 4 s.hep.aer.uncMask
  | .aerUncSeverity => le 4 s.hep.aer.uncSev
  | .aerCorStatus => le 4 s.hep.aer.cor
  | .aerCorMask => le 4 s.hep.aer.corMask

/-- A write of the configuration-space fields that the spec uses, with the AER masks and the severity register (R400, R405, R417, R422). -/
def State.configWrite (s : State) (cfg : CfgSpace) (uncMask corMask uncSev : Nat) : State :=
  let a := { s.hep.aer with uncMask := uncMask % 2 ^ 32, corMask := corMask % 2 ^ 32, uncSev := uncSev % 2 ^ 32 }
  let s := (s.setHep { s.hep with cfg := cutCfg cfg, aer := a }).limitMoved
  (s.tongsResumeAll).sendPending.sendRequests

/-- CONFIGURATION_WRITE: a configuration request; during a function-level reset it completes with Request Retry Status (R427), at any other
time it is served, under Quench and in D3hot too (R404, R433). [DESIGN CHOICE, log 99] -/
def execConfigurationWrite (d : Nat) (x : CfgReq) (s : State) : Host.Outcome State Fault Refusal :=
  cmd true d s fun s => s.powered fun s =>
    if s.hep.flr then s.emit (.completion 3 [] false)
    else match x with
      | .write cfg uncMask corMask uncSev => s.configWrite cfg uncMask corMask uncSev
      | .read f => s.emit (.completion 0 (s.configRead f) false)

/-! ### Power states -/

/-- D3HOT_ENTRY (R429). -/
def execD3hotEntry (d : Nat) (s : State) : Host.Outcome State Fault Refusal :=
  cmd true d s fun s => s.powered fun s => s.setHep { s.hep with d3hot := true }

/-- D0_RETURN: channels go on and pending vectors send (R429). -/
def execD0Return (d : Nat) (s : State) : Host.Outcome State Fault Refusal :=
  cmd true d s fun s => s.powered fun s =>
    ((s.setHep { s.hep with d3hot := false }).tongsResumeAll).sendPending.sendRequests

/-- WAKE_NS[4] covers an exit latency, and the link state is enabled (R430). -/
def State.l0pOk (s : State) : Bool := s.hep.cfg.l0pEn && decide (1000 ≤ s.rd F.BLW_WAKE_WAKE_NS 4)
def State.l1Ok (s : State) : Bool := s.hep.cfg.l1En && decide (8000 ≤ s.rd F.BLW_WAKE_WAKE_NS 4)

/-- L0P_ENTRY: the link narrows to a width in use (R430). [DESIGN CHOICE, log 4] -/
def execL0pEntry (d width : Nat) (s : State) : Host.Outcome State Fault Refusal :=
  cmd true d s fun s => s.powered fun s =>
    if decide (width ∈ [1, 4, 8]) && s.l0pOk && s.on F.HEP_LINK_DL_ACTIVE && s.on F.HEP_LINK_FLIT && !s.hep.l1 && decide (width < s.rd F.HEP_LINK_WIDTH) then
      (s.wr F.HEP_LINK_L0P 1).wr F.HEP_LINK_ACTIVE_WIDTH width
    else s

/-- Nothing is pending on the link, and every Tongs channel is DISABLED, PARKED, QUENCHED or HALTED (R430). -/
def State.linkIdle (s : State) : Bool :=
  s.hep.tags.all (fun e => e.2.quarantined) && s.tongs.all fun e =>
    let t := s.tongsState e.1
    decide (t = 0 ∨ t = 5 ∨ t = 7 ∨ t = 8)

/-- L1_ENTRY (R430). -/
def execL1Entry (d : Nat) (s : State) : Host.Outcome State Fault Refusal :=
  cmd true d s fun s => s.powered fun s =>
    if s.l1Ok && s.on F.HEP_LINK_DL_ACTIVE && s.linkIdle then
      ((s.setHep { s.hep with l1 := true }).wr F.HEP_LINK_L0P 0).wr F.HEP_LINK_ACTIVE_WIDTH (s.rd F.HEP_LINK_WIDTH)
    else s

/-- Send an LTR message when reporting is enabled (R431). -/
def State.sendLtr (s : State) : State := if s.hep.cfg.ltrEn then s.emit (.ltr (s.rd F.HEP_LPM_LTR_US)) else s

/-- LINK_PM_EXIT: traffic arrives; the link returns to full width, and from L1 to L0 with an LTR message (R430, R431). -/
def execLinkPmExit (d : Nat) (s : State) : Host.Outcome State Fault Refusal :=
  cmd true d s fun s => s.powered fun s =>
    if s.hep.l1 then (s.setHep { s.hep with l1 := false }).sendLtr
    else if s.on F.HEP_LINK_L0P then
      (s.wr F.HEP_LINK_L0P 0).wr F.HEP_LINK_ACTIVE_WIDTH (s.rd F.HEP_LINK_WIDTH)
    else s

/-- A write of HEP_LPM: LTR_US 0 is ignored; the message goes at each write (R431). -/
def State.ltrWrite (s : State) (us : Nat) : State := if us = 0 then s else (s.wr F.HEP_LPM_LTR_US us).sendLtr

/-- LTR_US_WRITE (R431). -/
def execLtrUsWrite (d us : Nat) (s : State) : Host.Outcome State Fault Refusal :=
  cmd true d s fun s => s.hostWrite F.HEP_LPM_LTR_US.addr fun s => s.ltrWrite (us % 65536)

/-! ### Errors and bad requests -/

/-- The error of a number: the order of R423's classes as HostErr lists them. -/
def hostErrOf (k : Nat) : Option HostErr :=
  [HostErr.receiver, .badTlp, .badDllp, .replayTimer, .replayRollover, .headerLogOverflow, .correctedInternal, .dlProtocol,
    .fcProtocol, .receiverOverflow, .malformedTlp, .poisonedTlp, .completionTimeout, .unexpectedCompletion, .unsupportedRequest,
    .completerAbort, .uncorrectableInternal][k]?

/-- Errors that the Base Specification lets an endpoint report as advisory (R423). -/
def HostErr.advisory : HostErr → Bool
  | .poisonedTlp | .completionTimeout | .unexpectedCompletion | .unsupportedRequest | .completerAbort => true
  | _ => false

/-- HOST_PORT_ERROR: the endpoint detects an error of R423, with the header of the TLP concerned. [DESIGN CHOICE, log 45] -/
def execHostPortError (d kind : Nat) (hdr : Bytes) (s : State) : Host.Outcome State Fault Refusal :=
  cmd (decide (kind < 17)) d s fun s => s.powered fun s =>
    match hostErrOf kind with
    | some e => s.hostErr e e.advisory (hdr.take 32)
    | none => s


/-- BAR0_BAD_REQUEST: a BAR0 request of bad size, alignment or byte enables (R407). A request that R407 accepts is none. -/
def execBar0BadRequest (d : Nat) (isRead : Bool) (addr size : Nat) (whole : Bool) (s : State) :
    Host.Outcome State Fault Refusal :=
  cmd true d s fun s => s.powered fun s => if bar0Good addr size whole then s else s.bar0Bad isRead

/-- UNSUPPORTED_REQUEST_RECEIVE: a translated, atomic or I/O request; a posted one is discarded (R409). -/
def execUnsupportedRequestReceive (d : Nat) (posted : Bool) (s : State) : Host.Outcome State Fault Refusal :=
  cmd true d s fun s => s.powered fun s => s.unsupported (!posted)

/-! ### BAR2 -/

/-- The request is matched against its aperture's active set (R410): the HBM address it is served at. -/
def State.aperture (s : State) (isRead : Bool) (off len : Nat) : Option Nat :=
  let a := off / 2 ^ 33
  let o := off % 2 ^ 33
  if s.on F.HEP_APER_ACT_ENABLE a && decide (o + len ≤ s.rd F.HEP_APER_ACT_SIZE_MIB a * 2 ^ 20)
      && (if isRead then s.on F.HEP_APER_ACT_RD_EN a else s.on F.HEP_APER_ACT_WR_EN a) then
    some (s.rd F.HEP_APER_ACT_BASE_MIB a * 2 ^ 20 + o)
  else none

/-- A BAR2 request that Quench refuses (R433, R434). -/
def State.bar2Quenched (s : State) (isRead : Bool) : State :=
  let s := s.inc F.HEP_QCNT_QDROP_BAR2
  let s := s.setHep { s.hep with qBar2 := s.hep.qBar2 + 1 }
  if isRead then (s.emit (.completion 2 [] false)).hostErr .completerAbort true [] else s

/-- A request that an aperture serves runs under the set in force at its arrival until it completes (R413, R414). -/
def State.bar2Arrive (s : State) (isRead : Bool) (off n ns : Nat) : State :=
  if s.hep.d3hot || s.on F.HEP_QUENCH_QUENCHED || (s.aperture isRead off n).isNone then s
  else
    let a := off / 2 ^ 33
    let still := s.hep.inflight.filter fun x => decide (s.clk < x.until_)
    s.setHep { s.hep with inflight := still ++ [⟨a, s.rd F.HEP_APER_STAT_COMMIT_GEN a, s.clk + ns⟩] }

/-- INFLIGHT_OLD of an aperture: the requests that still run under an earlier COMMIT_GEN (R413). -/
def State.inflightOld (s : State) (a : Nat) : Nat :=
  (s.hep.inflight.filter fun x => decide (x.aper = a ∧ s.clk < x.until_ ∧ x.gen ≠ s.rd F.HEP_APER_STAT_COMMIT_GEN a)).length

/-- The stack, channel, row and column of an HBM word (R508). The spec gives no map from an address to them: they are free values.
[DESIGN CHOICE, log 43] -/
def State.hbmPlace (s : State) : Bytes × State :=
  (List.range 4).foldl (fun (r : Bytes × State) _ => let x := r.2.fresh 16; (r.1 ++ le 8 x.1, x.2)) ([], s)

/-- BAR2_REQUEST: a read of `len` bytes, or a write of `data`, which may be poisoned (R410 to R415, R433). [DESIGN CHOICE, log 55] -/
def State.bar2 (s : State) (isRead : Bool) (off len : Nat) (data : Bytes) (poisoned : Bool) : State :=
  if s.hep.d3hot then s.unsupported isRead
  else if s.on F.HEP_QUENCH_QUENCHED then s.bar2Quenched isRead
  else match s.aperture isRead off (if isRead then len else data.length) with
    | none => (s.unsupported isRead).flag F.HEP_STATUS_APER_REFUSED
    | some a =>
      if isRead then
        let bad := s.hbmBad a len
        let s := s.emit (.completion 0 (s.hbmRead a len) bad)
        if bad then
          let p := s.hbmPlace
          p.2.err 0x1A hepSrc p.1
        else s
      else
        let s := s.hbmWrite a data
        if poisoned then (s.hbmMark a data.length).hostErr .poisonedTlp true [] else s

/-- BAR2_REQUEST (R410, R413): a request never crosses a 4 KiB boundary, so a TLP that would is malformed (R423). An accepted one runs on for
`ns`. [DESIGN CHOICE, log 55] -/
def execBar2Request (d : Nat) (isRead : Bool) (off len : Nat) (data : Bytes) (poisoned : Bool) (ns : Nat) (s : State) :
    Host.Outcome State Fault Refusal :=
  cmd true d s fun s => s.powered fun s =>
    let o := off % 2 ^ 37
    let n := if isRead then len else data.length
    if 4096 < o % 4096 + n then s.hostErr .malformedTlp false [] else (s.bar2Arrive isRead o n ns).bar2 isRead o len data poisoned

/-- A commit of an aperture's shadow set (R412). -/
def State.apertureCommit (s : State) (a : Nat) : State :=
  let en := s.on F.HEP_APER_SHD_ENABLE a
  let size := s.rd F.HEP_APER_SHD_SIZE_MIB a
  let base := s.rd F.HEP_APER_SHD_BASE_MIB a
  if s.owner 0x0B a ≠ hostOwner then (s.wr F.HEP_APER_STAT_RESULT 3 a).flag F.HEP_STATUS_RESOURCE_HELD
  else if en && decide (size = 0 ∨ 8192 < size ∨ 98304 < base + size) then s.wr F.HEP_APER_STAT_RESULT 2 a
  else
    let s := ((s.wr F.HEP_APER_ACT_ENABLE (b2n en) a).wr F.HEP_APER_ACT_WR_EN (s.rd F.HEP_APER_SHD_WR_EN a) a).wr
      F.HEP_APER_ACT_RD_EN (s.rd F.HEP_APER_SHD_RD_EN a) a
    let s := (s.wr F.HEP_APER_ACT_SIZE_MIB size a).wr F.HEP_APER_ACT_BASE_MIB base a
    (s.wr F.HEP_APER_STAT_COMMIT_GEN (s.rd F.HEP_APER_STAT_COMMIT_GEN a + 1) a).wr F.HEP_APER_STAT_RESULT 1 a

/-- APERTURE_COMMIT a (R412). -/
def execApertureCommit (d a : Nat) (s : State) : Host.Outcome State Fault Refusal :=
  cmd (decide (a < 16)) d s fun s => s.hostWrite (F.HEP_APER_CTL_COMMIT.at_ a) fun s => s.apertureCommit a

/-! ### BAR4 -/

/-- A 4-byte word of BAR4 (R568). -/
def State.bar4Word (s : State) (off : Nat) : Nat :=
  if off < 0x8000 then s.msixWord (off / 16) (off % 16 / 4)
  else if off < 0x8100 then
    ((List.range 32).map fun i => 2 ^ i * b2n ((s.hep.pba.find (8 * (off - 0x8000) + i)).isSome)).sum
  else 0

/-- A write of a 4-byte word of BAR4; clearing a Mask bit sends what is pending (R442, R444, R568). -/
def State.bar4Set (s : State) (off v : Nat) : State :=
  if off < 0x8000 then (s.setMsixWord (off / 16) (off % 16 / 4) v).sendIfFree (off / 16) else s

/-- BAR4_REQUEST: a request of R568, or an Unsupported Request. [DESIGN CHOICE, log 55] -/
def State.bar4 (s : State) (isRead : Bool) (off size v : Nat) (whole : Bool) : State :=
  if s.hep.d3hot then s.unsupported isRead
  else if !whole || !decide ((size = 4 ∨ size = 8) ∧ off % size = 0) then
    (s.unsupported isRead).flag F.HEP_STATUS_BAR4_BAD
  else if isRead then
    s.emit (.completion 0 ((upto 0 (size / 4)).flatMap fun i => le 4 (s.bar4Word (off + 4 * i))) false)
  else
    (List.range (size / 4)).foldl (fun s i => s.bar4Set (off + 4 * i) (v / 2 ^ (32 * i) % 2 ^ 32)) s

/-- BAR4_REQUEST (R568). -/
def execBar4Request (d : Nat) (isRead : Bool) (off size v : Nat) (whole : Bool) (s : State) :
    Host.Outcome State Fault Refusal :=
  cmd true d s fun s => s.powered fun s => s.bar4 isRead (off % 65536) size v whole

/-- HEP_CPL and HEP_QCNT read 0 (R418). -/
def State.hepClear (s : State) : State :=
  s.clrAll [F.HEP_CPL_CTO, F.HEP_CPL_LATE_CPL, F.HEP_CPL_QUAR_EXPIRED, F.HEP_CPL_UNEXPECTED, F.HEP_QCNT_ENTRIES,
    F.HEP_QCNT_QDROP_WRITES, F.HEP_QCNT_QDROP_BAR2]

/-- HEP_CLEAR_COUNTS: HEP_CTL.CLEAR_COUNTS clears HEP_CPL and HEP_QCNT (R418). -/
def execHepClearCounts (d : Nat) (s : State) : Host.Outcome State Fault Refusal :=
  cmd true d s fun s => s.hostWrite F.HEP_CTL_CLEAR_COUNTS.addr State.hepClear

end Sys2Proof.Machine
end

