-- ==== Sys2Proof/Machine/Striker.lean ====
section
/-!
DEFINITION. Striker (chapter 15): channels and their consumers, task inputs, counters and captures, GPIO, the loop guard and
the registers' own rules. Event latching, levels, cells and groups lie in Ops, since every producer uses them.
-/

namespace Sys2Proof.Machine

/-! ### Task inputs -/

/-- Task inputs that take a channel: (task, source), source 0 for CH_A and 1 for CH_B (R456). -/
def State.tasksOf (s : State) (ch : Nat) : List (Nat × Nat) :=
  ((s.instances F.STK_TASK_EN_A 768 1).filter fun k => decide (s.rd F.STK_TASK_CH_A k = ch)).map (fun k => (k, 0))
    ++ ((s.instances F.STK_TASK_EN_B 768 1).filter fun k => decide (s.rd F.STK_TASK_CH_B k = ch)).map (fun k => (k, 1))

/-- The generator that a task drives: its kind, its number, its resource class, and whether it arms (R457). -/
def taskGen (k : Nat) : Option (GenKind × Nat × Nat × Bool) :=
  if 192 ≤ k ∧ k < 448 then some (.ctrig, k - 192, 3, true)
  else if 448 ≤ k ∧ k < 704 then some (.ctrig, k - 448, 3, false)
  else if 704 ≤ k ∧ k < 736 then some (.ptrig, k - 704, 2, true)
  else if 736 ≤ k ∧ k < 768 then some (.ptrig, k - 736, 2, false)
  else none

/-- A source of a task passes the ownership test (R456, R460); source 2 is STK_TASK_SW. -/
def State.taskOwns (s : State) (k src ch : Nat) : Bool :=
  match taskGen k with
  | none => true
  | some (_, g, cls, _) => if src = 2 then decide (s.owner cls g = hostOwner) else s.drives ch cls g

/-- A counter reaches its COMPARE in a cycle (R459). -/
def State.cntMatch (s : State) (k cycle : Nat) : State :=
  let c := s.rd F.STK_CNT_COUNT k
  if c ≠ 0 ∧ c = s.rd F.STK_CNT_CMP_COMPARE k then
    let s := s.raiseAt (ev 0x1B k) (cycle + 1)
    if s.on F.STK_CNT_CMP_AUTO_CLEAR k then s.wr F.STK_CNT_COUNT 0 k else s
  else s

/-- An event that reaches a busy task is dropped (R458). -/
def State.taskOverrun (s : State) (k : Nat) : State := (s.flag F.STK_TASK_STAT_OVERRUN k).inc F.STK_TASK_STAT_OVERRUNS k

/-- Where a capture's event came from (R457). -/
def State.captureFrom (s : State) (j src : Nat) : State :=
  if src = 1 then s.wr F.STK_CAP_STAT_FROM_B 1 j else if src = 2 then s.wr F.STK_CAP_STAT_FROM_SW 1 j else s

/-- The action of a task input (R457, R458). -/
def State.taskAct (s : State) (k src cycle : Nat) : State :=
  if k < 64 then (s.wr F.STK_CNT_COUNT (s.rd F.STK_CNT_COUNT k + 1) k).cntMatch k cycle
  else if k < 128 then
    let j := k - 64
    if s.on F.STK_TASK_MODE k && s.on F.STK_CAP_STAT_FULL j then s.taskOverrun k
    else
      let s := ((s.wr F.STK_CAP_DT cycle j).flag F.STK_CAP_STAT_FULL j).wr F.STK_CAP_STAT_FROM_B 0 j
      (s.wr F.STK_CAP_STAT_FROM_SW 0 j).captureFrom j src
  else if k < 192 then
    let on := decide (k < 160)
    s.setStk { s.stk with switches := s.stk.switches ++ [(cycle, (k - 128) % 32, b2n on)] }
  else match taskGen k with
    | none => s
    | some (kind, g, _, true) => if s.armed kind g then s.taskOverrun k else s.armOrder kind g
    | some (kind, g, _, false) => s.disarmOrder kind g

/-- A source carries an event to task input k in a cycle (R456): the ownership test, the merge, the action. -/
def State.taskEvent (s : State) (k src ch cycle : Nat) : State :=
  if !s.taskOwns k src ch then (s.flag F.STK_TASK_STAT_RESOURCE_HELD k).flag F.STK_STATUS_RESOURCE_HELD
  else
    let t := s.stk.tasks.getD k {}
    let n := if t.n ≠ 0 ∧ t.cycle = cycle then t.n else 0
    let s := s.setStk { s.stk with tasks := s.stk.tasks.ins k ⟨cycle, n + 1⟩ }
    if n = 0 then s.taskAct k src cycle
    else if k < 64 ∧ s.on F.STK_TASK_MODE k then s.taskAct k src cycle
    else
      let s := if n = 1 then s.inc F.STK_TASK_STAT_COINCIDE k else s
      if 64 ≤ k ∧ k < 128 ∧ s.rd F.STK_CAP_DT (k - 64) = cycle then s.captureFrom (k - 64) src else s

/-! ### GPIO -/

/-- Balls that output a channel: DIR not input (R461). -/
def State.gpioOn (s : State) (ch : Nat) : List Nat :=
  (List.range 32).filter fun n => decide (s.rd F.STK_GPIO_DIR n ≠ 0 ∧ s.rd F.STK_GPIO_CHANNEL n = ch)

/-- The output of a ball is driven: an output whose channel may drive it (R460, R461). -/
def State.gpioDriving (s : State) (n : Nat) : Bool :=
  s.ready && decide (s.rd F.STK_GPIO_DIR n ≠ 0) && s.drives (s.rd F.STK_GPIO_CHANNEL n) 1 n

/-- The output value of a ball before POL and DIR (R461). -/
def State.gpioValue (s : State) (n : Nat) : Nat :=
  if s.on F.STK_GPIO_PULSE n then b2n (s.stk.pulseEnd.find n).isSome else s.chanValue (s.rd F.STK_GPIO_CHANNEL n) s.dt

/-- The ownership test of one ball's output (R460). -/
def State.gpioTest (s : State) (n : Nat) : State :=
  if s.rd F.STK_GPIO_DIR n ≠ 0 ∧ !s.drives (s.rd F.STK_GPIO_CHANNEL n) 1 n then
    (s.flag F.STK_GPIO_STAT_RESOURCE_HELD n).flag F.STK_STATUS_RESOURCE_HELD
  else s

/-- An event on the channel of a pulsing output: a pulse of WIDTH_NS (R461). -/
def State.gpioEvent (s : State) (n : Nat) : State :=
  if !s.on F.STK_GPIO_PULSE n then s
  else if !s.drives (s.rd F.STK_GPIO_CHANNEL n) 1 n then s.gpioTest n
  else if (s.stk.pulseEnd.find n).isSome then s.flag F.STK_GPIO_STAT_OVERRUN n
  else s.setStk { s.stk with pulseEnd := s.stk.pulseEnd.ins n (s.dt + s.rd F.STK_GPIO_WIDTH_NS n) }

/-- GPIO_PULSE_END n (R461). -/
def execGpioPulseEnd (d n : Nat) (s : State) : Host.Outcome State Fault Refusal :=
  cmd (decide (n < 32)) d s fun s => s.press fun s =>
    match s.stk.pulseEnd.find n with
    | some t => if t ≤ s.dt then s.setStk { s.stk with pulseEnd := s.stk.pulseEnd.del n } else s
    | none => s

/-- Ball n is sampled at a level in this cycle: a new level is accepted FILTER_NS + 1 cycles later if no sample shows the old one before,
and a return to the level accepted ends the test (R79, R461). -/
def State.gpioSample (s : State) (n level : Nat) : State :=
  let p := s.stk.pins.getD n {}
  if p.level = level then s
  else
    let accepted := (s.rd F.STK_GPIO_STAT_IN n + s.rd F.STK_GPIO_POL n) % 2
    let due := if accepted = level then none else some (s.dt + s.rd F.STK_GPIO_FILTER_NS n + 1)
    s.setStk { s.stk with pins := s.stk.pins.ins n ⟨level, due⟩ }

/-- GPIO_INPUT_EDGE n: the level of a ball changes at its sampler; it enters Striker as GPIO_IN when its filter accepts it (R447, R461).
[DESIGN CHOICE, log 91] -/
def execGpioInputEdge (d n level : Nat) (s : State) : Host.Outcome State Fault Refusal :=
  cmd (decide (n < 32)) d s fun s => s.press fun s => s.gpioSample n (level % 2)

/-! ### Channels -/

/-- Every consumer of a channel acts on its event (R446, R449). -/
def State.carry (s : State) (ch cycle : Nat) : State :=
  let w := s.rd F.STK_WATCH_FLAG (ch / 32)
  let s := s.wr F.STK_WATCH_FLAG (w ||| 2 ^ (ch % 32)) (ch / 32)
  let s := (s.inc F.STK_CH_STAT_EVENTS ch).wr F.STK_CH_LAST_DT cycle ch
  let s := (s.tasksOf ch).foldl (fun s t => s.taskEvent t.1 t.2 ch cycle) s
  let s := (s.gpioOn ch).foldl State.gpioEvent s
  s.triggerVectors ch

/-- The counts of the loop guard restart in the window that a cycle lies in (R452). -/
def State.loopWindow (s : State) (cycle : Nat) : State :=
  if s.stk.window < cycle / 10000 then s.setStk { s.stk with window := cycle / 10000, win := [] } else s

/-- The loop guard counts an event in the window of its cycle; answers whether it is carried (R452). -/
def State.guardLoop (s : State) (ch cycle : Nat) : Bool × State :=
  let s := s.loopWindow cycle
  let n := s.stk.win.getD ch 0 + 1
  let s := s.setStk { s.stk with win := s.stk.win.put ch n 0 }
  if 1000 < n then
    let s := (s.flag F.STK_CH_STAT_LOOP ch).refreshChan ch
    (false, s.err 0x02 (srcNo 0x0F ch) (le 8 ch))
  else (true, s)

/-- A channel presents what it latched for a cycle: a pulse is an event; a level is one when EDGE selects its change
(R449). [DESIGN CHOICE, log 56] -/
def State.presentAt (s : State) (ch cycle v : Nat) : State :=
  if !s.chanOn ch then s
  else
    let old := s.rd F.STK_CH_STAT_VALUE ch
    let edge := s.rd F.STK_CH_CFG_EDGE ch
    let isEvent := decide (v = 2) || (decide (v ≠ old) && decide (bit edge (if v = 1 then 0 else 1) = 1))
    let g := if isEvent then s.guardLoop ch cycle else (true, s)
    if !g.1 then g.2
    else
      let s := if v = 2 then g.2.setStk { g.2.stk with pulses := g.2.stk.pulses.put ch (cycle + 1) 0 }
        else g.2.wr F.STK_CH_STAT_VALUE v ch
      let s := s.readersDue ch cycle
      if isEvent then s.carry ch cycle else s

/-- CHANNEL_EVENT ch: the channel presents the oldest value latched for a cycle that has come (R446 to R449). -/
def State.channelEvent (s : State) (ch : Nat) : State :=
  match s.stk.latched.find? fun l => decide (l.1 = ch ∧ l.2.1 ≤ s.dt) with
  | none => s
  | some l =>
    (s.setStk { s.stk with latched := s.stk.latched.erase l }).presentAt ch l.2.1 l.2.2

/-- CHANNEL_EVENT ch (R449). [DESIGN CHOICE, log 56] -/
def execChannelEvent (d ch : Nat) (s : State) : Host.Outcome State Fault Refusal :=
  cmd (decide (ch < 512)) d s fun s => s.press fun s => s.channelEvent ch

/-- LOOP_WINDOW_END: a window of 10,000 cycles ends, and the counts restart (R452). [DESIGN CHOICE, log 56] -/
def execLoopWindowEnd (d : Nat) (s : State) : Host.Outcome State Fault Refusal :=
  cmd true d s fun s => s.press fun s => s.loopWindow s.dt

/-- A host clear of LOOP (R449, R452). -/
def State.loopClear (s : State) (ch : Nat) : State :=
  if s.on F.STK_CH_STAT_LOOP ch then
    let s := s.wr F.STK_CH_STAT_LOOP 0 ch
    let latched := s.stk.latched.filter fun l => !decide (l.1 = ch ∧ l.2.1 ≤ s.dt)
    (s.setStk { s.stk with win := s.stk.win.del ch, latched := latched }).refreshChan ch
  else s

/-- LOOP_CLEAR ch (R452). -/
def execLoopClear (d ch : Nat) (s : State) : Host.Outcome State Fault Refusal :=
  cmd (decide (ch < 512)) d s fun s => s.hostWrite (F.STK_CH_STAT_LOOP.at_ ch) fun s => s.loopClear ch

/-- The cycle in which the filter of a cell completes its count, when one runs (R453). -/
def State.filterDue (s : State) (k : Nat) : Option Nat :=
  let x := s.cell k
  let mode := s.rd F.STK_CELL_FILT_MODE k
  if mode = 1 then (if x.filt = x.lut then none else some (x.since + s.rd F.STK_CELL_F_FILT_N k - 1))
  else if mode = 2 then (if x.lut = 0 ∧ x.filt = 1 then some x.until_ else none)
  else if mode = 3 then x.hist.head?.map Prod.fst
  else none

/-- CELL_FILTER_EXPIRY k: the filter count of a cell completes, and the cell evaluates in that cycle (R453). -/
def execCellFilterExpiry (d k : Nat) (s : State) : Host.Outcome State Fault Refusal :=
  cmd (decide (k < 256)) d s fun s => s.press fun s =>
    match s.filterDue k with
    | some c => if c ≤ s.dt then s.cellDue c k else s
    | none => s

/-! ### Orders of software -/

/-- STK_SWEVT: one event on a PULSE channel in the next cycle (R450). -/
def State.softEvent (s : State) (ch : Nat) : State :=
  if evLevel (s.rd F.STK_CH_CFG_SOURCE ch) then s.flag F.STK_STATUS_BAD_WRITE else s.latch ch (s.dt + 1)

/-- SOFTWARE_EVENT ch (R450). -/
def execSoftwareEvent (d ch : Nat) (s : State) : Host.Outcome State Fault Refusal :=
  cmd (decide (ch < 512)) d s fun s => s.hostWrite F.STK_SWEVT_CHANNEL.addr fun s => s.softEvent ch

/-- A write of STK_TASK_SW (R456); a value above 767 is ignored. -/
def State.softTask (s : State) (k : Nat) : State :=
  if k < 768 then s.taskEvent k 2 0 s.dt else s.flag F.STK_STATUS_BAD_WRITE

/-- SOFTWARE_TASK k: STK_TASK_SW; other task numbers are ignored (R456). -/
def execSoftwareTask (d k : Nat) (s : State) : Host.Outcome State Fault Refusal :=
  cmd true d s fun s => s.hostWrite F.STK_TASK_SW_TASK.addr fun s => s.softTask (k % 1024)

/-- Clear every instance of a field of a one-index register. -/
def State.clrField (s : State) (f : Fld) (n : Nat) : State :=
  let base := 8 * f.addr + f.lo
  { s with regs := s.regs.filter fun e =>
      !(decide (base ≤ e.1) && decide ((e.1 - base) % (8 * f.s1) = 0) && decide ((e.1 - base) / (8 * f.s1) < n)) }

/-- The event counters of Striker read 0 (R448). -/
def State.stkClear (s : State) : State :=
  (((s.clrField F.STK_CH_STAT_EVENTS 512).clrField F.STK_CH_STAT_MERGED 512).clrField F.STK_TASK_STAT_OVERRUNS 768).clrField
    F.STK_TASK_STAT_COINCIDE 768

/-- STK_CLEAR_COUNTS: STK_CTL.CLEAR_COUNTS clears EVENTS, MERGED, OVERRUNS and COINCIDE (R448). -/
def execStkClearCounts (d : Nat) (s : State) : Host.Outcome State Fault Refusal :=
  cmd true d s fun s => s.hostWrite F.STK_CTL_CLEAR_COUNTS.addr State.stkClear

/-! ### Configuration -/

/-- Unregistered cells that a channel carries: (channel, cell) (R454). -/
def State.cellChans (s : State) : List (Nat × Nat) :=
  (List.range 512).filterMap fun ch =>
    let e := s.rd F.STK_CH_CFG_SOURCE ch
    if e / 4096 = 0x1A ∧ !s.on F.STK_CELL_REG (e % 4096) then some (ch, e % 4096) else none

/-- Peel off the cells that no cell of the list feeds, n times. -/
def peel (edges : List (Nat × Nat)) : Nat → List Nat → List Nat
  | 0, ks => ks
  | n + 1, ks =>
    let rest := ks.filter fun k => edges.any fun e => decide (e.2 = k) && ks.contains e.1
    if rest.length = ks.length then ks else peel edges n rest

/-- Some loop of cells and channels holds no cell with REG = 1 (R454). -/
def State.combLoop (s : State) : Bool :=
  let cc := s.cellChans
  let ks := (cc.map Prod.snd).eraseDups
  let edges := cc.flatMap fun e =>
    (ks.filter fun k => selFlds.any fun f => decide (s.rd f k = e.1)).map fun k => (e.2, k)
  !(peel edges 256 ks).isEmpty

/-- A write of STK_CH_CFG (R449, R454). [DESIGN CHOICE, log 57] -/
def State.chanCfgWrite (s : State) (ch v : Nat) : State :=
  let src := bits v 19 0
  let edge := bits v 51 50
  if edge = 0 ∨ evCount (src / 4096) ≤ src % 4096 then s.flag F.STK_STATUS_BAD_WRITE
  else
    let t := ((s.wr F.STK_CH_CFG_SOURCE src ch).wr F.STK_CH_CFG_EDGE edge ch).wr F.STK_CH_CFG_GROUP (bits v 44 40) ch
    let t := (t.wr F.STK_CH_CFG_KIND (b2n (evLevel src)) ch).wr F.STK_CH_CFG_ENABLE (bit v 63) ch
    if t.combLoop then s.flag F.STK_STATUS_CYCLE_REFUSED
    else
      let moved := decide (src ≠ s.rd F.STK_CH_CFG_SOURCE ch ∨ bit v 63 ≠ s.rd F.STK_CH_CFG_ENABLE ch
        ∨ bits v 44 40 ≠ s.rd F.STK_CH_CFG_GROUP ch)
      if moved then
        (t.setStk { t.stk with latched := t.stk.latched.filter fun l => decide (l.1 ≠ ch) }).refreshChan ch
      else t

/-- A SEL value that a cell may hold (STK_CELL). -/
def selOk (reg sel : Nat) : Bool := decide (sel < 512 ∨ sel = 0x3FF ∨ (sel = 0x3FE ∧ reg = 1))

/-- The flip-flop of a cell holds INIT, and the cell starts to evaluate (R453). -/
def State.cellInit (s : State) (k : Nat) : State :=
  let init := s.rd F.STK_CELL_INIT k
  let out := if s.on F.STK_CELL_REG k then init else 0
  let s := s.setCell k { ff := init, due := some s.dt }
  (s.wr F.STK_CELL_F_OUT out k).setLevelAt (ev 0x1A k) out (s.dt + 1)

/-- A write of STK_CELL (R453, R454). -/
def State.cellWrite (s : State) (k v : Nat) : State :=
  let sels := [bits v 17 8, bits v 27 18, bits v 37 28, bits v 47 38]
  if !(sels.all fun x => selOk (bit v 7) x) then s.flag F.STK_STATUS_BAD_WRITE
  else
    let t := ((s.wr F.STK_CELL_TRUTH (bits v 63 48) k).wr F.STK_CELL_SEL3 (bits v 47 38) k).wr F.STK_CELL_SEL2 (bits v 37 28) k
    let t := ((t.wr F.STK_CELL_SEL1 (bits v 27 18) k).wr F.STK_CELL_SEL0 (bits v 17 8) k).wr F.STK_CELL_REG (bit v 7) k
    let t := (t.wr F.STK_CELL_INIT (bit v 6) k).wr F.STK_CELL_FILT_MODE (bits v 5 4) k
    if t.combLoop then s.flag F.STK_STATUS_CYCLE_REFUSED else t.cellInit k

/-- CELL_CONFIG_WRITE: an 8-byte write of STK_CELL, or of STK_CH_CFG, is loop-tested and applied or refused (R454). -/
def execCellConfigWrite (d : Nat) (isCell : Bool) (i v : Nat) (s : State) : Host.Outcome State Fault Refusal :=
  cmd (decide (i < (if isCell then 256 else 512))) d s fun s =>
    if isCell then s.hostWrite (F.STK_CELL_TRUTH.at_ i) fun s => s.cellWrite i v
    else s.hostWrite (F.STK_CH_CFG_ENABLE.at_ i) fun s => s.chanCfgWrite i v

/-- A write of STK_GPIO (R460, R461). -/
def State.gpioWrite (s : State) (n v : Nat) : State :=
  if bits v 63 62 = 3 ∨ bits v 27 8 = 0 then s.flag F.STK_STATUS_BAD_WRITE
  else
    let pol := s.rd F.STK_GPIO_POL n
    let s := ((s.wr F.STK_GPIO_DIR (bits v 63 62) n).wr F.STK_GPIO_POL (bit v 61) n).wr F.STK_GPIO_PULSE (bit v 60) n
    let s := ((s.wr F.STK_GPIO_CHANNEL (bits v 48 40) n).wr F.STK_GPIO_WIDTH_NS (bits v 27 8) n).wr F.STK_GPIO_FILTER_NS
      (bits v 7 0) n
    let s := if pol = bit v 61 then s
      else
        let lv := 1 - s.rd F.STK_GPIO_STAT_IN n
        (s.wr F.STK_GPIO_STAT_IN lv n).setLevel (ev 0x19 n) lv
    s.gpioTest n

/-- A write of a counter: the count may reach COMPARE (R459). -/
def State.cntWrite (s : State) (k v : Nat) : State :=
  let old := s.rd F.STK_CNT_COUNT k
  let s := s.wr F.STK_CNT_COUNT v k
  if old = v then s else s.cntMatch k s.dt

/-- After an ownership change: every test of R460 is made again. -/
def State.ownersMoved (s : State) : State := ((List.range 32).foldl State.gpioTest s).vectorsRecheck

/-- At READY every flip-flop holds its INIT (R453). -/
def State.strikerReady (s : State) : State :=
  ((List.range 256).filter fun k => decide (s.rd F.STK_CELL_TRUTH k ≠ 0 ∨ s.rd F.STK_CELL_INIT k ≠ 0)).foldl State.cellInit s

/-- LOOP_ANY as it reads now. -/
def State.loopAny (s : State) : Bool := !(s.instances F.STK_CH_STAT_LOOP 512 1).isEmpty

end Sys2Proof.Machine
end

