-- ==== Sys2Proof/Machine/Decide.lean ====
section
/-!
DEFINITION. The decision arbiter: the reply mailbox (R40, R41), timeouts (R42), held requests (R39), function modes (R43, R65
to R67), and the semaphores (R559).
-/

namespace Sys2Proof.Machine

/-- The logical unit inside a source number (R32). [DESIGN CHOICE, log 39] -/
def unitNo (src : Nat) : Nat := src % 2 ^ 24

/-! ### How requests resolve -/

/-- The state an ARGUMENT of function 0x04 names is a STATE (R295). -/
def nozArgOk (arg : Nat) : Bool := decide (arg < 4)

/-- The delay an ARGUMENT of function 0x09 gives (R284). -/
def hotArgOk (arg : Nat) : Bool := decide (arg ≤ 60000)

/-- Whether the ARGUMENT of a reply lies in the range of its function (R41). -/
def State.argOk (s : State) (r : Request) (arg : Nat) : Bool :=
  match r.func with
  | 1 => s.laneArgOk (unitNo r.unit) arg
  | 2 => s.expArgOk (unitNo r.unit) arg
  | 3 => regArgOk arg
  | 4 => nozArgOk arg
  | 5 => thrArgOk arg
  | 6 => decide (arg ≤ 1000)
  | 7 => quenchArgOk arg
  | 8 => s.schedArgOk arg
  | _ => hotArgOk arg

/-- A request of function 0x09 resolves (R284): the group resumes, or resumes after a delay, or stays held. -/
def State.hotResolve (s : State) (g verdict arg : Nat) : State :=
  if s.rd F.HGRP_PASS_MODE g ≠ 3 then s
  else if verdict = 1 then s.grpResume g
  else if verdict = 3 then s.setGrp g { s.grp g with resumeAt := some (s.clk + 1000000 * arg) }
  else s

/-- A request of function 0x04 resolves (R295, R306): `cause` is 2 for a reply and 3 for a timeout. -/
def State.nozReply (s : State) (proposal : Bytes) (verdict arg cause : Nat) : State :=
  if verdict = 1 then s.nozResolve proposal none cause
  else if verdict = 3 then s.nozResolve proposal (some arg) cause
  else s.wr F.NCTX_REQ_OPEN 0 (leAt proposal 0 1) (leAt proposal 2 2)

/-- A closed request takes a verdict: 1 its PROPOSAL, 2 none, 3 the ARGUMENT (R41, R44). -/
def State.resolve (s : State) (r : Request) (verdict arg cause : Nat) : State :=
  match r.func with
  | 1 => s.laneResolve (unitNo r.unit) r.proposal verdict arg
  | 2 => s.expResolve (unitNo r.unit) r.proposal verdict arg
  | 3 => s.regResolve (unitNo r.unit) r.proposal verdict arg
  | 4 => s.nozReply r.proposal verdict arg cause
  | 5 => s.thrResolve (unitNo r.unit) r.proposal verdict arg
  | 6 => s.subResolve (leAt r.proposal 0 1 - 6) (unitNo r.unit) verdict arg
  | 7 => s.quenchResolve verdict arg
  | 8 => s.schedResolve verdict arg
  | _ => s.hotResolve (leAt r.proposal 0 1) verdict arg

/-- The open request of an identifier. -/
def State.request (s : State) (id : Nat) : Option Request := s.dcs.open_.find? fun r => decide (r.id = id)

/-! ### The reply mailbox -/

/-- Whether an identifier has been posted (R37, R41). -/
def State.idPosted (s : State) (id : Nat) : Bool := decide (id ≠ 0) && (s.dcs.wrapped || decide (id < s.dcs.nextId))

/-- What R41 finds of a reply: the code for LAST_RESULT. -/
def State.judge (s : State) (id verdict arg : Nat) : Nat :=
  if !s.idPosted id then 3
  else match s.request id with
    | none => 2
    | some r =>
      if verdict = 0 ∨ verdict ≥ 4 then 4
      else if verdict = 3 ∧ !s.argOk r arg then 5
      else 1

/-- A reply commits (R41). -/
def State.reply (s : State) (id verdict arg : Nat) : State :=
  let found := s.judge id verdict arg
  let s := s.wr F.DECIDE_STATUS_LAST_RESULT found
  if found = 1 then
    match s.request id with
    | some r => (s.closeId id).resolve r verdict arg 2
    | none => s
  else s

/-- A write to DECIDE_REPLY extends, restarts or breaks the sequence, and commits it at byte 15 (R40). -/
def State.replyWrite (s : State) (off : Nat) (bs : Bytes) : State :=
  let x := s.dcs
  let y : DecideS :=
    if off = 0 then { x with seqBytes := bs, broken := false }
    else if !x.broken ∧ x.seqBytes ≠ [] ∧ off = x.seqBytes.length then { x with seqBytes := x.seqBytes ++ bs }
    else { x with seqBytes := [], broken := true }
  if off + bs.length < 16 then { s with dcs := y }
  else
    let s := { s with dcs := { y with seqBytes := [], broken := false } }
    let b := y.seqBytes
    if b.length = 16 then s.reply (leAt b 0 4) (leAt b 4 1) (leAt b 8 8)
    else s.wr F.DECIDE_STATUS_LAST_RESULT 5

/-- DECIDE_REPLY_WRITE: a write of `size` bytes at an offset of the mailbox (R40). -/
def execDecideReplyWrite (d off size v : Nat) (s : State) : Host.Outcome State Fault Refusal :=
  cmd true d s fun s =>
    if size ∈ [4, 8, 16] ∧ off % size = 0 ∧ off + size ≤ 16 then
      s.hostWrite (0x100 + off) fun s => s.replyWrite off (le size v)
    else s.powered fun s => s.bar0Bad false

/-! ### Timeouts and held requests -/

/-- The timeout action of a request that has closed (R44). -/
def State.timedOut (s : State) (r : Request) : State :=
  match r.func with
  | 7 => s.quenchAsk true
  | 9 =>
    let g := leAt r.proposal 0 1
    if s.rd F.HGRP_PASS_MODE g = 3 then s.grpAsk g true else s
  | 1 | 4 | 6 | 8 => s.resolve r 1 0 3
  | _ => s.resolve r 2 0 3

/-- DECIDE_TIMEOUT id: an open request whose TIMEOUT_US have passed times out (R42). [DESIGN CHOICE, log 3] -/
def execDecideTimeout (d id : Nat) (s : State) : Host.Outcome State Fault Refusal :=
  cmd true d s fun s => s.powered fun s =>
    match s.request id with
    | none => s
    | some r => if s.due r.at_ (1000 * r.timeoutUs) then (s.closeId id).timedOut r else s

/-- HELD_REQUEST_POST: the oldest held request is posted once fewer than 4,096 are open (R39). [DESIGN CHOICE, log 58] -/
def execHeldRequestPost (d : Nat) (s : State) : Host.Outcome State Fault Refusal :=
  cmd true d s fun s => s.powered fun s =>
    match s.dcs.held with
    | [] => s
    | h :: rest =>
      if s.dcs.open_.length < 4096 then
        ({ s with dcs := { s.dcs with held := rest } }).postNow h.func h.unit h.reason h.proposal h.repost
      else s

/-! ### Function modes -/


/-- Hardware mode decides afresh what a closed request of a lane asked (R43, R121). [DESIGN CHOICE, log 38] -/
def State.laneAfresh (s : State) (l : Nat) : State :=
  match s.dcs.open_.find? fun r => decide (r.func = 1 ∧ r.unit = srcNo 5 l) with
  | none => s
  | some r =>
    let s := s.closeId r.id
    let a := leAt r.proposal 3 1
    if r.reason ≤ 2 then s.laneAction l a a false else s.laneSpare (s.sliceOf l) l r.reason

/-- A unit passes to hardware mode: its open requests close, and the hardware decides afresh (R43). [DESIGN CHOICE, log 38] -/
def State.toHardware (s : State) (f u : Nat) : State :=
  match f with
  | 1 => s.laneAfresh u
  | 2 => s.closeReqs 2 (srcNo 7 u)
  | 3 => (s.regReqs u).foldl (fun s r => s.closeId r.id) s
  | 4 => (s.openNozReqs u).foldl (fun s n => s.nozAfresh u n) s
  | 5 => s.closeReqs 5 (srcNo 7 u)
  | 6 => if u < 256 then s.subAfresh 1 u else s.subAfresh 2 (u - 256)
  | 7 => ((s.closeReqs 7 hepSrc).dropHeld 7 hepSrc).quenchRelease
  | 8 => s.schedAfresh
  | _ => s.closeGrp u

/-- A unit takes a mode. [DESIGN CHOICE, log 37] -/
def State.takeMode (s : State) (f u v : Nat) : State :=
  if s.modeOf f u = v then s
  else
    let s := s.flipMode f u
    if v = 0 then s.toHardware f u else s

/-- A write of REQUESTED: units not in service take it at once (R65, R67). -/
def State.modeWrite (s : State) (f v : Nat) : State :=
  let s := s.wr F.FUNC_MODE_REQUESTED v f
  let s := (List.range (fnUnits f)).foldl (fun s u => if s.inService f u then s else s.takeMode f u v) s
  s.settleMode f

/-- FUNC_MODE_WRITE f requested (R65). -/
def execFuncModeWrite (d f v : Nat) (s : State) : Host.Outcome State Fault Refusal :=
  cmd (decide (1 ≤ f ∧ f ≤ 9)) d s fun s => s.hostWrite (F.FUNC_MODE_REQUESTED.at_ f) fun s => s.modeWrite f (v % 2)

/-- Whether a unit is at a safe point that lasts: it has left service, or its lane is in RELOCK (R44, R65). The others are events of their
own commands: a frame or billet boundary, a latch load, an epoch. [DESIGN CHOICE, log 37] -/
def State.atSafePoint (s : State) (f u : Nat) : Bool :=
  !s.inService f u || decide (f = 1 ∧ s.laneState u = 6)

/-- FUNC_MODE_SAFE_POINT f unit: a unit that is at its safe point takes REQUESTED, and no unit does before (R43, R65, R67).
[DESIGN CHOICE, log 37] -/
def execFuncModeSafePoint (d f u : Nat) (s : State) : Host.Outcome State Fault Refusal :=
  cmd (decide (1 ≤ f ∧ f ≤ 9 ∧ u < fnUnits f)) d s fun s => s.powered fun s =>
    if !s.on F.FUNC_MODE_PENDING f then s
    else if s.atSafePoint f u then (s.takeMode f u (s.rd F.FUNC_MODE_REQUESTED f)).settleMode f
    else s

/-! ### Semaphores -/

/-- A write of GLB_SEM[i] (R559). -/
def State.semWrite (s : State) (i : Nat) (release : Bool) (token : Nat) : State :=
  let owner := s.rd F.GLB_SEM_OWNER i
  if release then (if token = owner then s.wr F.GLB_SEM_OWNER 0 i else s)
  else if token ≠ 0 ∧ owner = 0 then s.wr F.GLB_SEM_OWNER token i
  else s

/-- SEMAPHORE_CLAIM i token (R559). -/
def execSemaphoreClaim (d i token : Nat) (s : State) : Host.Outcome State Fault Refusal :=
  cmd (decide (i < 8)) d s fun s =>
    s.hostWrite (F.GLB_SEM_TOKEN.at_ i) fun s => s.semWrite i false (token % 65536)

/-- SEMAPHORE_RELEASE i token (R559). -/
def execSemaphoreRelease (d i token : Nat) (s : State) : Host.Outcome State Fault Refusal :=
  cmd (decide (i < 8)) d s fun s =>
    s.hostWrite (F.GLB_SEM_TOKEN.at_ i) fun s => s.semWrite i true (token % 65536)

end Sys2Proof.Machine
end

