-- ==== Sys2Proof/Machine/Journal.lean ====
section
/-!
DEFINITION. The Ingot journal (R513 to R522): sectors, Ingots, the rule of which Ingots are live, writing, reclaiming, and the
restore at Kindle (R520).
-/

namespace Sys2Proof.Machine

def State.setWeld (s : State) (x : WeldS) : State := { s with weld := x }

/-- The source number of Weld. -/
def weldSrc : Nat := srcNo 0x12 0

/-! ### Sectors -/

/-- Flash address of a journal sector (R48, R513). -/
def jAddr (j : Nat) : Nat := 0x8000000 + 65536 * j

/-- Number of journal sectors of the device (R48). -/
def State.jSectors (s : State) : Nat := s.flash.sectors - 2048

/-- Whether bytes are all erased. -/
def blank (bs : Bytes) : Bool := bs.all fun b => decide (b = 0xFF)

/-- The erase part of a sector header is valid (R513). -/
def erasePartOk (h : Bytes) : Bool :=
  decide (leAt h 0 2 = 0x534A ∧ leAt h 2 2 = 1 ∧ leAt h 27 4 = crc32c (h.take 27) ∧ leAt h 31 1 = 0xA5)

/-- The open part of a sector header is valid (R513). -/
def openPartOk (h : Bytes) : Bool :=
  decide (leAt h 40 4 = crc32c ((h.drop 32).take 8) ∧ leAt h 63 1 = 0xA5)

/-- The header of a sector. -/
def State.jHeader (s : State) (j : Nat) : Bytes := s.flashRead (jAddr j) 64

/-- The erase count of a sector; 0 while it holds no valid erase part. [DESIGN CHOICE, log 42] -/
def State.jErases (s : State) (j : Nat) : Nat := if erasePartOk (s.jHeader j) then leAt (s.jHeader j) 4 4 else 0

/-- A sector receives Ingots (R513). -/
def State.jOpened (s : State) (j : Nat) : Bool := openPartOk (s.jHeader j)

/-- A header part holds something other than a valid part or all 0xFF (R520). -/
def sectorBad (h : Bytes) : Bool :=
  !((erasePartOk h || blank (h.take 32)) && (openPartOk h || blank (h.drop 32)))

/-- The erase part with an erase count (R513). -/
def erasePart (erases : Nat) : Bytes :=
  let b := le 2 0x534A ++ le 2 1 ++ le 4 erases ++ zeros 19
  b ++ le 4 (crc32c b) ++ le 1 0xA5

/-- The open part with the SEQ of the first Ingot (R513): bytes 44 to 62 stay erased. -/
def openPart (seq : Nat) : Bytes := le 8 seq ++ le 4 (crc32c (le 8 seq)) ++ List.replicate 19 0xFF ++ le 1 0xA5

/-- Erase a sector and write its erase part with a count (R513, R518). -/
def State.jErase (s : State) (j erases : Nat) : State :=
  ((s.flashErase (2048 + j)).flashProgram (jAddr j) (erasePart erases)).inc F.WELD_WEAR_VALUE 7

/-! ### Ingots -/

/-- A committed Ingot found in the journal (R514). [DESIGN CHOICE, log 87] -/
structure Ingot where
  addr : Nat
  kind : Nat
  seq : Nat
  payload : Bytes

/-- Bytes that an Ingot occupies (R514). -/
def ingotSize (len : Nat) : Nat := 64 * cdiv (37 + len) 64

/-- What reading Ingots from a sector gives: committed ones, those with a wrong CRC, and uncommitted ones (R520). -/
structure JScan where
  good : List Ingot := []
  discarded : Nat := 0
  uncommitted : Nat := 0
  maxSeq : Nat := 0
  deriving Inhabited

/-- Read the Ingots of a sector from an offset on; fuel is the number of 64-byte blocks left. -/
def State.jScan (s : State) (j : Nat) : Nat → Nat → JScan → JScan
  | 0, _, r => r
  | fuel + 1, off, r =>
    if 65536 < off + 64 then r else
      let h := s.flashRead (jAddr j + off) 32
      if leAt h 0 2 ≠ 0x4749 then s.jScan j fuel (off + 64) r
      else
        let len := leAt h 4 4
        let size := ingotSize len
        if 65408 < len ∨ 65536 < off + size then s.jScan j fuel (off + 64) { r with uncommitted := r.uncommitted + 1 }
        else
          let b := s.flashRead (jAddr j + off) size
          let seq := leAt h 8 8
          let r := { r with maxSeq := max r.maxSeq seq }
          let r :=
            if leAt b (size - 1) 1 ≠ 0xA5 then { r with uncommitted := r.uncommitted + 1 }
            else if leAt b (32 + len) 4 ≠ crc32c (b.take (32 + len)) then { r with discarded := r.discarded + 1 }
            else { r with good := r.good ++ [⟨jAddr j + off, leAt h 2 1, seq, (b.drop 32).take len⟩] }
          s.jScan j fuel (off + size) r

/-- Read sectors. -/
def State.jRead (s : State) (js : List Nat) : JScan := js.foldl (fun r j => s.jScan j 1023 64 r) {}

/-- The committed Ingots of the journal. -/
def State.ingots (s : State) : List Ingot := (s.jRead (s.weld.used.map Prod.fst)).good

/-- Two Ingots of one kind stand in for one another: of the same channel, of the same TAG, or of a kind with one live Ingot
(R516). -/
def Ingot.same (a b : Ingot) : Bool :=
  decide (a.kind = b.kind) && (decide (a.kind = 1 ∨ a.kind = 3)
    || (decide (a.kind = 2) && decide (leAt a.payload 0 1 = leAt b.payload 0 1))
    || (decide (a.kind = 6) && decide (leAt a.payload 0 2 = leAt b.payload 0 2)))

/-- Whether an Ingot is live (R516). -/
def Ingot.live (all : List Ingot) (x : Ingot) : Bool :=
  if x.kind = 5 then true
  else if x.kind = 4 then decide ((all.filter fun y => decide (y.kind = 4 ∧ x.seq < y.seq)).length < 256)
  else if 1 ≤ x.kind ∧ x.kind ≤ 6 then !all.any fun y => y.same x && decide (x.seq < y.seq)
  else false

/-- The newest Ingot with a property. -/
def newest (l : List Ingot) (p : Ingot → Bool) : Option Ingot :=
  (l.filter p).foldl (fun (o : Option Ingot) x => match o with
    | none => some x
    | some y => if y.seq < x.seq then some x else some y) none

/-! ### Wear -/

/-- The WEAR payload (R518). [DESIGN CHOICE, log 34] -/
def State.wear (s : State) : Bytes :=
  (List.range 8).flatMap (fun i => le 8 (s.rd F.WELD_WEAR_VALUE i))
    ++ (List.range 64).flatMap fun i => le 4 ((s.weld.retired[i]?).getD 0xFFFFFFFF)

/-- KINDLES of the WEAR Ingot in force (R514). -/
def State.wearKindles (s : State) : Nat :=
  match newest s.ingots fun x => decide (x.kind = 3) with
  | some x => leAt x.payload 8 8
  | none => 0

/-! ### Writing -/

/-- The bytes of an Ingot (R514). -/
def ingotBytes (kind seq dt kindles : Nat) (payload : Bytes) (committed : Bool) : Bytes :=
  let b := le 2 0x4749 ++ le 1 kind ++ le 1 1 ++ le 4 payload.length ++ le 8 seq ++ le 8 dt ++ le 4 kindles ++ zeros 4
    ++ payload
  let size := ingotSize payload.length
  let c := b ++ le 4 (crc32c b)
  c ++ List.replicate (size - 1 - c.length) 0xFF ++ le 1 (if committed then 0xA5 else 0xFF)

/-- The sector to open next: of the erased, unretired ones, the lowest ERASES and then the lowest index (R519). -/
def State.jNext (s : State) : Option Nat :=
  let free := (List.range s.jSectors).filter fun j =>
    !s.jOpened j && !decide (j ∈ s.weld.retired) && !(s.weld.used.any fun u => decide (u.1 = j))
  free.foldl (fun (o : Option Nat) j => match o with
    | none => some j
    | some b => if s.jErases j < s.jErases b then some j else some b) none

/-- WELD_JRNL follows the journal. -/
def State.jShow (s : State) : State :=
  let used := s.weld.used.length
  let out := s.weld.retired.filter fun j => !(s.weld.used.any fun u => decide (u.1 = j))
  let s := (s.wr F.WELD_JRNL_SECTORS s.jSectors).wr F.WELD_JRNL_USED used
  (s.wr F.WELD_JRNL_RETIRED s.weld.retired.length).wr F.WELD_JRNL_ERASED (s.jSectors - used - out.length)

/-- Open the next sector (R513); at most 64 sectors hold Ingots (R519). -/
def State.jOpen (s : State) : State :=
  if 64 ≤ s.weld.used.length then s else
  match s.jNext with
  | none => s
  | some j =>
    let s := s.flashProgram (jAddr j + 32) (openPart (s.rd F.WELD_JSEQ_SEQ))
    s.setWeld { s.weld with used := s.weld.used ++ [(j, 64)] }

/-- The open sector, with the offset of its first free block. -/
def State.jLast (s : State) : Option (Nat × Nat) := s.weld.used.getLast?

/-- Make room for an Ingot of a size: a new sector is opened where the open one has not enough. -/
def State.jRoom (s : State) (size : Nat) : State :=
  match s.jLast with
  | some u => if u.2 + size ≤ 65536 then s else s.jOpen
  | none => s.jOpen

/-- Program an Ingot at the first free block (R514, R515); one that fails stays uncommitted. [DESIGN CHOICE, log 42] -/
def State.jPut (s : State) (kind : Nat) (payload : Bytes) (ok : Bool) : State :=
  let size := ingotSize payload.length
  let s := s.jRoom size
  match s.jLast with
  | none => s
  | some u =>
    if 65536 < u.2 + size then s else
    let seq := s.rd F.WELD_JSEQ_SEQ
    let s := s.flashProgram (jAddr u.1 + u.2) (ingotBytes kind seq s.dt s.wearKindles payload ok)
    let used := s.weld.used.dropLast ++ [(u.1, u.2 + size)]
    let s := (s.setWeld { s.weld with used := used }).wr F.WELD_JSEQ_SEQ (seq + 1)
    if ok then s.inc F.WELD_WEAR_VALUE 6 else s

/-- A program or erase failure in a sector (R522): `op` is 1 for a program and 2 for an erase. [DESIGN CHOICE, log 42] -/
def State.jFault (s : State) (j op : Nat) : State :=
  let s := (s.flag F.WELD_STATUS_JOURNAL_FAULT).err 0x20 weldSrc (detail [j, op])
  if s.weld.retired.length < 64 then
    let used := s.weld.used.map fun u => if u.1 = j then (j, 65536) else u
    (s.setWeld { s.weld with retired := s.weld.retired ++ [j], used := used }).jShow
  else s.wr F.WELD_STATUS_READ_ONLY 1

/-- Reclaim the sector with the lowest OPEN_SEQ (R519): its live Ingots are written anew, and it is erased. [DESIGN CHOICE, log 42] -/
def State.jReclaim (s : State) (eraseOk : Bool) : State :=
  match s.weld.used with
  | [] => s
  | u :: _ =>
    let all := s.ingots
    let mine := all.filter fun x => decide (jAddr u.1 ≤ x.addr ∧ x.addr < jAddr u.1 + 65536) && x.live all
    let s := mine.foldl (fun s x => s.jPut x.kind x.payload true) s
    let s := (s.setWeld { s.weld with used := s.weld.used.filter fun v => decide (v.1 ≠ u.1) }).inc F.WELD_JRNL_RECLAIMS
    if u.1 ∈ s.weld.retired then s
    else if eraseOk then s.jErase u.1 (s.jErases u.1 + 1)
    else s.jFault u.1 2

/-- With 48 sectors in use the one with the lowest OPEN_SEQ is reclaimed (R519). -/
def State.jTidy (s : State) (eraseOk : Bool) : State :=
  (if 48 ≤ s.weld.used.length then s.jReclaim eraseOk else s).jShow

/-- The host record that was being written ends (R521). -/
def State.hostRecordEnd (s : State) (ok : Bool) : State :=
  (s.wr F.WELD_HOST_CTL_BUSY 0).wr (if ok then F.WELD_HOST_CTL_DONE else F.WELD_HOST_CTL_FAIL) 1

/-- The first free block of a sector: behind its last byte that is not 0xFF (R520). -/
def State.jFree (s : State) (j : Nat) : Nat :=
  let used := (List.range 1024).filter fun b => !blank (s.flashRead (jAddr j + 64 * b) 64)
  64 * ((used.getLast?.getD 0) + 1)

/-- Sectors whose header holds an invalid part are erased again (R520). -/
def State.jRepair (s : State) : State :=
  let n := s.jSectors
  let bad := (List.range n).filter fun j => sectorBad (s.jHeader j)
  let top := ((List.range n).map s.jErases).foldl max 0
  bad.foldl (fun s j => s.jErase j top) s

/-- The place where Ingots are written is known in this Kindle. -/
def State.setKindleScanned (s : State) : State := { s with kindle := { s.kindle with journalScanned := true } }

/-- The journal as it stands: repaired, with its sectors in order, its counts, and the place and SEQ where writing resumes (R520). Answers
the good Ingots. -/
def State.journalScan (s : State) : List Ingot × State :=
  let s := s.jRepair
  let opened := ((List.range s.jSectors).filter s.jOpened).mergeSort fun a b =>
    decide (leAt (s.jHeader a) 32 8 ≤ leAt (s.jHeader b) 32 8)
  let r := s.jRead opened
  let last := opened.getLast?
  let used := opened.map fun j => (j, if some j = last then s.jFree j else 65536)
  let s := s.setWeld { s.weld with used := used }
  let s := (s.wr F.WELD_JERR_DISCARDED r.discarded).wr F.WELD_JERR_UNCOMMITTED r.uncommitted
  let s := s.wr F.WELD_JSEQ_SEQ (if opened.isEmpty then 0 else r.maxSeq + 1)
  (r.good, s.setKindleScanned)

/-- The Ingot that waits first is written, where the journal of this Kindle resumes (R515, R519, R520, R522). [DESIGN CHOICE, log 42] -/
def State.ingotWrite (s : State) (ok eraseOk : Bool) : State :=
  let s := if s.kindle.journalRead || s.kindle.journalScanned then s else s.journalScan.2
  match s.weld.ingots with
  | [] => s
  | x :: rest =>
    if s.on F.WELD_STATUS_READ_ONLY then s.setWeld { s.weld with ingots := rest }
    else
      let s := s.jPut x.kind x.payload ok
      if ok then
        let s := s.setWeld { s.weld with ingots := rest }
        let s := if x.kind = 6 then s.hostRecordEnd true
          else if x.kind = 2 then s.flag F.NCTX_STATUS_SNAP_DONE (leAt x.payload 0 1) else s
        s.jTidy eraseOk
      else
        let s := match s.jLast with
          | some u => s.jFault u.1 1
          | none => s
        let s := s.jTidy eraseOk
        if x.kind = 6 then (s.setWeld { s.weld with ingots := s.weld.ingots.drop 1 }).hostRecordEnd false else s

/-- INGOT_WRITE: the Ingot write that the flash arbiter has started ends; `ok` and `eraseOk` are what the flash reports of its
program operations and of the erase of a reclaim (R515, R519, R522). -/
def execIngotWrite (d : Nat) (ok eraseOk : Bool) (s : State) : Host.Outcome State Fault Refusal :=
  cmd true d s fun s => s.powered fun s =>
    if s.flash.busy = some .ingot then ({ s with flash := { s.flash with busy := none } }).ingotWrite ok eraseOk else s

/-! ### Reading the journal at Kindle -/

/-- Restore one lane group: map, slice states and the spare; the test of a SUSPECT slice begins again (R140, R517). -/
def State.restoreGroup (s : State) (g : Nat) (map states : List Nat) : State :=
  let s := map.zipIdx.foldl (fun (s : State) (e : Nat × Nat) => s.wr (lgrpMap e.2) e.1 g) s
  let s := states.zipIdx.foldl (fun (s : State) (e : Nat × Nat) =>
    let k := 17 * g + e.2
    let pad := (map.zipIdx.find? fun m => decide (m.1 = e.2)).map Prod.snd
    let s := ((s.setSlice g e.2 e.1).wr F.LANE_STATE_PAD (pad.getD 0x3F) k).wr F.LANE_STATE_SPARE (b2n (decide (e.1 = 1))) k
    let s := s.wr F.LANE_STATE_STATE (if e.1 = 3 then 0xB else 0) k
    if e.1 = 2 then s.setLgrp g { s.lgrp g with test := some (k, s.clk) } else s) s
  let spare := fun (c : Nat) => (states.zipIdx.find? fun e => decide (e.1 = c)).map Prod.snd
  match spare 1, spare 2 with
  | some k, _ => (s.wr F.LGRP_SPARE_SPARE_SLICE k g).wr F.LGRP_SPARE_SPARE_STATE 0 g
  | none, some k => (s.wr F.LGRP_SPARE_SPARE_SLICE k g).wr F.LGRP_SPARE_SPARE_STATE 2 g
  | none, none => (s.wr F.LGRP_SPARE_SPARE_SLICE 0x1F g).wr F.LGRP_SPARE_SPARE_STATE 3 g

/-- Restore the lane groups, Hearths, tiles and axes from a SPARE_LEDGER payload (R517). [DEDUCED, log 33] -/
def State.restoreLedger (s : State) (p : Bytes) : State :=
  let byte := fun (o : Nat) => leAt p o 1
  let s := (List.range 32).foldl (fun s g =>
    s.restoreGroup g ((List.range 16).map fun q => byte (64 * g + q)) ((List.range 17).map fun k => byte (64 * g + 16 + k))) s
  let s := [1, 2].foldl (fun s cls =>
    let n := perCluster cls + 1
    let base := if cls = 1 then 2048 else 2560
    let step := if cls = 1 then 64 else 32
    (List.range 8).foldl (fun s c =>
      let s := s.wr (spareF cls) 0xFF c
      (List.range n).foldl (fun s k =>
        let b := byte (base + step * c + k)
        let u := unitPhys cls c k
        let s := s.wrBit (failedF cls) c k (decide (b = 0x80))
        let s := s.wr (servingF cls) (b2n (decide (b < 0x40))) u
        if b < 0x40 then s.wr (logicalF cls) (perCluster cls * c + b) u
        else if b = 0x40 then s.wr (spareF cls) k c
        else s) s) s) s
  let s := (List.range 8).foldl (fun s a => s.wr F.AXIS_STATUS_ON_REDUNDANT (byte (2816 + a) % 2) a) s
  s.setWeld { s.weld with lastChange := (p.drop 2880).take 64 }

/-- Restore the nozzle maps (R309). -/
def State.restoreMaps (s : State) (l : List Ingot) : State :=
  (List.range 64).foldl (fun s c =>
    match newest l fun x => decide (x.kind = 2 ∧ leAt x.payload 0 1 = c) with
    | none => s
    | some x =>
      if leAt x.payload 4 4 = s.rd F.NCTX_HEAD_HEAD_TAG c then s.restoreMap c x.payload
      else s.flag F.NCTX_STATUS_SNAP_MISMATCH c) s

/-- Restore the wear counters and the retired sectors (R518). -/
def State.restoreWear (s : State) (p : Bytes) : State :=
  let s := (List.range 8).foldl (fun s i => s.wr F.WELD_WEAR_VALUE (leAt p (8 * i) 8) i) s
  let bad := ((List.range 64).map fun i => leAt p (64 + 4 * i) 4).filter fun j => decide (j ≠ 0xFFFFFFFF)
  s.setWeld { s.weld with retired := bad }

/-- The journal is read and restored (R520, R309, R516); a reclaim that was due is made (R519). [DESIGN CHOICE, log 42] -/
def State.journalRestore (s : State) : State :=
  let r := s.journalScan
  let l := r.1
  let s := r.2
  let s := match newest l fun x => decide (x.kind = 3) with
    | some x => s.restoreWear x.payload
    | none => s
  let s := s.inc F.WELD_WEAR_VALUE 1
  let s := if s.power.counted then s else ({ s with power := { s.power with counted := true } }).inc F.WELD_WEAR_VALUE 0
  let s := match newest l fun x => decide (x.kind = 1) with
    | some x => s.restoreLedger x.payload
    | none => s
  let s := s.restoreMaps l
  let fixes := (l.filter fun x => decide (x.kind = 5)).map fun x => (leAt x.payload 0 1, leAt x.payload 2 2, leAt x.payload 4 4)
  (s.setWeld { s.weld with repairs := fixes }).jTidy true

/-! ### Host records and wear -/

/-- A write of WELD_HOST_CTL with WRITE = 1 (R521). -/
def State.hostRecord (s : State) (tag len : Nat) : State :=
  if s.on F.WELD_HOST_CTL_BUSY then s
  else if !within 1 len 1024 then s
  else
    let s := (s.wr F.WELD_HOST_CTL_TAG tag).wr F.WELD_HOST_CTL_LEN len
    if s.on F.WELD_STATUS_READ_ONLY then s.flag F.WELD_HOST_CTL_FAIL
    else
      let payload := le 2 tag ++ le 2 len ++ zeros 60 ++ s.bufRead 0x31000 len
      (s.wr F.WELD_HOST_CTL_BUSY 1).queueIngot 6 payload tag

/-- HOST_RECORD_WRITE tag len (R521). -/
def execHostRecordWrite (d tag len : Nat) (s : State) : Host.Outcome State Fault Refusal :=
  cmd true d s fun s =>
    s.hostWrite F.WELD_HOST_CTL_WRITE.addr fun s => s.hostRecord (tag % 256) (len % 2048)

/-- The lookup of the newest HOST Ingot with a TAG (R521). -/
def State.hostFind (s : State) (tag : Nat) : State :=
  let a := match newest s.ingots fun x => decide (x.kind = 6 ∧ leAt x.payload 0 2 = tag) with
    | some x => x.addr
    | none => 0xFFFFFFFF
  (s.wr F.WELD_HOST_FIND_TAG tag).wr F.WELD_HOST_FIND_ADDR a

/-- HOST_RECORD_FIND tag (R521). -/
def execHostRecordFind (d tag : Nat) (s : State) : Host.Outcome State Fault Refusal :=
  cmd true d s fun s => s.hostWrite F.WELD_HOST_FIND_TAG.addr fun s => s.hostFind (tag % 256)

/-- Whole minutes since the last count go into POWERED_MIN, and into HOT_MIN while T_MAX is at or above T_HOT (R518). [DESIGN CHOICE, log 34] -/
def State.wearTick (s : State) : State :=
  let m := (s.clk - s.weld.lastWear) / 60000000000
  let hot := decide (sOf 16 (s.rd F.BLW_THERM_T_HOT) ≤ s.tMax)
  let s := s.setWeld { s.weld with lastWear := s.weld.lastWear + m * 60000000000 }
  let s := s.inc F.WELD_WEAR_VALUE 2 0 m
  if hot then s.inc F.WELD_WEAR_VALUE 3 0 m else s

/-- A WEAR Ingot is queued (R516). -/
def State.wearIngot (s : State) : State :=
  let s := s.wearTick
  (s.setWeld { s.weld with wearClk := s.clk }).queueIngot 3 s.wear

/-- WEAR_PERIODIC: WEAR_MIN minutes have passed since the last WEAR Ingot (R516). -/
def execWearPeriodic (d : Nat) (s : State) : Host.Outcome State Fault Refusal :=
  cmd true d s fun s => s.press fun s =>
    if s.due s.weld.wearClk (60000000000 * s.rd F.WELD_LIMITS_WEAR_MIN) then s.wearIngot else s

end Sys2Proof.Machine
end

