-- ==== Sys2Proof/Machine/Flash.lean ====
section
/-!
DEFINITION. The flash window of host software and the flash arbiter (R74, R75).
-/

namespace Sys2Proof.Machine

def State.setFlash (s : State) (x : FlashS) : State := { s with flash := x }

/-! ### The flash window -/

/-- Whether host software may program or erase a range (R74): inside the image slots, no Kindle running, and no part of it in
the slot in use. [DESIGN CHOICE, log 16] -/
def State.mayAlter (s : State) (a n : Nat) : Bool :=
  let used := s.rd F.KINDLE_STATUS_SLOT_USED
  !s.kindle.running && decide (a + n ≤ 0x8000000)
    && !(decide (used = 1) && decide (a < 0x4000000)) && !(decide (used = 2) && decide (0x4000000 < a + n))

/-- Whether ADDR and LENGTH name a range of the flash window: multiples of 64 bytes, 64 to 4,096 of them, in the device.
[DESIGN CHOICE, log 16] -/
def State.windowOk (s : State) (a n : Nat) : Bool :=
  decide (a % 64 = 0 ∧ n % 64 = 0) && within 64 n 4096 && decide (a + n ≤ 65536 * s.flash.sectors)

/-- The operation that FLASH_OP orders at FLASH_ADDR, where R74 permits it. -/
def State.flashWanted (s : State) (op len : Nat) : Option FlashOp :=
  let a := s.rd F.FLASH_ADDR_ADDR
  if op = 1 then (if s.windowOk a len then some (.read a len) else none)
  else if op = 2 then (if s.windowOk a len && s.mayAlter a len then some (.program a len) else none)
  else (if decide (a % 65536 = 0) && s.mayAlter a 65536 then some (.erase a) else none)

/-- A write of FLASH_OP: ignored while BUSY or with a reserved OP; queued, or DENIED (R74, R75). [DESIGN CHOICE, log 16] -/
def State.flashOp (s : State) (op len : Nat) : State :=
  if s.on F.FLASH_STATUS_BUSY ∨ op = 0 ∨ 3 < op then s
  else match s.flashWanted op len with
    | some o => (s.setFlash { s.flash with waiting := s.flash.waiting ++ [o] }).wr F.FLASH_STATUS_BUSY 1
    | none => s.flag F.FLASH_STATUS_DENIED

/-- FLASH_READ: FLASH_OP read (R74). -/
def execFlashRead (d len : Nat) (s : State) : Host.Outcome State Fault Refusal :=
  cmd true d s fun s => s.hostWrite F.FLASH_OP_OP.addr fun s => s.flashOp 1 (len % 8192)

/-- FLASH_PROGRAM: FLASH_OP program (R74). -/
def execFlashProgram (d len : Nat) (s : State) : Host.Outcome State Fault Refusal :=
  cmd true d s fun s => s.hostWrite F.FLASH_OP_OP.addr fun s => s.flashOp 2 (len % 8192)

/-- FLASH_ERASE: FLASH_OP erase (R74). -/
def execFlashErase (d : Nat) (s : State) : Host.Outcome State Fault Refusal :=
  cmd true d s fun s => s.hostWrite F.FLASH_OP_OP.addr fun s => s.flashOp 3 0

/-! ### The arbiter -/

/-- An operation that R74 denies as things stand when the memory would start it: Kindle runs, or the slot has come into use since. -/
def State.deniedNow (s : State) (o : FlashOp) : Bool :=
  match o with
  | .program a n => !s.mayAlter a n
  | .erase a => !s.mayAlter a 65536
  | _ => false

/-- FLASH_ARBITER_SERVE: the free memory starts the next operation, an Ingot write first, then in order of arrival (R75); a program or
erase that R74 denies by now fails with DENIED. [DESIGN CHOICE, log 16] -/
def execFlashArbiterServe (d : Nat) (s : State) : Host.Outcome State Fault Refusal :=
  cmd true d s fun s => s.powered fun s =>
    if s.flash.busy.isSome then s
    else if !s.weld.ingots.isEmpty then s.setFlash { s.flash with busy := some .ingot }
    else match s.flash.waiting with
      | [] => s
      | o :: rest =>
        if s.deniedNow o then
          ((s.setFlash { s.flash with waiting := rest }).wr F.FLASH_STATUS_BUSY 0).flag F.FLASH_STATUS_DENIED
        else s.setFlash { s.flash with busy := some o, waiting := rest }

/-- n free bytes. [DESIGN CHOICE, log 17] -/
def State.freshBytes (s : State) : Nat → Bytes × State
  | 0 => ([], s)
  | n + 1 =>
    let r := s.fresh 8
    let q := r.2.freshBytes n
    (BitVec.ofNat 8 r.1 :: q.1, q.2)

/-- A program that did not complete: each bit that it clears may or may not be clear. [DESIGN CHOICE, log 17] -/
def State.programPart (s : State) (a : Nat) (bs : Bytes) : State :=
  let r := s.freshBytes bs.length
  r.2.flashProgram a (List.zipWith (· ||| ·) bs r.1)

/-- The n bytes at an address, each bit of which may or may not have returned to 1. [DESIGN CHOICE, log 17] -/
def State.eraseBytes (s : State) (a n : Nat) : State :=
  let old := s.flashRead a n
  let r := s.freshBytes n
  r.2.setFlash { r.2.flash with mem := r.2.flash.mem.write 0xFF a (List.zipWith (· ||| ·) old r.1) }

/-- An erase of a sector that did not complete: each bit may or may not have returned to 1. [DESIGN CHOICE, log 17] -/
def State.erasePartly (s : State) (a : Nat) : State := s.eraseBytes a 65536

/-- The host operation of the window ends. -/
def State.windowDone (s : State) (ok : Bool) : State :=
  (s.wr F.FLASH_STATUS_BUSY 0).flag (if ok then F.FLASH_STATUS_DONE else F.FLASH_STATUS_FAULT)

/-- FLASH_OP_DONE: the operation of host software in progress completes, or the flash reports its failure (R75). [DESIGN CHOICE, log 16] -/
def execFlashOpDone (d : Nat) (ok : Bool) (s : State) : Host.Outcome State Fault Refusal :=
  cmd true d s fun s => s.powered fun s =>
    let t := s.setFlash { s.flash with busy := none }
    match s.flash.busy with
    | some (.read a n) => (t.bufWrite 0x11000 (t.flashRead a n)).windowDone true
    | some (.program a n) =>
      let bs := t.bufRead 0x11000 n
      (if ok then t.flashProgram a bs else t.programPart a bs).windowDone ok
    | some (.erase a) => (if ok then t.flashErase (a / 65536) else t.erasePartly a).windowDone ok
    | _ => s

end Sys2Proof.Machine
end

