-- ==== Sys2Proof/Machine/Resources.lean ====
section
/-!
DEFINITION. Ownership of shared resources (R58 to R61).
-/

namespace Sys2Proof.Machine

/-- Instances of a source class; 0 for a reserved class (R32). -/
def srcCount (c : Nat) : Nat :=
  if c = 0x01 then 8 else if c = 0x02 then 16 else if c = 0x03 then 256 else if c = 0x04 then 32
  else if c = 0x05 ∨ c = 0x06 then 512 else if c = 0x07 then 256 else if c = 0x08 then 128
  else if c = 0x09 ∨ c = 0x0A then 64 else if c = 0x0B then 1 else if c = 0x0C then 1536 else if c = 0x0D then 1152
  else if c = 0x0E then 1 else if c = 0x0F then 512 else if c = 0x10 then 3 else if c = 0x11 ∨ c = 0x12 then 1 else 0

/-- Whether a source number names a unit that exists (R32). -/
def srcExists (n : Nat) : Bool := decide (n % 2 ^ 24 < srcCount (n / 2 ^ 24))

/-- Resources of a class; 0 for a reserved class (R60). -/
def resCount (c : Nat) : Nat :=
  if c = 0x01 ∨ c = 0x02 then 32 else if c = 0x03 ∨ c = 0x05 then 256 else if c = 0x04 then 512
  else if c = 0x06 then 1536 else if c = 0x07 then 1152 else if c = 0x08 then 2048 else if c = 0x09 then 16
  else if c = 0x0A then 2 else if c = 0x0B then 16 else 0

/-- Source classes that may own a resource of a class, beside host software (R60). -/
def resOwners (c : Nat) : List Nat :=
  if (1 ≤ c ∧ c ≤ 5) ∨ c = 8 then [0x03, 0x04, 0x0F] else if c = 6 then [0x03, 0x06, 0x07, 0x09, 0x0A, 0x0B, 0x12]
  else if c = 9 then [0x01] else if c = 0x0A then [0x0B] else []

/-- Whether an owner may own resource i of a class (R60). -/
def mayOwn (c i o : Nat) : Bool :=
  decide (o = hostOwner) || (decide (o / 2 ^ 24 ∈ resOwners c) && !decide (c = 0x0A ∧ i ≠ 0))

/-- Whether a claim or release names what exists (R61). -/
def claimOk (op c i o : Nat) : Bool :=
  decide (op = 1 ∨ op = 2) && decide (i < resCount c) && (decide (o = hostOwner) || srcExists o) && mayOwn c i o

/-- The RESULT and HOLDER of an operation (R61). [DESIGN CHOICE, log 19] -/
def State.claimResult (s : State) (r holder : Nat) : State :=
  (s.wr F.RESOURCE_RESULT_RESULT r).wr F.RESOURCE_RESULT_HOLDER holder

/-- Set the owner of a resource. -/
def State.setOwner (s : State) (c i o : Nat) : State := { s with owners := s.owners.put (65536 * c + i) o 0 }

/-- A write of RESOURCE_CLAIM (R61). HOLDER is the owner after the operation, 0 where it names no resource. [DESIGN CHOICE, log 19] -/
def State.claim (s : State) (op c i o : Nat) : State :=
  if !claimOk op c i o ∨ s.kindle.running then s.claimResult 4 (if i < resCount c then s.owner c i else 0)
  else if op = 1 then
    if s.owner c i = 0 then ((s.setOwner c i o).claimResult 1 o).ownersMoved else s.claimResult 3 (s.owner c i)
  else if s.owner c i = o then ((s.setOwner c i 0).claimResult 2 0).ownersMoved
  else s.claimResult 3 (s.owner c i)

/-- A host write of RESOURCE_CLAIM. -/
def resourceOp (d op c i o : Nat) (s : State) : Host.Outcome State Fault Refusal :=
  cmd true d s fun s =>
    s.hostWrite F.RESOURCE_CLAIM_OP.addr fun s => s.claim op (c % 256) (i % 65536) (o % 2 ^ 32)

/-- RESOURCE_CLAIM: OP 0x01 (R61). -/
def execResourceClaim (d cls idx owner : Nat) (s : State) : Host.Outcome State Fault Refusal :=
  resourceOp d 1 cls idx owner s

/-- RESOURCE_RELEASE: OP 0x02 (R61). -/
def execResourceRelease (d cls idx owner : Nat) (s : State) : Host.Outcome State Fault Refusal :=
  resourceOp d 2 cls idx owner s

end Sys2Proof.Machine
end

