-- ==== Sys2Proof/Machine/WeldErr.lean ====
section
/-!
DEFINITION. INTERNAL_ERROR: errors that Weld logs, and what Weld does about corrected memory errors: CE_RATE (R491), row and lane
repair (R504, R505).
-/

namespace Sys2Proof.Machine

/-- A corrected error of a unit's local stores: more than CE_LIMIT within CE_WINDOW_S trigger a substitution (R491). -/
def State.ceUnit (s : State) (cls n : Nat) : State :=
  let p := unitPlace cls n
  let k := unKey cls p.1 p.2
  let window := 1000000000 * s.rd F.WELD_LIMITS_CE_WINDOW_S
  let l := s.clk :: (s.weld.ce.getD k []).filter fun t => decide (s.clk < t + window)
  let s := s.setWeld { s.weld with ce := s.weld.ce.put k l [] }
  if s.rd F.WELD_LIMITS_CE_LIMIT < l.length ∧ s.on (servingF cls) n then
    (s.trigger cls n 2 0 false).setWeld { (s.trigger cls n 2 0 false).weld with ce := s.weld.ce.del k }
  else s

/-- Repair rows or lanes of a macro, a stack or a channel already used (R490). -/
def State.repairsOf (s : State) (type unit : Nat) : Nat :=
  (s.weld.repairs.filter fun r => decide (r.1 = type ∧ (if type = 2 then r.2.1 / 64 else r.2.1) = unit)).length

/-- A row qualifies for repair (R504, R505): type 1 is an SRAM row, 2 an HBM row. `unit` names the macro, or stack × 64 +
channel. -/
def State.repairRow (s : State) (type unit row : Nat) : State :=
  let owner := if type = 2 then unit / 64 else unit
  let room := if type = 1 then 4 else 512
  if (type, unit, row) ∈ s.weld.repairs then s
  else if s.repairsOf type owner < room then
    let s := s.setWeld { s.weld with repairs := s.weld.repairs ++ [(type, unit, row)] }
    (s.queueIngot 5 (le 1 type ++ zeros 1 ++ le 2 unit ++ le 4 row)).err 0x07 weldSrc (detail [owner, row])
  else s.err 0x1F weldSrc (detail [owner])

/-- Key of a memory row in Weld's record of corrected errors. -/
def rowKey (type unit row : Nat) : Nat := 2 ^ 33 * (4 * unit + type) + row

/-- A corrected or parity error of a row at a word (R504, R505): an SRAM row qualifies at its second one at another word or
time, an HBM row at HBM_ROW_CE within 24 h. -/
def State.rowError (s : State) (type unit row word : Nat) : State :=
  let k := rowKey type unit row
  let old := (s.weld.rowCe.getD k []).filter fun e => decide (type = 1 ∨ s.clk < e.2 + 86400000000000)
  let l := if (word, s.clk) ∈ old then old else (word, s.clk) :: old
  let need := if type = 1 then 2 else max 1 (s.rd F.WELD_MEM_HBM_ROW_CE)
  if need ≤ l.length then
    (s.setWeld { s.weld with rowCe := s.weld.rowCe.del k }).repairRow type unit row
  else s.setWeld { s.weld with rowCe := s.weld.rowCe.put k l [] }

/-- An error of a data lane of an HBM channel (R505): with HBM_LANE_ERR of them within one hour the lane is recorded for repair,
two lanes for each channel. -/
def State.laneError (s : State) (unit lane : Nat) : State :=
  let k := 1024 * unit + lane
  let l := s.clk :: (s.weld.laneErrs.getD k []).filter fun t => decide (s.clk < t + 3600000000000)
  let s := s.setWeld { s.weld with laneErrs := s.weld.laneErrs.put k l [] }
  if max 1 (s.rd F.WELD_MEM_HBM_LANE_ERR) ≤ l.length ∧ (3, unit, lane) ∉ s.weld.repairs then
    if s.repairsOf 3 unit < 2 then
      (s.setWeld { s.weld with repairs := s.weld.repairs ++ [(3, unit, lane)],
                               laneErrs := s.weld.laneErrs.del k }).queueIngot 5 (le 1 3 ++ zeros 1 ++ le 2 unit ++ le 4 lane)
    else s
  else s

/-- A context is rebuilt from its mirror: its EV fields restart at 0 (R311). -/
def State.restartEv (s : State) (c n : Nat) : State :=
  if c < 64 ∧ n < 16384 then ((s.wr F.NCTX_EV_FIRED 0 c n).wr F.NCTX_EV_MISS 0 c n).wr F.NCTX_EV_WEAK 0 c n else s

/-- What an error leads to beside its log entry. An item, a row, a lane or a block beyond the width of its field is cut to it.
[DESIGN CHOICE, log 5] -/
def State.errEffect (s : State) (e : ErrArg) : State :=
  let item := fun (i : Nat) => (e.items[i]?).getD 0 % 65536
  let s := match e.unit with
    | some u => if e.code = 0x03 then s.ceUnit u.1 u.2 else s
    | none => s
  if e.code = 0x03 then s.rowError 1 (item 0) (item 1) (item 2)
  else if e.code = 0x04 then
    let unit := 64 * item 0 + item 1
    let s := s.rowError 2 unit (item 2) (item 3)
    match e.lane with
    | some l => s.laneError unit (l % 1024)
    | none => s
  else if e.code = 0x05 then s.restartEv (item 0) (item 1)
  else if e.code = 0x12 then
    match e.row with
    | some r => s.rowError 1 (r.1 % 65536) (r.2 % 2 ^ 32) (item 2)
    | none => s
  else if e.code = 0x1A then
    match e.block with
    | some b => s.hbmMark (64 * (b % (96 * 2 ^ 24))) 64
    | none => s
  else s

/-- INTERNAL_ERROR: a block reports an error with its context (R507). [DESIGN CHOICE, log 43] -/
def execInternalError (d : Nat) (e : ErrArg) (s : State) : Host.Outcome State Fault Refusal :=
  cmd (errArgOk e) d s fun s => s.powered fun s => (s.err e.code (e.src % 2 ^ 32) (detail (e.items.take 5))).errEffect e

end Sys2Proof.Machine
end

