-- ==== Sys2Proof/Machine/Flags.lean ====
section
/-!
DEFINITION. What a register write does to the fields of its register: the access codes (R16 to R22), the values that make a write
ignored (R565), and the rules that lock registers.
-/

namespace Sys2Proof.Machine

/-- The bits of a written word that belong to a field. -/
def Fld.of (f : Fld) (x : Nat) : Nat := bits x (f.lo + f.w - 1) f.lo

/-- Bits of a field that the hardware has set in this nanosecond: a clear that overlaps such a set leaves them at 1 (R21).
[DESIGN CHOICE, log 89] -/
def State.pendingSets (s : State) (f : Fld) (i j : Nat) : Nat :=
  ((List.range f.w).map fun b => if f.key i j + b ∈ s.sets then 2 ^ b else 0).sum

/-- One field takes its bits of a written word under its access code (R16, R19, R21). RWK fields take them until READY.
[DESIGN CHOICE, log 89] -/
def State.setFld (s : State) (f : Fld) (i j x : Nat) : State :=
  match f.acc with
  | .rw => s.wr f (f.of x) i j
  | .rw1c => s.wr f (s.rd f i j &&& ((2 ^ f.w - 1 - f.of x) ||| s.pendingSets f i j)) i j
  | .rwk => if s.ready then s else s.wr f (f.of x) i j
  | .ro | .wo => s

/-- The fields of a register take a written word as one update (R22). -/
def State.setFlds (s : State) (fs : List Fld) (i j x : Nat) : State := fs.foldl (fun s f => s.setFld f i j x) s

/-- Whether a write to the bits of `mask` covers an RWK field (R19). [DESIGN CHOICE, log 7] -/
def coversRwk (fs : List Fld) (mask : Nat) : Bool := fs.any fun f => decide (f.acc = .rwk ∧ f.of mask ≠ 0)

/-- The count of an attempt to write an RWK field after READY (R19, R508). [DESIGN CHOICE, log 7] -/
def State.rwkAttempt (s : State) (a : Nat) : State := if s.ready then s.err 0x01 (srcNo 0x11 0) (detail [a]) else s

/-- Whether a value is a signed 4-bit step of -4 to 4, not 0 (R296). -/
def stepOk (v : Nat) : Bool := decide (v ≠ 0 ∧ (v ≤ 4 ∨ 12 ≤ v))

/-- The values that make a write ignored as a whole (R565), by register. [DESIGN CHOICE, log 8] -/
def ignoredValue (r : R) (x : Nat) : Bool :=
  match r with
  | .FUNC_TIMEOUT => !within 1 (bits x 31 0) 10000000
  | .AXIS_CFG => decide (4 < bits x 23 21)
  | .AXIS_STALL => decide (bits x 31 0 < 1000)
  | .CTRIG_PITCH | .PTRIG_PITCH | .FIRE_PITCH => decide (bits x 47 0 < 2 ^ 24)
  | .COBEX_TIMING => decide (bits x 31 16 = 0) || !within 20 (bits x 15 0) 10000
  | .HEARTH_Y_SCALE => decide (bits x 47 0 = 0)
  | .HEARTH_YRES => decide (bits x 15 0 < 0x100)
  | .HEARTH_EXP_INIT => decide (bits x 47 32 < 0x1000)
  | .CMP_CFG => !(within 1 (bits x 39 32) 128 && within 1 (bits x 31 16) 10000 && decide (bits x 15 8 ≠ 0)
      && within 1 (bits x 5 0) 40)
  | .CMP_THR => !(within 1 (bits x 15 0) 0x7FFF && within 1 (bits x 31 16) 0x7FFF && within 1 (bits x 47 32) 0x7FFF
      && within 1 (bits x 63 48) 0x7FFF)
  | .CMP_SCALE => !within 0x800 (bits x 15 0) 0x8000
  | .REG_SOURCE => within 0x100 (bits x 8 0) 0x1FE
  | .HAMMER_CFG => decide (bits x 55 54 = 0 ∨ bits x 55 54 = 3 ∨ bits x 37 32 < 4) || !within 1 (bits x 14 0) 16384
  | .HAMMER_TIMING => decide (bits x 29 22 < 8 ∨ bits x 21 14 < 4 ∨ bits x 13 0 < 8)
  | .HAMMER_DOT => decide (bits x 15 0 < 16)
  | .HGRP_HOT => !within 1 (bits x 15 0) 60000
  | .HGRP_FEED => decide (bits x 17 16 = 3)
  | .NCTX_CFG => decide (bits x 59 58 = 3 ∨ bits x 47 32 < 16) || !within 256 (bits x 31 16) 32768
      || !within 1 (bits x 15 0) 16000
  | .NCTX_RATIO => !(decide (bits x 63 48 ≠ 0 ∧ bits x 63 48 < bits x 47 32 ∧ bits x 47 32 ≤ bits x 31 16)
      && decide (bits x 31 16 ≤ bits x 15 0))
  | .NCTX_MAP | .NCTX_LINEMAP => !stepOk (bits x 3 0)
  | .NCTX_SNAP => decide (1440 < bits x 15 0)
  | .BLW_CAP => !(within 16 (bits x 31 16) 800 && within 2400 (bits x 15 0) 6160)
  | .BLW_THERM => !within 0x4600 (bits x 15 0) 0x6E00
  | .BLW_C2 => !within 1 (bits x 23 0) 10000
  | .TONGS_PACE => decide (bits x 63 48 = 0 ∨ bits x 47 32 = 0)
  | .HEP_LINK_CFG => decide (bits x 15 8 ∉ [1, 4, 8, 16])
  | .HEP_LPM => decide (bits x 31 16 = 0)
  | .STK_CELL_F => decide (bits x 9 0 = 0)
  | .SMB_T_TIMING => decide (bits x 31 16 = 0 ∨ bits x 7 0 = 0)
  | .SMBC_CFG => decide (bits x 27 26 = 3 ∨ bits x 15 8 = 0 ∨ bits x 7 0 = 0)
  | .WELD_LIMITS => decide (bits x 63 48 = 0 ∨ bits x 47 32 = 0) || !within 1 (bits x 31 16) 1440
      || !within 1 (bits x 15 0) 1440
  | .WELD_MEM => decide (bits x 15 8 = 0 ∨ bits x 7 0 = 0)
  | _ => false

/-- The flag that an ignored value sets, where the register's chapter names one (R565). -/
def State.ignoredFlag (s : State) (r : R) (i : Nat) : State :=
  match r with
  | .NCTX_CFG | .NCTX_RATIO => s.flag F.NCTX_STATUS_BAD_WRITE i
  | .STK_CELL_F => s.flag F.STK_STATUS_BAD_WRITE
  | .TRGH_CFG => s.flag F.TRGH_STATUS_BAD_WRITE i
  | _ => s

/-- Any channel of a group has its fire-point generator armed (R261). -/
def State.grpArmed (s : State) (g : Nat) : Bool := (s.groupChannels g).any fun c => s.armed .fire c

/-- The status flag of a register that is locked as it stands: its writes are ignored and set the flag (R96, R204, R261, R296,
R310, COBEX_CFG). [DESIGN CHOICE, log 64] -/
def State.lockFlag (s : State) (r : R) (i : Nat) : Option (Fld × Nat) :=
  match r with
  | .CTRIG_CFG | .CTRIG_START | .CTRIG_PITCH | .CTRIG_FRAME | .CTRIG_MINPER | .CTRIG_QUOTA | .CTRIG_TIMEOUT =>
    if s.armed .ctrig i then some (F.CTRIG_STATUS_CFG_LOCKED, i) else none
  | .PTRIG_CFG | .PTRIG_START | .PTRIG_PITCH | .PTRIG_PULSE | .PTRIG_MINPER =>
    if s.armed .ptrig i then some (F.PTRIG_STATUS_CFG_LOCKED, i) else none
  | .FIRE_CFG | .FIRE_START | .FIRE_PITCH | .FIRE_MINPER =>
    if s.armed .fire i then some (F.FIRE_STATUS_CFG_LOCKED, i) else none
  | .COBEX_CFG => if ((s.bondOf i).any fun p => s.bond p ≠ 0) then some (F.COBEX_STATUS_CFG_LOCKED, i) else none
  | .HEARTH_CFG | .HEARTH_ROWS | .HEARTH_BAND =>
    if s.on F.HEARTH_ID_SERVING i && s.bondLocked (s.logicalOf i) then some (F.HEARTH_STATUS_CFG_LOCKED, i) else none
  | .HAMMER_CFG | .HAMMER_TIMING | .HAMMER_GRID =>
    if s.armed .fire i then some (F.HAMMER_STATUS_CFG_LOCKED, i) else none
  | .HGRP_CFG | .HGRP_FEED => if s.grpArmed i then some (F.HAMMER_STATUS_CFG_LOCKED, i) else none
  | .NCTX_LINEMAP | .NCTX_HEAD => if s.armed .fire i then some (F.NCTX_STATUS_CFG_LOCKED, i) else none
  | _ => none

end Sys2Proof.Machine
end

