-- ==== Sys2Proof/Machine/Operands.lean ====
section
/-!
DEFINITION. What a BAR0 address names, and what reading it gives (R10, R14, R16, R20, R107).
-/

namespace Sys2Proof.Machine

/-- A place in BAR0: a register with its instance, and the byte of it that the address names. -/
structure Place where
  r : R
  i : Nat
  j : Nat
  off : Nat
  deriving DecidableEq, Repr

/-- The place of an address in the instances of one register (R14). -/
def R.place (r : R) (a : Nat) : Option Place :=
  let d := r.desc
  let x := a - (d.addr + d.i0 * d.s1)
  let i := if d.s1 = 0 then 0 else x / d.s1
  let y := if d.s1 = 0 then x else x % d.s1
  let j := if d.s2 = 0 then 0 else y / d.s2
  let o := if d.s2 = 0 then y else y % d.s2
  if d.addr + d.i0 * d.s1 ≤ a ∧ i < d.n1 ∧ j < d.n2 ∧ o < d.bytes then some ⟨r, d.i0 + i, j, o⟩ else none

/-- The register that an address names; none in a reserved place or a buffer (R20). -/
def locate (a : Nat) : Option Place := R.all.findSome? fun r => r.place a

/-- Who may write a byte buffer. -/
inductive BufAcc where
  | rw | rwk | ro
  deriving DecidableEq, Repr

/-- The byte buffers of BAR0: FLASH_BUF, KINDLE_PART and KINDLE_SREG (R567), COBEX_CMD_DATA, SMBC_DATA, WELD_HOST_BUF, WELD_LOG
and the print-model banks. [DESIGN CHOICE, log 13] -/
def bufferAt (a : Nat) : Option BufAcc :=
  if within 0x11000 a 0x11FFF then some .rw
  else if within 0x12000 a 0x1243F ∨ within 0x13000 a 0x13FFF then some .rwk
  else if within 0x300000 a 0x37FFFF ∧ within 0x200 ((a - 0x300000) % 0x400) 0x2FF then some .rw
  else if within 0xC1040 a 0xC105F ∨ within 0xC1140 a 0xC115F then some .rw
  else if within 0x31000 a 0x313FF then some .rw
  else if within 0x32000 a 0x35FFF then some .ro
  else if within 0x1000000 a 0x11FFFFF then some .rw
  else none

/-! ### Reading -/

/-- Set fields of one instance to what they read as now. -/
def State.show (s : State) (i j : Nat) (l : List (Fld × Nat)) : State := l.foldl (fun s e => s.wr e.1 e.2 i j) s

/-- The open request of function 0x07 (R435). -/
def State.quenchReq (s : State) : Option Request := s.dcs.open_.find? fun r => decide (r.func = 7)

/-- The state in which the fields of a register that are read live hold what they read as now (R16: "Returns the current
value"). Only a read uses it. -/
def State.sample (s : State) (r : R) (i j : Nat) : State :=
  let set := s.show i j
  match r with
  | .DT_NOW => set [(F.DT_NOW_DT, s.dt)]
  | .GLB_STATUS => set [(F.GLB_STATUS_JOURNAL_RO, s.rd F.WELD_STATUS_READ_ONLY),
      (F.GLB_STATUS_DECIDE_OPEN, b2n (!s.dcs.open_.isEmpty)), (F.GLB_STATUS_LOOP_ANY, b2n s.loopAny),
      (F.GLB_STATUS_FATAL_LOGGED, s.rd F.WELD_STATUS_FATAL_LOGGED), (F.GLB_STATUS_THERMAL, s.rd F.BLW_STATUS_THERMAL),
      (F.GLB_STATUS_QUENCHED, s.rd F.HEP_QUENCH_QUENCHED), (F.GLB_STATUS_HOLD, b2n (decide (s.rd F.KINDLE_STATUS_PHASE = 8))),
      (F.GLB_STATUS_READY, b2n s.ready)]
  | .DECIDE_STATUS => set [(F.DECIDE_STATUS_OPEN, s.dcs.open_.length), (F.DECIDE_STATUS_HELD, b2n (!s.dcs.held.isEmpty))]
  | .ENC_STATUS => set [(F.ENC_STATUS_STALLED, b2n (s.encStalled i))]
  | .AXIS_POS => set [(F.AXIS_POS_POSITION, s.axPos i)]
  | .AXIS_HWM => (s.settle i)
  | .AXIS_RAW => set [(F.AXIS_RAW_POSITION, 256 * s.axRaw i)]
  | .AXIS_PERIOD => set [(F.AXIS_PERIOD_PERIOD_NS, s.period i)]
  | .LEDGER_STATUS => set [(F.LEDGER_STATUS_OPEN, s.pos.ledger.length)]
  | .CTRIG_STATUS => set [(F.CTRIG_STATUS_OPEN, (s.openOf i).length)]
  | .TRGH_DEPTH => set [(F.TRGH_DEPTH_DEPTH, (s.tr i).depth), (F.TRGH_DEPTH_COUNT, (s.tr i).count)]
  | .TONGS_STATE => set [(F.TONGS_STATE_STATE, s.tongsState i)]
  | .TONGS_POS => set [(F.TONGS_POS_POSITION, s.tongsPos i)]
  | .STK_STATUS => set [(F.STK_STATUS_LOOP_ANY, b2n s.loopAny)]
  | .STK_CH_STAT => set [(F.STK_CH_STAT_VALUE, s.chanValue i s.dt)]
  | .STK_GPIO_STAT =>
    let drives := s.rd F.STK_GPIO_DIR i ≠ 0 ∧ s.ready ∧ s.drives (s.rd F.STK_GPIO_CHANNEL i) 1 i
    set [(F.STK_GPIO_STAT_DRIVING, b2n (decide drives))]
  | .HEP_QUENCH => set [(F.HEP_QUENCH_REQUEST_ID, (s.quenchReq.map (·.id)).getD 0)]
  | .HEP_QREQ => set [(F.HEP_QREQ_WORD, (s.quenchReq.map fun q => leAt q.proposal (8 * i) 8).getD 0)]
  | .HEP_APER_STAT => set [(F.HEP_APER_STAT_INFLIGHT_OLD, s.inflightOld i)]
  | .HEP_LPM => set [(F.HEP_LPM_L1_OK, b2n s.l1Ok), (F.HEP_LPM_L0P_OK, b2n s.l0pOk)]
  | .HAMMER_STATE =>
    let m := s.rd F.HGRP_PASS_MODE (s.grpOf i)
    set [(F.HAMMER_STATE_ARMED, b2n (s.armed .fire i)),
      (F.HAMMER_STATE_MODE, if 2 ≤ m then 2 else b2n (s.armed .fire i))]
  | .HGRP_PASS =>
    let m := s.rd F.HGRP_PASS_MODE i
    set [(F.HGRP_PASS_MODE, if 2 ≤ m then m else b2n (s.grpArmed i))]
  | .BLW_C2 => set [(F.BLW_C2_WAIT_MS, s.c2WaitMs i)]
  | .BLW_STATUS => set [(F.BLW_STATUS_NO_PMBUS, b2n s.noPmbus)]
  | .SMB_T_CFG => set [(F.SMB_T_CFG_ADDR, 0x58 + s.power.straps)]
  | .SMB_T_STATUS => set [(F.SMB_T_STATUS_WR_BUSY, b2n (!s.smb.gate.isEmpty))]
  | .SMB_ALERT => set [(F.SMB_ALERT_ASSERTED, b2n s.alertLow)]
  | _ => s

/-- A member port of a bond that is not its master: its timing, command and event registers read 0 and ignore writes. -/
def State.memberPort (s : State) (p : Nat) : Bool :=
  s.on F.COBEX_CFG_BOUND p && decide (s.rd F.COBEX_CFG_LANE_INDEX p ≠ 0)

/-- A register that acts on the master port only, at another member port (COBEX_TIMING, COBEX_EVT). [DEDUCED, log 6] -/
def State.memberOnly (s : State) (r : R) (p : Nat) : Bool :=
  decide (r = .COBEX_TIMING ∨ r = .COBEX_EVT) && s.memberPort p

/-- An address in COBEX_CMD_DATA of a member port that is not a master. [DEDUCED, log 6] -/
def State.memberData (s : State) (a : Nat) : Bool := within 0x300000 a 0x37FFFF && s.memberPort ((a - 0x300000) / 0x400)

/-- A context of a nozzle at or above the channel's NOZZLES: it reads 0 and ignores writes (R286). -/
def State.noNozzle (s : State) (r : R) (c n : Nat) : Bool := decide (r = .NCTX ∧ s.rd F.HAMMER_CFG_NOZZLES c ≤ n)

/-- The word that a register reads as. [DEDUCED, log 6] -/
def State.regValue (s : State) (r : R) (i j : Nat) : Nat :=
  if s.memberOnly r i || s.noNozzle r i j then 0 else (s.sample r i j).word r.desc.flds i j

/-- n bytes that lie within one register word, one buffer or a reserved place. [DESIGN CHOICE, log 14] -/
def State.readPart (s : State) (a n : Nat) : Nat :=
  match locate a with
  | some p => s.regValue p.r p.i p.j / 2 ^ (8 * p.off) % 2 ^ (8 * n)
  | none => if (bufferAt a).isNone || s.memberData a then 0 else fromLe (s.bufRead a n)

/-- An aligned 4-byte or 8-byte read; 8 bytes over two 32-bit registers read both (R407). [DESIGN CHOICE, log 15] -/
def State.busRead (s : State) (a n : Nat) : Nat :=
  match locate a with
  | some p => if n ≤ 4 ∨ p.r.desc.bytes ≠ 4 then s.readPart a n else s.readPart a 4 + 2 ^ 32 * s.readPart (a + 4) 4
  | none => if n ≤ 4 then s.readPart a n else s.readPart a 4 + 2 ^ 32 * s.readPart (a + 4) 4

end Sys2Proof.Machine
end

