-- ==== Sys2Proof/Machine/RegWrite.lean ====
section
/-!
DEFINITION. What a write of each register does (the register tables of chapters 2 to 19). The writes that have commands of their own
act through the same operations as those commands.
-/

namespace Sys2Proof.Machine

/-! ### Writes that are more than their fields -/

/-- An action that a bit of a written word orders. -/
def State.ifBit (s : State) (x n : Nat) (f : State → State) : State := if bit x n = 1 then f s else s

/-- AXIS_CFG: while ENABLE reads 1 only ENABLE, RESUME_MODE and AUTO_SWITCH change, and other differences set CFG_LOCKED. -/
def State.axisCfgWrite (s : State) (a x : Nat) : State :=
  let was := s.on F.AXIS_CFG_ENABLE a
  let red := s.on F.AXIS_CFG_RED_EN a
  let fs := R.AXIS_CFG.desc.flds
  let free : List Fld := [F.AXIS_CFG_ENABLE, F.AXIS_CFG_RESUME_MODE, F.AXIS_CFG_AUTO_SWITCH]
  let fixed := [F.AXIS_CFG_AVG, F.AXIS_CFG_MODE, F.AXIS_CFG_WINDOW, F.AXIS_CFG_SIGN_R, F.AXIS_CFG_SIGN_P, F.AXIS_CFG_RED_EN,
    F.AXIS_CFG_REDUNDANT, F.AXIS_CFG_PRIMARY]
  let differs := fixed.any fun f => decide (s.rd f a ≠ f.of x)
  let s := if was && differs then s.flag F.AXIS_STATUS_CFG_LOCKED a else s
  let s := s.setFlds (if was then free else fs) a 0 x
  let s := if !red && s.on F.AXIS_CFG_RED_EN a then s.recordRedOffset a else s
  s.press fun s =>
    if !was && s.on F.AXIS_CFG_ENABLE a then s.axEnable a
    else if was && !s.on F.AXIS_CFG_ENABLE a then s.axDisable a
    else if s.on F.AXIS_CFG_ENABLE a then s.axTryResume a
    else s

/-- The CTL register of a generator: stops act before ARM. [DESIGN CHOICE, log 61] -/
def State.genCtlWrite (s : State) (k : GenKind) (g x : Nat) : State :=
  s.press fun s =>
    let s := if bit x 2 = 1 then s.flushOrder k g else if bit x 1 = 1 then s.disarmOrder k g else s
    s.ifBit x 0 fun s => s.armOrder k g

/-- SLOT_BYTES and SLOTS follow HAMMER_CFG and SHARE_MIB (R268). [DESIGN CHOICE, log 64] -/
def State.dotGeom (s : State) (c : Nat) : State :=
  let n := s.rd F.HAMMER_CFG_NOZZLES c
  let data := if s.rd F.HAMMER_CFG_DOT_FORMAT c = 1 then cdiv n 4 else cdiv n 8
  let bytes := 64 + 64 * cdiv data 64
  (s.wr F.HAMMER_DOTGEOM_SLOT_BYTES bytes c).wr F.HAMMER_DOTGEOM_SLOTS (s.rd F.HAMMER_DOT_SHARE_MIB c * 2 ^ 20 / bytes) c

/-- HAMMER_CFG: a disabled channel holds HOT at 0, and neither it nor one that has left the group takes part in the group's cool test (R280,
R283). [DESIGN CHOICE, log 64] -/
def State.hammerCfgWrite (s : State) (c x : Nat) : State :=
  let g := s.grpOf c
  let s := (s.setFlds R.HAMMER_CFG.desc.flds c 0 x).dotGeom c
  let s := if s.on F.HAMMER_CFG_ENABLE c then s
    else (s.wr F.HAMMER_STATE_HOT 0 c).setHm c { s.hm c with pinHigh := true }
  s.grpCooled g

/-- NCTX_CFG and NCTX_MAP: the named fields are locked while the channel is armed (R296). [DESIGN CHOICE, log 64] -/
def State.nctxPart (s : State) (r : R) (locked : List Fld) (c x : Nat) : State :=
  if s.armed .fire c then
    let differs := locked.any fun f => decide (s.rd f c ≠ f.of x)
    let s := if differs then s.flag F.NCTX_STATUS_CFG_LOCKED c else s
    s.setFlds (r.desc.flds.filter fun f => !locked.any fun l => decide (l.lo = f.lo)) c 0 x
  else s.setFlds r.desc.flds c 0 x

/-- A written value waits for the channel's next latch load or fire point (R99, R276, R296). -/
def State.hammerWait (s : State) (c : Nat) (f : HammerS → HammerS) : State := s.setHm c (f (s.hm c))

/-- BLW_RAIL: a write that breaks R314, or leaves the set point outside the new range, is ignored as a whole (R565). -/
def State.railWrite (s : State) (k x : Nat) : State :=
  if !s.railRangeOk k (bits x 15 0) (bits x 31 16) then s
  else
    let was := s.rd F.BLW_RAIL_FLOOR_MV k
    let s := s.setFlds R.BLW_RAIL.desc.flds k 0 x
    if s.ready && decide (14 ≤ k ∧ bits x 15 0 ≠ was) then s.setBlw { s.blw with target := s.blw.target.put k (bits x 15 0) 0 } else s

/-- WELD_LOG_PTR.RD: host software has read the entries before RD (R510). -/
def State.logRead (s : State) (rd : Nat) : State :=
  let s := s.wr F.WELD_LOG_PTR_RD rd
  { s with weld := { s.weld with unread := (s.rd F.WELD_LOG_PTR_WR + 256 - rd) % 256 } }

/-- WELD_STATUS: clearing FATAL_LOGGED clears the latched entry (R510). -/
def State.weldStatusWrite (s : State) (x : Nat) : State :=
  let s := s.setFlds R.WELD_STATUS.desc.flds 0 0 x
  s.ifBit x 5 fun s => (List.range 8).foldl (fun s i => s.wr F.WELD_FIRST_FATAL_WORD 0 i) s

/-- WELD_ERR_CFG: SEVERITY is read-only for the codes of the correctable class. -/
def State.errCfgWrite (s : State) (code x : Nat) : State :=
  let fs := R.WELD_ERR_CFG.desc.flds
  s.setFlds (if errDefaultSeverity code = 0 then fs.filter fun f => decide (f.lo ≠ 0) else fs) code 0 x

/-- TRGH_CFG with its SIZE, which is RWK. -/
def State.troughCfgAll (s : State) (t x : Nat) : State := (s.setFld F.TRGH_CFG_SIZE t 0 x).troughCfgWrite t x

/-- TRGH_CTL: the orders of one write act in this order. -/
def State.troughCtl (s : State) (t x : Nat) : State :=
  let s := s.ifBit x 0 fun s => s.troughClear t
  let s := s.ifBit x 1 fun s => s.troughFlush t
  let s := s.ifBit x 3 fun s => s.troughInject t
  s.ifBit x 2 fun s => s.troughMark t

/-- SMBC_CFG: ignored while BUSY reads 1. -/
def State.smbcCfgWrite (s : State) (p x : Nat) : State :=
  if s.on F.SMBC_RSLT_BUSY p then s
  else (s.setFlds R.SMBC_CFG.desc.flds p 0 x).ifBit x 25 fun s => s.smbcClear p

/-- SMB_T_CNT reads 0 (R467). -/
def State.smbClear (s : State) : State :=
  s.clrAll [F.SMB_T_CNT_PROTO_ERRS, F.SMB_T_CNT_PEC_ERRS, F.SMB_T_CNT_WAKE_NACKS, F.SMB_T_CNT_KEY_FAILS]

/-! ### Every register -/

/-- The effect of a write with the full new word `x` of a register instance. A register not named here has no effect beyond its
fields. [DESIGN CHOICE, log 8] -/
def State.regEffect (s : State) (r : R) (i j x : Nat) : State :=
  let plain := s.setFlds r.desc.flds i j x
  match r with
  | .FUNC_MODE => s.modeWrite i (bit x 0)
  | .RESOURCE_CLAIM => s.claim (bits x 7 0) (bits x 15 8) (bits x 31 16) (bits x 63 32)
  | .FLASH_OP => s.flashOp (bits x 7 0) (bits x 20 8)
  | .ENC_CFG => plain.setEncoder i { plain.encoder i with zArmed := decide (bits x 5 4 = 2) }
  | .ENC_STATUS => plain.ifBit x 0 fun s => s.wr F.ENC_STATUS_ILLEGAL_COUNT 0 i
  | .AXIS_CFG => s.axisCfgWrite i x
  | .AXIS_STATUS => plain.ifBit x 4 fun s => (s.setAx i { s.ax i with illegal := false, redEdges := 0, stallSeen := false }).axDisagree i
  | .AXIS_CTL => s.press fun s =>
      ((s.ifBit x 0 fun s => s.axResume i).ifBit x 1 fun s => s.axUseRedundant i).ifBit x 2 fun s => s.axUsePrimary i
  | .CTRIG_CTL => s.genCtlWrite .ctrig i x
  | .PTRIG_CTL => s.genCtlWrite .ptrig i x
  | .FIRE_CTL => s.genCtlWrite .fire i x
  | .PTRIG_CFG => plain.pinLevel i
  | .FIRE_DELAY_NEXT => plain.hammerWait i fun h => { h with wDelay := h.wDelay ++ [⟨s.dt, bits x 19 0, none⟩] }
  | .LEDGER_PEAK => if bits x 17 0 = 0 then s else s.wr F.LEDGER_PEAK_PEAK s.pos.ledger.length
  | .LEDGER_SEL => s.ledgerSelect (bits x 16 0)
  | .LANE_CFG => s.laneCfgWrite i x
  | .LANE_CTL => (s.ifBit x 1 fun s => s.laneClear i).press fun s => s.ifBit x 0 fun s => s.retrain i
  | .LANE_TEST => s.press fun s => s.testWrite i x
  | .LANE_INJECT => s.press fun s => s.injectWrite i x
  | .LGRP_CTL => s.press fun s =>
      if bits x 7 4 = 1 then s.orderSpare i (bits x 3 0) else if bits x 7 4 = 2 then s.listenEnd i else s
  | .COBEX_CTL => (s.ifBit x 1 fun s => s.cobexClear i).press fun s => s.ifBit x 2 fun s => s.linkResetOrder i
  | .COBEX_CMD => s.press fun s => s.hostCmd i (bits x 15 8) (bits x 23 16) (bits x 63 32)
  | .HEARTH_CFG => plain.regeom i
  | .HEARTH_XRES => plain.regeom i
  | .HEARTH_TBL_CTL => s.press fun s => s.ifBit x 0 fun s => s.wr F.HEARTH_TBL_CTL_SWAP_PENDING 1 i
  | .HEARTH_MARK_CTL => s.press fun s => s.markOrder i (bits x 9 8) (bits x 5 4) (bits x 1 0)
  | .HEARTH_REWIND => s.press fun s => s.ifBit x 8 fun s => s.rewind i (bits x 1 0)
  | .HEARTH_CTL => s.ifBit x 0 fun s => s.hearthClear i
  | .HEARTH_EXP_SET => s.press fun s => s.expSet i x
  | .CMP_CFG => if s.on F.CMP_CFG_ENABLE i && decide (bit x 63 = 0) then plain.compareDisable i else plain
  | .CMP_SCALE => s.setScale i (bits x 15 0)
  | .MODEL_CTL => s.press fun s => if bits x 9 8 = 1 then s.modelCommit (bits x 3 0) else s
  | .ANVIL_GCTL => s.ifBit x 0 State.anvilClear
  | .HAMMER_CFG => s.hammerCfgWrite i x
  | .HAMMER_OFFSET => plain.hammerWait i fun h => { h with wOffset := h.wOffset ++ [(s.dt, bits x 31 0, bits x 63 32)] }
  | .HAMMER_DOT => plain.dotGeom i
  | .HAMMER_CTL => (s.ifBit x 0 fun s => s.hammerClear i).press fun s => s.ifBit x 1 fun s => s.hammerFlush i
  | .HGRP_CTL => s.press fun s => s.ifBit x 0 fun s => s.grpResumeWrite i
  | .NCTX_CFG => s.nctxPart r [F.NCTX_CFG_TAKEOVER, F.NCTX_CFG_CHAIN_M1, F.NCTX_CFG_WEAK_BOOST] i x
  | .NCTX_MAP => (s.nctxPart r [F.NCTX_MAP_COL_STEP] i x).hammerWait i fun h =>
      { h with wMap := h.wMap ++ [(s.dt, bits x 63 32, bits x 31 24)] }
  | .NCTX_HEAD => s.headReset i (bits x 31 0)
  | .NCTX_CTL => (s.ifBit x 0 fun s => s.nctxClear i).press fun s => s.ifBit x 1 fun s => s.snapshot i
  | .NCTX => s.contextWrite i j 8 x
  | .BLW_CAP => plain.capMoved (s.rd F.BLW_CAP_P_CAP)
  | .BLW_CTL => (s.ifBit x 1 State.clearPeaks).ifBit x 0 State.blwClear
  | .BLW_RAIL => s.railWrite i x
  | .BLW_WAKE => s.wakeWrite i x
  | .TRGH_CFG => s.troughCfgAll i x
  | .TRGH_WM => s.wmWrite i x
  | .TRGH_PEAK => if bits x 16 0 = 0 then s else s.troughPeakReset i
  | .TRGH_CTL => s.troughCtl i x
  | .TONGS_CFG => s.tongsCfgWrite i x
  | .TONGS_HEAD => s.tongsHeadWrite i x
  | .TONGS_DOORBELL => s.doorbell i
  | .TONGS_CQ_CFG => s.cqCfgWrite i x
  | .TONGS_CQ_RD => s.cqReturn i (bits x 19 0)
  | .TONGS_PACE => s.tongsPaceWrite i x
  | .TONGS_CTL => s.ifBit x 0 fun s => s.tongsClear i
  | .TONGS_TAGS => if bits x 28 16 = 0 then s else s.wr F.TONGS_TAGS_PEAK (s.rd F.TONGS_TAGS_IN_USE)
  | .HEP_QUENCH_CTL => s.quenchCtl x
  | .HEP_LPM => s.ltrWrite (bits x 31 16)
  | .HEP_CTL => s.ifBit x 0 State.hepClear
  | .HEP_APER_CTL => s.ifBit x 0 fun s => s.apertureCommit i
  | .HEP_MSIX_SRC => s.msixSrcWrite i x
  | .STK_GROUP => s.setGroups x
  | .STK_SWEVT => s.softEvent (bits x 8 0)
  | .STK_TASK_SW => s.softTask (bits x 9 0)
  | .STK_CTL => s.ifBit x 0 State.stkClear
  | .STK_CH_CFG => s.chanCfgWrite i x
  | .STK_CH_STAT => s.ifBit x 63 fun s => s.loopClear i
  | .STK_CELL => s.cellWrite i x
  | .STK_CNT => s.cntWrite i (bits x 47 0)
  | .STK_GPIO => s.gpioWrite i x
  | .SMB_T_CFG => plain.ifBit x 24 State.smbClear
  | .SMBC_CFG => s.smbcCfgWrite i x
  | .SMBC_CMD => s.smbcCmd i (bits x 3 0) (bits x 15 9) (bits x 23 16) (bits x 31 24) (bits x 39 32) (decide (bit x 40 = 1)) 0 0
  | .WELD_STATUS => s.weldStatusWrite x
  | .WELD_CTL => s.press fun s => s.weldOrder (bits x 31 28) (bits x 27 24) (bits x 9 0)
  | .WELD_ERR_CFG => s.errCfgWrite i x
  | .WELD_ERR_CNT => if bits x 31 0 = 0 then s else s.wr F.WELD_ERR_CNT_COUNT 0 i
  | .WELD_LOG_PTR => s.logRead (bits x 15 8)
  | .WELD_HOST_CTL => plain.ifBit x 31 fun s => s.hostRecord (bits x 7 0) (bits x 26 16)
  | .WELD_HOST_FIND => s.hostFind (bits x 7 0)
  | .GLB_SEM => s.semWrite i (decide (bit x 31 = 1)) (bits x 47 32)
  | _ => plain

/-- Weld carries a write of a serving Hearth over to the spare that shadows it (R562). -/
def State.mirrored (s : State) (r : R) (i : Nat) : State :=
  if within 0x400000 r.desc.addr 0x403FFF then s.mirrorUnit 1 i else s

/-- Whether a write is ignored as a whole for what it carries, some of it against the register as it stands (R314, R373, R565). -/
def State.ignoredNow (s : State) (r : R) (i x : Nat) : Bool :=
  ignoredValue r x || (match r with
    | .BLW_RAIL => !s.railRangeOk i (bits x 15 0) (bits x 31 16)
    | .TRGH_CFG => !within 1088 (bits x 58 48) 1151
    | _ => false)

/-- A write of one register instance with its full new word: it is locked, ignored, or takes effect as one update; an attempt
on an RWK field after READY is counted, unless the write is ignored as a whole (R19, R22, R565). `mask` covers the bits that the access
writes. -/
def State.regWrite (s : State) (v : Via) (r : R) (i j x mask : Nat) : State :=
  if s.memberOnly r i ∨ (v = .smb ∧ r = .SMB_T_KEY) then s
  else match s.lockFlag r i with
    | some e => s.flag e.1 e.2
    | none =>
      if s.ignoredNow r i x then s.ignoredFlag r i else
      let s := (s.regEffect r i j x).mirrored r i
      if coversRwk r.desc.flds mask then s.rwkAttempt (r.desc.addr + i * r.desc.s1 + j * r.desc.s2) else s

end Sys2Proof.Machine
end

