-- ==== Sys2Proof/Machine/BusWrite.lean ====
section
/-!
DEFINITION. How accesses reach registers: access sizes (R407), halves of 64-bit registers (R107, R564), byte buffers, and the
registers with rules of their own (R40, R288).
-/

namespace Sys2Proof.Machine

/-! ### Halves of 64-bit registers -/

/-- The lower half that an upper-half write applies where none is held: RW fields keep their values, other fields are 0 (R564). -/
def State.lowerAsIs (s : State) (p : Place) : Nat :=
  s.word (p.r.desc.flds.filter fun f => decide (f.acc = .rw ∨ f.acc = .rwk)) p.i p.j % 2 ^ 32

/-- A write of `x` to a place in a 64-bit register: whole, of its lower half, or of its upper half (R564). A whole write discards a
lower half that is held. [DESIGN CHOICE, log 14] -/
def State.writeWide (s : State) (v : Via) (p : Place) (a n x : Nat) : State :=
  let base := a - p.off
  let clear := { s with held := s.held.del base }
  if n = 8 then clear.regWrite v p.r p.i p.j x (2 ^ 64 - 1)
  else if p.off = 0 then { s with held := s.held.put base (x + 1) 0 }
  else match s.held.find base with
    | some low => clear.regWrite v p.r p.i p.j (low - 1 + 2 ^ 32 * x) (2 ^ 64 - 1)
    | none => s.regWrite v p.r p.i p.j (s.lowerAsIs p + 2 ^ 32 * x) (2 ^ 64 - 2 ^ 32)

/-! ### Buffers and registers -/

/-- A write of n bytes in a byte buffer; the RWK buffers of Kindle take writes until READY (R19, R567). [DESIGN CHOICE, log 7] -/
def State.writeBuffer (s : State) (a n x : Nat) : State :=
  match bufferAt a with
  | some .rw => if s.memberData a then s else s.bufWrite a (le n x)
  | some .rwk => if s.ready then s.rwkAttempt a else s.bufWrite a (le n x)
  | _ => s

/-- A write of 4 bytes at a place, or of 8 bytes in a 64-bit register. [DESIGN CHOICE, log 14] -/
def State.writePlace (s : State) (v : Via) (a n x : Nat) : State :=
  match locate a with
  | none => s.writeBuffer a n x
  | some p => if p.r.desc.bytes = 4 then s.regWrite v p.r p.i p.j x (2 ^ 32 - 1) else s.writeWide v p a n x

/-- An aligned access of 4 or 8 bytes (R407): DECIDE_REPLY and the nozzle contexts have rules of their own (R40, R288); 8 bytes
that are no 64-bit register are two 4-byte writes, the lower one first. -/
def State.access (s : State) (v : Via) (a n x : Nat) : State :=
  if within 0x100 a 0x10F then s.replyWrite (a - 0x100) (le n x)
  else if within 0x1800000 a 0x1FFFFFF then
    s.contextWrite ((a - 0x1800000) / 0x20000) ((a - 0x1800000) % 0x20000 / 8) n x
  else
    let wide := match locate a with
      | some p => decide (p.r.desc.bytes ≠ 4)
      | none => false
    if n = 8 ∧ !wide then (s.writePlace v a 4 (x % 2 ^ 32)).writePlace v (a + 4) 4 (x / 2 ^ 32)
    else s.writePlace v a n x

/-- An access with the rules of its path: who is writing, and the gates of the block (R71, R433, R562, R343). [DESIGN CHOICE, log 15] -/
def State.gated (s : State) (v : Via) (w : HeldWrite) : State :=
  s.gate v w fun s => s.access v w.addr w.size w.value

/-- The 8-byte accesses of a longer write, in ascending order (R407). [DESIGN CHOICE, log 15] -/
def pieces (a x : Nat) : Nat → List HeldWrite
  | 0 => []
  | n + 1 => ⟨a, 8, x % 2 ^ 64⟩ :: pieces (a + 8) (x / 2 ^ 64) n

/-- The accesses of a request of a size (R407). [DESIGN CHOICE, log 15] -/
def accesses (a size x : Nat) : List HeldWrite := if size = 4 then [⟨a, 4, x % 2 ^ 32⟩] else pieces a x (size / 8)

/-! ### Reads that latch -/

/-- A 4-byte read: of the lower half of a 64-bit register it latches the upper half, which the next read of the upper half
returns (R107). -/
def State.read4 (s : State) (a : Nat) : Nat × State :=
  match locate a with
  | some p =>
    if p.r.desc.bytes = 8 ∧ p.off = 0 then
      let x := s.regValue p.r p.i p.j
      (x % 2 ^ 32, { s with upper := s.upper.put a (x / 2 ^ 32 + 1) 0 })
    else if p.r.desc.bytes = 8 then
      match s.upper.find (a - 4) with
      | some u => (u - 1, { s with upper := s.upper.del (a - 4) })
      | none => (s.busRead a 4, s)
    else (s.busRead a 4, s)
  | none => (s.busRead a 4, s)

/-- A read of a request: its data, little-endian, from accesses in ascending order (R407). -/
def State.readBytes (s : State) (a size : Nat) : Bytes × State :=
  if size = 4 then
    let r := s.read4 a
    (le 4 r.1, r.2)
  else ((List.range (size / 8)).flatMap fun k => le 8 (s.busRead (a + 8 * k) 8), s)

end Sys2Proof.Machine
end

