-- ==== Sys2Proof/Machine/Image.lean ====
section
/-!
DEFINITION. Configuration images as Kindle reads them: headers, section tables and the findings of verification (R49 to R54, R56,
R566).
-/

namespace Sys2Proof.Machine

/-- Flash address of image slot s: 0 is slot A, 1 is slot B (R48). -/
def slotBase (s : Nat) : Nat := 0x4000000 * s

/-- The 256-byte header of a slot (R49). -/
def State.imageHeader (s : State) (slot : Nat) : Bytes := s.flashRead (slotBase slot) 256

/-- SEQUENCE of a slot. -/
def State.imageSeq (s : State) (slot : Nat) : Nat := leAt (s.imageHeader slot) 8 8

/-- A slot is a candidate (R53). SECTION_COUNT and the reserved bytes of the header are no part of R53 or R56, and the header is accepted
whatever they hold. [DESIGN CHOICE, log 25] -/
def State.candidate (s : State) (slot : Nat) : Bool :=
  let h := s.imageHeader slot
  let len := leAt h 20 4
  decide (leAt h 0 4 = 0x46434B42 ∧ leAt h 4 2 = 1 ∧ leAt h 16 2 = 0x5120)
    && decide (leAt h 248 4 = crc32c (h.take 248)) && decide (leAt h 255 1 = 0x5A)
    && within 1 (leAt h 8 8) 0xFFFFFFFFFFFFFFFE && within 1664 len 50331648 && decide (len % 64 = 0)

/-- Candidates in the order of their verification: descending SEQUENCE, slot A first when equal (R53). -/
def State.candidates (s : State) : List Nat :=
  let l := [0, 1].filter s.candidate
  if l.length = 2 ∧ s.imageSeq 0 < s.imageSeq 1 then [1, 0] else l

/-- One entry of the section table (R50). -/
structure SecEntry where
  typ : Nat
  version : Nat
  offset : Nat
  len : Nat
  crc : Nat
  deriving DecidableEq, Repr

/-- SECTION_COUNT of a slot. -/
def State.sectionCount (s : State) (slot : Nat) : Nat := leAt (s.imageHeader slot) 6 2

/-- The section table of a slot. -/
def State.sectionTable (s : State) (slot : Nat) : List SecEntry :=
  (List.range (s.sectionCount slot)).map fun i =>
    let e := s.flashRead (slotBase slot + 256 + 16 * i) 16
    ⟨leAt e 0 2, leAt e 2 2, leAt e 4 4, leAt e 8 4, leAt e 12 4⟩

/-- The bytes of a section. -/
def State.sectionBytes (s : State) (slot : Nat) (e : SecEntry) : Bytes := s.flashRead (slotBase slot + e.offset) e.len

/-- Whether a section type is assigned (R51). Type 0x0000 has no row there and is taken as reserved. [DESIGN CHOICE, log 25] -/
def typeAssigned (t : Nat) : Bool := within 1 t 4 || within 0x10 t 0x1C || decide (0x8000 ≤ t)

/-- A finding: check code, section type and ENTRY (R56). [DESIGN CHOICE, log 24] -/
structure Finding where
  check : Nat
  sec : Nat
  entry : Nat
  deriving DecidableEq, Repr

/-- The findings of the section table: reserved or repeated types in table order, then missing mandatory types (R566).
[DESIGN CHOICE, log 24; DESIGN CHOICE, log 25] -/
def tableFinding (t : List SecEntry) : Option Finding :=
  let at_ := t.zipIdx.findSome? fun e =>
    if !typeAssigned e.1.typ || (t.take e.2).any (fun x => decide (x.typ = e.1.typ))
    then some ⟨2, e.1.typ, e.2⟩ else none
  match at_ with
  | some f => some f
  | none => [1, 2, 3, 4].findSome? fun m => if t.any fun e => decide (e.typ = m) then none else some ⟨2, m, 0⟩

/-- Whether VERSION and the place of a section are as R50 gives them. [DESIGN CHOICE, log 25] -/
def placeOk (count imageLen : Nat) (e : SecEntry) : Bool :=
  decide (e.version = 1 ∧ e.offset % 64 = 0 ∧ 256 + 16 * count ≤ e.offset ∧ e.len % 64 = 0 ∧ 64 ≤ e.len)
    && decide (e.offset + e.len ≤ imageLen)

/-! ### Results of checks -/

/-- What a check of configuration answers: the first finding, as check code and ENTRY, and the state with the content applied so
far. -/
abbrev Res := Option (Nat × Nat) × State

/-- Go on while there is no finding. -/
def Res.bind (r : Res) (f : State → Res) : Res := if r.1.isSome then r else f r.2

/-- A finding where a condition fails. [DESIGN CHOICE, log 26] -/
def State.expect (s : State) (ok : Bool) (code entry : Nat) : Res := (if ok then none else some (code, entry), s)

/-- Apply what has been checked. -/
def State.accept (s : State) : Res := (none, s)

/-- Take a list in order, up to the first finding. [DESIGN CHOICE, log 24] -/
def walk {α : Type} (f : α → State → Res) : List α → State → Res
  | [], s => s.accept
  | x :: xs, s => (f x s).bind (walk f xs)

/-- The first byte from `a` to below `b` that is not 0x00. -/
def firstNonzero (bs : Bytes) (a b : Nat) : Option Nat :=
  (upto a (b - a)).find? fun i => decide (leAt bs i 1 ≠ 0)

/-- Reserved bytes hold 0x00: check 0x0B at the first that does not (R56). -/
def State.reservedZero (s : State) (bs : Bytes) (a b : Nat) : Res :=
  ((firstNonzero bs a b).map fun i => (0x0B, i), s)

end Sys2Proof.Machine
end

