-- ==== Sys2Proof/Machine/RegLists.lean ====
section
/-!
DEFINITION. Register lists of a configuration image: the entries, the checks of each, and their application (R56, R106, R205, R259,
R285, R312, R346, R401, R445, R462, R489, R524, R564, R565).
-/

namespace Sys2Proof.Machine

/-- One entry of a register list: the BAR0 address of the write, none where the entry names no unit; its size; its value. -/
structure ListEntry where
  addr : Option Nat
  size : Nat
  value : Nat
  deriving DecidableEq, Repr

/-- Whether an address lies in the registers of the chapter that configures from a section type (R555, R556). -/
def inChapter (t a : Nat) : Bool :=
  let o := (a - 0x1400000) % 0x10000
  match t with
  | 0x01 => decide (a < 0x10000) || within 0xD0000 a 0xDFFFF
  | 0x10 => within 0x40000 a 0x7FFFF
  | 0x12 => within 0x300000 a 0x37FFFF
  | 0x13 => within 0x400000 a 0x81FFFF
  | 0x14 => within 0xC00000 a 0xE1FFFF || within 0x1200000 a 0x121FFFF
  | 0x15 => within 0x1400000 a 0x17FFFFF && (decide (o < 0x4000) || within 0x8000 o 0xBFFF)
  | 0x16 => (within 0x1400000 a 0x17FFFFF && (within 0x4000 o 0x7FFF || decide (0xC000 ≤ o))) || within 0x1800000 a 0x1FFFFFF
  | 0x17 => within 0x20000 a 0x2FFFF
  | 0x19 => within 0x2400000 a 0x27FFFFF
  | 0x1A => within 0x80000 a 0xBFFFF
  | 0x1B => within 0xC0000 a 0xCFFFF
  | 0x1C => within 0x30000 a 0x3FFFF
  | _ => false

/-- The entries of a list of 16-byte entries with OFFSET, SIZE and VALUE, OFFSET taken from a base (R106, R285). -/
def listAt (bs : Bytes) (base off n : Nat) : List ListEntry :=
  (List.range (n / 16)).map fun i =>
    let o := off + 16 * i
    ⟨some (base + leAt bs o 4), leAt bs (o + 4) 4, leAt bs (o + 8) 8⟩

/-- The entries of a Hearth list, for the physical Hearth that serves each logical one (R205). -/
def State.hearthList (s : State) (bs : Bytes) (n : Nat) : List ListEntry :=
  (List.range (n / 16)).map fun i =>
    let o := 4160 + 16 * i
    let off := leAt bs (o + 4) 4
    let h := leAt bs o 2
    let a := if h < 256 ∧ off < 0x4000 then (s.hearthOf h).map fun p => 0x400000 + 0x4000 * p + off else none
    ⟨a, leAt bs (o + 2) 2, leAt bs (o + 8) 8⟩

/-- Padding entries at the end of a list are zero; `zero` is what a zero entry spells. -/
def dropPadding (zero : ListEntry → Bool) (l : List ListEntry) : List ListEntry := (l.reverse.dropWhile zero).reverse

/-! ### Checks of an entry -/

/-- The check code that a word of a register fails by its content, where a check of its own covers it (R56, R285, R346, R401). -/
def wordCode (r : R) (i x : Nat) : Option Nat :=
  match r with
  | .AXIS_CFG => if bit x 11 = 1 ∧ bits x 10 7 = bits x 6 3 then some 7 else none
  | .FIRE_MINPER => if bits x 31 0 < 8000 then some 8 else none
  | .HAMMER_CFG => if 16384 < bits x 14 0 ∨ bits x 37 32 < 4 then some 8 else none
  | .HGRP_CFG => if 64 < bits x 10 4 then some 8 else none
  | .BLW_CAP => if 6160 < bits x 15 0 then some 9 else none
  | .BLW_RAIL =>
    let lo := bits x 15 0
    let hi := bits x 31 16
    if !(within 500 lo 850 && within 500 hi 850 && decide (lo ≤ hi)) ∨ (8 ≤ i ∧ lo < 620)
        ∨ (14 ≤ i ∧ ¬(lo = hi ∧ 700 ≤ lo)) then some 9 else none
  | .TONGS_HEAD => if x % 32 ≠ 0 then some 0xA else none
  | .TONGS_CQ_BASE => if x % 64 ≠ 0 then some 0xA else none
  | _ => none

/-- A Trough number outside 0 to 1,535. -/
def badTroughNo (v : Nat) : Bool := decide (1535 < v)

/-- A word of a register holds a value outside the range that its chapter states, which a write would store all the same (R56, check 0x0B;
R565). [DESIGN CHOICE, log 93] -/
def outOfRange (r : R) (x : Nat) : Bool :=
  match r with
  | .CTRIG_CFG => badTroughNo (bits x 26 16)
  | .CTRIG_FRAME => !within 1 (bits x 16 0) 65536
  | .CTRIG_MINPER | .PTRIG_MINPER => decide (bits x 31 0 < 20)
  | .FIRE_MINPER => decide (1048575 < bits x 31 0)
  | .CTRIG_QUOTA => !within 1 (bits x 17 0) 131072
  | .CTRIG_TIMEOUT => decide (bits x 63 32 = 0) || !within 1 (bits x 31 0) 10000000
  | .PTRIG_PULSE => decide (bits x 19 0 = 0)
  | .COBEX_CFG => !within 1 (bits x 12 8) 16
  | .COBEX_EVT => badTroughNo (bits x 10 0)
  | .HEARTH_CFG => !within 1 (bits x 16 0) 65536 || !within 1 (bits x 23 20) 4
  | .HEARTH_ROWS => !within 1 (bits x 14 0) 16384
  | .HEARTH_XRES => !within 64 (bits x 16 0) 65536 || decide (bits x 16 0 % 64 ≠ 0)
  | .HEARTH_TAG => badTroughNo (bits x 10 0)
  | .HEARTH_STAT_CFG => badTroughNo (bits x 10 0)
  | .CMP_CELL => !within 1 (bits x 63 51) 4096 || !within 1 (bits x 47 35) 4096 || !within 1 (bits x 31 19) 4096
      || !within 1 (bits x 15 9) 127 || !within 1 (bits x 8 0) 256
  | .HAMMER_CFG => decide (bits x 53 52 = 0)
  | .HAMMER_LOG => badTroughNo (bits x 10 0)
  | .HGRP_CFG => decide (bits x 10 4 = 0 ∨ bits x 31 12 = 0)
  | .NCTX_REC => badTroughNo (bits x 10 0)
  | .BLW_THERM => !within 1 (bits x 23 16) 20
  | .BLW_POWER => decide (2400 < bits x 63 48)
  | .BLW_GAP => badTroughNo (bits x 58 48) || badTroughNo (bits x 42 32)
  | .BLW_RAIL => decide (31 < bits x 47 40 ∧ bits x 47 40 ≠ 0xFF)
  | .HEP_LINK_CFG => !within 1 (bits x 3 0) 6
  | .WELD_OUT => badTroughNo (bits x 58 48) || badTroughNo (bits x 42 32)
  | _ => false

/-- Kindle raises an image value of P_CAP below 150 W to 150 W and sets CAP_RAISED (R326). -/
def raisedCap (x : Nat) : Nat := if bits x 15 0 < 2400 then x - bits x 15 0 + 2400 else x

/-- Bits of a register that a write may carry: those of fields that are not read-only. -/
def writable (fs : List Fld) : Nat :=
  (fs.map fun f => if f.acc = .ro then 0 else (2 ^ f.w - 1) * 2 ^ f.lo).sum

/-- A register-list write at a place: the whole word that the register then takes, and the bits that the entry carries; none for
a lower half, which takes effect with the upper half (R564). -/
def State.listWord (s : State) (p : Place) (a n x : Nat) : Option (Nat × Nat) :=
  if p.r.desc.bytes = 4 then some (x % 2 ^ 32, 2 ^ 32 - 1)
  else if n = 8 then some (x, 2 ^ 64 - 1)
  else if p.off = 0 then none
  else
    let low := match s.held.find (a - 4) with
      | some l => l - 1
      | none => s.lowerAsIs p
    some (low + 2 ^ 32 * (x % 2 ^ 32), 2 ^ 64 - 1)

/-- Whether the RW and RWK fields of a register hold a word. -/
def State.holds (s : State) (p : Place) (x : Nat) : Bool :=
  p.r.desc.flds.all fun f => decide (¬(f.acc = .rw ∨ f.acc = .rwk)) || decide (s.rd f p.i p.j = f.of x)

/-- The places that an entry writes: one register, or two 32-bit registers (R407). -/
def placesOf (a n : Nat) : Option (List (Place × Nat)) :=
  match locate a with
  | none => none
  | some p =>
    if n = 4 ∨ p.r.desc.bytes = 8 then some [(p, 0)]
    else (locate (a + 4)).map fun q => [(p, 0), (q, 32)]

/-- The finding at one register of an entry: a code of its own before 0x0B. -/
def State.placeCode (s t : State) (p : Place) (a n x : Nat) : Option Nat :=
  match s.listWord p a n x with
  | none => if x % 2 ^ 32 &&& writable p.r.desc.flds % 2 ^ 32 = x % 2 ^ 32 then none else some 0xB
  | some w =>
    match wordCode p.r p.i w.1 with
    | some c => some c
    | none =>
      let want := if p.r = .BLW_CAP then raisedCap w.1 else w.1
      if t.ignoredNow p.r p.i want ∨ outOfRange p.r want ∨ w.1 &&& writable p.r.desc.flds ≠ w.1 ∨ !t.holds p want then some 0xB else none

/-- The effect of an entry. -/
def State.listWrite (s : State) (a n x : Nat) : State :=
  match locate a with
  | some p =>
    if p.r = .BLW_CAP ∧ bits x 15 0 < 2400 then
      (s.access .kindle a n (raisedCap x)).flag F.BLW_STATUS_CAP_RAISED
    else s.access .kindle a n x
  | none => s.access .kindle a n x

/-- Whether an entry is held back until READY: of section 0x0010 one that names a CTL register (R106), of 0x0019 one that writes
ENABLE = 1 (R401), of 0x001A one that sets ENABLE of a channel or makes a GPIO an output (R462). -/
def heldBack (t a n x : Nat) : Bool :=
  let hi := if n = 8 then x / 2 ^ 32 else x
  match locate a with
  | none => false
  | some p =>
    let upper := decide (n = 8 ∨ p.off = 4)
    if t = 0x10 then decide (p.r = .AXIS_CTL ∨ p.r = .CTRIG_CTL ∨ p.r = .PTRIG_CTL ∨ p.r = .FIRE_CTL)
    else if t = 0x19 then decide (p.r = .TONGS_CFG ∧ upper ∧ bit hi 31 = 1)
    else if t = 0x1A then decide (upper ∧ ((p.r = .STK_CH_CFG ∧ bit hi 31 = 1) ∨ (p.r = .STK_GPIO ∧ bits hi 31 30 ≠ 0)))
    else false

/-- Whether an entry writes the lower half of a 64-bit register that no later entry completes (R564). -/
def loneLower (e : ListEntry) (later : List ListEntry) : Bool :=
  match e.addr with
  | none => false
  | some a => match locate a with
    | none => false
    | some p => decide (e.size = 4 ∧ p.r.desc.bytes = 8 ∧ p.off = 0)
        && !later.any fun x => decide (x.addr = some (a + 4) ∧ x.size = 4)

/-- One entry of the list of section type t: its checks and its effect. `dry` is verification, in which an entry that is held
back takes effect in its place; otherwise it is kept for READY. -/
def State.listEntry (s : State) (dry : Bool) (t idx : Nat) (e : ListEntry) (later : List ListEntry) : Res :=
  match e.addr with
  | none => (some (0x0B, idx), s)
  | some a =>
    let shape := decide ((e.size = 4 ∨ e.size = 8) ∧ a % e.size = 0) && inChapter t a
      && (decide (e.size = 8) || decide (e.value < 2 ^ 32)) && !loneLower e later
    match placesOf a e.size with
    | none => (some (0x0B, idx), s)
    | some ps =>
      if !shape then (some (0x0B, idx), s)
      else if dry then
        let u := s.listWrite a e.size e.value
        let codes := ps.filterMap fun p =>
          if ps.length = 1 then s.placeCode u p.1 a e.size e.value
          else s.placeCode u p.1 (a + p.2 / 8) 4 (e.value / 2 ^ p.2 % 2 ^ 32)
        let loops := !s.on F.STK_STATUS_CYCLE_REFUSED && u.on F.STK_STATUS_CYCLE_REFUSED
        if loops then (some (5, idx), s)
        else match codes with
          | [] => (none, u)
          | c :: cs => (some (cs.foldl min c, idx), s)
      else if heldBack t a e.size e.value then
        (none, { s with kindle := { s.kindle with heldWrites := s.kindle.heldWrites ++ [⟨a, e.size, e.value⟩] } })
      else (none, s.listWrite a e.size e.value)

/-- A list in order. -/
def State.listRun (s : State) (dry : Bool) (t : Nat) : Nat → List ListEntry → Res
  | _, [] => s.accept
  | i, e :: es => (s.listEntry dry t i e es).bind fun s => s.listRun dry t (i + 1) es

/-- A register list with its padding. -/
def State.regList (s : State) (dry : Bool) (t : Nat) (zero : ListEntry → Bool) (l : List ListEntry) : Res :=
  s.listRun dry t 0 (dropPadding zero l)

/-- The list of a section in the layout of R285: LIST_BYTES, reserved bytes up to 63, then the list. -/
def State.headedList (s : State) (dry : Bool) (t base : Nat) (bs : Bytes) (from_ : Nat := 4) : Res :=
  let n := leAt bs 0 4
  (s.reservedZero bs from_ 64).bind fun s =>
    s.regList dry t (fun e => decide (e.addr = some base ∧ e.size = 0 ∧ e.value = 0)) (listAt bs base 64 n)

end Sys2Proof.Machine
end

