-- ==== Sys2Proof/Machine/Sections.lean ====
section
/-!
DEFINITION. The sections of a configuration image: what each loads and the findings of each (R56, R57 to R64, R106, R123, R144, R205,
R259, R285, R312, R346, R371, R401, R445, R462, R489, R524, R566).
-/

namespace Sys2Proof.Machine

/-! ### Placement in HBM -/

/-- HBM byte offset of the table banks of a logical Hearth: in the reserved 4 GiB, which the model places first (log 31).
[DESIGN CHOICE, log 31] -/
def tableBase (h : Nat) : Nat := 0x120000 * h

/-- HBM byte offset of the fire-log ring of a channel. [DESIGN CHOICE, log 31] -/
def flogBase (c : Nat) : Nat := 0x20000000 + 0x800000 * c

/-- HBM byte offset of the dot store: it follows the reserved 4 GiB. [DESIGN CHOICE, log 31] -/
def dotStoreBase : Nat := 2 ^ 32

/-- Ring size of a logical Hearth in MiB, and SIZE_MIB of its stream st (R567). -/
def State.ringMib (s : State) (h : Nat) : Nat := fromLe (s.bufRead (0x12040 + 4 * h) 4)
def State.streamMib (s : State) (h st : Nat) : Nat := fromLe (s.bufRead (0x13000 + 16 * h + 4 * st) 4)

/-- Size of the dot store in GiB (R57). -/
def State.dotGib (s : State) : Nat := fromLe (s.bufRead 0x12000 1)

/-- The placement of one Hearth: its ring at a base in MiB, its tables, its stream regions and their geometry (R567). [DESIGN CHOICE, log 31] -/
def State.placeHearth (s : State) (h base : Nat) : State :=
  match s.hearthOf h with
  | none => s
  | some n =>
    let s := (s.wr F.HEARTH_TBL_BASE_OFFSET (tableBase h) n).wr F.HEARTH_RING_BASE_MIB base n
    let s := s.wr F.HEARTH_RING_SIZE_MIB (s.ringMib h) n
    let s := (List.range 4).foldl (fun (r : Nat × State) st =>
      let m := s.streamMib h st
      (r.1 + m, (r.2.wr F.HEARTH_SREGION_OFFSET_MIB r.1 n st).wr F.HEARTH_SREGION_SIZE_MIB m n st)) (0, s)
    let s := s.2.setHth n { s.2.hth n with scfg := (List.range 4).map (s.2.scfgWord n), roi := s.2.roiWord n }
    s.regeom n

/-- Every register that reports a placement in HBM (R567): the dot store, then the rings in ascending logical Hearth. [DESIGN CHOICE, log 31] -/
def State.place (s : State) : State :=
  let s := s.wr F.ID_MEM_DOT_STORE_GIB s.dotGib
  let s := ((List.range 64).foldl (fun (r : Nat × State) c =>
    let t := ((r.2.wr F.HAMMER_DOTBASE_VALUE r.1 c).wr F.HAMMER_FLOG_VALUE (flogBase c) c).dotGeom c
    (r.1 + 2 ^ 20 * t.rd F.HAMMER_DOT_SHARE_MIB c, t)) (dotStoreBase, s)).2
  ((List.range 256).foldl (fun (r : Nat × State) h =>
    (r.1 + r.2.ringMib h, r.2.placeHearth h r.1)) (1024 * (4 + s.dotGib), s)).2

/-- BASE of every Trough, in ascending order (R348). [DESIGN CHOICE, log 81] -/
def State.placeTroughs (s : State) : State :=
  ((List.range 1536).foldl (fun (r : Nat × State) t =>
    (r.1 + r.2.rd F.TRGH_CFG_SIZE t, r.2.wr F.TRGH_CFG_BASE r.1 t)) (0, s)).2

/-! ### Findings that the loaded state shows -/

/-- The least instance below n with a finding. -/
def firstBad (n : Nat) (p : Nat → Bool) (code : Nat) (entry : Nat → Nat := id) : Option (Nat × Nat) :=
  ((List.range n).find? p).map fun i => (code, entry i)

/-- An aperture's shadow set that R412 would reject as BAD_WINDOW (R445). -/
def State.badWindow (s : State) (a : Nat) : Bool :=
  let size := s.rd F.HEP_APER_SHD_SIZE_MIB a
  s.on F.HEP_APER_SHD_ENABLE a && decide (size = 0 ∨ 8192 < size ∨ 98304 < s.rd F.HEP_APER_SHD_BASE_MIB a + size)

/-- The findings of KINDLE_PART (R56, R57). -/
def State.partitionFinding (s : State) : Option (Nat × Nat) :=
  let d := s.dotGib
  if !within 4 d 32 then some (3, 0)
  else match firstNonzero (s.bufRead 0x12000 64) 1 64 with
    | some i => some (0xB, i)
    | none =>
      match firstBad 256 (fun h => decide (s.ringMib h ≠ 0) && !within 64 (s.ringMib h) 90112) 3 fun h => 64 + 4 * h with
      | some f => some f
      | none => if (92 - d) * 1024 < ((List.range 256).map s.ringMib).sum then some (3, 0) else none

/-- The entry of a bound port breaks R144 or R175. -/
def State.badPort (s : State) (p : Nat) : Bool :=
  s.on F.COBEX_CFG_BOUND p &&
    (let h := s.rd F.COBEX_CFG_HEARTH p
     let n := s.rd F.COBEX_CFG_LANE_COUNT p
     let m := s.rd F.COBEX_CFG_MASTER p
     let peers := (List.range 512).filter fun q => s.on F.COBEX_CFG_BOUND q && decide (s.rd F.COBEX_CFG_HEARTH q = h)
     let rate := fun (q : Nat) => s.rd F.LANE_CFG_RATE (s.sliceOf q)
     !within 1 n 16 || decide (peers.length ≠ n) || decide (p / 64 ≠ h / 32)
       || !(peers.all fun q => decide (s.rd F.COBEX_CFG_LANE_COUNT q = n ∧ rate q = rate p ∧ s.rd F.COBEX_CFG_MASTER q = m))
       || !((List.range n).all fun i => peers.any fun q => decide (s.rd F.COBEX_CFG_LANE_INDEX q = i))
       || !(peers.any fun q => decide (q = m ∧ s.rd F.COBEX_CFG_LANE_INDEX q = 0)))

/-- The largest band delay of a Hearth (R186). -/
def State.maxDelay (s : State) (n : Nat) : Nat :=
  [F.HEARTH_BAND_DELAY0, F.HEARTH_BAND_DELAY1, F.HEARTH_BAND_DELAY2, F.HEARTH_BAND_DELAY3].zipIdx.foldl
    (fun m f => if f.2 ≤ s.rd F.HEARTH_CFG_BANDS_M1 n then max m (s.rd f.1 n) else m) 0

/-- A knot table has an outside knot between two valid ones (R187). -/
def innerHole (k : List Nat) : Bool :=
  let core := ((k.dropWhile fun x => decide (x = knotNone)).reverse).dropWhile fun x => decide (x = knotNone)
  core.any fun x => decide (x = knotNone)

/-- Knots of a calibration table that are in use: one per 64 columns and one more (R187). -/
def State.knotCount (s : State) (n : Nat) : Nat := s.rd F.HEARTH_XRES_OUT_WIDTH n / 64 + 1

/-- A Hearth breaks R186, R187 or R194. [DEDUCED, log 27] -/
def State.badHearth (s : State) (h : Nat) : Bool :=
  match s.hearthOf h with
  | none => false
  | some n =>
    let scan := s.rd F.HEARTH_CFG_KIND n = 1 ∧ s.rd F.CTRIG_FRAME_LINES h ≤ s.maxDelay n
    let comp := s.on F.HEARTH_CFG_COMPARE_EN n && !(s.on F.HEARTH_SCFG_ENABLE n 0
      && decide (s.rd F.HEARTH_SCFG_TAP n 0 = 7 ∧ s.rd F.HEARTH_SCFG_DECIM_M1 n 0 = 0 ∧ s.rd F.HEARTH_SCFG_CLASS n 0 = 0))
    let hole := (List.range (s.rd F.HEARTH_CFG_BANDS_M1 n + 1)).any fun b =>
      innerHole ((List.range (s.knotCount n)).map fun i =>
        fromLe (s.hbmRead (tableBase h + 0x80000 + 0x4000 * b + 4 * i) 4))
    decide scan || hole || comp

/-- Samples of a line beyond what R179, R184 and HEARTH_XRES permit: a finding of check 0x0B over two registers. [DESIGN CHOICE, log 93] -/
def State.badShape (s : State) (h : Nat) : Bool :=
  match s.hearthOf h with
  | none => false
  | some n =>
    let b := s.rd F.HEARTH_CFG_BANDS_M1 n + 1
    let w := s.rd F.HEARTH_CFG_WIDTH n
    decide (65536 < w * b ∨ 65536 < s.rd F.HEARTH_XRES_OUT_WIDTH n * b)
      || (decide (s.rd F.HEARTH_CFG_KIND n = 0) && (decide (16384 < w ∨ b ≠ 1) || decide (s.maxDelay n ≠ 0)))

/-- A Hearth whose billets exceed 8,192 samples a line (R222). -/
def State.badCols (s : State) (h : Nat) : Bool :=
  match s.hearthOf h with
  | none => false
  | some n => decide (8192 < 64 * s.rd F.CMP_CFG_BILLET_COLS h * (s.rd F.HEARTH_CFG_BANDS_M1 n + 1))

/-- A Trough setting that breaks R348, R359 or R371. [DESIGN CHOICE, log 81] -/
def State.badTrough (s : State) (t : Nat) : Bool :=
  let n := s.rd F.TRGH_CFG_SIZE t
  let hi := s.rd F.TRGH_WM_HIGH_WM t
  (decide (n ≠ 0) && !within 16 n 65536) || (s.on F.TRGH_CFG_ENABLE t && decide (n = 0))
    || (s.on F.TRGH_WM_WM_EN t && !decide (s.rd F.TRGH_WM_LOW_WM t < hi ∧ hi ≤ n))

/-- Registers of one kind whose words fail a check of their own. [DESIGN CHOICE, log 24] -/
def State.wordsFinding (s : State) (r : R) : Option (Nat × Nat) :=
  (List.range r.desc.n1).findSome? fun i => (wordCode r i (s.word r.desc.flds i 0)).map fun c => (c, i)

/-- The first register of the chapter that a section type configures, in address order, whose word as it stands holds a value outside its
stated range (R56, R72). [DESIGN CHOICE, log 93] -/
def State.regsFinding (s : State) (t : Nat) : Option (Nat × Nat) :=
  s.regs.findSome? fun e =>
    let a := e.1 / 32 * 4
    if inChapter t a then
      match locate a with
      | some p => if outOfRange p.r (s.word p.r.desc.flds p.i p.j) then some (0xB, p.i) else none
      | none => none
    else none

/-- The findings about a section type that the loaded registers show, fields of lower types among them (R56, R566). A FINISH
takes them as they stand. [DESIGN CHOICE, log 24; DEDUCED, log 27] -/
def State.stateFinding (s : State) (t : Nat) : Option (Nat × Nat) :=
  match t with
  | 0x01 => firstBad 16 s.badWindow 0xB
  | 0x03 => firstBad 16 (fun a => s.on F.HEP_APER_SHD_ENABLE a && decide (s.owner 0xB a ≠ hostOwner)) 0xB
  | 0x04 => s.partitionFinding
  | 0x10 => (s.wordsFinding .AXIS_CFG).or (s.wordsFinding .FIRE_MINPER)
  | 0x12 => firstBad 512 s.badPort 6
  | 0x13 => (firstBad 256 (fun h => decide (s.ringMib h < ((List.range 4).map (s.streamMib h)).sum)) 3 fun h => 64 + 16 * h).or
      ((firstBad 256 s.badHearth 6).or (firstBad 256 s.badShape 0xB))
  | 0x14 => firstBad 256 s.badCols 6
  | 0x15 => (s.wordsFinding .HGRP_CFG).or
      (if s.dotGib * 1024 < ((List.range 64).map fun c => s.rd F.HAMMER_DOT_SHARE_MIB c).sum then some (3, 0) else none)
  | 0x17 => (s.wordsFinding .BLW_CAP).or (s.wordsFinding .BLW_RAIL)
  | 0x18 => (firstBad 1536 s.badTrough 0xB).or
      (if 786432 < ((List.range 1536).map fun t => s.rd F.TRGH_CFG_SIZE t).sum then some (3, 0) else none)
  | 0x19 => (s.wordsFinding .TONGS_HEAD).or (s.wordsFinding .TONGS_CQ_BASE)
  | 0x1A => if s.combLoop then some (5, 0) else none
  | _ => none

/-! ### Sections -/

/-- Section 0x0002: function modes (R64). -/
def State.modeSection (s : State) (bs : Bytes) : Res :=
  let fn := fun (i : Nat) => leAt bs (8 * i) 1
  (walk (fun i s =>
    let f := fn i
    let m := leAt bs (8 * i + 1) 1
    let t := leAt bs (8 * i + 4) 4
    let ok := within 1 f 9 && !((List.range i).any fun j => decide (fn j = f)) && decide (m ≤ 1) && within 1 t 10000000
    (s.expect ok 4 i).bind fun s => (s.expect (decide (leAt bs (8 * i + 2) 2 = 0)) 0xB i).bind fun s =>
      ((s.wr F.FUNC_MODE_CURRENT m f).wr F.FUNC_MODE_REQUESTED m f |>.wr F.FUNC_TIMEOUT_TIMEOUT_US t f).accept)
    (List.range 9) s).bind fun s => s.reservedZero bs 72 128

/-- Section 0x0003: resource ownership (R59, R60). -/
def State.ownerSection (s : State) (bs : Bytes) : Res :=
  let n := bs.length / 8
  let es := (List.range n).map fun i => (leAt bs (8 * i) 1, leAt bs (8 * i + 1) 1, leAt bs (8 * i + 2) 2, leAt bs (8 * i + 4) 4)
  let used := es.takeWhile fun e => decide (e ≠ (0, 0, 0, 0))
  (walk (fun (e : (Nat × Nat × Nat × Nat) × Nat) s =>
    let c := e.1.1
    let i := e.1.2.2.1
    let o := e.1.2.2.2
    let dup := (used.take e.2).any fun x => decide (x.1 = c ∧ x.2.2.1 = i)
    (s.expect (!dup) 1 e.2).bind fun s =>
      (s.expect (decide (e.1.2.1 = 0 ∧ i < resCount c)) 0xB e.2).bind fun s =>
        (s.expect ((decide (o = hostOwner) || srcExists o) && mayOwn c i o) 0xC e.2).bind fun s => (s.setOwner c i o).accept)
    used.zipIdx s).bind fun s => s.reservedZero bs (8 * used.length) bs.length

/-- Section 0x0004: the memory partition goes into KINDLE_PART (R57, R567). -/
def State.partSection (s : State) (bs : Bytes) : Res := (s.bufWrite 0x12000 bs).accept

/-- Whether the entry of the lane equalisation table at an offset keeps its ranges (R123). -/
def eqOk (bs : Bytes) (o : Nat) : Bool :=
  let b := fun (i : Nat) => leAt bs (o + i) 1
  let d1 := sOf 8 (b 1)
  let d2 := sOf 8 (b 2)
  decide (b 0 ≤ 15 ∧ -31 ≤ d1 ∧ d1 ≤ 31 ∧ -15 ≤ d2 ∧ d2 ≤ 15 ∧ b 3 ≤ 31 ∧ b 4 ≤ 15 ∧ b 5 ≤ 7 ∧ b 6 ≤ 15 ∧ b 7 ≤ 7)

/-- Section 0x0011: the lane equalisation table (R123). -/
def State.eqSection (s : State) (bs : Bytes) : Res :=
  (s.reservedZero bs 0 64).bind fun s =>
    (walk (fun e s => s.expect (eqOk bs (64 + 8 * e)) 6 e) (List.range 1536) s).bind fun s =>
      ({ s with eqTable := s.eqTable.write 0 0 (bs.drop 64) }).accept

/-- The entry of a port in section 0x0012 (R144). -/
structure PortE where
  lane : Nat
  hearth : Nat
  idx : Nat
  count : Nat
  master : Nat
  res : Nat
  hb : Nat

/-- The entry of port p (R144). -/
def portAt (bs : Bytes) (p : Nat) : PortE :=
  let o := 64 + 16 * p
  ⟨leAt bs o 4, leAt bs (o + 4) 2, leAt bs (o + 6) 1, leAt bs (o + 7) 1, leAt bs (o + 8) 2, leAt bs (o + 10) 2, leAt bs (o + 12) 4⟩

/-- The entry binds its port (R144). -/
def PortE.bound (e : PortE) : Bool := decide (e.hearth ≠ 0xFFFF)

/-- The RATE of the slice. -/
def PortE.rate (e : PortE) : Nat := bits e.lane 2 1

/-- The ports whose entries name a Hearth. -/
def portsOf (bs : Bytes) (h : Nat) : List Nat := (List.range 512).filter fun q => decide ((portAt bs q).hearth = h)

/-- Check 0x06 at the entry of port p: a reserved RATE (R110), a finding of R144 about its Hearth, or a port outside the Hearth's cluster
(R175). -/
def portCheck6 (bs : Bytes) (p : Nat) : Bool :=
  let e := portAt bs p
  let peers := portsOf bs e.hearth
  decide (e.rate = 3) || (e.bound &&
    (!within 1 e.count 16 || decide (peers.length ≠ e.count) || decide (p / 64 ≠ e.hearth / 32)
      || (peers.any fun q =>
        let x := portAt bs q
        decide (x.count ≠ e.count ∨ x.rate ≠ e.rate ∨ x.master ≠ e.master) || decide (e.count ≤ x.idx)
          || (peers.any fun y => decide (y ≠ q ∧ (portAt bs y).idx = x.idx)) || decide (x.idx = 0 ∧ q ≠ e.master))))

/-- Check 0x0B at the entry of port p: reserved bits, a value that LANE_CFG would ignore, a HEARTH that is no Hearth, or a heartbeat timeout
outside its range (R56, R144). -/
def portCheckB (e : PortE) : Bool :=
  decide (bits e.lane 31 24 = 0 ∨ e.lane &&& writable R.LANE_CFG.desc.flds ≠ e.lane ∨ e.res ≠ 0)
    || (e.bound && (decide (256 ≤ e.hearth) || !within 200 e.hb 100000 || decide (e.hb % 10 ≠ 0)))

/-- One port of section 0x0012: COBEX_CFG and COBEX_TIMING take each entry, cut to their fields; an unbound entry's HB_TIMEOUT_US that
COBEX_TIMING would ignore leaves it (R144). [DEDUCED, log 27] -/
def State.portEntry (s : State) (bs : Bytes) (p : Nat) : Res :=
  let e := portAt bs p
  (s.expect (!portCheck6 bs p) 6 p).bind fun s => (s.expect (!portCheckB e) 0xB p).bind fun s =>
    let s := s.laneCfgWrite (s.sliceOf p) e.lane
    let s := ((s.wr F.COBEX_CFG_BOUND (b2n e.bound) p).wr F.COBEX_CFG_HEARTH e.hearth p).wr F.COBEX_CFG_LANE_INDEX e.idx p
    let s := (s.wr F.COBEX_CFG_LANE_COUNT e.count p).wr F.COBEX_CFG_MASTER e.master p
    (if within 20 (e.hb / 10) 10000 then s.wr F.COBEX_TIMING_HB_TIMEOUT (e.hb / 10) p else s).accept

/-- Section 0x0012: Cobex ports and lane bindings (R144). -/
def State.portSection (s : State) (bs : Bytes) : Res :=
  (s.reservedZero bs 0 64).bind fun s => walk (fun p s => s.portEntry bs p) (List.range 512) s

/-- A table of section 0x0013 (R205): the Hearth, its KIND and the place of its bytes. -/
structure TableHdr where
  h : Nat
  kind : Nat
  at_ : Nat
  len : Nat

/-- The tables from an offset on; none where a length does not fit. -/
def tablesAt (bs : Bytes) : Nat → Nat → Option (List TableHdr)
  | 0, _ => none
  | fuel + 1, o =>
    if bs.length ≤ o then (if o = bs.length then some [] else none)
    else if bs.length < o + 64 ∨ bs.length < o + 64 + leAt bs (o + 4) 4 then none
    else
      let n := leAt bs (o + 4) 4
      (tablesAt bs fuel (o + 64 + n)).map fun l => ⟨leAt bs o 2, leAt bs (o + 2) 1, o + 64, n⟩ :: l

/-- One Hearth table goes into bank 0; an outside knot between two valid ones fails check 0x06 (R184, R187, R205). -/
def State.tableLoad (s : State) (bs : Bytes) (t : TableHdr) : Res :=
  let o := t.at_ - 64
  let fits := decide (t.h < 256 ∧ 1 ≤ t.kind ∧ t.kind ≤ 5 ∧ 0 < t.len ∧ t.len ≤ (if t.kind = 1 then 0x80000 else 0x4000))
    && decide (leAt bs (o + 3) 1 = 0) && (firstNonzero bs (o + 8) (o + 64)).isNone
  let hole := match s.hearthOf t.h with
    | some n => decide (2 ≤ t.kind) && innerHole ((List.range (min (s.knotCount n) (t.len / 4))).map fun i => leAt bs (t.at_ + 4 * i) 4)
    | none => false
  (s.expect (!hole || !fits) 6 o).bind fun s => (s.expect fits 0xB o).bind fun s =>
    let a := tableBase t.h + (if t.kind = 1 then 0 else 0x80000 + 0x4000 * (t.kind - 2))
    (s.hbmWrite a ((bs.drop t.at_).take t.len)).accept

/-- Section 0x0013: Hearths and calibration tables (R205). -/
def State.hearthSection (s : State) (dry : Bool) (bs : Bytes) : Res :=
  let n := leAt bs 0 4
  (s.reservedZero bs 4 64).bind fun s =>
    let s := s.bufWrite 0x13000 ((bs.drop 64).take 4096)
    let zero := (s.hearthOf 0).map fun p => 0x400000 + 0x4000 * p
    (s.regList dry 0x13 (fun e => decide (e.addr = zero ∧ e.size = 0 ∧ e.value = 0)) (s.hearthList bs n)).bind fun s =>
      match tablesAt bs (bs.length / 64 + 1) (4160 + n) with
      | none => (some (0xB, 0), s)
      | some ts => walk (fun t s => s.tableLoad bs t) ts s

/-- One profile of section 0x0014 goes into bank 0 (R259). -/
def State.profileLoad (s : State) (bs : Bytes) (base i : Nat) : Res :=
  let o := base + 65600 * i
  let p := leAt bs o 1
  let ok := decide (p < 16 ∧ leAt bs (o + 4) 4 = 65536 ∧ leAt bs (o + 1) 3 = 0 ∧ leAt bs (o + 64) 2 = 1)
    && (firstNonzero bs (o + 8) (o + 64)).isNone && !((List.range i).any fun j => decide (leAt bs (base + 65600 * j) 1 = p))
  (s.expect ok 0xB o).bind fun s => (s.bufWrite (profileBase p 0) ((bs.drop (o + 64)).take 65536)).accept

/-- Section 0x0014: Anvil and print-model tables (R259). -/
def State.anvilSection (s : State) (dry : Bool) (bs : Bytes) : Res :=
  let base := 64 + leAt bs 0 4
  (s.headedList dry 0x14 0xC00000 bs).bind fun s =>
    walk (fun i s => s.profileLoad bs base i) (List.range ((bs.length - base) / 65600)) s

/-- One run of section 0x0016 (R312). -/
def State.runLoad (s : State) (bs : Bytes) (o : Nat) : Res :=
  let c := leAt bs o 1
  let b := leAt bs (o + 1) 1
  let first := leAt bs (o + 2) 2
  let n := leAt bs (o + 4) 2
  if leAt bs o 8 = 0 then s.accept
  else
    let ok := decide (c < 64 ∧ bits b 2 0 < 4 ∧ b < 32 ∧ 1 ≤ n ∧ first + n ≤ 16384 ∧ leAt bs (o + 6) 2 = 0)
    (s.expect ok 0xB o).bind fun s =>
      ((upto first n).foldl (fun s i => s.setContext c i (bits b 2 0) (bits b 4 3)) s).accept

/-- Section 0x0016: nozzle-context defaults (R312). -/
def State.nozzleSection (s : State) (dry : Bool) (bs : Bytes) : Res :=
  let o := 64 + leAt bs 0 4
  let r := (s.headedList dry 0x16 0x1400000 bs 8).bind fun s =>
    walk (fun i s => s.runLoad bs (o + 8 * i)) (List.range (leAt bs 4 4 / 8)) s
  r.bind fun s => ((List.range 64).foldl (fun s c => (s.refreshAll c (List.range (s.nozzles c)))) s).accept

/-- One Trough of section 0x0018 (R371). -/
def State.troughEntry (s : State) (bs : Bytes) (t : Nat) : Res :=
  let o := 64 + 16 * t
  let size := leAt bs o 4
  let reader := leAt bs (o + 4) 2
  let fl := leAt bs (o + 6) 1
  let hi := leAt bs (o + 8) 4
  let lo := leAt bs (o + 12) 4
  let ok := decide (size = 0 ∨ (16 ≤ size ∧ size ≤ 65536)) && decide (fl < 64 ∧ leAt bs (o + 7) 1 = 0 ∧ hi < 2 ^ 17 ∧ lo < 2 ^ 17)
    && (decide (bit fl 4 = 0) || (within 1088 reader 1151 && decide (size ≠ 0)))
    && (decide (bit fl 5 = 0) || decide (lo < hi ∧ hi ≤ size))
  (s.expect ok 0xB t).bind fun s =>
    let s := ((s.wr F.TRGH_CFG_SIZE size t).wr F.TRGH_CFG_PRIORITY (bits fl 2 0) t).wr F.TRGH_CFG_MODE (bit fl 3) t
    let s := if bit fl 4 = 1 then (s.wr F.TRGH_CFG_ENABLE 1 t).wr F.TRGH_CFG_READER reader t else s
    (((s.wr F.TRGH_WM_WM_EN (bit fl 5) t).wr F.TRGH_WM_HIGH_WM hi t).wr F.TRGH_WM_LOW_WM lo t).accept

/-- Section 0x0018: Troughs (R371). -/
def State.troughSection (s : State) (bs : Bytes) : Res :=
  (s.reservedZero bs 0 64).bind fun s => walk (fun t s => s.troughEntry bs t) (List.range 1536) s

/-! ### A section as a whole -/

/-- Whether the LENGTH of a section matches its content (R56). -/
def lengthOk (t : Nat) (bs : Bytes) : Bool :=
  let n := bs.length
  let l := leAt bs 0 4
  let listed := decide (l % 64 = 0 ∧ n = 64 + l)
  match t with
  | 0x02 => decide (n = 128)
  | 0x03 | 0x10 => true
  | 0x04 => decide (n = 1088)
  | 0x11 => decide (n = 12352)
  | 0x12 => decide (n = 8256)
  | 0x13 => decide (l % 64 = 0 ∧ 4160 + l ≤ n) && (tablesAt bs (bs.length / 64 + 1) (4160 + l)).isSome
  | 0x14 => decide (l % 64 = 0 ∧ 64 + l ≤ n ∧ (n - 64 - l) % 65600 = 0)
  | 0x16 => decide (l % 64 = 0 ∧ leAt bs 4 4 % 64 = 0 ∧ n = 64 + l + leAt bs 4 4)
  | 0x18 => decide (n = 24640)
  | _ => listed

/-- The content of a section: its checks in ascending byte offset, with its effects. -/
def State.sectionContent (s : State) (dry : Bool) (t : Nat) (bs : Bytes) : Res :=
  match t with
  | 0x01 => s.headedList dry t 0 bs
  | 0x02 => s.modeSection bs
  | 0x03 => s.ownerSection bs
  | 0x04 => s.partSection bs
  | 0x10 => s.regList dry t (fun e => decide (e.addr = some 0x40000 ∧ e.size = 0 ∧ e.value = 0)) (listAt bs 0x40000 0 bs.length)
  | 0x11 => s.eqSection bs
  | 0x12 => s.portSection bs
  | 0x13 => s.hearthSection dry bs
  | 0x14 => s.anvilSection dry bs
  | 0x15 => s.headedList dry t 0x1400000 bs
  | 0x16 => s.nozzleSection dry bs
  | 0x17 => s.headedList dry t 0x20000 bs
  | 0x18 => s.troughSection bs
  | 0x19 => s.headedList dry t 0x2400000 bs
  | 0x1A => s.headedList dry t 0x80000 bs
  | 0x1B => s.headedList dry t 0xC0000 bs
  | 0x1C => s.headedList dry t 0x30000 bs
  | _ => s.accept

/-- A section: VERSION and LENGTH, its content, then what relates it to lower types (R566). Board-private sections are ignored.
[DESIGN CHOICE, log 26] -/
def State.section_ (s : State) (dry ok : Bool) (t : Nat) (bs : Bytes) : Res :=
  if 0x8000 ≤ t then s.accept
  else (s.expect (ok && lengthOk t bs) 0xB 0).bind fun s =>
    (s.sectionContent dry t bs).bind fun s => (s.stateFinding t, s)

end Sys2Proof.Machine
end

