-- ==== Sys2Proof/Machine/Kindle.lean ====
section
/-!
DEFINITION. Kindle (chapter 2): the boot sequence, verification, APPLY, READY, HOLD, REKINDLE and FINISH.
-/

namespace Sys2Proof.Machine

def State.setKindle (s : State) (x : KindleS) : State := { s with kindle := x }

/-- The source number of Kindle (R32). -/
def kindleSrc : Nat := srcNo 0x11 0

/-- PHASE of KINDLE_STATUS. -/
def State.phase (s : State) : Nat := s.rd F.KINDLE_STATUS_PHASE
def State.setPhase (s : State) (p : Nat) : State := s.wr F.KINDLE_STATUS_PHASE p

/-- A Kindle starts from its ROM phase (R68, R72, R73). -/
def State.kindleStart (s : State) (cfgHold : Bool) : State :=
  (s.setKindle { running := true, startClk := s.clk, cfgHold := cfgHold }).setPhase 0

/-- An effect on a running Kindle. -/
def State.kindling (s : State) (f : State → State) : State := s.powered fun s => if s.kindle.running then f s else s

/-! ### Start of the phases -/

/-- TIMEBASE_LOCK: the first lock of an epoch; DT starts at 0 (R76). [DESIGN CHOICE, log 35] -/
def execTimebaseLock (d : Nat) (s : State) : Host.Outcome State Fault Refusal :=
  cmd true d s fun s => s.powered fun s =>
    if s.running ∨ !(s.kindle.running || decide (s.phase = 8)) then s
    else ({ s with dt := 0, running := true }).wr F.TB_STATUS_LOCKED 1

/-- FLASH_INIT_DONE: what the flash reset and the SFDP read found, and whether 8D-8D-8D works (R46, R47). Then the
slots are read: PHASE is SELECT, except under CFG_HOLD_N (R69, R70). -/
def execFlashInitDone (d : Nat) (sfdpOk : Bool) (sectors : Nat) (uniform ddrOk : Bool) (s : State) :
    Host.Outcome State Fault Refusal :=
  cmd true d s fun s => s.kindling fun s =>
    if s.phase ≠ 0 ∨ s.kindle.flashOk ∨ s.kindle.holdDue then s
    else if !sfdpOk ∨ sectors < 4096 ∨ !uniform then
      (s.setKindle { s.kindle with holdDue := true }).wr F.KINDLE_STATUS_FLASH_FAULT 1
    else
      let s := (s.setKindle { s.kindle with flashOk := true }).setFlash { s.flash with sectors := min sectors 65536 }
      let s := if ddrOk then s else s.wr F.KINDLE_STATUS_SLOW_FLASH 1
      if s.kindle.cfgHold then s else s.setPhase 1

/-- SLOT_SELECT: both headers are read and the candidates are ordered (R53); with none, HOLD with NO_IMAGE (R54). -/
def execSlotSelect (d : Nat) (s : State) : Host.Outcome State Fault Refusal :=
  cmd true d s fun s => s.kindling fun s =>
    if s.phase ≠ 1 ∨ s.kindle.holdDue then s
    else
      let c := s.candidates
      let s := s.setKindle { s.kindle with cands := c, holdDue := s.kindle.holdDue || c.isEmpty }
      if c.isEmpty then s.wr F.KINDLE_STATUS_NO_IMAGE 1 else s.setPhase 2

/-- HBM_TRAINING_DONE: the PHYs are trained, or a stack has failed and Kindle will enter HOLD (R55, R70, R505). [DESIGN CHOICE, log 32] -/
def execHbmTrainingDone (d : Nat) (failed : Option Nat) (s : State) : Host.Outcome State Fault Refusal :=
  cmd true d s fun s => s.kindling fun s =>
    if !s.running ∨ s.kindle.hbmTrained ∨ s.kindle.hbmFailed then s
    else match failed with
      | none => s.setKindle { s.kindle with hbmTrained := true }
      | some k =>
        (s.setKindle { s.kindle with hbmFailed := true, holdDue := true }).err 0x31 (srcNo 0x12 0) (detail [k % 4])

/-! ### Verification -/

/-- The sections of a slot in ascending type, each with whether its place and VERSION are good. -/
def State.sectionsOf (s : State) (slot : Nat) : List (SecEntry × Bool) :=
  let len := leAt (s.imageHeader slot) 20 4
  let t := s.sectionTable slot
  (t.mergeSort fun a b => decide (a.typ ≤ b.typ)).map fun e => (e, placeOk (s.sectionCount slot) len e)

/-- The state in which a configuration is applied: the stream sizes of an image without section 0x0013 are 0. [DESIGN CHOICE, log 28] -/
def State.blankSizes (s : State) : State := s.bufWrite 0x13000 (zeros 4096)

/-- Verification of a candidate (R54, R566): its first finding. Sections are taken in turn on a copy of the state, so that nothing is
applied (R55). -/
def State.verify (s : State) (slot : Nat) : Option Finding :=
  let t := s.sectionTable slot
  let raw := s.flashRead (slotBase slot + 256) (16 * s.sectionCount slot)
  if leAt (s.imageHeader slot) 28 4 ≠ crc32c raw then some ⟨0xF0, 0, 0⟩
  else match tableFinding t with
    | some f => some f
    | none =>
      match t.find? fun e => decide (crc32c (s.sectionBytes slot e) ≠ e.crc) with
      | some e => some ⟨0xF1, e.typ, 0⟩
      | none =>
        ((s.sectionsOf slot).foldl (fun (r : Option Finding × State) e =>
          if r.1.isSome then r
          else
            let q := r.2.section_ true e.2 e.1.typ (s.sectionBytes slot e.1)
            (q.1.map fun f => ⟨f.1, e.1.typ, f.2⟩, q.2)) (none, s.blankSizes)).1

/-- KINDLE_REJECT of a slot (R54, R72). -/
def State.setReject (s : State) (k : Nat) (f : Finding) : State :=
  ((s.wr F.KINDLE_REJECT_CHECK f.check k).wr F.KINDLE_REJECT_SECTION f.sec k).wr F.KINDLE_REJECT_ENTRY f.entry k

/-- A candidate fails: its finding, its flag and its error (R54). -/
def State.rejectSlot (s : State) (slot : Nat) (f : Finding) : State :=
  let s := (s.setReject slot f).wr (if slot = 0 then F.KINDLE_STATUS_REJECTED_A else F.KINDLE_STATUS_REJECTED_B) 1
  s.err 0x10 kindleSrc (detail [slot, f.check % 2 ^ 8 + 2 ^ 8 * (f.sec % 2 ^ 16) + 2 ^ 24 * (f.entry % 2 ^ 32)])

/-- CANDIDATE_VERIFY: the first waiting candidate passes or fails (R54, R566). -/
def execCandidateVerify (d : Nat) (s : State) : Host.Outcome State Fault Refusal :=
  cmd true d s fun s => s.kindling fun s =>
    if s.phase ≠ 2 then s
    else match s.kindle.cands with
      | [] => s
      | c :: rest =>
        match s.verify c with
        | none => (s.setKindle { s.kindle with passed := some c, cands := rest }).setPhase 3
        | some f =>
          let s := (s.setKindle { s.kindle with cands := rest, holdDue := rest.isEmpty }).rejectSlot c f
          if rest.isEmpty then s.wr F.KINDLE_STATUS_NO_IMAGE 1 else s

/-! ### APPLY and the journal -/

/-- Every aperture is committed at the end of APPLY (R412, R445). -/
def State.commitApertures (s : State) : State := (List.range 16).foldl State.apertureCommit s

/-- What APPLY does once the sections are loaded: placement, Troughs, apertures (R348, R445, R567). -/
def State.applyEnd (s : State) : State := s.place.placeTroughs.commitApertures

/-- The restore copies of the applied configuration are written; exits from B4 use them (R70). [DESIGN CHOICE, log 92] -/
def State.writeRestoreCopies (s : State) : State := s.setKindle { s.kindle with restore := s.regs }

/-- The image of a slot is applied (R55, R70). -/
def State.applyImage (s : State) (slot : Nat) : State :=
  let r := (s.sectionsOf slot).foldl (fun (r : State) e => (r.section_ false true e.1.typ (s.sectionBytes slot e.1)).2) s.blankSizes
  let fell := s.on F.KINDLE_STATUS_REJECTED_A || s.on F.KINDLE_STATUS_REJECTED_B
  let t := (r.applyEnd.wr F.KINDLE_STATUS_SLOT_USED (slot + 1)).wr F.KINDLE_SEQ_SEQUENCE (s.imageSeq slot)
  (t.wr F.KINDLE_STATUS_FALLBACK (b2n fell)).writeRestoreCopies

/-- KINDLE_APPLY_DONE: the image that passed is loaded into the blocks (R70). [DESIGN CHOICE, log 28] -/
def execKindleApplyDone (d : Nat) (s : State) : Host.Outcome State Fault Refusal :=
  cmd true d s fun s => s.kindling fun s =>
    if s.phase ≠ 3 ∨ s.kindle.applied ∨ !s.kindle.hbmTrained then s
    else match s.kindle.passed with
      | none => s
      | some c =>
        let s := s.applyImage c
        s.setKindle { s.kindle with applied := true }

/-- Fields of blocks that move to other places: `moves` gives the byte address of a block and where it goes, `len` its length. -/
def carryKeys (moves : List (Nat × Nat)) (len : Nat) (r : Assoc Nat) : Assoc Nat :=
  let inside := fun (a : Nat) (e : Nat × Nat) => decide (8 * a ≤ e.1 ∧ e.1 < 8 * (a + len))
  let rest := moves.foldl (fun (r : Assoc Nat) m =>
    (r.delRange (8 * m.1) (8 * (m.1 + len))).delRange (8 * m.2) (8 * (m.2 + len))) r
  moves.foldl (fun (x : Assoc Nat) m =>
    (r.filter (inside m.1)).foldl (fun (x : Assoc Nat) e => x.ins (e.1 + 8 * m.2 - 8 * m.1) e.2) x) rest

/-- Registers of blocks that move to other places, with their restore copies. [DEDUCED, log 33; DESIGN CHOICE, log 92] -/
def State.carryRegs (s : State) (moves : List (Nat × Nat)) (len : Nat) : State :=
  { s with regs := carryKeys moves len s.regs,
           kindle := { s.kindle with restore := carryKeys moves len s.kindle.restore } }

/-- The configuration that APPLY wrote to the units of a fresh spare ledger follows its logical units to the units that the restored
ledger names (R144, R205, R517). [DEDUCED, log 33] -/
def State.carryUnits (t s : State) : State :=
  let hs := (List.range 256).filterMap fun h => match t.hearthOf h, s.hearthOf h with
    | some a, some b => if a = b then none else some (a, b)
    | _, _ => none
  let ls := (List.range 512).filterMap fun l => if t.sliceOf l = s.sliceOf l then none else some (t.sliceOf l, s.sliceOf l)
  let s := s.carryRegs (hs.map fun m => (unitBase 1 m.1 + 8, unitBase 1 m.2 + 8)) 0x3FF8
  let s := hs.foldl (fun s m => s.setHth m.1 {}) s
  let s := hs.foldl (fun s m => s.setHth m.2 (t.hth m.1)) s
  s.carryRegs (ls.map fun m => (0x100000 + 0x800 * m.1, 0x100000 + 0x800 * m.2)) 4

/-- The journal is read, and what it holds is restored (R70, R520). -/
def State.restorePhase (s : State) : State :=
  let t := s.carryUnits s.journalRestore
  t.setKindle { t.kindle with journalRead := true }

/-- JOURNAL_RESTORE (R520). -/
def execJournalRestore (d : Nat) (s : State) : Host.Outcome State Fault Refusal :=
  cmd true d s fun s => s.kindling fun s =>
    if !s.kindle.applied ∨ s.kindle.journalRead then s else s.restorePhase

/-! ### READY and HOLD -/

/-- An axis whose ENABLE stands begins to track at READY; the spare ledger says whether on its redundant encoder (R517). [DEDUCED, log 33] -/
def State.axisReady (s : State) (a : Nat) : State :=
  if s.on F.AXIS_CFG_ENABLE a then
    let red := s.rd F.AXIS_STATUS_ON_REDUNDANT a
    let s := (s.axEnable a).wr F.AXIS_STATUS_ON_REDUNDANT red a
    if red = 1 then s.wr F.AXIS_HWM_POSITION (256 * s.axRaw a) a else s
  else s

/-- The list entries that were held back take effect (R106, R401, R462). -/
def State.heldApply (s : State) : State :=
  let ws := s.kindle.heldWrites
  ws.foldl (fun s w => s.access .kindle w.addr w.size w.value) (s.setKindle { s.kindle with heldWrites := [] })

/-- A fatal error's interval ends at READY, and the KINDLE_TIME of the start counts beside it (R523). [DESIGN CHOICE, log 34] -/
def State.fatalOver (s : State) : State :=
  if 0 ∈ s.weld.unavail then (s.unavailEnd 0).unavailCount (1000 * s.rd F.KINDLE_TIME_ELAPSED_US) else s

/-- The press blocks are released (R70). [DESIGN CHOICE, log 57] -/
def State.enterReady (s : State) : State :=
  let s := (s.setKindle { s.kindle with running := false }).setPhase 4
  let s := { s with power := { s.power with everReady := true, scope := s.rd F.HEP_RESET_PERST_SCOPE } }
  let s := s.fatalOver.strikerReady
  let s := (List.range 8).foldl State.axisReady s
  let s := s.heldApply.gensZero
  let s := (s.instances F.TONGS_CFG_ENABLE 1152 1).foldl (fun s ch => if (s.tg ch).st = 0 then s.tongsStart ch else s) s
  let s := ((s.raise (ev 0x01 0)).alert 0).blwReady
  let s := s.wearIngot
  (s.instances F.LANE_CFG_ENABLE 544 1).foldl State.laneOn s

/-- KINDLE_TIME of a Kindle that ends (R70). -/
def State.kindleTime (s : State) : State := s.wr F.KINDLE_TIME_ELAPSED_US ((s.clk - s.kindle.startClk) / 1000)

/-- KINDLE_READY (R70). -/
def execKindleReady (d : Nat) (s : State) : Host.Outcome State Fault Refusal :=
  cmd true d s fun s => s.kindling fun s =>
    if s.kindle.applied ∧ s.kindle.journalRead ∧ !s.kindle.holdDue then s.kindleTime.enterReady else s

/-- KINDLE_HOLD: a finding, or CFG_HOLD_N after the ROM phase, ends Kindle in HOLD (R47, R54, R69, R72, R505). -/
def execKindleHold (d : Nat) (s : State) : Host.Outcome State Fault Refusal :=
  cmd true d s fun s => s.kindling fun s =>
    if s.kindle.holdDue ∨ (s.kindle.cfgHold ∧ s.kindle.flashOk) then
      let s := s.kindleTime
      ((s.setKindle { s.kindle with running := false }).setPhase 8).alert 0
    else s

/-! ### REKINDLE -/

/-- Whether a BAR0 byte keeps its register through a REKINDLE: the global and Kindle blocks, the timebase and the host port, which
are no press blocks (R73), Weld's log, counts and status, and the state of the rails (R321). [DESIGN CHOICE, log 30] -/
def keptByte (a : Nat) : Bool :=
  decide (a < 0x10100) || within 0x10180 a 0x1FFFF || within 0x40000 a 0x4000F || within 0xD0000 a 0xDFFFF
    || within 0x30000 a 0x30007 || within 0x30500 a 0x307FF || within 0x32000 a 0x35FFF
    || (within 0x20200 a 0x202FF && decide (8 ≤ a % 16))

/-- The press blocks return to their reset state (R73): capture, triggering and firing stop, and the pins are at rest. Requests of
function 0x07 are the host port's and stay open; what enters the flash journal waits there. [DESIGN CHOICE, log 11; DESIGN CHOICE, log 30] -/
def State.pressReset (s : State) : State :=
  let s := s.tongsReset
  let kept := fun {α : Type} (n : Nat) (m : Assoc α) => m.filter fun e => keptByte (e.1 / n)
  let w := s.weld
  { State.reset with
    regs := kept 8 s.regs, buf := kept 1 s.buf, held := kept 1 s.held, upper := kept 1 s.upper,
    hbm := s.hbm, poison := s.poison, clk := s.clk, dt := s.dt, running := s.running, free := s.free, out := s.out,
    power := s.power, flash := s.flash, kindle := s.kindle, hep := s.hep, pending := s.pending,
    dcs := { s.dcs with open_ := s.dcs.open_.filter (fun r => decide (r.func = 7)),
                        held := s.dcs.held.filter (fun r => decide (r.func = 7)),
                        outbox := s.dcs.outbox.filter (fun r => decide (leAt r 20 1 = 7)) },
    pos := { enc := (s.pos.enc.map fun e => (e.1, { e.2 with zArmed := false })).filter fun e => decide (e.2 ≠ {}) },
    blw := { thermtrip := s.blw.thermtrip, vmode := s.blw.vmode, guard := s.blw.guard },
    weld := { ingots := w.ingots, errLast := w.errLast, errSupp := w.errSupp, unread := w.unread, retired := w.retired,
              unavail := w.unavail.filter (fun k => decide (k = 0)), unavailSince := w.unavailSince, unavailTo := w.unavailTo,
              unavailNs := w.unavailNs, lastWear := w.lastWear, wearClk := w.wearClk, lastSpareTest := w.lastSpareTest } }

/-- The results of the previous Kindle are cleared at once (R73). [DESIGN CHOICE, log 30] -/
def State.clearResults (s : State) : State :=
  let s := s.clrAll [F.KINDLE_STATUS_REJECTED_A, F.KINDLE_STATUS_REJECTED_B, F.KINDLE_STATUS_FLASH_FAULT,
    F.KINDLE_STATUS_NO_IMAGE, F.KINDLE_STATUS_SLOW_FLASH, F.KINDLE_STATUS_FALLBACK, F.KINDLE_STATUS_SLOT_USED,
    F.KINDLE_SEQ_SEQUENCE]
  (List.range 3).foldl (fun s k => s.setReject k ⟨0, 0, 0⟩) s

/-- KINDLE_CTL.REKINDLE: accepted in READY and in HOLD (R72, R73). CFG_HOLD_N is not sampled, and the timebase stays locked.
[DESIGN CHOICE, log 30] -/
def State.rekindle (s : State) : State :=
  if s.phase = 4 ∨ s.phase = 8 then s.pressReset.clearResults.kindleStart false else s

/-! ### FINISH -/

/-- Section types in the order in which a FINISH takes them (R566). -/
def finishOrder : List Nat :=
  [0x01, 0x02, 0x03, 0x04, 0x10, 0x11, 0x12, 0x13, 0x14, 0x15, 0x16, 0x17, 0x18, 0x19, 0x1A, 0x1B, 0x1C]

/-- The first finding about the registers as they are written (R72, R566). [DESIGN CHOICE, log 29] -/
def State.finishFinding (s : State) : Option Finding :=
  finishOrder.findSome? fun t => ((s.regsFinding t).or (s.stateFinding t)).map fun f => ⟨f.1, t, f.2⟩

/-- The modes as host software wrote them are in force (R65, R72). -/
def State.takeModes (s : State) : State :=
  (upto 1 9).foldl (fun s f => (s.wr F.FUNC_MODE_CURRENT (s.rd F.FUNC_MODE_REQUESTED f) f).wr F.FUNC_MODE_PENDING 0 f)
    { s with modes := {} }

/-- KINDLE_CTL.FINISH: accepted in HOLD only (R72, R567). [DESIGN CHOICE, log 29] -/
def State.finish (s : State) : State :=
  if s.phase ≠ 8 then s
  else
    let s := s.setReject 2 ⟨0, 0, 0⟩
    match s.finishFinding with
    | some f => s.setReject 2 f
    | none =>
      let s := s.applyEnd.takeModes.writeRestoreCopies
      let s := if s.kindle.flashOk then s.restorePhase else s
      (s.wr F.KINDLE_STATUS_SLOT_USED 3).enterReady

/-- A write of KINDLE_CTL: ignored with a KEY other than 0xB5 (KINDLE_CTL). [DESIGN CHOICE, log 29] -/
def State.kindleCtl (s : State) (x : Nat) : State :=
  if bits x 15 8 ≠ 0xB5 then s
  else if bit x 1 = 1 then s.rekindle
  else if bit x 2 = 1 then s.finish
  else s

/-- REKINDLE: KINDLE_CTL with its KEY (R73). -/
def execRekindle (d key : Nat) (s : State) : Host.Outcome State Fault Refusal :=
  cmd true d s fun s => s.hostWrite F.KINDLE_CTL_KEY.addr fun s => s.kindleCtl (256 * key + 2)

/-- FINISH: KINDLE_CTL with its KEY (R72). -/
def execFinish (d key : Nat) (s : State) : Host.Outcome State Fault Refusal :=
  cmd true d s fun s => s.hostWrite F.KINDLE_CTL_KEY.addr fun s => s.kindleCtl (256 * key + 4)

end Sys2Proof.Machine
end

