-- ==== Sys2Proof/Machine/Bar0.lean ====
section
/-!
DEFINITION. BAR0 requests (R10, R22, R71, R107, R407, R429, R433), the writes of BLW_RAIL, and the end of a domain's exit (R343, R345).
-/

namespace Sys2Proof.Machine

/-- Whether a write covers KINDLE_CTL. -/
def coversKindleCtl (w : HeldWrite) : Bool := decide (w.addr = F.KINDLE_CTL_KEY.addr)

/-- A register write past the gates of its path. [DESIGN CHOICE, log 15] -/
def State.arrive (s : State) (v : Via) (w : HeldWrite) : State :=
  if coversKindleCtl w then s.kindleCtl (w.value % 2 ^ 32) else s.access v w.addr w.size w.value

/-- A register write of host software or of the management controller, with the gates of its path. -/
def State.busWrite (s : State) (v : Via) (w : HeldWrite) : State := s.gate v w fun s => s.arrive v w

/-- A BAR0 write request: refused or discarded as a whole, or carried out as its accesses in ascending order (R407, R429, R433). -/
def State.bar0Write (s : State) (a size x : Nat) : State :=
  if s.hep.d3hot ∨ (s.on F.HEP_QUENCH_QUENCHED ∧ !quenchBlock a) then s.gate .bar0 ⟨a, size, x⟩ id
  else (accesses a size x).foldl (fun s w => s.busWrite .bar0 w) s

/-- REGISTER_WRITE: a BAR0 write of `size` bytes, the value little-endian (R10, R16 to R22, R407). A request that R407 refuses is a
BAR0_BAD_REQUEST, not this. -/
def execRegisterWrite (d a size x : Nat) (s : State) : Host.Outcome State Fault Refusal :=
  cmd true d s fun s => s.powered fun s =>
    if bar0Ok a size then s.bar0Write a size (x % 2 ^ (8 * size)) else s.bar0Bad false

/-- LOWER_HALF_READ: a 4-byte BAR0 read; of the lower half of a 64-bit register it latches the upper half (R107). A read of a banked
domain starts its exit (R343), and in D3hot is an Unsupported Request (R429). [DESIGN CHOICE, log 14] -/
def execLowerHalfRead (d a : Nat) (s : State) : Host.Outcome State Fault Refusal :=
  cmd true d s fun s => s.powered fun s =>
    if s.hep.d3hot then s.unsupported true
    else if !bar0Ok a 4 then s.bar0Bad true
    else
      let s := match regDomain a with
        | some dom => s.beginExit dom
        | none => s
      let r := s.read4 a
      r.2.emit (.completion 0 (le 4 r.1) false)

/-- RAIL_WRITE k: a runtime write of BLW_RAIL[k] (R314). -/
def execRailWrite (d k x : Nat) (s : State) : Host.Outcome State Fault Refusal :=
  cmd (decide (k < 16)) d s fun s => s.powered fun s => s.bar0Write (F.BLW_RAIL_FLOOR_MV.at_ k) 8 (x % 2 ^ 64)

/-! ### Wake gates -/

/-- A field of the register store that is configuration of a domain. -/
def configKey (dom k : Nat) : Bool :=
  decide (regDomain (k / 8) = some dom) && match locate (k / 8) with
    | some p => p.r.desc.flds.any fun f => decide (f.lo = 8 * p.off + k % 8 ∧ (f.acc = .rw ∨ f.acc = .rwk))
    | none => false

/-- A domain that was off takes its configuration from its restore copy (R70, R342). [DESIGN CHOICE, log 92] -/
def State.restoreDomain (s : State) (dom : Nat) : State :=
  let kept := s.regs.filter fun e => !configKey dom e.1
  { s with regs := (s.kindle.restore.filter fun e => configKey dom e.1).foldl (fun (m : Assoc Nat) e => m.ins e.1 e.2) kept }

/-- The exit of a domain is over: it is at B0, with its state restored where it was off, and what waited at its gate is performed in order
(R342, R343, R345). [DESIGN CHOICE, log 47] -/
def State.wakeDone (s : State) (dom : Nat) : State :=
  let s := if s.rd F.BLW_DOM_LEVEL dom = 4 then s.restoreDomain dom else s
  let mine := s.blw.gate.filter fun g => decide (g.domain = dom)
  let rest := s.blw.gate.filter fun g => !decide (g.domain = dom)
  let s := { s with blw := { s.blw with exits := s.blw.exits.del dom, gate := rest } }
  let s := mine.foldl (fun s g => s.arrive .bar0 g.write) (s.wr F.BLW_DOM_LEVEL 0 dom)
  if dom < 32 then (upto (17 * dom) 17).foldl State.laneOn s else s

/-- BANK_EXIT_DONE (R342, R343). -/
def execBankExitDone (d dom : Nat) (s : State) : Host.Outcome State Fault Refusal :=
  cmd (decide (dom < 64)) d s fun s => s.press fun s =>
    if (s.blw.exits.find dom).isSome then s.wakeDone dom else s

end Sys2Proof.Machine
end

