-- ==== Sys2Proof/Machine/Scan.lean ====
section
/-!
DEFINITION. Test access: the ball map (R525 to R530), the boundary-scan register (R551) and the instructions of the port (R550,
R552).
-/

namespace Sys2Proof.Machine

/-! ### Balls -/

/-- What a ball has in the boundary-scan register (R551): nothing; one input cell; one 1149.6 receiver cell; or control, output and
input cells. A differential pair is counted at its P ball. -/
inductive BallCells where
  | none | input | receiver | driver
  deriving DecidableEq, Repr

/-- A ball of a lane block at depth d and width w: receive pairs at depths 0 to 3, transmit pairs at 6 to 9 (R526). -/
def laneBall (d w : Nat) : BallCells :=
  if w % 2 = 1 then .none else if d ≤ 3 then .receiver else if 6 ≤ d then .driver else .none

/-- Column function k of a head channel: data, clock, latch and strobe, then HD_HOT_N (R527). -/
def headBall (k : Nat) : BallCells := if k ≤ 10 then .driver else if k = 11 then .input else .none

/-- The top-left corner: the PCI Express port and its reference clock (R528). -/
def pcieBall (i j : Nat) : BallCells :=
  if i = 5 then (if j = 9 then .input else .none)
  else if 8 < j ∨ j % 2 = 0 then .none
  else if i ≤ 4 then .receiver
  else if 6 ≤ i ∧ i ≤ 9 then .driver
  else .none

/-- The top-right corner: encoders and the reference clock (R529). `k` counts columns from the corner's first. [DESIGN CHOICE, log 36] -/
def encBall (i k : Nat) : BallCells :=
  if i ∈ [1, 2, 3, 5, 6, 7] then (if k < 8 then .input else .none)
  else if i = 9 ∧ k = 0 then .input
  else .none

/-- The bottom-right corner: GPIO, SMBus and the configuration memory (R529). -/
def mgmtBall (i k : Nat) : BallCells :=
  if 75 ≤ i ∧ i ≤ 78 then (if k < 8 then .driver else .none)
  else if i = 80 then (if k < 7 then .driver else if k < 9 then .input else .none)
  else if i = 82 then (if k < 9 then .driver else .none)
  else if i = 83 then (if k < 3 then .driver else if k = 3 then .input else .none)
  else .none

/-- The bottom-left corner: PERST_N, SUPPLY_OK and TESTMODE are inputs, THERMTRIP_N is driven; the rest is analog, reserved, JTAG or
supply (R529). -/
def resetBall (i k : Nat) : BallCells :=
  if i = 80 then (if k = 2 then .driver else if k < 4 then .input else .none) else .none

/-- The cells of ball (i, j) (R525 to R530, R551). -/
def ballCells (i j : Nat) : BallCells :=
  let midRow := within 11 i 74
  let midCol := within 11 j 74
  if i ≤ 10 then
    if j ≤ 10 then pcieBall i j else if midCol then laneBall (i - 1) ((j - 11) % 8) else encBall i (j - 75)
  else if midRow then
    if j ≤ 10 then laneBall (j - 1) ((74 - i) % 8)
    else if !midCol then laneBall (84 - j) ((i - 11) % 8)
    else if within 27 i 58 then .none
    else if j ≤ 24 then headBall (j - 11) else if 61 ≤ j then headBall (j - 61) else .none
  else if j ≤ 10 then resetBall i (j - 1)
  else if midCol then laneBall (84 - i) ((74 - j) % 8)
  else mgmtBall i (j - 75)

/-- What a cell of the boundary-scan register is. -/
inductive ScanCell where
  | control | output | input | receiver
  deriving DecidableEq, Repr

/-- The cells of a kind of ball, from JTAG_TDI on (R551). -/
def BallCells.cells : BallCells → List ScanCell
  | .none => []
  | .input => [.input]
  | .receiver => [.receiver]
  | .driver => [.control, .output, .input]

/-- The boundary-scan register from JTAG_TDI to JTAG_TDO, each cell with its ball number (i − 1) × 84 + j (R551). -/
def scanCells : List (Nat × ScanCell) :=
  (upto 1 84).flatMap fun i => (upto 1 84).flatMap fun j =>
    (ballCells i j).cells.map fun c => ((i - 1) * 84 + j, c)

/-- Length of the boundary-scan register: 512 receivers and 512 transmitters of the cameras; 64 head channels of 11 outputs and
HD_HOT_N; 16 lanes of PCI Express each way; the two reference clocks; 48 encoder balls; 32 GPIO; 7 SMBus balls and 2 straps; 12
balls of the configuration memory and CFG_HOLD_N; THERMTRIP_N and 3 inputs (R551). -/
def scanWidth : Nat :=
  512 + 3 * 512 + 64 * (3 * 11 + 1) + 16 + 3 * 16 + 2 + 48 + 3 * 32 + (3 * 7 + 2) + (3 * 12 + 1) + (3 + 3)

/-! ### The port -/

/-- The instruction that an opcode selects: other opcodes select BYPASS (R550). [DESIGN CHOICE, log 36] -/
def jtagOpcode (x : Nat) : Nat := if x ∈ [0x00, 0x01, 0x02, 0x04, 0x05, 0x0C, 0x0D] then x else 0xFF

/-- Instructions under which the pins follow the boundary-scan register (R552). [DESIGN CHOICE, log 36] -/
def jtagHoldsPins (x : Nat) : Bool := decide (x ∈ [0x00, 0x04, 0x05, 0x0C, 0x0D])

/-- Instructions that select the boundary-scan register: EXTEST and its two kin, and SAMPLE/PRELOAD (R550). [PRESUMED, log 36] -/
def jtagBoundary (x : Nat) : Bool := decide (x ∈ [0x00, 0x02, 0x0C, 0x0D])

/-- IDCODE (R550). -/
def State.idcode (s : State) : Nat :=
  s.rd F.ID_DEVICE_REVISION / 16 * 2 ^ 28 + 0x5120 * 2 ^ 12 + s.rd F.ID_DEVICE_MFR_CODE * 2 + 1

/-- Shift bits through a data register of w bits whose bit 0 lies at JTAG_TDO: what comes out, and what the register holds then. -/
def shiftBits (w : Nat) : List Bool → Nat → List Bool × Nat
  | [], r => ([], r)
  | b :: bs, r =>
    let x := shiftBits w bs (r / 2 + b2n b * 2 ^ (w - 1))
    (decide (r % 2 = 1) :: x.1, x.2)

/-- The boundary-scan register captures the levels of the balls, which lie outside the block: a free value. [DESIGN CHOICE, log 36] -/
def State.scanCapture (s : State) : Nat × State :=
  let r := (List.range (cdiv scanWidth 64)).foldl (fun (r : Nat × State) i =>
    let x := r.2.fresh 64
    (r.1 + x.1 * 2 ^ (64 * i), x.2)) (0, s)
  (r.1 % 2 ^ scanWidth, r.2)

/-- The pins take what the boundary-scan register holds, while an instruction lets them follow it (R552). -/
def State.scanPins (s : State) : State :=
  if s.power.jtagTest then { s with out := s.out ++ [.scanPins s.power.jtagIr s.power.scanLatch] } else s

/-- One scan of the selected data register: capture, shift, update. IDCODE captures the identification, BYPASS one 0; the boundary-scan
register captures the pins and, when the scan ends, updates what it holds (R550 to R552). [PRESUMED, log 36] -/
def State.scanData (s : State) (bits : List Bool) : State :=
  let tdo := fun (s : State) (l : List Bool) => { s with out := s.out ++ [.tdo l] }
  if jtagBoundary s.power.jtagIr then
    let c := s.scanCapture
    let r := shiftBits scanWidth bits c.1
    let s := tdo c.2 r.1
    ({ s with power := { s.power with scanLatch := r.2 } }).scanPins
  else if s.power.jtagIr = 1 then tdo s (shiftBits 32 bits s.idcode).1
  else tdo s (shiftBits 1 bits 0).1

/-- JTAG_INSTRUCTION_UPDATE: the Update-IR of an opcode (R550, R552), and the scans of the data register it selects that follow it
(R551). -/
def execJtagInstructionUpdate (d opcode : Nat) (scans : List (List Bool)) (s : State) : Host.Outcome State Fault Refusal :=
  cmd true d s fun s => s.powered fun s =>
    let x := jtagOpcode (opcode % 256)
    let s := { s with power := { s.power with jtagIr := x, jtagTest := jtagHoldsPins x } }
    scans.foldl State.scanData s.scanPins

end Sys2Proof.Machine
end

