-- ==== Sys2Proof/Machine/Power.lean ====
section
/-!
DEFINITION. Power, PERST_N, the timebase reference (R68, R69, R76, R77, R425, R427, R542 to R545).
-/

namespace Sys2Proof.Machine

/-! ### Resets of the whole device -/

/-- The flash operation in progress is abandoned: what it changes may be done in part (R52, R515, R544). [DESIGN CHOICE, log 18] -/
def State.flashAbandon (s : State) : State :=
  let t := s.setFlash { s.flash with busy := none, waiting := [] }
  match s.flash.busy with
  | some (.program a n) => t.programPart a (t.bufRead 0x11000 n)
  | some (.erase a) => t.erasePartly a
  | some .ingot => match t.weld.ingots with
    | x :: _ => t.jPut x.kind x.payload false
    | [] => t
  | _ => t

/-- The device at its reset values (R17): what outlives it is the content of the flash and the model's own clocks, trace and queue.
The HBM keeps its content only while power lasts. [DESIGN CHOICE, log 11] -/
def State.deviceReset (s : State) (keepHbm : Bool) (p : PowerS) : State :=
  let s := s.flashAbandon
  let w := s.weld
  { State.reset with
    hbm := if keepHbm then s.hbm else [], poison := if keepHbm then s.poison else [], clk := s.clk, free := s.free,
    out := s.out, flash := s.flash, pending := s.pending, power := p,
    weld := if keepHbm then
        { unavail := w.unavail.filter (fun k => decide (k = 0)), unavailSince := w.unavailSince, unavailTo := w.unavailTo,
          unavailNs := w.unavailNs, lastWear := w.lastWear, wearClk := w.wearClk, lastSpareTest := w.lastSpareTest }
      else { lastWear := s.clk, wearClk := s.clk, lastSpareTest := s.clk } }

/-- PERST_N acts in the whole-device scope: PERST_SCOPE in effect, or no READY since power-on (R68, R427). -/
def State.wholeScope (s : State) : Bool := decide (s.power.scope = 1) || !s.power.everReady

/-! ### Power -/

/-- POWER_ON: SUPPLY_OK has risen and the internal power-on reset has ended; SMB_ADDR is sampled, and Kindle starts if PERST_N is
released already (R464, R542). `cfgHoldN` is the level of CFG_HOLD_N (R69). -/
def execPowerOn (d straps cfgHoldN : Nat) (s : State) : Host.Outcome State Fault Refusal :=
  cmd true d s fun s =>
    if s.power.on then s
    else
      let s := s.deviceReset false { on := true, perst := s.power.perst, straps := straps % 4 }
      if s.power.perst then s else s.kindleStart (decide (cfgHoldN % 2 = 0))

/-- SUPPLY_OK_FALL: every pin reaches its power-on-reset state, whatever the device is doing (R544). -/
def execSupplyOkFall (d : Nat) (s : State) : Host.Outcome State Fault Refusal :=
  cmd true d s fun s => s.powered fun s => s.deviceReset false { on := false, perst := s.power.perst }

/-! ### PERST_N -/

/-- PERST_N_ASSERT (R425, R427): the whole device, or the host port alone. -/
def execPerstNAssert (d : Nat) (s : State) : Host.Outcome State Fault Refusal :=
  cmd true d s fun s =>
    let p := { s.power with perst := true }
    if !s.power.on ∨ s.power.perst then { s with power := p }
    else if s.wholeScope then s.deviceReset true { p with jtagTest := false, jtagIr := 1, scanLatch := 0 }
    else
      let s := s.hostReset F.HEP_RESET_PERSTS 1 true
      { s with power := { s.power with perst := true } }

/-- PERST_N_RELEASE: CFG_HOLD_N is sampled, and in the whole-device scope a full Kindle starts (R68, R69). -/
def execPerstNRelease (d cfgHoldN : Nat) (s : State) : Host.Outcome State Fault Refusal :=
  cmd true d s fun s =>
    let t := { s with power := { s.power with perst := false } }
    if !s.power.on ∨ !s.power.perst ∨ !s.wholeScope then t else t.kindleStart (decide (cfgHoldN % 2 = 0))

/-! ### The reference -/

/-- REF_LOST: the timebase goes on in holdover (R77). -/
def execRefLost (d : Nat) (s : State) : Host.Outcome State Fault Refusal :=
  cmd true d s fun s => s.powered fun s =>
    if s.running ∧ !s.on F.TB_STATUS_HOLDOVER then
      let s := ((s.wr F.TB_STATUS_LOCKED 0).wr F.TB_STATUS_LOCKED_SLEW 0).wr F.TB_STATUS_HOLDOVER 1
      (s.flag F.TB_STATUS_REF_LOST).raiseT (ev 0x01 3)
    else s

/-- REF_FREQUENCY_LOCK: the timebase has locked its frequency to the returned reference (R77). -/
def execRefFrequencyLock (d : Nat) (s : State) : Host.Outcome State Fault Refusal :=
  cmd true d s fun s => s.powered fun s =>
    if s.on F.TB_STATUS_HOLDOVER then (s.wr F.TB_STATUS_HOLDOVER 0).wr F.TB_STATUS_LOCKED_SLEW 1 else s

/-- REF_PHASE_LOCK: the timebase is in phase again (R77). -/
def execRefPhaseLock (d : Nat) (s : State) : Host.Outcome State Fault Refusal :=
  cmd true d s fun s => s.powered fun s =>
    if s.on F.TB_STATUS_LOCKED_SLEW then (s.wr F.TB_STATUS_LOCKED_SLEW 0).wr F.TB_STATUS_LOCKED 1 else s

end Sys2Proof.Machine
end

