-- ==== Sys2Proof/Machine/SmbTarget.lean ====
section
/-!
DEFINITION. The SMBus target (R463 to R483).
-/

namespace Sys2Proof.Machine

def State.setSmb (s : State) (x : SmbS) : State := { s with smb := x }

/-- The target does not acknowledge. [DESIGN CHOICE, log 21] -/
def State.smbNack (s : State) : State := s.emit .smbNack

/-- An address that finds the target waiting for a banked domain (R474, R475). [DESIGN CHOICE, log 23] -/
def State.wakeNack (s : State) : State := (s.inc F.SMB_T_CNT_WAKE_NACKS).smbNack

/-- A transaction that addresses the target: it answers from the end of the ROM phase onward (R465), and not while a REGS write
waits at a wake gate (R475). -/
def State.smbTx (s : State) (f : State → State) : State :=
  s.powered fun s =>
    if s.rd F.KINDLE_STATUS_PHASE = 0 then s.smbNack else if !s.smb.gate.isEmpty then s.wakeNack else f s

/-- The bytes of a write from the address byte on: code and data (R469). -/
def State.smbSent (s : State) (code : Nat) (data : Bytes) : Bytes := le 1 (2 * (0x58 + s.power.straps)) ++ le 1 code ++ data

/-- The PEC rule lets a write commit: its PEC matches, or none is required and none came (R469). -/
def State.pecOk (s : State) (p : Pec) (sent : Bytes) : Bool :=
  match p with
  | .none => !s.on F.SMB_T_CFG_PEC_REQ
  | .byte b => decide (b % 256 = crc8 sent)
  | .short => false

/-- The end of a write of these bytes: one that ends early counts a protocol error; a PEC that does not match, or that is missing under
PEC_REQ, counts a PEC error, and a mismatching byte is not acknowledged; else the write commits (R467 to R469). -/
def State.smbPec (s : State) (p : Pec) (sent : Bytes) (f : State → State) : State :=
  if p = .short then s.inc F.SMB_T_CNT_PROTO_ERRS
  else if s.pecOk p sent then f s
  else
    let s := (s.flag F.SMB_T_STATUS_PEC_ERR).inc F.SMB_T_CNT_PEC_ERRS
    if p = .none then s else s.smbNack

/-- A command that the target does not acknowledge: BAD_CMD sets and is counted (R467). -/
def State.badCmd (s : State) : State := ((s.flag F.SMB_T_STATUS_BAD_CMD).inc F.SMB_T_CNT_PROTO_ERRS).smbNack

/-- The target returns data to a read command, and its PEC over the whole transaction when one is clocked (R469). -/
def State.smbData (s : State) (code : Nat) (bs : Bytes) : State :=
  s.emit (.smbData bs (crc8 (s.smbSent code (le 1 (2 * (0x58 + s.power.straps) + 1) ++ bs))))

/-! ### Status commands -/

/-- The word that STATUS returns (R466). -/
def State.smbWord (s : State) : Nat :=
  s.rd F.KINDLE_STATUS_PHASE + 2 ^ 4 * s.rd F.HEP_QUENCH_QUENCHED + 2 ^ 5 * s.rd F.BLW_STATUS_THERMAL
    + 2 ^ 6 * s.rd F.WELD_STATUS_FATAL_LOGGED + 2 ^ 7 * b2n s.alertLow + 2 ^ 8 * s.rd F.SMB_T_STATUS_PRIV
    + 2 ^ 9 * b2n (!s.smb.gate.isEmpty)

/-- SMB_STATUS: Read Word (R466). -/
def execSmbStatus (d : Nat) (s : State) : Host.Outcome State Fault Refusal :=
  cmd true d s fun s => s.smbTx fun s => s.smbData 1 (le 2 s.smbWord)

/-- SMB_IDENT: Block Read of 16 bytes, the count first (R466). -/
def execSmbIdent (d : Nat) (s : State) : Host.Outcome State Fault Refusal :=
  cmd true d s fun s => s.smbTx fun s => s.smbData 2 (le 1 16 ++ le 8 (s.busRead 0 8) ++ le 8 (s.busRead 8 8))

/-- SMB_TEMP: Read Word of T_MAX (R317, R466). -/
def execSmbTemp (d : Nat) (s : State) : Host.Outcome State Fault Refusal :=
  cmd true d s fun s => s.smbTx fun s => s.smbData 3 (le 2 (uOf 16 s.tMax))

/-- SMB_POWER: Read Word of P_AVG (R466). -/
def execSmbPower (d : Nat) (s : State) : Host.Outcome State Fault Refusal :=
  cmd true d s fun s => s.smbTx fun s => s.smbData 4 (le 2 (s.rd F.BLW_POWER_P_AVG))

/-- SMB_ALERT_SRC: Read Byte of SRC (R466). -/
def execSmbAlertSrc (d : Nat) (s : State) : Host.Outcome State Fault Refusal :=
  cmd true d s fun s => s.smbTx fun s => s.smbData 6 (le 1 (s.rd F.SMB_ALERT_SRC))

/-- SMB_ALERT_CLR: Write Byte; each bit written 1 clears that bit of SRC (R481). -/
def execSmbAlertClr (d v : Nat) (pec : Pec) (s : State) : Host.Outcome State Fault Refusal :=
  cmd true d s fun s => s.smbTx fun s => s.smbPec pec (s.smbSent 7 (le 1 v)) fun s => s.setFld F.SMB_ALERT_SRC 0 0 (v % 256)

/-! ### Sessions -/

/-- SMB_UNLOCK: Write Word; not acknowledged during a lockout (R470). [DESIGN CHOICE, log 21] -/
def execSmbUnlock (d key : Nat) (pec : Pec) (s : State) : Host.Outcome State Fault Refusal :=
  cmd true d s fun s => s.smbTx fun s =>
    if s.on F.SMB_T_STATUS_LOCKOUT then s.smbNack
    else s.smbPec pec (s.smbSent 0x10 (le 2 key)) fun s =>
      if key % 65536 = s.rd F.SMB_T_KEY_KEY ∧ key % 65536 ≠ 0 then
        (s.wr F.SMB_T_STATUS_PRIV 1).setSmb { s.smb with lastPriv := s.clk }
      else
        let s := ((s.inc F.SMB_T_CNT_KEY_FAILS).flag F.SMB_T_STATUS_KEY_FAIL).wr F.SMB_T_STATUS_LOCKOUT 1
        s.setSmb { s.smb with lockAt := s.clk }

/-- SMB_LOCK: Send Byte; the session ends (R470). -/
def execSmbLock (d : Nat) (pec : Pec) (s : State) : Host.Outcome State Fault Refusal :=
  cmd true d s fun s => s.smbTx fun s => s.smbPec pec (s.smbSent 0x11 []) fun s => s.wr F.SMB_T_STATUS_PRIV 0

/-- SESSION_TIMEOUT: SESSION_S seconds have passed since the last privileged command (R470). -/
def execSessionTimeout (d : Nat) (s : State) : Host.Outcome State Fault Refusal :=
  cmd true d s fun s => s.powered fun s =>
    if s.on F.SMB_T_STATUS_PRIV ∧ s.due s.smb.lastPriv (1000000000 * s.rd F.SMB_T_TIMING_SESSION_S)
    then s.wr F.SMB_T_STATUS_PRIV 0 else s

/-- UNLOCK_LOCKOUT_END: 1 s has passed since a wrong key (R470). -/
def execUnlockLockoutEnd (d : Nat) (s : State) : Host.Outcome State Fault Refusal :=
  cmd true d s fun s => s.powered fun s =>
    if s.on F.SMB_T_STATUS_LOCKOUT ∧ s.due s.smb.lockAt 1000000000 then s.wr F.SMB_T_STATUS_LOCKOUT 0 else s

/-! ### Page, pointer and length -/

/-- A parameter of a unit: written when the command carries a value, else read (R471). [DESIGN CHOICE, log 20] -/
def State.smbParam (s : State) (code bytes : Nat) (v : Option Nat) (pec : Pec) (now : Nat) (set : State → Nat → State) : State :=
  s.smbTx fun s => match v with
    | none => s.smbData code (le bytes now)
    | some x => s.smbPec pec (s.smbSent code (le bytes x)) fun s => set s x

/-- SMB_PAGE u: Write Word or Read Word (R471). -/
def execSmbPage (d u : Nat) (v : Option Nat) (pec : Pec) (s : State) : Host.Outcome State Fault Refusal :=
  cmd (decide (u < 2)) d s fun s =>
    s.smbParam (0x40 + u) 2 v pec (s.smb.page.getD u 0) fun s x => s.setSmb { s.smb with page := s.smb.page.put u (x % 65536) 0 }

/-- SMB_PTR u: Write Word or Read Word (R471). -/
def execSmbPtr (d u : Nat) (v : Option Nat) (pec : Pec) (s : State) : Host.Outcome State Fault Refusal :=
  cmd (decide (u < 2)) d s fun s =>
    s.smbParam (0x44 + u) 2 v pec (s.smb.ptr.getD u 0) fun s x => s.setSmb { s.smb with ptr := s.smb.ptr.put u (x % 65536) 0 }

/-- SMB_LEN u: Write Byte or Read Byte (R471). -/
def execSmbLen (d u : Nat) (v : Option Nat) (pec : Pec) (s : State) : Host.Outcome State Fault Refusal :=
  cmd (decide (u < 2)) d s fun s =>
    s.smbParam (0x48 + u) 1 v pec (s.smb.len.getD u 0) fun s x => s.setSmb { s.smb with len := s.smb.len.put u (x % 256) 0 }

/-! ### Transfers -/

/-- Byte address of a transfer (R471). -/
def State.smbAddr (s : State) (u : Nat) : Nat := 65536 * s.smb.page.getD u 0 + s.smb.ptr.getD u 0

/-- Whether a transfer of n bytes keeps the rules of R471. [DESIGN CHOICE, log 20] -/
def State.smbOk (s : State) (u n : Nat) (write fixed : Bool) : Bool :=
  let p := s.smb.ptr.getD u 0
  let priv := s.on F.SMB_T_STATUS_PRIV
  within 1 n 32 && decide (p + n ≤ 65536)
    && (if u = 0 then decide (s.smb.page.getD u 0 ≤ 1023) && (!write || priv)
          && (if fixed then decide (p % 8 = 0) else decide (p % 4 = 0 ∧ n % 4 = 0))
        else !write && priv)

/-- The pointer of a unit advances past the bytes transferred (R471). -/
def State.smbAdvance (s : State) (u n : Nat) : State :=
  s.setSmb { s.smb with ptr := s.smb.ptr.put u ((s.smb.ptr.getD u 0 + n) % 65536) 0 }

/-- A privileged command restarts the session's time (R470). -/
def State.smbPriv (s : State) : State := s.setSmb { s.smb with lastPriv := s.clk }

/-- A 4-byte REGS read; SMB_T_KEY reads 0 (R472). -/
def State.regsRead4 (s : State) (a : Nat) : Bytes × State :=
  if a = 0xC0004 then (zeros 4, s) else
    let r := s.read4 a
    (le 4 r.1, r.2)

/-- The 4-byte accesses of a DATA read of REGS, ascending (R471). -/
def State.regsRead (s : State) (a : Nat) : Nat → Bytes × State
  | 0 => ([], s)
  | n + 1 =>
    let r := s.regsRead4 a
    let q := r.2.regsRead (a + 4) n
    (r.1 ++ q.1, q.2)

/-- The 8-byte access of a DATA8 read of REGS. -/
def State.regsRead8 (s : State) (a : Nat) : Bytes :=
  if a = 0xC0000 then le 4 (s.busRead a 4) ++ zeros 4 else le 8 (s.busRead a 8)

/-- A domain banked deeper than B1 holds an address up (R474). -/
def State.bankedAt (s : State) (a : Nat) : Option Nat :=
  match regDomain a with
  | some dom => if 2 ≤ s.rd F.BLW_DOM_LEVEL dom then some dom else none
  | none => none

/-- What a fetch of the held transfer returns (R471, R474). -/
def State.fetchData (s : State) (h : SmbHeld) : Bytes × State :=
  let a := 65536 * h.page + h.ptr
  if h.unit = 1 then (s.flashRead a h.len, s)
  else if h.code = 0x50 then (s.regsRead8 a, s)
  else s.regsRead a (h.len / 4)

/-- The data of a completed fetch is held (R474). -/
def State.fetchDone (s : State) (h : SmbHeld) : State :=
  let r := s.fetchData h
  r.2.setSmb { r.2.smb with held := some { h with data := some r.1, at_ := s.clk } }

/-- The target returns the data that it holds: DATA with its count, DATA8 without (R466, R474). [DESIGN CHOICE, log 22] -/
def State.smbAnswer (s : State) (h : SmbHeld) (data : Bytes) : State :=
  let s := if h.code / 4 = 0x13 then s.smbData h.code (le 1 data.length ++ data) else s.smbData h.code data
  let s := s.smbAdvance h.unit h.len
  if h.unit = 1 then s.smbPriv else s

/-- A DATA or DATA8 read (R474). `late`: the repeated-start address arrives before the fetch has completed. [DESIGN CHOICE, log 22] -/
def State.smbRead (s : State) (u code n : Nat) (late : Bool) : State :=
  if !s.smbOk u n false (decide (code / 4 = 0x14)) then s.badCmd
  else
    let h : SmbHeld := ⟨code, u, s.smb.page.getD u 0, s.smb.ptr.getD u 0, n, none, s.clk⟩
    let same := s.smb.held.filter fun x => decide (x.code = code ∧ x.unit = u ∧ x.page = h.page ∧ x.ptr = h.ptr ∧ x.len = n)
    let ready := same.bind fun x => if s.due x.at_ (1000000 * s.rd F.SMB_T_TIMING_HOLD_MS) then none else x.data
    let fetching := same.any fun x => x.data.isNone
    match ready with
    | some data => s.smbAnswer h data
    | none =>
      if fetching then s.wakeNack
      else
        let banked := if u = 0 then s.bankedAt (s.smbAddr u) else none
        let busy := decide (u = 1) && (s.flash.busy.isSome || !s.flash.waiting.isEmpty || !s.weld.ingots.isEmpty)
        if late || banked.isSome || busy then
          let s := match banked with
            | some dom => s.beginExit dom
            | none => s
          let s := if u = 1 then s.setFlash { s.flash with waiting := s.flash.waiting ++ [.smbRead (s.smbAddr u) n] } else s
          (s.setSmb { s.smb with held := some h }).wakeNack
        else
          let s := s.fetchDone h
          match s.smb.held.bind (·.data) with
          | some data => s.smbAnswer h data
          | none => s

/-- SMB_DATA_READ u: Block Read of LEN bytes (R471, R474). -/
def execSmbDataRead (d u : Nat) (late : Bool) (s : State) : Host.Outcome State Fault Refusal :=
  cmd (decide (u < 2)) d s fun s => s.smbTx fun s => s.smbRead u (0x4C + u) (s.smb.len.getD u 0) late

/-- SMB_DATA8_READ u: a fixed read of 8 bytes (R471, R474). -/
def execSmbData8Read (d u : Nat) (late : Bool) (s : State) : Host.Outcome State Fault Refusal :=
  cmd (decide (u < 2)) d s fun s => s.smbTx fun s => s.smbRead u (0x50 + u) 8 late

/-- SMB_FETCH_COMPLETE: the fetch in progress completes: a REGS fetch once its domain is awake, a FLASH fetch when the arbiter
serves it (R474, R75). -/
def execSmbFetchComplete (d : Nat) (s : State) : Host.Outcome State Fault Refusal :=
  cmd true d s fun s => s.powered fun s =>
    let free := s.setFlash { s.flash with busy := none }
    match s.smb.held with
    | some h =>
      if h.data.isSome then s
      else if h.unit = 0 then (if (s.bankedAt (65536 * h.page + h.ptr)).isSome then s else s.fetchDone h)
      else if s.flash.busy = some (.smbRead (65536 * h.page + h.ptr) h.len) then free.fetchDone h
      else s
    | none => s

/-- SMB_HELD_DATA_EXPIRY: fetched data has been held for HOLD_MS (R474). [DESIGN CHOICE, log 22] -/
def execSmbHeldDataExpiry (d : Nat) (s : State) : Host.Outcome State Fault Refusal :=
  cmd true d s fun s => s.powered fun s =>
    match s.smb.held with
    | some h => if h.data.isSome ∧ s.due h.at_ (1000000 * s.rd F.SMB_T_TIMING_HOLD_MS) then s.setSmb { s.smb with held := none } else s
    | none => s

/-- Accesses of a REGS write: once one waits at a wake gate, the later ones wait behind it (R475). [DESIGN CHOICE, log 23] -/
def State.smbWrites (s : State) (ws : List HeldWrite) : State :=
  ws.foldl (fun s w => if s.smb.gate.isEmpty then s.busWrite .smb w else s.setSmb { s.smb with gate := s.smb.gate ++ [w] }) s

/-- The 4-byte accesses of a DATA write of REGS, ascending (R471). -/
def words4 (a : Nat) : Nat → Bytes → List HeldWrite
  | 0, _ => []
  | n + 1, bs => ⟨a, 4, leAt bs 0 4⟩ :: words4 (a + 4) n (bs.drop 4)

/-- SMB_DATA_WRITE u: Block Write of `count` bytes. A count out of range is not acknowledged; a write that breaks R471 is a bad
command; one that ends early commits nothing (R467, R472). [DESIGN CHOICE, log 21] -/
def execSmbDataWrite (d u count : Nat) (data : Bytes) (pec : Pec) (s : State) : Host.Outcome State Fault Refusal :=
  cmd (decide (u < 2)) d s fun s => s.smbTx fun s =>
    let count := count % 256
    let data := data.take count
    if u = 1 ∨ !s.on F.SMB_T_STATUS_PRIV then s.badCmd
    else if !within 1 count 32 then s.smbNack
    else if !s.smbOk u count true false then s.badCmd
    else if data.length < count then s.inc F.SMB_T_CNT_PROTO_ERRS
    else s.smbPec pec (s.smbSent (0x4C + u) (le 1 count ++ data)) fun s => ((s.smbPriv).smbAdvance u count).smbWrites (words4 (s.smbAddr u) (count / 4) data)

/-- SMB_DATA8_WRITE u: a fixed write of 8 bytes to REGS is one 8-byte write (R471, R472). -/
def execSmbData8Write (d u v : Nat) (pec : Pec) (s : State) : Host.Outcome State Fault Refusal :=
  cmd (decide (u < 2)) d s fun s => s.smbTx fun s =>
    if !s.smbOk u 8 true true then s.badCmd
    else s.smbPec pec (s.smbSent (0x50 + u) (le 8 v)) fun s => ((s.smbPriv).smbAdvance u 8).smbWrites [⟨s.smbAddr u, 8, v % 2 ^ 64⟩]

/-- REGS_WRITE_APPLIED: the domain of the REGS write held at a wake gate is awake, and the write takes effect (R475). [DESIGN CHOICE, log 23] -/
def execRegsWriteApplied (d : Nat) (s : State) : Host.Outcome State Fault Refusal :=
  cmd true d s fun s => s.powered fun s =>
    match s.smb.gate with
    | [] => s
    | w :: ws => if (s.bankedAt w.addr).isSome then s else (s.setSmb { s.smb with gate := [] }).smbWrites (w :: ws)

/-! ### Alert response and errors -/

/-- ALERT_RESPONSE: a read of address 0x0C, answered while the alert is driven low. A won response covers the sources set and
enabled (R482, R483). -/
def execAlertResponse (d : Nat) (won : Bool) (s : State) : Host.Outcome State Fault Refusal :=
  cmd true d s fun s => s.smbTx fun s =>
    if !s.alertLow then s.smbNack
    else
      let b := le 1 (2 * (0x58 + s.power.straps))
      let s := s.emit (.smbData b (crc8 (le 1 (2 * 0x0C + 1) ++ b)))
      if won then s.setSmb { s.smb with covered := s.smb.covered ||| (s.rd F.SMB_ALERT_SRC &&& s.rd F.SMB_ALERT_EN) } else s

/-- SMB_TARGET_TIMEOUT: SCL has been low for 25 ms (R477). -/
def execSmbTargetTimeout (d : Nat) (s : State) : Host.Outcome State Fault Refusal :=
  cmd true d s fun s => s.powered fun s => (s.flag F.SMB_T_STATUS_TIMEOUT).inc F.SMB_T_CNT_PROTO_ERRS

/-- SMB_PROTOCOL_ERROR: a START or STOP in mid-byte (R479). -/
def execSmbProtocolError (d : Nat) (s : State) : Host.Outcome State Fault Refusal :=
  cmd true d s fun s => s.powered fun s => (s.flag F.SMB_T_STATUS_PROTO_ERR).inc F.SMB_T_CNT_PROTO_ERRS

/-- SMB_T_CLEAR_COUNTS: SMB_T_CFG.CLEAR_COUNTS (R467). -/
def execSmbTClearCounts (d : Nat) (s : State) : Host.Outcome State Fault Refusal :=
  cmd true d s fun s => s.hostWrite F.SMB_T_CFG_CLEAR_COUNTS.addr State.smbClear

/-- Command codes of R466. -/
def smbCodes : List Nat :=
  [0x01, 0x02, 0x03, 0x04, 0x06, 0x07, 0x10, 0x11, 0x40, 0x41, 0x44, 0x45, 0x48, 0x49, 0x4C, 0x4D, 0x50, 0x51]

/-- SMB_BAD_COMMAND: a code that is not in R466, or that needs a privilege that no session gives (R467). Another code is not a
bad command and has its own meaning. -/
def execSmbBadCommand (d code : Nat) (s : State) : Host.Outcome State Fault Refusal :=
  cmd true d s fun s => s.smbTx fun s =>
    let code := code % 256
    if code ∉ smbCodes ∨ (0x4C ≤ code ∧ !s.on F.SMB_T_STATUS_PRIV) then s.badCmd else s

end Sys2Proof.Machine
end

