-- ==== Sys2Proof/Machine/Dispatch.lean ====
section
/-! DEFINITION. The meaning of every command: one arm per row of the opcode table. -/

namespace Sys2Proof.Machine

def exec (i : Instr) (s : State) : Host.Outcome State Fault Refusal :=
  match i with
  | .registerWrite d a size x => Sys2Proof.Machine.execRegisterWrite d a size x s
  | .decideReplyWrite d off size v => Sys2Proof.Machine.execDecideReplyWrite d off size v s
  | .decideTimeout d id => Sys2Proof.Machine.execDecideTimeout d id s
  | .heldRequestPost d => Sys2Proof.Machine.execHeldRequestPost d s
  | .funcModeWrite d f v => Sys2Proof.Machine.execFuncModeWrite d f v s
  | .funcModeSafePoint d f u => Sys2Proof.Machine.execFuncModeSafePoint d f u s
  | .powerOn d straps cfgHoldN => Sys2Proof.Machine.execPowerOn d straps cfgHoldN s
  | .supplyOkFall d => Sys2Proof.Machine.execSupplyOkFall d s
  | .perstNAssert d => Sys2Proof.Machine.execPerstNAssert d s
  | .perstNRelease d cfgHoldN => Sys2Proof.Machine.execPerstNRelease d cfgHoldN s
  | .timebaseLock d => Sys2Proof.Machine.execTimebaseLock d s
  | .flashInitDone d sfdpOk sectors uniform ddrOk => Sys2Proof.Machine.execFlashInitDone d sfdpOk sectors uniform ddrOk s
  | .slotSelect d => Sys2Proof.Machine.execSlotSelect d s
  | .candidateVerify d => Sys2Proof.Machine.execCandidateVerify d s
  | .hbmTrainingDone d failed => Sys2Proof.Machine.execHbmTrainingDone d failed s
  | .hostLinkUp d speed width flit => Sys2Proof.Machine.execHostLinkUp d speed width flit s
  | .kindleApplyDone d => Sys2Proof.Machine.execKindleApplyDone d s
  | .journalRestore d => Sys2Proof.Machine.execJournalRestore d s
  | .kindleReady d => Sys2Proof.Machine.execKindleReady d s
  | .kindleHold d => Sys2Proof.Machine.execKindleHold d s
  | .rekindle d key => Sys2Proof.Machine.execRekindle d key s
  | .finish d key => Sys2Proof.Machine.execFinish d key s
  | .resourceClaim d cls idx owner => Sys2Proof.Machine.execResourceClaim d cls idx owner s
  | .resourceRelease d cls idx owner => Sys2Proof.Machine.execResourceRelease d cls idx owner s
  | .flashRead d len => Sys2Proof.Machine.execFlashRead d len s
  | .flashProgram d len => Sys2Proof.Machine.execFlashProgram d len s
  | .flashErase d => Sys2Proof.Machine.execFlashErase d s
  | .flashArbiterServe d => Sys2Proof.Machine.execFlashArbiterServe d s
  | .flashOpDone d ok => Sys2Proof.Machine.execFlashOpDone d ok s
  | .refLost d => Sys2Proof.Machine.execRefLost d s
  | .refFrequencyLock d => Sys2Proof.Machine.execRefFrequencyLock d s
  | .refPhaseLock d => Sys2Proof.Machine.execRefPhaseLock d s
  | .encoderEdge d smp => Sys2Proof.Machine.execEncoderEdge d smp s
  | .encoderIndex d smp => Sys2Proof.Machine.execEncoderIndex d smp s
  | .axisStall d a => Sys2Proof.Machine.execAxisStall d a s
  | .axisResume d a => Sys2Proof.Machine.execAxisResume d a s
  | .useRedundant d a => Sys2Proof.Machine.execUseRedundant d a s
  | .usePrimary d a => Sys2Proof.Machine.execUsePrimary d a s
  | .generatorArm d k g => Sys2Proof.Machine.execGeneratorArm d k g s
  | .generatorDisarm d k g => Sys2Proof.Machine.execGeneratorDisarm d k g s
  | .generatorFlush d k g => Sys2Proof.Machine.execGeneratorFlush d k g s
  | .targetCrossing d k g => Sys2Proof.Machine.execTargetCrossing d k g s
  | .triggerIssue d g wait => Sys2Proof.Machine.execTriggerIssue d g wait s
  | .pinPulseIssue d p => Sys2Proof.Machine.execPinPulseIssue d p s
  | .pinPulseEnd d p => Sys2Proof.Machine.execPinPulseEnd d p s
  | .firePointIssue d c => Sys2Proof.Machine.execFirePointIssue d c s
  | .ledgerFirstBlockNotice d idx => Sys2Proof.Machine.execLedgerFirstBlockNotice d idx s
  | .ledgerFrameTagNotice d idx => Sys2Proof.Machine.execLedgerFrameTagNotice d idx s
  | .firstBlockTimeout d idx => Sys2Proof.Machine.execFirstBlockTimeout d idx s
  | .frameTimeout d idx => Sys2Proof.Machine.execFrameTimeout d idx s
  | .ledgerSelWrite d index => Sys2Proof.Machine.execLedgerSelWrite d index s
  | .exposeAckApply d h => Sys2Proof.Machine.execExposeAckApply d h s
  | .laneEnable d k => Sys2Proof.Machine.execLaneEnable d k s
  | .signalDetect d k => Sys2Proof.Machine.execSignalDetect d k s
  | .cdrLock d k => Sys2Proof.Machine.execCdrLock d k s
  | .blockLock d k => Sys2Proof.Machine.execBlockLock d k s
  | .laneBlockReceive d k hdr payload => Sys2Proof.Machine.execLaneBlockReceive d k hdr payload s
  | .lockWindowLoss d k => Sys2Proof.Machine.execLockWindowLoss d k s
  | .lossOfSignal d k => Sys2Proof.Machine.execLossOfSignal d k s
  | .trainTimeout d k => Sys2Proof.Machine.execTrainTimeout d k s
  | .lockTimeout d k => Sys2Proof.Machine.execLockTimeout d k s
  | .capsTimeout d k => Sys2Proof.Machine.execCapsTimeout d k s
  | .relockTimeout d k => Sys2Proof.Machine.execRelockTimeout d k s
  | .exitDetect d k => Sys2Proof.Machine.execExitDetect d k s
  | .exitFail d k => Sys2Proof.Machine.execExitFail d k s
  | .txExit d k => Sys2Proof.Machine.execTxExit d k s
  | .fomMeasure d k v h => Sys2Proof.Machine.execFomMeasure d k v h s
  | .trimDecision d k ctle dfe => Sys2Proof.Machine.execTrimDecision d k ctle dfe s
  | .trimFreeze d k => Sys2Proof.Machine.execTrimFreeze d k s
  | .retrain d k => Sys2Proof.Machine.execRetrain d k s
  | .laneClearCounts d k => Sys2Proof.Machine.execLaneClearCounts d k s
  | .testEnter d k v => Sys2Proof.Machine.execTestEnter d k v s
  | .testExit d k v => Sys2Proof.Machine.execTestExit d k v s
  | .injectFire d k v => Sys2Proof.Machine.execInjectFire d k v s
  | .injectRepeat d k => Sys2Proof.Machine.execInjectRepeat d k s
  | .spareListenStart d g => Sys2Proof.Machine.execSpareListenStart d g s
  | .spareSwitch d g => Sys2Proof.Machine.execSpareSwitch d g s
  | .spareLossTakeover d g => Sys2Proof.Machine.execSpareLossTakeover d g s
  | .suspectTestDone d g errs => Sys2Proof.Machine.execSuspectTestDone d g errs s
  | .lgrpSubstitute d g pad => Sys2Proof.Machine.execLgrpSubstitute d g pad s
  | .lgrpAbandon d g => Sys2Proof.Machine.execLgrpAbandon d g s
  | .markerSetReceive d p => Sys2Proof.Machine.execMarkerSetReceive d p s
  | .alignTimeout d p => Sys2Proof.Machine.execAlignTimeout d p s
  | .linkResetDeferred d p => Sys2Proof.Machine.execLinkResetDeferred d p s
  | .capsReqSend d l => Sys2Proof.Machine.execCapsReqSend d l s
  | .capsReceive d q => Sys2Proof.Machine.execCapsReceive d q s
  | .frameStart d p bad => Sys2Proof.Machine.execFrameStart d p bad s
  | .frameEnd d p power bad => Sys2Proof.Machine.execFrameEnd d p power bad s
  | .imagePacket d p bad => Sys2Proof.Machine.execImagePacket d p bad s
  | .billetIdleTimeout d h => Sys2Proof.Machine.execBilletIdleTimeout d h s
  | .rspReceive d p => Sys2Proof.Machine.execRspReceive d p s
  | .cmdTimeout d p tag => Sys2Proof.Machine.execCmdTimeout d p tag s
  | .eventReceive d p => Sys2Proof.Machine.execEventReceive d p s
  | .heartbeatReceive d p => Sys2Proof.Machine.execHeartbeatReceive d p s
  | .heartbeatTimeout d p => Sys2Proof.Machine.execHeartbeatTimeout d p s
  | .heartbeatSend d p => Sys2Proof.Machine.execHeartbeatSend d p s
  | .cmdRead d p len addr => Sys2Proof.Machine.execCmdRead d p len addr s
  | .cmdWrite d p len addr => Sys2Proof.Machine.execCmdWrite d p len addr s
  | .cmdEidleDown d p => Sys2Proof.Machine.execCmdEidleDown d p s
  | .cmdWakeDown d p => Sys2Proof.Machine.execCmdWakeDown d p s
  | .cmdCapsRead d p => Sys2Proof.Machine.execCmdCapsRead d p s
  | .cmdLinkReset d p => Sys2Proof.Machine.execCmdLinkReset d p s
  | .cmdCameraPrivate d p op len addr => Sys2Proof.Machine.execCmdCameraPrivate d p op len addr s
  | .cobexLinkReset d p => Sys2Proof.Machine.execCobexLinkReset d p s
  | .cobexClearCounts d p => Sys2Proof.Machine.execCobexClearCounts d p s
  | .tableSwap d n => Sys2Proof.Machine.execTableSwap d n s
  | .markSetNow d n m st => Sys2Proof.Machine.execMarkSetNow d n m st s
  | .markSetNextFrame d n m st => Sys2Proof.Machine.execMarkSetNextFrame d n m st s
  | .markClear d n m => Sys2Proof.Machine.execMarkClear d n m s
  | .rewind d n m => Sys2Proof.Machine.execRewind d n m s
  | .hearthClearCounts d n => Sys2Proof.Machine.execHearthClearCounts d n s
  | .exposureOrder d n value => Sys2Proof.Machine.execExposureOrder d n value s
  | .billetStart d => Sys2Proof.Machine.execBilletStart d s
  | .billetCompareEnd d t => Sys2Proof.Machine.execBilletCompareEnd d t s
  | .evidenceMessage d c index => Sys2Proof.Machine.execEvidenceMessage d c index s
  | .billetAbandon d index => Sys2Proof.Machine.execBilletAbandon d index s
  | .modelCommit d p => Sys2Proof.Machine.execModelCommit d p s
  | .compareDisable d h => Sys2Proof.Machine.execCompareDisable d h s
  | .anvilClearCounts d => Sys2Proof.Machine.execAnvilClearCounts d s
  | .latchLoadBegin d c bad => Sys2Proof.Machine.execLatchLoadBegin d c bad s
  | .latchPulseEnd d c => Sys2Proof.Machine.execLatchPulseEnd d c s
  | .dotLineCommit d c => Sys2Proof.Machine.execDotLineCommit d c s
  | .headHotAccept d c => Sys2Proof.Machine.execHeadHotAccept d c s
  | .headCoolAccept d c => Sys2Proof.Machine.execHeadCoolAccept d c s
  | .resumeDelayExpiry d g => Sys2Proof.Machine.execResumeDelayExpiry d g s
  | .hgrpResume d g => Sys2Proof.Machine.execHgrpResume d g s
  | .hammerFlush d c => Sys2Proof.Machine.execHammerFlush d c s
  | .hammerClearCounts d c => Sys2Proof.Machine.execHammerClearCounts d c s
  | .contextWrite d c n size v => Sys2Proof.Machine.execContextWrite d c n size v s
  | .holdSweep d c n => Sys2Proof.Machine.execHoldSweep d c n s
  | .headReset d c tag => Sys2Proof.Machine.execHeadReset d c tag s
  | .snapshot d c => Sys2Proof.Machine.execSnapshot d c s
  | .snapshotPeriodic d => Sys2Proof.Machine.execSnapshotPeriodic d s
  | .nctxClearCounts d c => Sys2Proof.Machine.execNctxClearCounts d c s
  | .tempSample d readings => Sys2Proof.Machine.execTempSample d readings s
  | .budgetGuard d act pTile toks => Sys2Proof.Machine.execBudgetGuard d act pTile toks s
  | .telemetryRead d => Sys2Proof.Machine.execTelemetryRead d s
  | .bellowsEpoch d toks => Sys2Proof.Machine.execBellowsEpoch d toks s
  | .railWrite d k x => Sys2Proof.Machine.execRailWrite d k x s
  | .bankEntry d dom => Sys2Proof.Machine.execBankEntry d dom s
  | .bankExit d dom => Sys2Proof.Machine.execBankExit d dom s
  | .bankExitDone d dom => Sys2Proof.Machine.execBankExitDone d dom s
  | .wakeNsWrite d k v => Sys2Proof.Machine.execWakeNsWrite d k v s
  | .bondIdleEntry d p => Sys2Proof.Machine.execBondIdleEntry d p s
  | .blwClearPeaks d => Sys2Proof.Machine.execBlwClearPeaks d s
  | .blwClearCounts d => Sys2Proof.Machine.execBlwClearCounts d s
  | .recordPush d t source data => Sys2Proof.Machine.execRecordPush d t source data s
  | .recordCommit d t index => Sys2Proof.Machine.execRecordCommit d t index s
  | .unitPop d ch bad tagBad => Sys2Proof.Machine.execUnitPop d ch bad tagBad s
  | .troughFlush d t => Sys2Proof.Machine.execTroughFlush d t s
  | .troughMark d t => Sys2Proof.Machine.execTroughMark d t s
  | .troughInject d t => Sys2Proof.Machine.execTroughInject d t s
  | .troughClearCounts d t => Sys2Proof.Machine.execTroughClearCounts d t s
  | .watermarkWrite d t v => Sys2Proof.Machine.execWatermarkWrite d t v s
  | .channelEnable d ch => Sys2Proof.Machine.execChannelEnable d ch s
  | .channelDisable d ch => Sys2Proof.Machine.execChannelDisable d ch s
  | .drainComplete d ch => Sys2Proof.Machine.execDrainComplete d ch s
  | .doorbell d ch => Sys2Proof.Machine.execDoorbell d ch s
  | .descriptorFetch d ch => Sys2Proof.Machine.execDescriptorFetch d ch s
  | .linkRefetch d ch => Sys2Proof.Machine.execLinkRefetch d ch s
  | .tagGrant d => Sys2Proof.Machine.execTagGrant d s
  | .streamLineDeliver d ch => Sys2Proof.Machine.execStreamLineDeliver d ch s
  | .troughRecordDeliver d ch => Sys2Proof.Machine.execTroughRecordDeliver d ch s
  | .bufferCloseTimeout d ch => Sys2Proof.Machine.execBufferCloseTimeout d ch s
  | .pacingHoldExpiry d t => Sys2Proof.Machine.execPacingHoldExpiry d t s
  | .dotSlotWaitEnd d ch => Sys2Proof.Machine.execDotSlotWaitEnd d ch s
  | .cqReturn d ch rd => Sys2Proof.Machine.execCqReturn d ch rd s
  | .cqCfgWrite d ch v => Sys2Proof.Machine.execCqCfgWrite d ch v s
  | .tongsClearCounts d ch => Sys2Proof.Machine.execTongsClearCounts d ch s
  | .completionReceive d tag data status poisoned last => Sys2Proof.Machine.execCompletionReceive d tag data status poisoned last s
  | .completionTimeout d tag => Sys2Proof.Machine.execCompletionTimeout d tag s
  | .quarantineExpiry d tag => Sys2Proof.Machine.execQuarantineExpiry d tag s
  | .bar0BadRequest d isRead addr size whole => Sys2Proof.Machine.execBar0BadRequest d isRead addr size whole s
  | .bar2Request d isRead off len data poisoned ns => Sys2Proof.Machine.execBar2Request d isRead off len data poisoned ns s
  | .bar4Request d isRead off size v whole => Sys2Proof.Machine.execBar4Request d isRead off size v whole s
  | .unsupportedRequestReceive d posted => Sys2Proof.Machine.execUnsupportedRequestReceive d posted s
  | .hostPortError d kind hdr => Sys2Proof.Machine.execHostPortError d kind hdr s
  | .apertureCommit d a => Sys2Proof.Machine.execApertureCommit d a s
  | .hotReset d => Sys2Proof.Machine.execHotReset d s
  | .linkDown d => Sys2Proof.Machine.execLinkDown d s
  | .functionLevelReset d => Sys2Proof.Machine.execFunctionLevelReset d s
  | .d3hotEntry d => Sys2Proof.Machine.execD3hotEntry d s
  | .d0Return d => Sys2Proof.Machine.execD0Return d s
  | .l0pEntry d width => Sys2Proof.Machine.execL0pEntry d width s
  | .l1Entry d => Sys2Proof.Machine.execL1Entry d s
  | .linkPmExit d => Sys2Proof.Machine.execLinkPmExit d s
  | .ltrUsWrite d us => Sys2Proof.Machine.execLtrUsWrite d us s
  | .quenchEnter d => Sys2Proof.Machine.execQuenchEnter d s
  | .quenchClearHost d => Sys2Proof.Machine.execQuenchClearHost d s
  | .quenchClearCto d => Sys2Proof.Machine.execQuenchClearCto d s
  | .quenchAsk d => Sys2Proof.Machine.execQuenchAsk d s
  | .aerStatusClear d unc cor => Sys2Proof.Machine.execAerStatusClear d unc cor s
  | .quenchRelease d => Sys2Proof.Machine.execQuenchRelease d s
  | .quenchReleaseDelayExpiry d => Sys2Proof.Machine.execQuenchReleaseDelayExpiry d s
  | .hepClearCounts d => Sys2Proof.Machine.execHepClearCounts d s
  | .msixSrcWrite d v x => Sys2Proof.Machine.execMsixSrcWrite d v x s
  | .vectorUnmask d v => Sys2Proof.Machine.execVectorUnmask d v s
  | .moderationExpiry d v => Sys2Proof.Machine.execModerationExpiry d v s
  | .channelEvent d ch => Sys2Proof.Machine.execChannelEvent d ch s
  | .loopWindowEnd d => Sys2Proof.Machine.execLoopWindowEnd d s
  | .loopClear d ch => Sys2Proof.Machine.execLoopClear d ch s
  | .cellFilterExpiry d k => Sys2Proof.Machine.execCellFilterExpiry d k s
  | .gpioInputEdge d n level => Sys2Proof.Machine.execGpioInputEdge d n level s
  | .gpioPulseEnd d n => Sys2Proof.Machine.execGpioPulseEnd d n s
  | .softwareEvent d ch => Sys2Proof.Machine.execSoftwareEvent d ch s
  | .softwareTask d k => Sys2Proof.Machine.execSoftwareTask d k s
  | .cellConfigWrite d isCell index v => Sys2Proof.Machine.execCellConfigWrite d isCell index v s
  | .stkClearCounts d => Sys2Proof.Machine.execStkClearCounts d s
  | .smbStatus d => Sys2Proof.Machine.execSmbStatus d s
  | .smbIdent d => Sys2Proof.Machine.execSmbIdent d s
  | .smbTemp d => Sys2Proof.Machine.execSmbTemp d s
  | .smbPower d => Sys2Proof.Machine.execSmbPower d s
  | .smbAlertSrc d => Sys2Proof.Machine.execSmbAlertSrc d s
  | .smbAlertClr d v pec => Sys2Proof.Machine.execSmbAlertClr d v pec s
  | .smbUnlock d key pec => Sys2Proof.Machine.execSmbUnlock d key pec s
  | .smbLock d pec => Sys2Proof.Machine.execSmbLock d pec s
  | .smbPage d u v pec => Sys2Proof.Machine.execSmbPage d u v pec s
  | .smbPtr d u v pec => Sys2Proof.Machine.execSmbPtr d u v pec s
  | .smbLen d u v pec => Sys2Proof.Machine.execSmbLen d u v pec s
  | .smbDataRead d u late => Sys2Proof.Machine.execSmbDataRead d u late s
  | .smbDataWrite d u count data pec => Sys2Proof.Machine.execSmbDataWrite d u count data pec s
  | .smbData8Read d u late => Sys2Proof.Machine.execSmbData8Read d u late s
  | .smbData8Write d u v pec => Sys2Proof.Machine.execSmbData8Write d u v pec s
  | .smbFetchComplete d => Sys2Proof.Machine.execSmbFetchComplete d s
  | .smbHeldDataExpiry d => Sys2Proof.Machine.execSmbHeldDataExpiry d s
  | .regsWriteApplied d => Sys2Proof.Machine.execRegsWriteApplied d s
  | .alertResponse d won => Sys2Proof.Machine.execAlertResponse d won s
  | .sessionTimeout d => Sys2Proof.Machine.execSessionTimeout d s
  | .unlockLockoutEnd d => Sys2Proof.Machine.execUnlockLockoutEnd d s
  | .smbTargetTimeout d => Sys2Proof.Machine.execSmbTargetTimeout d s
  | .smbProtocolError d => Sys2Proof.Machine.execSmbProtocolError d s
  | .smbcSendByte d p x => Sys2Proof.Machine.execSmbcSendByte d p x s
  | .smbcWriteByte d p x => Sys2Proof.Machine.execSmbcWriteByte d p x s
  | .smbcWriteWord d p x => Sys2Proof.Machine.execSmbcWriteWord d p x s
  | .smbcReadByte d p x => Sys2Proof.Machine.execSmbcReadByte d p x s
  | .smbcReadWord d p x => Sys2Proof.Machine.execSmbcReadWord d p x s
  | .smbcBlockWrite d p x => Sys2Proof.Machine.execSmbcBlockWrite d p x s
  | .smbcBlockRead d p x => Sys2Proof.Machine.execSmbcBlockRead d p x s
  | .smbcFixedWrite d p x => Sys2Proof.Machine.execSmbcFixedWrite d p x s
  | .smbcFixedRead d p x => Sys2Proof.Machine.execSmbcFixedRead d p x s
  | .smbcComplete d p status data => Sys2Proof.Machine.execSmbcComplete d p status data s
  | .smbcArbRetry d p => Sys2Proof.Machine.execSmbcArbRetry d p s
  | .smbcAddrRetry d p => Sys2Proof.Machine.execSmbcAddrRetry d p s
  | .smbcTimeout d p => Sys2Proof.Machine.execSmbcTimeout d p s
  | .smbcProtocolStop d p => Sys2Proof.Machine.execSmbcProtocolStop d p s
  | .smbcClearCounts d p => Sys2Proof.Machine.execSmbcClearCounts d p s
  | .smbTClearCounts d => Sys2Proof.Machine.execSmbTClearCounts d s
  | .unitFault d cls n err => Sys2Proof.Machine.execUnitFault d cls n err s
  | .weldSubstitute d cls l => Sys2Proof.Machine.execWeldSubstitute d cls l s
  | .weldForce d cls l => Sys2Proof.Machine.execWeldForce d cls l s
  | .weldReturn d cls n => Sys2Proof.Machine.execWeldReturn d cls n s
  | .weldClearSuspect d cls l => Sys2Proof.Machine.execWeldClearSuspect d cls l s
  | .weldTestSpare d cls n => Sys2Proof.Machine.execWeldTestSpare d cls n s
  | .spareTestDone d cls c k pass repaired => Sys2Proof.Machine.execSpareTestDone d cls c k pass repaired s
  | .spareTestPeriodic d => Sys2Proof.Machine.execSpareTestPeriodic d s
  | .shadowCompare d cls c pass => Sys2Proof.Machine.execShadowCompare d cls c pass s
  | .internalError d e => Sys2Proof.Machine.execInternalError d e s
  | .ingotWrite d ok eraseOk => Sys2Proof.Machine.execIngotWrite d ok eraseOk s
  | .wearPeriodic d => Sys2Proof.Machine.execWearPeriodic d s
  | .hostRecordWrite d tag len => Sys2Proof.Machine.execHostRecordWrite d tag len s
  | .hostRecordFind d tag => Sys2Proof.Machine.execHostRecordFind d tag s
  | .semaphoreClaim d index token => Sys2Proof.Machine.execSemaphoreClaim d index token s
  | .semaphoreRelease d index token => Sys2Proof.Machine.execSemaphoreRelease d index token s
  | .jtagInstructionUpdate d opcode scans => Sys2Proof.Machine.execJtagInstructionUpdate d opcode scans s
  | .configurationWrite d x => Sys2Proof.Machine.execConfigurationWrite d x s
  | .lowerHalfRead d a => Sys2Proof.Machine.execLowerHalfRead d a s
  | .smbBadCommand d code => Sys2Proof.Machine.execSmbBadCommand d code s
  | .functionLevelResetComplete d => Sys2Proof.Machine.execFunctionLevelResetComplete d s

end Sys2Proof.Machine
end

