-- ==== Sys2Proof/Machine/Step.lean ====
section
/-!
DEFINITION. One step of the block: the command at the front of the queue acts on the state with the queue's rest. With no command
waiting, one nanosecond of the timebase passes (DESIGN CHOICE, log 2).
-/

namespace Sys2Proof.Machine

/-- One step. [DESIGN CHOICE, log 2; DESIGN CHOICE, log 85; DESIGN CHOICE, log 89] -/
def step (s : State) : Host.Outcome State Fault Refusal :=
  match s.pending with
  | [] => idle s
  | c :: rest => exec c { s with pending := rest }

/-- The state with the command that a word spells at the front of its queue; unchanged where the word spells none. [DESIGN CHOICE, log 84] -/
def State.withFetchWord (s : State) (nbits w : Nat) : State :=
  match decodeTableWord nbits w with
  | some c => { s with pending := c :: s.pending }
  | none => s

end Sys2Proof.Machine
end

