-- ==== Sys2Proof/WellFormed.lean ====
section
/-!
DEFINITION. Which commands are well-formed: every operand that names a unit names one that the block has. A command that is not well-formed stops with a fault and changes nothing.
-/

namespace Sys2Proof

/-- A command whose operands name units that exist (R32, R65, R508, R555). [DESIGN CHOICE, log 5] -/
abbrev Instr.WellFormed (c : Instr) : Prop := c.check = true

end Sys2Proof
end

