-- ==== Sys2Proof/Safety.lean ====
section
/-!
DEFINITION. The terms of the claims: which runs are safe, when a write of host software reaches its register, what the memories'
canonical form is.
-/

namespace Sys2Proof

/-- The nanoseconds between a command and the one before it. [DESIGN CHOICE, log 1; DESIGN CHOICE, log 90] -/
def Instr.elapsed : Instr → Nat
  | .registerWrite d _ _ _ => d
  | .decideReplyWrite d _ _ _ => d
  | .decideTimeout d _ => d
  | .heldRequestPost d => d
  | .funcModeWrite d _ _ => d
  | .funcModeSafePoint d _ _ => d
  | .powerOn d _ _ => d
  | .supplyOkFall d => d
  | .perstNAssert d => d
  | .perstNRelease d _ => d
  | .timebaseLock d => d
  | .flashInitDone d _ _ _ _ => d
  | .slotSelect d => d
  | .candidateVerify d => d
  | .hbmTrainingDone d _ => d
  | .hostLinkUp d _ _ _ => d
  | .kindleApplyDone d => d
  | .journalRestore d => d
  | .kindleReady d => d
  | .kindleHold d => d
  | .rekindle d _ => d
  | .finish d _ => d
  | .resourceClaim d _ _ _ => d
  | .resourceRelease d _ _ _ => d
  | .flashRead d _ => d
  | .flashProgram d _ => d
  | .flashErase d => d
  | .flashArbiterServe d => d
  | .flashOpDone d _ => d
  | .refLost d => d
  | .refFrequencyLock d => d
  | .refPhaseLock d => d
  | .encoderEdge d _ => d
  | .encoderIndex d _ => d
  | .axisStall d _ => d
  | .axisResume d _ => d
  | .useRedundant d _ => d
  | .usePrimary d _ => d
  | .generatorArm d _ _ => d
  | .generatorDisarm d _ _ => d
  | .generatorFlush d _ _ => d
  | .targetCrossing d _ _ => d
  | .triggerIssue d _ _ => d
  | .pinPulseIssue d _ => d
  | .pinPulseEnd d _ => d
  | .firePointIssue d _ => d
  | .ledgerFirstBlockNotice d _ => d
  | .ledgerFrameTagNotice d _ => d
  | .firstBlockTimeout d _ => d
  | .frameTimeout d _ => d
  | .ledgerSelWrite d _ => d
  | .exposeAckApply d _ => d
  | .laneEnable d _ => d
  | .signalDetect d _ => d
  | .cdrLock d _ => d
  | .blockLock d _ => d
  | .laneBlockReceive d _ _ _ => d
  | .lockWindowLoss d _ => d
  | .lossOfSignal d _ => d
  | .trainTimeout d _ => d
  | .lockTimeout d _ => d
  | .capsTimeout d _ => d
  | .relockTimeout d _ => d
  | .exitDetect d _ => d
  | .exitFail d _ => d
  | .txExit d _ => d
  | .fomMeasure d _ _ _ => d
  | .trimDecision d _ _ _ => d
  | .trimFreeze d _ => d
  | .retrain d _ => d
  | .laneClearCounts d _ => d
  | .testEnter d _ _ => d
  | .testExit d _ _ => d
  | .injectFire d _ _ => d
  | .injectRepeat d _ => d
  | .spareListenStart d _ => d
  | .spareSwitch d _ => d
  | .spareLossTakeover d _ => d
  | .suspectTestDone d _ _ => d
  | .lgrpSubstitute d _ _ => d
  | .lgrpAbandon d _ => d
  | .markerSetReceive d _ => d
  | .alignTimeout d _ => d
  | .linkResetDeferred d _ => d
  | .capsReqSend d _ => d
  | .capsReceive d _ => d
  | .frameStart d _ _ => d
  | .frameEnd d _ _ _ => d
  | .imagePacket d _ _ => d
  | .billetIdleTimeout d _ => d
  | .rspReceive d _ => d
  | .cmdTimeout d _ _ => d
  | .eventReceive d _ => d
  | .heartbeatReceive d _ => d
  | .heartbeatTimeout d _ => d
  | .heartbeatSend d _ => d
  | .cmdRead d _ _ _ => d
  | .cmdWrite d _ _ _ => d
  | .cmdEidleDown d _ => d
  | .cmdWakeDown d _ => d
  | .cmdCapsRead d _ => d
  | .cmdLinkReset d _ => d
  | .cmdCameraPrivate d _ _ _ _ => d
  | .cobexLinkReset d _ => d
  | .cobexClearCounts d _ => d
  | .tableSwap d _ => d
  | .markSetNow d _ _ _ => d
  | .markSetNextFrame d _ _ _ => d
  | .markClear d _ _ => d
  | .rewind d _ _ => d
  | .hearthClearCounts d _ => d
  | .exposureOrder d _ _ => d
  | .billetStart d => d
  | .billetCompareEnd d _ => d
  | .evidenceMessage d _ _ => d
  | .billetAbandon d _ => d
  | .modelCommit d _ => d
  | .compareDisable d _ => d
  | .anvilClearCounts d => d
  | .latchLoadBegin d _ _ => d
  | .latchPulseEnd d _ => d
  | .dotLineCommit d _ => d
  | .headHotAccept d _ => d
  | .headCoolAccept d _ => d
  | .resumeDelayExpiry d _ => d
  | .hgrpResume d _ => d
  | .hammerFlush d _ => d
  | .hammerClearCounts d _ => d
  | .contextWrite d _ _ _ _ => d
  | .holdSweep d _ _ => d
  | .headReset d _ _ => d
  | .snapshot d _ => d
  | .snapshotPeriodic d => d
  | .nctxClearCounts d _ => d
  | .tempSample d _ => d
  | .budgetGuard d _ _ _ => d
  | .telemetryRead d => d
  | .bellowsEpoch d _ => d
  | .railWrite d _ _ => d
  | .bankEntry d _ => d
  | .bankExit d _ => d
  | .bankExitDone d _ => d
  | .wakeNsWrite d _ _ => d
  | .bondIdleEntry d _ => d
  | .blwClearPeaks d => d
  | .blwClearCounts d => d
  | .recordPush d _ _ _ => d
  | .recordCommit d _ _ => d
  | .unitPop d _ _ _ => d
  | .troughFlush d _ => d
  | .troughMark d _ => d
  | .troughInject d _ => d
  | .troughClearCounts d _ => d
  | .watermarkWrite d _ _ => d
  | .channelEnable d _ => d
  | .channelDisable d _ => d
  | .drainComplete d _ => d
  | .doorbell d _ => d
  | .descriptorFetch d _ => d
  | .linkRefetch d _ => d
  | .tagGrant d => d
  | .streamLineDeliver d _ => d
  | .troughRecordDeliver d _ => d
  | .bufferCloseTimeout d _ => d
  | .pacingHoldExpiry d _ => d
  | .dotSlotWaitEnd d _ => d
  | .cqReturn d _ _ => d
  | .cqCfgWrite d _ _ => d
  | .tongsClearCounts d _ => d
  | .completionReceive d _ _ _ _ _ => d
  | .completionTimeout d _ => d
  | .quarantineExpiry d _ => d
  | .bar0BadRequest d _ _ _ _ => d
  | .bar2Request d _ _ _ _ _ _ => d
  | .bar4Request d _ _ _ _ _ => d
  | .unsupportedRequestReceive d _ => d
  | .hostPortError d _ _ => d
  | .apertureCommit d _ => d
  | .hotReset d => d
  | .linkDown d => d
  | .functionLevelReset d => d
  | .d3hotEntry d => d
  | .d0Return d => d
  | .l0pEntry d _ => d
  | .l1Entry d => d
  | .linkPmExit d => d
  | .ltrUsWrite d _ => d
  | .quenchEnter d => d
  | .quenchClearHost d => d
  | .quenchClearCto d => d
  | .quenchAsk d => d
  | .aerStatusClear d _ _ => d
  | .quenchRelease d => d
  | .quenchReleaseDelayExpiry d => d
  | .hepClearCounts d => d
  | .msixSrcWrite d _ _ => d
  | .vectorUnmask d _ => d
  | .moderationExpiry d _ => d
  | .channelEvent d _ => d
  | .loopWindowEnd d => d
  | .loopClear d _ => d
  | .cellFilterExpiry d _ => d
  | .gpioInputEdge d _ _ => d
  | .gpioPulseEnd d _ => d
  | .softwareEvent d _ => d
  | .softwareTask d _ => d
  | .cellConfigWrite d _ _ _ => d
  | .stkClearCounts d => d
  | .smbStatus d => d
  | .smbIdent d => d
  | .smbTemp d => d
  | .smbPower d => d
  | .smbAlertSrc d => d
  | .smbAlertClr d _ _ => d
  | .smbUnlock d _ _ => d
  | .smbLock d _ => d
  | .smbPage d _ _ _ => d
  | .smbPtr d _ _ _ => d
  | .smbLen d _ _ _ => d
  | .smbDataRead d _ _ => d
  | .smbDataWrite d _ _ _ _ => d
  | .smbData8Read d _ _ => d
  | .smbData8Write d _ _ _ => d
  | .smbFetchComplete d => d
  | .smbHeldDataExpiry d => d
  | .regsWriteApplied d => d
  | .alertResponse d _ => d
  | .sessionTimeout d => d
  | .unlockLockoutEnd d => d
  | .smbTargetTimeout d => d
  | .smbProtocolError d => d
  | .smbcSendByte d _ _ => d
  | .smbcWriteByte d _ _ => d
  | .smbcWriteWord d _ _ => d
  | .smbcReadByte d _ _ => d
  | .smbcReadWord d _ _ => d
  | .smbcBlockWrite d _ _ => d
  | .smbcBlockRead d _ _ => d
  | .smbcFixedWrite d _ _ => d
  | .smbcFixedRead d _ _ => d
  | .smbcComplete d _ _ _ => d
  | .smbcArbRetry d _ => d
  | .smbcAddrRetry d _ => d
  | .smbcTimeout d _ => d
  | .smbcProtocolStop d _ => d
  | .smbcClearCounts d _ => d
  | .smbTClearCounts d => d
  | .unitFault d _ _ _ => d
  | .weldSubstitute d _ _ => d
  | .weldForce d _ _ => d
  | .weldReturn d _ _ => d
  | .weldClearSuspect d _ _ => d
  | .weldTestSpare d _ _ => d
  | .spareTestDone d _ _ _ _ _ => d
  | .spareTestPeriodic d => d
  | .shadowCompare d _ _ _ => d
  | .internalError d _ => d
  | .ingotWrite d _ _ => d
  | .wearPeriodic d => d
  | .hostRecordWrite d _ _ => d
  | .hostRecordFind d _ => d
  | .semaphoreClaim d _ _ => d
  | .semaphoreRelease d _ _ => d
  | .jtagInstructionUpdate d _ _ => d
  | .configurationWrite d _ => d
  | .lowerHalfRead d _ => d
  | .smbBadCommand d _ => d
  | .functionLevelResetComplete d => d

/-- The operands of a controller command fit the fields of SMBC_CMD (R484). -/
abbrev SmbcArg.Fits (x : SmbcArg) : Prop := x.addr < 128 ∧ x.code < 256 ∧ x.wlen < 256 ∧ x.rlen < 256

namespace Machine

/-- Every waiting command names units that exist: a run of such commands never stops. -/
def State.Inv (s : State) : Prop := ∀ c ∈ s.pending, c.WellFormed

/-- The nanoseconds that the waiting commands take. -/
def elapsed (cs : List Instr) : Nat := (cs.map Instr.elapsed).sum

/-- The canonical form of the byte memories: addresses strictly rising, and no entry equal to what an unlisted byte reads as. -/
def Memory.wf (s : State) : Bool :=
  Assoc.wf 0 s.hbm && Assoc.wf 0 s.buf && Assoc.wf 0xFF s.flash.mem && Assoc.wf 0 s.eqTable

/-- A BAR0 write to address a reaches its register at once: the device has power and is not in D3hot, the block takes writes now
(R71, R433, R562), and its power domain is not banked (R343). -/
abbrev State.hostOpen (s : State) (a : Nat) : Prop :=
  s.power.on = true ∧ s.hep.d3hot = false ∧ (s.kindle.running = false ∨ earlyBlock a = true)
    ∧ (s.on F.HEP_QUENCH_QUENCHED = false ∨ quenchBlock a = true) ∧ s.staleBlock a = false
    ∧ ∀ dom ∈ regDomain a, s.rd F.BLW_DOM_LEVEL dom = 0

/-- The press blocks are released and have power. -/
abbrev State.pressOn (s : State) : Prop := s.power.on = true ∧ s.ready = true

/-- Port p holds transaction x and is BUSY, and x leaves now from its first bit (R484). -/
def State.smbcStarted (s : State) (p : Nat) (x : SmbcTx) : State :=
  ((s.setTx p x).wr F.SMBC_RSLT_BUSY 1 p).emit (.smbc p x.op x.addr x.code (x.data ++ x.pecByte) (s.rd F.SMBC_CFG_SPEED p) s.clk)

/-- A command of the SMBus target is taken: the device has power, the ROM phase is over and no REGS write waits at a gate (R465, R475). -/
abbrev State.smbOpen (s : State) : Prop := s.power.on = true ∧ s.rd F.KINDLE_STATUS_PHASE ≠ 0 ∧ s.smb.gate = []

/-- The two states hold the same memories: HBM with its marks, BAR0 buffers, flash, equalizer table. -/
def SameMemory (s t : State) : Prop :=
  t.hbm = s.hbm ∧ t.poison = s.poison ∧ t.buf = s.buf ∧ t.flash.mem = s.flash.mem ∧ t.eqTable = s.eqTable

/-- Outside the bytes [a, b) of BAR0, and outside Striker's block, where cells run by time, every register field reads the same. -/
def SameRegistersBut (a b : Nat) (s t : State) : Prop :=
  ∀ (f : Fld) (i j : Nat), (f.key i j < 8 * a ∨ 8 * b ≤ f.key i j) → (f.key i j < 8 * 0x80000 ∨ 8 * 0x90000 ≤ f.key i j) →
    t.rd f i j = s.rd f i j

end Machine

end Sys2Proof
end

