-- ==== Sys2Proof/Certificates/Slice0/Obligations.lean ====
section
/-!
DEFINITION. The statements for the provers. In the statements about commands, s is the state before the command and u the state as
the command finds it, d ns later; `s.closeCmd d t` is the state after the command whose effect on u is t.
-/

open Sys2Proof Sys2Proof.Machine

/-- A step runs the command at the front of the queue on the state with the rest of the queue. Rests on the model's choices of log
85. -/
def Obligations.StepRunsFrontCommand : Prop :=
  (∀ (c : Instr) (rest : List Instr) (s : State), step { s with pending := c :: rest } = exec c { s with pending := rest })
  ∧ (∀ (c : Instr) (rest : List Instr) (s : State), s.pending = c :: rest → step s = exec c { s with pending := rest })

/-- The passing of time, in a command and in an idle step, changes the clocks and Striker; in an idle step with blocks waiting at a Cobex
port's selector also that port's lane. Rules: R7, R76, R446, as far as its clauses go. Rests on the model's choices of log 1, 2, 95. -/
def Obligations.TimePassing : Prop :=
  (∀ (s : State) (d : Nat), (s.atCmd d).clk = s.clk + d ∧ (s.atCmd d).out = [] ∧ (s.atCmd d).pending = s.pending
    ∧ (s.atCmd d).dt = (if s.running then (s.dt + d) % 2 ^ 64 else s.dt)
    ∧ SameMemory s (s.atCmd d) ∧ SameRegistersBut 0 0 s (s.atCmd d))
  ∧ (∀ s : State, s.pending = [] → (∀ e ∈ s.ports, e.2.up.size = 0) →
    ∃ t, step s = .next t ∧ t.pending = [] ∧ t.clk = s.clk + 1 ∧ t.dt = (if s.running then (s.dt + 1) % 2 ^ 64 else s.dt)
      ∧ t.out = s.out ∧ t.power = s.power ∧ t.kindle = s.kindle ∧ t.owners = s.owners ∧ t.lanes = s.lanes ∧ t.ports = s.ports
      ∧ SameMemory s t ∧ SameRegistersBut 0 0 s t)
  ∧ (∀ s : State, s.pending = [] → (∀ e ∈ s.ports, e.1 < 512) →
    ∃ t, step s = .next t ∧ t.pending = [] ∧ t.clk = s.clk + 1 ∧ t.dt = (if s.running then (s.dt + 1) % 2 ^ 64 else s.dt)
      ∧ s.out <+: t.out ∧ t.power = s.power ∧ t.kindle = s.kindle ∧ t.owners = s.owners
      ∧ SameMemory s t ∧ SameRegistersBut 0x100000 0x218000 s t)

/-- State.reset: every register field holds its reset value, nothing waits, no resource is owned. Rules: R17, R44, R542, R559, as
far as its clauses go. Rests on the model's choices of log 10, 11, 12. -/
def Obligations.ResetValues : Prop :=
  State.reset.pending = [] ∧ State.reset.power = { on := true, perst := true } ∧ State.reset.dt = 0 ∧ State.reset.running = false
  ∧ State.reset.owners = [] ∧ State.reset.trough = [] ∧ State.reset.tongs = []
  ∧ (∀ (f : Fld) (i j : Nat), State.reset.rd f i j = f.rst i j)
  ∧ (∀ f < 10, State.reset.rd F.FUNC_TIMEOUT_TIMEOUT_US f
      = [0, 10000, 100000, 50000, 20000, 100000, 100000, 1000000, 10000, 10000000].getD f 0)
  ∧ (∀ i < 8, State.reset.rd F.GLB_SEM_OWNER i = 0)
  ∧ (∀ a n, State.reset.hbmRead a n = List.replicate n 0 ∧ State.reset.flashRead a n = List.replicate n 0xFF)

/-- State.reset meets the invariants: no ill-formed command waits, the memories are canonical. -/
def Obligations.ResetMeetsInvariants : Prop := State.reset.Inv ∧ Memory.wf State.reset = true

/-- A command that names what the block does not have stops with noSuchUnit. Rules: R32, R555, as far as its clauses go. Rests on
the model's choices of log 5. -/
def Obligations.IllFormedCommandStops : Prop :=
  ∀ (c : Instr) (s : State), ¬ c.WellFormed → exec c s = .fault .noSuchUnit

/-- Every well-formed command completes, keeps the queue, advances the clock by its time and only appends to the trace. Rules: R32,
R76, as far as its clauses go. Rests on the model's choices of log 1, 86. -/
def Obligations.WellFormedCommandGoesOn : Prop :=
  ∀ (c : Instr) (s : State), c.WellFormed →
    ∃ t, exec c s = .next t ∧ t.pending = s.pending ∧ t.clk = s.clk + c.elapsed ∧ s.out <+: t.out

/-- From every state whose waiting commands are well-formed a step goes on, takes one command and keeps the invariant. Rules: R76,
as far as its clauses go. Rests on the model's choices of log 1, 2. -/
def Obligations.StepKeepsInv : Prop :=
  ∀ s : State, s.Inv → ∃ t, step s = .next t ∧ t.Inv ∧ t.pending = s.pending.tail ∧ s.clk ≤ t.clk ∧ s.out <+: t.out

/-- A queue of well-formed commands runs to its end in as many steps, in the sum of their times, and then idles. Rules: R76, as far
as its clauses go. Rests on the model's choices of log 1, 2. -/
def Obligations.ScriptRunsToTheEnd : Prop :=
  ∀ (s : State) (k : Nat), s.Inv →
    ∃ t, core.run (s.pending.length + k) s = .next t ∧ t.pending = [] ∧ t.clk = s.clk + elapsed s.pending + k ∧ s.out <+: t.out

/-- Register fields read back what is written, and a bus write acts by the access code of the field. Rules: R16, R19, R22, as far as
its clauses go. Rests on the model's choices of log 89. -/
def Obligations.RegisterFields : Prop :=
  (∀ (s : State) (f : Fld) (v i j : Nat), (s.wr f v i j).rd f i j = v % 2 ^ f.w)
  ∧ (∀ (s : State) (f g : Fld) (v i j k l : Nat), g.key k l ≠ f.key i j → (s.wr f v i j).rd g k l = s.rd g k l)
  ∧ (∀ (s : State) (f : Fld) (i j n : Nat), (s.inc f i j n).rd f i j = min (s.rd f i j + n) (2 ^ f.w - 1))
  ∧ (∀ (s : State) (f : Fld) (v i j : Nat), SameMemory s (s.wr f v i j) ∧ (s.wr f v i j).pending = s.pending)
  ∧ (∀ (s : State) (f : Fld) (i j x : Nat),
    (f.acc = .ro → s.setFld f i j x = s) ∧ (f.acc = .wo → s.setFld f i j x = s)
    ∧ (f.acc = .rw → (s.setFld f i j x).rd f i j = f.of x)
    ∧ (f.acc = .rw1c → s.rd f i j < 2 ^ f.w → ∀ b < f.w,
        ((s.setFld f i j x).rd f i j).testBit b
          = ((s.rd f i j).testBit b && (!(f.of x).testBit b || decide (f.key i j + b ∈ s.sets))))
    ∧ (f.acc = .rwk → s.ready = false → (s.setFld f i j x).rd f i j = f.of x)
    ∧ (f.acc = .rwk → s.ready = true → s.setFld f i j x = s))

/-- A host write acts, or is ignored or held as Kindle, D3hot, Quench, SERVING and banking say. Rules: R71, R343, R429, R433, R562,
as far as its clauses go. Rests on the model's choices of log 46, 47. -/
def Obligations.HostWriteGate : Prop :=
  ∀ (s : State) (a size v : Nat) (f : State → State),
    (s.hostOpen a → s.hostHold a size v f = f s)
    ∧ (s.power.on = false → s.hostHold a size v f = s)
    ∧ (s.power.on = true → s.hep.d3hot = true → s.hostHold a size v f = s.hostErr .unsupportedRequest true [])
    ∧ (s.power.on = true → s.hep.d3hot = false → s.kindle.running = true → 0x20000 ≤ a →
        s.hostHold a size v f = s.flag F.KINDLE_STATUS_EARLY_WRITE)
    ∧ (s.power.on = true → s.hep.d3hot = false → (s.kindle.running = false ∨ a < 0x20000) →
        s.on F.HEP_QUENCH_QUENCHED = true → 0x10000 ≤ a → ¬(0x30000 ≤ a ∧ a ≤ 0x3FFFF) → ¬(0xD0000 ≤ a ∧ a ≤ 0xDFFFF) →
        s.hostHold a size v f = s.inc F.HEP_QCNT_QDROP_WRITES)
    ∧ (s.power.on = true → s.hep.d3hot = false → s.kindle.running = false → s.on F.HEP_QUENCH_QUENCHED = false →
        s.staleBlock a = true → s.hostHold a size v f = s.flag F.GLB_STATUS_STALE_WRITE)
    ∧ (∀ dom, s.power.on = true → s.hep.d3hot = false → (s.kindle.running = false ∨ a < 0x20000) →
        s.on F.HEP_QUENCH_QUENCHED = false → s.staleBlock a = false → regDomain a = some dom → 2 ≤ s.rd F.BLW_DOM_LEVEL dom →
        s.hostHold a size v f = { s.beginExit dom with
          blw := { (s.beginExit dom).blw with gate := s.blw.gate ++ [⟨dom, ⟨a, size, v⟩⟩] } })

/-- HBM, the BAR0 buffers and the flash read back what is written, and other bytes stay. Rules: R74, R505, as far as its clauses go. -/
def Obligations.MemoriesReadBack : Prop :=
  (∀ (s : State) (a : Nat) (bs : Bytes), (s.hbmWrite a bs).hbmRead a bs.length = bs
    ∧ ∀ b, b < a ∨ a + bs.length ≤ b → (s.hbmWrite a bs).hbmRead b 1 = s.hbmRead b 1)
  ∧ (∀ (s : State) (a : Nat) (bs : Bytes), (s.bufWrite a bs).bufRead a bs.length = bs
    ∧ ∀ b, b < a ∨ a + bs.length ≤ b → (s.bufWrite a bs).bufRead b 1 = s.bufRead b 1)
  ∧ (∀ (s : State) (a : Nat) (bs : Bytes),
    (s.flashProgram a bs).flashRead a bs.length = List.zipWith (· &&& ·) (s.flashRead a bs.length) bs
    ∧ ∀ b, b < a ∨ a + bs.length ≤ b → (s.flashProgram a bs).flashRead b 1 = s.flashRead b 1)
  ∧ (∀ (s : State) (k b : Nat), (s.flashErase k).flashRead b 1 = if b / 65536 = k then [0xFF] else s.flashRead b 1)
  ∧ (∀ (s : State) (a : Nat) (bs : Bytes) (k : Nat), a ≤ 64 * k → 64 * k + 64 ≤ a + bs.length →
    (s.hbmWrite a bs).hbmBad (64 * k) 64 = false)

/-- The commands of the flash and the loss of supply keep the canonical form of the memories. Rules: R74, R75, R544, as far as its
clauses go. Rests on the model's choices of log 16, 17, 18. -/
def Obligations.FlashCommandsKeepForm : Prop :=
  ∀ (s t : State) (d n : Nat) (ok : Bool), Memory.wf s = true →
    (exec (.flashRead d n) s = .next t ∨ exec (.flashProgram d n) s = .next t ∨ exec (.flashErase d) s = .next t
      ∨ exec (.flashArbiterServe d) s = .next t ∨ exec (.flashOpDone d ok) s = .next t ∨ exec (.supplyOkFall d) s = .next t) →
    Memory.wf t = true

/-- The end of a flash operation changes only the bytes of its range. Rules: R74, R75, as far as its clauses go. Rests on the
model's choices of log 16, 17. -/
def Obligations.FlashDoneFrame : Prop :=
  ∀ (s u : State) (d a n : Nat) (ok : Bool), u = s.atCmd d → u.power.on = true →
    (u.flash.busy = some (.program a n) →
      ∃ t, exec (.flashOpDone d ok) s = .next (s.closeCmd d t) ∧ t.flash.busy = none ∧ t.hbm = s.hbm ∧ t.buf = s.buf
        ∧ ∀ b, b < a ∨ a + n ≤ b → t.flashRead b 1 = s.flashRead b 1)
    ∧ (u.flash.busy = some (.erase a) → a % 65536 = 0 →
      ∃ t, exec (.flashOpDone d ok) s = .next (s.closeCmd d t) ∧ t.flash.busy = none ∧ t.hbm = s.hbm ∧ t.buf = s.buf
        ∧ ∀ b, b < a ∨ a + 65536 ≤ b → t.flashRead b 1 = s.flashRead b 1)
    ∧ (u.flash.busy = some (.read a n) →
      ∃ t, exec (.flashOpDone d ok) s = .next (s.closeCmd d t) ∧ t.flash.busy = none ∧ t.hbm = s.hbm
        ∧ t.flash.mem = s.flash.mem ∧ ∀ b, b < 0x11000 ∨ 0x11000 + n ≤ b → t.bufRead b 1 = s.bufRead b 1)

/-- Clearing counters changes no memory and no register outside its own block. Rules: R135, R172, R272, R297, R327, R363, R392,
R418, as far as its clauses go. -/
def Obligations.ClearCountsFrame : Prop :=
  ∀ (s t u : State) (d k : Nat), u = s.atCmd d →
    (u.hostOpen (F.LANE_CTL_CLEAR_COUNTS.at_ k) → exec (.laneClearCounts d k) s = .next t →
      SameMemory s t ∧ SameRegistersBut (0x100000 + 0x800 * k) (0x100800 + 0x800 * k) s t)
    ∧ (u.hostOpen (F.COBEX_CTL_CLEAR_COUNTS.at_ k) → exec (.cobexClearCounts d k) s = .next t →
      SameMemory s t ∧ SameRegistersBut (F.COBEX_CFG_BOUND.at_ k) (F.COBEX_CFG_BOUND.at_ (k + 1)) s t)
    ∧ (u.hostOpen (F.HEARTH_CTL_CLEAR_COUNTS.at_ k) → exec (.hearthClearCounts d k) s = .next t →
      SameMemory s t ∧ SameRegistersBut (0x400000 + 0x4000 * k) (0x404000 + 0x4000 * k) s t)
    ∧ (u.hostOpen (F.HAMMER_CTL_FLUSH.at_ k) → exec (.hammerClearCounts d k) s = .next t →
      SameMemory s t ∧ SameRegistersBut (0x1400000 + 0x10000 * k) (0x1410000 + 0x10000 * k) s t)
    ∧ (u.hostOpen (F.NCTX_CTL_SNAPSHOT.at_ k) → exec (.nctxClearCounts d k) s = .next t →
      SameMemory s t ∧ SameRegistersBut (0x1400000 + 0x10000 * k) (0x1410000 + 0x10000 * k) s t)
    ∧ (u.hostOpen (F.TRGH_CTL_CLEAR_COUNTS.at_ k) → exec (.troughClearCounts d k) s = .next t →
      SameMemory s t ∧ SameRegistersBut (0x2000000 + 0x800 * k) (0x2000800 + 0x800 * k) s t)
    ∧ (u.hostOpen (F.TONGS_CTL_CLEAR_COUNTS.at_ k) → exec (.tongsClearCounts d k) s = .next t →
      SameMemory s t ∧ SameRegistersBut (0x2400000 + 0x800 * k) (0x2400800 + 0x800 * k) s t)
    ∧ (u.hostOpen F.BLW_CTL_CLEAR_COUNTS.addr → exec (.blwClearCounts d) s = .next t →
      SameMemory s t ∧ SameRegistersBut 0x20000 0x30000 s t)
    ∧ (u.hostOpen F.HEP_CTL_CLEAR_COUNTS.addr → exec (.hepClearCounts d) s = .next t →
      SameMemory s t ∧ SameRegistersBut 0xD0000 0xE0000 s t)

/-- Commands of one register change no memory and no other register. Rules: R77, R113, R450, R470, R559, as far as its clauses go. -/
def Obligations.SmallCommandsFrame : Prop :=
  ∀ (s t u : State) (d k v w : Nat), u = s.atCmd d →
    (exec (.refLost d) s = .next t ∨ exec (.refFrequencyLock d) s = .next t ∨ exec (.refPhaseLock d) s = .next t →
      SameMemory s t ∧ SameRegistersBut 0x40000 0x40008 s t)
    ∧ (u.hostOpen (F.GLB_SEM_TOKEN.at_ k) → exec (.semaphoreClaim d k v) s = .next t ∨ exec (.semaphoreRelease d k v) s = .next t →
      SameMemory s t ∧ SameRegistersBut (0xC0 + 8 * k) (0xC8 + 8 * k) s t)
    ∧ (exec (.trimDecision d k v w) s = .next t ∨ exec (.trimFreeze d k) s = .next t →
      SameMemory s t ∧ SameRegistersBut (0x100000 + 0x800 * k) (0x100800 + 0x800 * k) s t)
    ∧ (exec (.sessionTimeout d) s = .next t ∨ exec (.unlockLockoutEnd d) s = .next t →
      SameMemory s t ∧ SameRegistersBut 0xC0008 0xC0010 s t)
    ∧ (exec (.gpioPulseEnd d k) s = .next t ∨ exec (.softwareEvent d k) s = .next t ∧ u.hostOpen F.STK_SWEVT_CHANNEL.addr →
      SameMemory s t ∧ SameRegistersBut 0 0 s t)

/-- Press-safe and host-port resets free the semaphores of host software alone; power-on and a whole-device PERST_N free all. Rules:
R561, whole. -/
def Obligations.SemaphoresAtResets : Prop :=
  ∀ (s u : State) (d i : Nat), u = s.atCmd d → i < 8 →
    (u.power.on = true → u.power.perst = false → u.power.scope = 0 → u.power.everReady = true →
      ∃ t, exec (.perstNAssert d) s = .next t
        ∧ t.rd F.GLB_SEM_OWNER i = if (u.rd F.GLB_SEM_OWNER i).testBit 15 then u.rd F.GLB_SEM_OWNER i else 0)
    ∧ (u.power.on = true →
      ∃ t, exec (.hotReset d) s = .next t
        ∧ t.rd F.GLB_SEM_OWNER i = if (u.rd F.GLB_SEM_OWNER i).testBit 15 then u.rd F.GLB_SEM_OWNER i else 0)
    ∧ (u.power.on = true → u.on F.HEP_LINK_DL_ACTIVE = true →
      ∃ t, exec (.linkDown d) s = .next t
        ∧ t.rd F.GLB_SEM_OWNER i = if (u.rd F.GLB_SEM_OWNER i).testBit 15 then u.rd F.GLB_SEM_OWNER i else 0)
    ∧ (u.power.on = true →
      ∃ t, exec (.functionLevelReset d) s = .next t
        ∧ t.rd F.GLB_SEM_OWNER i = if (u.rd F.GLB_SEM_OWNER i).testBit 15 then u.rd F.GLB_SEM_OWNER i else 0)
    ∧ (∀ straps < 4, ∀ hold < 2, u.power.on = false →
      ∃ t, exec (.powerOn d straps hold) s = .next t ∧ t.rd F.GLB_SEM_OWNER i = 0)
    ∧ (u.power.on = true → u.power.perst = false → (u.power.scope = 1 ∨ u.power.everReady = false) →
      ∃ t, exec (.perstNAssert d) s = .next t ∧ t.rd F.GLB_SEM_OWNER i = 0)

/-- Power-on, loss of supply and a whole-device PERST_N leave the reset state; a release starts Kindle. Rules: R17, R68, R76, R427,
R542, R544, as far as its clauses go. Rests on the model's choices of log 11, 18. -/
def Obligations.PowerResets : Prop :=
  (∀ (s u : State) (d : Nat) (straps : Nat) (cfgHoldN : Nat), u = s.atCmd d → straps < 4 → cfgHoldN < 2 → u.power.on = false →
      u.power.perst = true →
          ∃ t, exec (.powerOn d straps cfgHoldN) s = .next (s.closeCmd d t) ∧ t.power =
            ({ on := true, perst := true, straps := straps } : PowerS) ∧ t.regs = [] ∧ t.hbm = [] ∧ t.dt = 0 ∧ t.running = false
            ∧ t.owners = [] ∧ t.kindle.running = false)
  ∧ (∀ (s u : State) (d : Nat), u = s.atCmd d → u.power.on = true →
          ∃ t, exec (.supplyOkFall d) s = .next (s.closeCmd d t) ∧ t.power = ({ on := false, perst := u.power.perst } : PowerS)
            ∧ t.regs = [] ∧ t.hbm = [] ∧ t.dt = 0 ∧ t.running = false ∧ t.owners = [] ∧ t.kindle.running = false)
  ∧ (∀ (s u : State) (d : Nat), u = s.atCmd d → u.power.on = true → u.power.perst = false → (u.power.scope = 1 ∨
      u.power.everReady = false) →
          ∃ t, exec (.perstNAssert d) s = .next (s.closeCmd d t) ∧ t.power =
            ({ u.power with perst := true, jtagTest := false, jtagIr := 1, scanLatch := 0 } : PowerS) ∧ t.regs = [] ∧ t.hbm = u.hbm ∧ t.dt = 0 ∧
            t.running = false ∧ t.owners = [] ∧ t.kindle.running = false)
  ∧ (∀ (s u : State) (d : Nat) (cfgHoldN : Nat), u = s.atCmd d → cfgHoldN < 2 → u.power.on = true → u.power.perst = true →
      (u.power.scope = 1 ∨ u.power.everReady = false) →
          exec (.perstNRelease d cfgHoldN) s = .next (s.closeCmd d
            (({ u with power := { u.power with perst := false }, kindle := { running := true, startClk := u.clk, cfgHold := decide (cfgHoldN = 0) } }
            : State).wr F.KINDLE_STATUS_PHASE 0)))
  ∧ (∀ (s u : State) (d : Nat) (cfgHoldN : Nat), u = s.atCmd d → cfgHoldN < 2 → u.power.on = true → u.power.perst = true →
      u.power.scope = 0 → u.power.everReady = true →
          exec (.perstNRelease d cfgHoldN) s = .next (s.closeCmd d ({ u with power := { u.power with perst := false } })))

/-- The timebase locks, goes into holdover and returns; a JTAG instruction takes effect, and a scan shifts the register it selects.
Rules: R76, R77, R550, R551, R552, as far as its clauses go. Rests on the model's choices of log 35, 36. -/
def Obligations.TimebaseReference : Prop :=
  (∀ (s u : State) (d : Nat), u = s.atCmd d → u.power.on = true → u.running = false → u.kindle.running = true →
          exec (.timebaseLock d) s = .next (s.closeCmd d (({ u with dt := 0, running := true } : State).wr F.TB_STATUS_LOCKED
            1)))
  ∧ (∀ (s u : State) (d : Nat), u = s.atCmd d → u.power.on = true → u.running = true → u.on F.TB_STATUS_HOLDOVER = false →
          exec (.refLost d) s = .next (s.closeCmd d (((((u.wr F.TB_STATUS_LOCKED 0).wr F.TB_STATUS_LOCKED_SLEW 0).wr
            F.TB_STATUS_HOLDOVER 1).flag F.TB_STATUS_REF_LOST).raiseT (ev 0x01 3))))
  ∧ (∀ (s u : State) (d : Nat), u = s.atCmd d → u.power.on = true → u.on F.TB_STATUS_HOLDOVER = true →
          exec (.refFrequencyLock d) s = .next (s.closeCmd d ((u.wr F.TB_STATUS_HOLDOVER 0).wr F.TB_STATUS_LOCKED_SLEW 1)))
  ∧ (∀ (s u : State) (d : Nat), u = s.atCmd d → u.power.on = true → u.on F.TB_STATUS_LOCKED_SLEW = true →
          exec (.refPhaseLock d) s = .next (s.closeCmd d ((u.wr F.TB_STATUS_LOCKED_SLEW 0).wr F.TB_STATUS_LOCKED 1)))
  ∧ (∀ (s u : State) (d : Nat) (opcode : Nat) (scans : List (List Bool)), u = s.atCmd d → opcode < 256 → u.power.on = true →
          exec (.jtagInstructionUpdate d opcode scans) s = .next (s.closeCmd d (scans.foldl State.scanData
            ({ u with power := { u.power with jtagIr := if opcode ∈ [0x00, 0x01, 0x02, 0x04, 0x05, 0x0C, 0x0D] then opcode else 0xFF, jtagTest := decide (opcode ∈ [0x00, 0x04, 0x05, 0x0C, 0x0D]) } } : State).scanPins)))
  ∧ (∀ (s u : State) (d : Nat) (bits : List Bool), u = s.atCmd d → u.power.on = true → bits.length = 32 →
          exec (.jtagInstructionUpdate d 0x01 [bits]) s = .next (s.closeCmd d ({ u with
            power := { u.power with jtagIr := 0x01, jtagTest := false },
            out := u.out ++ [.tdo ((List.range 32).map fun k => Nat.testBit (u.rd F.ID_DEVICE_REVISION / 16 * 2 ^ 28 + 0x5120 * 2 ^ 12 +
              u.rd F.ID_DEVICE_MFR_CODE * 2 + 1) k)] })))
  ∧ (∀ (s u : State) (d opcode : Nat) (bits : List Bool), u = s.atCmd d → u.power.on = true → opcode < 256 → bits ≠ [] →
      opcode ∉ [0x00, 0x01, 0x02, 0x04, 0x05, 0x0C, 0x0D] →
          exec (.jtagInstructionUpdate d opcode [bits]) s = .next (s.closeCmd d ({ u with
            power := { u.power with jtagIr := 0xFF, jtagTest := false }, out := u.out ++ [.tdo (false :: bits.dropLast)] })))
  ∧ (∀ (s u : State) (d opcode : Nat) (bits : List Bool), u = s.atCmd d → u.power.on = true → opcode ∈ [0x00, 0x02, 0x0C, 0x0D] →
      bits.length = scanWidth →
          ∃ t, exec (.jtagInstructionUpdate d opcode [bits]) s = .next t ∧ t.power.jtagIr = opcode ∧
            (∀ k, k < scanWidth → t.power.scanLatch.testBit k = bits.getD k false) ∧
            (opcode ≠ 0x02 → .scanPins opcode t.power.scanLatch ∈ t.out) ∧ t.regs = u.regs ∧ t.hbm = u.hbm)
  ∧ (scanCells.length = scanWidth ∧ (scanCells.zip scanCells.tail).all (fun x => decide (x.1.1 ≤ x.2.1)) = true)

/-- Kindle accepts the flash, orders its candidates, verifies them in turn and trains HBM. Rules: R46, R47, R53, R54, R70, as far as
its clauses go. Rests on the model's choices of log 24, 25, 26, 32. -/
def Obligations.KindleCandidates : Prop :=
  (∀ (s u : State) (d : Nat) (sfdpOk : Bool) (sectors : Nat) (uniform : Bool) (ddrOk : Bool), u = s.atCmd d → sectors ≤ 65536 →
      u.power.on = true → u.kindle.running = true → u.rd F.KINDLE_STATUS_PHASE = 0 → u.kindle.flashOk = false → u.kindle.holdDue
      = false →
          exec (.flashInitDone d sfdpOk sectors uniform ddrOk) s = .next (s.closeCmd d (if sfdpOk = true ∧ 4096 ≤ sectors ∧
            uniform = true then (let v : State :=
            { u with kindle := { u.kindle with flashOk := true }, flash := { u.flash with sectors := sectors } }
            let w := if ddrOk then v else v.wr F.KINDLE_STATUS_SLOW_FLASH 1
            if u.kindle.cfgHold then w else w.wr F.KINDLE_STATUS_PHASE 1) else ({ u with kindle := { u.kindle with holdDue := true } } : State).wr
            F.KINDLE_STATUS_FLASH_FAULT 1)))
  ∧ (∀ (s u : State) (d : Nat), u = s.atCmd d → u.power.on = true → u.kindle.running = true → u.rd F.KINDLE_STATUS_PHASE = 1 →
      u.kindle.holdDue = false →
          exec (.slotSelect d) s = .next (s.closeCmd d (if u.candidates = [] then
            ({ u with kindle := { u.kindle with cands := [], holdDue := true } } : State).wr
            F.KINDLE_STATUS_NO_IMAGE 1 else ({ u with kindle := { u.kindle with cands := u.candidates, holdDue := false } } :
            State).wr F.KINDLE_STATUS_PHASE 2)))
  ∧ (∀ (s u : State) (d : Nat) (c : Nat) (rest : List Nat), u = s.atCmd d → u.power.on = true → u.kindle.running = true → u.rd
      F.KINDLE_STATUS_PHASE = 2 → u.kindle.cands = c :: rest →
          exec (.candidateVerify d) s = .next (s.closeCmd d ((u.verify c).elim
            (({ u with kindle := { u.kindle with passed := some c, cands := rest } } : State).wr F.KINDLE_STATUS_PHASE 3) fun f
            => if rest = [] then (({ u with kindle := { u.kindle with cands := rest, holdDue := true } } : State).rejectSlot c
            f).wr F.KINDLE_STATUS_NO_IMAGE 1 else ({ u with kindle := { u.kindle with cands := rest, holdDue := false } } :
            State).rejectSlot c f)))
  ∧ (∀ (s u : State) (d : Nat), u = s.atCmd d → u.power.on = true → u.kindle.running = true → u.running = true →
      u.kindle.hbmTrained = false → u.kindle.hbmFailed = false →
          exec (.hbmTrainingDone d none) s = .next (s.closeCmd d ({ u with kindle := { u.kindle with hbmTrained := true } })))

/-- APPLY, the journal, READY, HOLD, REKINDLE and FINISH. Rules: R55, R70, R72, R73, R520, as far as its clauses go. Rests on the
model's choices of log 28, 29, 30, 33. -/
def Obligations.KindleEnds : Prop :=
  (∀ (s u : State) (d : Nat) (c : Nat), u = s.atCmd d → u.power.on = true → u.kindle.running = true → u.rd
      F.KINDLE_STATUS_PHASE = 3 → u.kindle.applied = false → u.kindle.hbmTrained = true → u.kindle.passed = some c →
          ∃ t, exec (.kindleApplyDone d) s = .next (s.closeCmd d t) ∧ t.kindle.applied = true ∧ t.rd F.KINDLE_STATUS_SLOT_USED =
            (c + 1) % 4 ∧ t.rd F.KINDLE_SEQ_SEQUENCE = u.imageSeq c % 2 ^ 64)
  ∧ (∀ (s u : State) (d : Nat), u = s.atCmd d → u.power.on = true → u.kindle.running = true → u.kindle.applied = true →
      u.kindle.journalRead = false →
          ∃ t, exec (.journalRestore d) s = .next (s.closeCmd d t) ∧ t.kindle.journalRead = true ∧ t =
            { u.carryUnits u.journalRestore with kindle := t.kindle })
  ∧ (∀ (s u : State) (d : Nat), u = s.atCmd d → u.power.on = true → u.kindle.running = true → u.kindle.applied = true →
      u.kindle.journalRead = true → u.kindle.holdDue = false →
          exec (.kindleReady d) s = .next (s.closeCmd d ((u.wr F.KINDLE_TIME_ELAPSED_US ((u.clk - u.kindle.startClk) /
            1000)).enterReady)))
  ∧ (∀ (s u : State) (d : Nat), u = s.atCmd d → u.power.on = true → u.kindle.running = true → (u.kindle.holdDue = true ∨
      (u.kindle.cfgHold = true ∧ u.kindle.flashOk = true)) →
          exec (.kindleHold d) s = .next (s.closeCmd d
            ((({ u.wr F.KINDLE_TIME_ELAPSED_US ((u.clk - u.kindle.startClk) / 1000) with kindle := { u.kindle with running := false } }
            : State).wr F.KINDLE_STATUS_PHASE 8).alert 0)))
  ∧ (∀ (s u : State) (d : Nat), u = s.atCmd d → u.hostOpen (F.KINDLE_CTL_KEY.addr) → (u.rd F.KINDLE_STATUS_PHASE = 4 ∨ u.rd
      F.KINDLE_STATUS_PHASE = 8) →
          ∃ t, exec (.rekindle d 0xB5) s = .next (s.closeCmd d t) ∧ t.kindle.running = true ∧ t.kindle.cfgHold = false ∧ t.rd
            F.KINDLE_STATUS_PHASE = 0 ∧ t.owners = [] ∧ t.trough = [] ∧ t.tongs = [] ∧ t.lanes = [] ∧ t.ports = [] ∧ t.hearths =
            [] ∧ t.hammer = [] ∧ t.nozzle = [] ∧ t.anvil = ({} : AnvilS) ∧ t.stk = ({} : StrikerS))
  ∧ (∀ (s u : State) (d : Nat) (v : State), u = s.atCmd d → u.hostOpen (F.KINDLE_CTL_KEY.addr) → u.rd F.KINDLE_STATUS_PHASE = 8 →
      v = u.setReject 2 ⟨0, 0, 0⟩ →
          exec (.finish d 0xB5) s = .next (s.closeCmd d (v.finishFinding.elim ((let w := v.applyEnd.takeModes.writeRestoreCopies
            if w.kindle.flashOk then w.restorePhase else w).wr F.KINDLE_STATUS_SLOT_USED 3).enterReady fun f =>
            v.setReject 2 f)))
  ∧ (∀ (s u : State) (d : Nat) (key : Nat), u = s.atCmd d → key < 256 → key ≠ 0xB5 → u.hostOpen (F.KINDLE_CTL_KEY.addr) →
          exec (.rekindle d key) s = .next (s.closeCmd d (u)))
  ∧ (∀ (s u : State) (d : Nat) (key : Nat), u = s.atCmd d → key < 256 → key ≠ 0xB5 → u.hostOpen (F.KINDLE_CTL_KEY.addr) →
          exec (.finish d key) s = .next (s.closeCmd d (u)))

/-- Flash operations of host software are queued or denied, served in order, and end with their effect. Rules: R74, R75, as far as
its clauses go. Rests on the model's choices of log 16. -/
def Obligations.FlashOperations : Prop :=
  (∀ (s u : State) (d : Nat) (len : Nat) (a : Nat), u = s.atCmd d → u.hostOpen (F.FLASH_OP_OP.addr) → u.on F.FLASH_STATUS_BUSY
      = false → a = u.rd F.FLASH_ADDR_ADDR → a % 64 = 0 → len % 64 = 0 → 64 ≤ len → len ≤ 4096 → a + len ≤ 65536 *
      u.flash.sectors →
          exec (.flashRead d len) s = .next (s.closeCmd d
            (({ u with flash := { u.flash with waiting := u.flash.waiting ++ [.read a len] } } : State).wr F.FLASH_STATUS_BUSY
            1)))
  ∧ (∀ (s u : State) (d : Nat) (len : Nat) (a : Nat), u = s.atCmd d → u.hostOpen (F.FLASH_OP_OP.addr) → u.on F.FLASH_STATUS_BUSY
      = false → a = u.rd F.FLASH_ADDR_ADDR → a % 64 = 0 → len % 64 = 0 → 64 ≤ len → len ≤ 4096 → a + len ≤ 65536 *
      u.flash.sectors → u.kindle.running = false → a + len ≤ 0x8000000 → (u.rd F.KINDLE_STATUS_SLOT_USED = 1 → 0x4000000 ≤ a) →
      (u.rd F.KINDLE_STATUS_SLOT_USED = 2 → a + len ≤ 0x4000000) →
          exec (.flashProgram d len) s = .next (s.closeCmd d
            (({ u with flash := { u.flash with waiting := u.flash.waiting ++ [.program a len] } } : State).wr
            F.FLASH_STATUS_BUSY 1)))
  ∧ (∀ (s u : State) (d : Nat) (a : Nat), u = s.atCmd d → u.hostOpen (F.FLASH_OP_OP.addr) → u.on F.FLASH_STATUS_BUSY = false → a
      = u.rd F.FLASH_ADDR_ADDR → a % 65536 = 0 → u.kindle.running = false → a + 65536 ≤
      0x8000000 → (u.rd F.KINDLE_STATUS_SLOT_USED = 1 → 0x4000000 ≤ a) → (u.rd F.KINDLE_STATUS_SLOT_USED = 2 → a + 65536 ≤
      0x4000000) →
          exec (.flashErase d) s = .next (s.closeCmd d
            (({ u with flash := { u.flash with waiting := u.flash.waiting ++ [.erase a] } } : State).wr F.FLASH_STATUS_BUSY 1)))
  ∧ (∀ (s u : State) (d : Nat) (len : Nat) (a : Nat), u = s.atCmd d → len < 8192 → u.hostOpen (F.FLASH_OP_OP.addr) → u.on
      F.FLASH_STATUS_BUSY = false → a = u.rd F.FLASH_ADDR_ADDR → (u.kindle.running = true ∨ 0x8000000 < a + len ∨ (u.rd
      F.KINDLE_STATUS_SLOT_USED = 1 ∧ a < 0x4000000) ∨ (u.rd F.KINDLE_STATUS_SLOT_USED = 2 ∧ 0x4000000 < a + len)) →
          exec (.flashProgram d len) s = .next (s.closeCmd d (u.flag F.FLASH_STATUS_DENIED)))
  ∧ (∀ (s u : State) (d : Nat) (o : FlashOp) (rest : List FlashOp), u = s.atCmd d → u.power.on = true → u.flash.busy = none →
      u.weld.ingots = [] → u.flash.waiting = o :: rest →
          exec (.flashArbiterServe d) s = .next (s.closeCmd d (if u.deniedNow o = true then
            (({ u with flash := { u.flash with waiting := rest } } : State).wr F.FLASH_STATUS_BUSY 0).flag F.FLASH_STATUS_DENIED
            else { u with flash := { u.flash with busy := some o, waiting := rest } })))
  ∧ (∀ (u : State) (a n : Nat), u.deniedNow (.read a n) = false
      ∧ (u.deniedNow (.program a n) = true ↔ u.kindle.running = true ∨ 0x8000000 < a + n
        ∨ (u.rd F.KINDLE_STATUS_SLOT_USED = 1 ∧ a < 0x4000000) ∨ (u.rd F.KINDLE_STATUS_SLOT_USED = 2 ∧ 0x4000000 < a + n))
      ∧ u.deniedNow (.erase a) = u.deniedNow (.program a 65536))
  ∧ (∀ (s u : State) (d : Nat), u = s.atCmd d → u.power.on = true → u.flash.busy = none → u.weld.ingots ≠ [] →
          exec (.flashArbiterServe d) s = .next (s.closeCmd d ({ u with flash := { u.flash with busy := some .ingot } })))
  ∧ (∀ (s u : State) (d : Nat) (ok : Bool) (a n : Nat), u = s.atCmd d → u.power.on = true → u.flash.busy = some (.read a n) →
          exec (.flashOpDone d ok) s = .next (s.closeCmd d
            ((({ u with flash := { u.flash with busy := none }, buf := u.buf.write 0 0x11000 (u.flash.mem.read 0xFF a n) } :
            State).wr F.FLASH_STATUS_BUSY 0).flag F.FLASH_STATUS_DONE)))
  ∧ (∀ (s u : State) (d : Nat) (a n : Nat), u = s.atCmd d → u.power.on = true → u.flash.busy = some (.program a n) →
          exec (.flashOpDone d true) s = .next (s.closeCmd d (((({ u with flash := { u.flash with busy := none } } :
            State).flashProgram a (u.bufRead 0x11000 n)).wr F.FLASH_STATUS_BUSY 0).flag F.FLASH_STATUS_DONE)))
  ∧ (∀ (s u : State) (d : Nat) (a : Nat), u = s.atCmd d → u.power.on = true → u.flash.busy = some (.erase a) →
          exec (.flashOpDone d true) s = .next (s.closeCmd d (((({ u with flash := { u.flash with busy := none } } :
            State).flashErase (a / 65536)).wr F.FLASH_STATUS_BUSY 0).flag F.FLASH_STATUS_DONE)))

/-- A claim takes a free semaphore, its token releases it, every other write changes nothing. Rules: R559, whole. -/
def Obligations.Semaphores : Prop :=
  (∀ (s u : State) (d : Nat) (i : Nat) (token : Nat), u = s.atCmd d → i < 8 → token < 65536 → u.hostOpen (F.GLB_SEM_TOKEN.at_
      i) → token ≠ 0 → u.rd F.GLB_SEM_OWNER i = 0 →
          exec (.semaphoreClaim d i token) s = .next (s.closeCmd d (u.wr F.GLB_SEM_OWNER token i)))
  ∧ (∀ (s u : State) (d : Nat) (i : Nat) (token : Nat), u = s.atCmd d → i < 8 → token < 65536 → u.hostOpen (F.GLB_SEM_TOKEN.at_
      i) → (token = 0 ∨ u.rd F.GLB_SEM_OWNER i ≠ 0) →
          exec (.semaphoreClaim d i token) s = .next (s.closeCmd d (u)))
  ∧ (∀ (s u : State) (d : Nat) (i : Nat) (token : Nat), u = s.atCmd d → i < 8 → token < 65536 → u.hostOpen (F.GLB_SEM_TOKEN.at_
      i) → token = u.rd F.GLB_SEM_OWNER i →
          exec (.semaphoreRelease d i token) s = .next (s.closeCmd d (u.wr F.GLB_SEM_OWNER 0 i)))
  ∧ (∀ (s u : State) (d : Nat) (i : Nat) (token : Nat), u = s.atCmd d → i < 8 → token < 65536 → u.hostOpen (F.GLB_SEM_TOKEN.at_
      i) → token ≠ u.rd F.GLB_SEM_OWNER i →
          exec (.semaphoreRelease d i token) s = .next (s.closeCmd d (u)))

/-- RESOURCE_CLAIM and RESOURCE_RELEASE take, free or refuse a shared resource and report it. Rules: R58, R61, R62, as far as its
clauses go. Rests on the model's choices of log 19. -/
def Obligations.ResourceOwnership : Prop :=
  (∀ (s u : State) (d : Nat) (cls : Nat) (idx : Nat) (owner : Nat), u = s.atCmd d → cls < 256 → idx < 65536 → owner < 2 ^ 32 →
      u.hostOpen (F.RESOURCE_CLAIM_OP.addr) → u.kindle.running = false → idx < resCount cls → (owner = hostOwner ∨ srcExists
      owner = true) → mayOwn cls idx owner = true → u.owner cls idx = 0 →
          exec (.resourceClaim d cls idx owner) s = .next (s.closeCmd d
            (((({ u with owners := u.owners.put (65536 * cls + idx) owner 0 } : State).wr F.RESOURCE_RESULT_RESULT 1).wr
            F.RESOURCE_RESULT_HOLDER owner).ownersMoved)))
  ∧ (∀ (s u : State) (d : Nat) (cls : Nat) (idx : Nat) (owner : Nat), u = s.atCmd d → cls < 256 → idx < 65536 → owner < 2 ^ 32 →
      u.hostOpen (F.RESOURCE_CLAIM_OP.addr) → u.kindle.running = false → idx < resCount cls → (owner = hostOwner ∨ srcExists
      owner = true) → mayOwn cls idx owner = true → u.owner cls idx ≠ 0 →
          exec (.resourceClaim d cls idx owner) s = .next (s.closeCmd d ((u.wr F.RESOURCE_RESULT_RESULT 3).wr
            F.RESOURCE_RESULT_HOLDER (u.owner cls idx))))
  ∧ (∀ (s u : State) (d : Nat) (cls : Nat) (idx : Nat) (owner : Nat), u = s.atCmd d → cls < 256 → idx < 65536 → owner < 2 ^ 32 →
      u.hostOpen (F.RESOURCE_CLAIM_OP.addr) → u.kindle.running = false → idx < resCount cls → (owner = hostOwner ∨ srcExists
      owner = true) → mayOwn cls idx owner = true → u.owner cls idx = owner →
          exec (.resourceRelease d cls idx owner) s = .next (s.closeCmd d
            (((({ u with owners := u.owners.put (65536 * cls + idx) 0 0 } : State).wr F.RESOURCE_RESULT_RESULT 2).wr
            F.RESOURCE_RESULT_HOLDER 0).ownersMoved)))
  ∧ (∀ (s u : State) (d : Nat) (cls : Nat) (idx : Nat) (owner : Nat), u = s.atCmd d → cls < 256 → idx < 65536 → owner < 2 ^ 32 →
      u.hostOpen (F.RESOURCE_CLAIM_OP.addr) → u.kindle.running = false → idx < resCount cls → (owner = hostOwner ∨ srcExists
      owner = true) → mayOwn cls idx owner = true → u.owner cls idx ≠ owner →
          exec (.resourceRelease d cls idx owner) s = .next (s.closeCmd d ((u.wr F.RESOURCE_RESULT_RESULT 3).wr
            F.RESOURCE_RESULT_HOLDER (u.owner cls idx))))
  ∧ (∀ (s u : State) (d : Nat) (cls : Nat) (idx : Nat) (owner : Nat), u = s.atCmd d → cls < 256 → idx < 65536 → owner < 2 ^ 32 →
      u.hostOpen (F.RESOURCE_CLAIM_OP.addr) → idx < resCount cls → (u.kindle.running = true ∨ (owner ≠ hostOwner ∧ srcExists
      owner = false) ∨ mayOwn cls idx owner = false) →
          exec (.resourceClaim d cls idx owner) s = .next (s.closeCmd d ((u.wr F.RESOURCE_RESULT_RESULT 4).wr
            F.RESOURCE_RESULT_HOLDER (u.owner cls idx))))

/-- Replies to decision requests are judged, timeouts take their action, held requests are posted. Rules: R37, R39, R40, R41, R42,
R44, as far as its clauses go. Rests on the model's choices of log 3, 58. -/
def Obligations.Decisions : Prop :=
  (∀ (s u : State) (d : Nat) (v : Nat) (w : State), u = s.atCmd d → u.hostOpen (0x100) → v < 2 ^ 128 → w =
      { u with dcs := { u.dcs with seqBytes := [], broken := false } } → (v % 2 ^ 32 = 0 ∨ (w.dcs.wrapped = false ∧ w.dcs.nextId
      ≤ v % 2 ^ 32)) →
          exec (.decideReplyWrite d 0 16 v) s = .next (s.closeCmd d (w.wr F.DECIDE_STATUS_LAST_RESULT 3)))
  ∧ (∀ (s u : State) (d : Nat) (v : Nat) (w : State), u = s.atCmd d → u.hostOpen (0x100) → v < 2 ^ 128 → w =
      { u with dcs := { u.dcs with seqBytes := [], broken := false } } → w.idPosted (v % 2 ^ 32) = true → w.request (v % 2 ^ 32)
      = none →
          exec (.decideReplyWrite d 0 16 v) s = .next (s.closeCmd d (w.wr F.DECIDE_STATUS_LAST_RESULT 2)))
  ∧ (∀ (s u : State) (d : Nat) (v : Nat) (w : State) (r : Request), u = s.atCmd d → u.hostOpen (0x100) → v < 2 ^ 128 → w =
      { u with dcs := { u.dcs with seqBytes := [], broken := false } } → w.idPosted (v % 2 ^ 32) = true → w.request (v % 2 ^ 32)
      = some r → (v / 2 ^ 32 % 2 ^ 8 = 0 ∨ 4 ≤ v / 2 ^ 32 % 2 ^ 8) →
          exec (.decideReplyWrite d 0 16 v) s = .next (s.closeCmd d (w.wr F.DECIDE_STATUS_LAST_RESULT 4)))
  ∧ (∀ (s u : State) (d : Nat) (v : Nat) (w : State) (r : Request), u = s.atCmd d → u.hostOpen (0x100) → v < 2 ^ 128 → w =
      { u with dcs := { u.dcs with seqBytes := [], broken := false } } → w.idPosted (v % 2 ^ 32) = true → w.request (v % 2 ^ 32)
      = some r → v / 2 ^ 32 % 2 ^ 8 = 3 → w.argOk r (v / 2 ^ 64) = false →
          exec (.decideReplyWrite d 0 16 v) s = .next (s.closeCmd d (w.wr F.DECIDE_STATUS_LAST_RESULT 5)))
  ∧ (∀ (s u : State) (d : Nat) (v : Nat) (w : State) (r : Request), u = s.atCmd d → u.hostOpen (0x100) → v < 2 ^ 128 → w =
      { u with dcs := { u.dcs with seqBytes := [], broken := false } } → w.idPosted (v % 2 ^ 32) = true → w.request (v % 2 ^ 32)
      = some r → (v / 2 ^ 32 % 2 ^ 8 = 1 ∨ v / 2 ^ 32 % 2 ^ 8 = 2 ∨ (v / 2 ^ 32 % 2 ^ 8 = 3 ∧ w.argOk r (v / 2 ^ 64) = true)) →
          exec (.decideReplyWrite d 0 16 v) s = .next (s.closeCmd d (((w.wr F.DECIDE_STATUS_LAST_RESULT 1).closeId (v % 2 ^
            32)).resolve r (v / 2 ^ 32 % 2 ^ 8) (v / 2 ^ 64) 2)))
  ∧ (∀ (s u : State) (d : Nat) (id : Nat) (r : Request), u = s.atCmd d → u.power.on = true → u.request id = some r → r.at_ + 1000
      * r.timeoutUs ≤ u.clk →
          exec (.decideTimeout d id) s = .next (s.closeCmd d ((u.closeId id).timedOut r)))
  ∧ (∀ (s u : State) (d : Nat) (id : Nat) (r : Request), u = s.atCmd d → u.power.on = true → u.request id = some r → u.clk <
      r.at_ + 1000 * r.timeoutUs →
          exec (.decideTimeout d id) s = .next (s.closeCmd d (u)))
  ∧ (∀ (s u : State) (d : Nat) (h : HeldReq) (rest : List HeldReq), u = s.atCmd d → u.power.on = true → u.dcs.held = h :: rest →
      u.dcs.open_.length < 4096 →
          exec (.heldRequestPost d) s = .next (s.closeCmd d (({ u with dcs := { u.dcs with held := rest } } : State).postNow
            h.func h.unit h.reason h.proposal h.repost)))

/-- A function mode is requested, and a unit takes it at its safe point. Rules: R63, R65, R66, R67, as far as its clauses go. Rests
on the model's choices of log 37, 38. -/
def Obligations.FunctionModes : Prop :=
  (∀ (s u : State) (d : Nat) (f : Nat) (v : Nat), u = s.atCmd d → 1 ≤ f → f ≤ 9 → v < 2 → u.hostOpen (F.FUNC_MODE_REQUESTED.at_
      f) →
          ∃ t, exec (.funcModeWrite d f v) s = .next (s.closeCmd d t) ∧ t = u.modeWrite f v ∧ (v = 1 → t.rd
            F.FUNC_MODE_REQUESTED f = 1 ∧ (t.rd F.FUNC_MODE_PENDING f = 0 → t.rd F.FUNC_MODE_CURRENT f = 1)))
  ∧ (∀ (s u : State) (d : Nat) (f : Nat) (w : Nat), u = s.atCmd d → 1 ≤ f → f ≤ 9 → w < fnUnits f → u.power.on = true → u.on
      F.FUNC_MODE_PENDING f = true → (u.inService f w = false ∨ (f = 1 ∧ u.laneState w = 6)) →
          exec (.funcModeSafePoint d f w) s = .next (s.closeCmd d ((u.takeMode f w (u.rd F.FUNC_MODE_REQUESTED f)).settleMode
            f)))
  ∧ (∀ (s u : State) (d : Nat) (f : Nat) (w : Nat), u = s.atCmd d → 1 ≤ f → f ≤ 9 → w < fnUnits f → u.power.on = true →
      u.inService f w = true → ¬ (f = 1 ∧ u.laneState w = 6) →
          exec (.funcModeSafePoint d f w) s = .next (s.closeCmd d u))

/-- Register writes, latched reads, rail writes and the end of a domain exit. Rules: R14, R16, R22, R107, R314, R343, R345, R564, as
far as its clauses go. Rests on the model's choices of log 7, 14. -/
def Obligations.RegisterWrites : Prop :=
  (∀ (s u : State) (d : Nat) (x : Nat) (i : Nat), u = s.atCmd d → i < 4 → x < 2 ^ 64 → u.hostOpen (0x80 + 8 * i) →
          exec (.registerWrite d (0x80 + 8 * i) 8 x) s = .next (s.closeCmd d (({ u with held := u.held.del (0x80 + 8 * i) } :
            State).wr F.GLB_SCRATCH_VALUE x i)))
  ∧ (∀ (s u : State) (d : Nat) (a : Nat) (x : Nat), u = s.atCmd d → a % 4 = 0 → a + 4 ≤ 0x4000000 → x < 2 ^ 32 → u.hostOpen (a) →
      locate a = none → bufferAt a = none → ¬(0x1800000 ≤ a ∧ a ≤ 0x1FFFFFF) → ¬(0x100 ≤ a ∧ a ≤ 0x10F) →
          exec (.registerWrite d a 4 x) s = .next (s.closeCmd d (u)))
  ∧ (∀ (s u : State) (d : Nat) (i : Nat), u = s.atCmd d → i < 4 → u.power.on = true → u.hep.d3hot = false → u.power.jtagTest =
      false →
          exec (.lowerHalfRead d (0x80 + 8 * i)) s = .next (s.closeCmd d
            ({ u with upper := u.upper.put (0x80 + 8 * i) (u.rd F.GLB_SCRATCH_VALUE i / 2 ^ 32 + 1) 0, out := u.out ++ [.completion 0 (le 4 (u.rd F.GLB_SCRATCH_VALUE i % 2 ^ 32)) false] })))
  ∧ (∀ (s u : State) (d : Nat) (k : Nat) (x : Nat), u = s.atCmd d → k < 16 → x < 2 ^ 64 → u.hostOpen (0x20200 + 16 * k) →
      u.railRangeOk k (bits x 15 0) (bits x 31 16) = true → (u.ready = false ∨ k < 14 ∨ bits x 15 0 = u.rd F.BLW_RAIL_FLOOR_MV k) →
          exec (.railWrite d k x) s = .next (s.closeCmd d ((({ u with held := u.held.del (0x20200 + 16 * k) } : State).setFlds
            R.BLW_RAIL.desc.flds k 0 x).rwkAttempt (0x20200 + 16 * k))))
  ∧ (∀ (s u v : State) (d : Nat) (k : Nat) (x : Nat), u = s.atCmd d → k < 16 → x < 2 ^ 64 → u.hostOpen (0x20200 + 16 * k) →
      u.railRangeOk k (bits x 15 0) (bits x 31 16) = true → u.ready = true → 14 ≤ k → bits x 15 0 ≠ u.rd F.BLW_RAIL_FLOOR_MV k →
      v = ({ u with held := u.held.del (0x20200 + 16 * k) } : State).setFlds R.BLW_RAIL.desc.flds k 0 x →
          exec (.railWrite d k x) s = .next (s.closeCmd d
            (({ v with blw := { v.blw with target := v.blw.target.put k (bits x 15 0) 0 } } : State).rwkAttempt (0x20200 + 16 * k))))
  ∧ (∀ (s u : State) (d : Nat) (k : Nat) (x : Nat), u = s.atCmd d → k < 16 → x < 2 ^ 64 → u.hostOpen (0x20200 + 16 * k) →
      u.railRangeOk k (bits x 15 0) (bits x 31 16) = false →
          exec (.railWrite d k x) s = .next (s.closeCmd d { u with held := u.held.del (0x20200 + 16 * k) }))
  ∧ (∀ (s u : State) (d : Nat) (dom : Nat), u = s.atCmd d → dom < 64 → u.pressOn → (u.blw.exits.find dom).isSome = true →
          exec (.bankExitDone d dom) s = .next (s.closeCmd d (u.wakeDone dom)))

/-- Encoder levels are accepted after their filter, count or are illegal, Z latches, an axis stalls, resumes and changes its encoder.
Rules: R78, R79, R80, R81, R84, R88, R91, as far as its clauses go. Rests on the model's choices of log 59, 91. -/
def Obligations.EncodersAndAxes : Prop :=
  (∀ (x : EncIn) (v f t0 t : Nat), x.lev = x.raw → x.raw ≠ v % 2 →
      ((x.sample v t0).accept f t).lev = (if t0 + f + 1 ≤ t then v % 2 else x.lev))
  ∧ (∀ (s u : State) (c : Instr) (d : Nat) (ab : List (Nat × Nat × Nat)) (z : List (Nat × Nat)), u = s.atCmd d →
      c = .encoderEdge d ab ∨ c = .encoderIndex d z → c.WellFormed → u.pressOn →
      ((List.range 8).all fun ax => !u.on F.AXIS_CFG_ENABLE ax) = true →
          ∃ t, exec c s = .next (s.closeCmd d t) ∧ t.hbm = u.hbm ∧ ∀ e < 16, u.on F.ENC_CFG_ENABLE e = true →
            u.rd F.ENC_CFG_ZMODE e ≠ 2 →
            ((u.accepted e).a.lev ≠ (u.encoder e).a.lev → (u.accepted e).b.lev ≠ (u.encoder e).b.lev →
              t.rd F.ENC_STATUS_ILLEGAL e = 1 ∧ t.rd F.ENC_COUNT_COUNT e = u.rd F.ENC_COUNT_COUNT e
              ∧ t.rd F.ENC_STATUS_ILLEGAL_COUNT e
                = min (u.rd F.ENC_STATUS_ILLEGAL_COUNT e + 1) (2 ^ F.ENC_STATUS_ILLEGAL_COUNT.w - 1))
            ∧ (((u.encoder e).a.lev, (u.encoder e).b.lev, (u.accepted e).a.lev, (u.accepted e).b.lev)
                ∈ [(0, 0, 1, 0), (1, 0, 1, 1), (1, 1, 0, 1), (0, 1, 0, 0)] →
              t.rd F.ENC_COUNT_COUNT e = addCount (u.rd F.ENC_COUNT_COUNT e) (if u.on F.ENC_CFG_SWAP e then -1 else 1))
            ∧ (((u.encoder e).a.lev, (u.encoder e).b.lev, (u.accepted e).a.lev, (u.accepted e).b.lev)
                ∈ [(1, 0, 0, 0), (1, 1, 1, 0), (0, 1, 1, 1), (0, 0, 0, 1)] →
              t.rd F.ENC_COUNT_COUNT e = addCount (u.rd F.ENC_COUNT_COUNT e) (if u.on F.ENC_CFG_SWAP e then 1 else -1))
            ∧ (u.rd F.ENC_CFG_ZMODE e = 1 → (u.encoder e).z.lev ≠ (u.accepted e).z.lev →
              (u.accepted e).z.lev = (if u.on F.ENC_CFG_Z_POL e then 0 else 1) →
              t.rd F.ENC_ZPOS_VALUE e = t.rd F.ENC_COUNT_COUNT e ∧ t.rd F.ENC_ZSTAMP_VALUE e = u.dt % 2 ^ 64))
  ∧ (∀ (s u : State) (d e a b : Nat), u = s.atCmd d → e < 16 → u.pressOn →
      ((List.range 8).all fun ax => !u.on F.AXIS_CFG_ENABLE ax) = true →
          ∃ t, exec (.encoderEdge d [(e, a, b)]) s = .next (s.closeCmd d t)
            ∧ (t.encoder e).a = (u.accepted e).a.sample a u.dt ∧ (t.encoder e).b = (u.accepted e).b.sample b u.dt
            ∧ (t.encoder e).z = (u.accepted e).z ∧ ∀ f < 16, f ≠ e → (t.encoder f).a = (u.accepted f).a
              ∧ (t.encoder f).b = (u.accepted f).b ∧ (t.encoder f).z = (u.accepted f).z)
  ∧ (∀ (s u : State) (d a : Nat), u = s.atCmd d → a < 8 → u.pressOn → u.on F.AXIS_CFG_ENABLE a = true → (u.ax a).stalled
      = false → (u.ax a).lastUpd + u.rd F.AXIS_STALL_STALL_NS a ≤ u.dt →
          ∃ t, exec (.axisStall d a) s = .next (s.closeCmd d t) ∧ (t.ax a).stalled = true ∧ (t.ax a).ivals = [])
  ∧ (∀ (s u : State) (d a : Nat), u = s.atCmd d → a < 8 → u.hostOpen (F.AXIS_CTL_RESUME.at_ a) → u.pressOn → u.rd
      F.AXIS_STATUS_STATE a = 2 → 0 ≤ countDiff (u.axRaw a) (u.rd F.AXIS_HWM_POSITION a / 256) →
          exec (.axisResume d a) s = .next (s.closeCmd d ((u.setAx a { u.ax a with resume := true }).axTrack a false)))
  ∧ (∀ (s u : State) (d a : Nat), u = s.atCmd d → a < 8 → u.hostOpen (F.AXIS_CTL_RESUME.at_ a) → u.pressOn → u.on
      F.AXIS_CFG_ENABLE a = true → u.on F.AXIS_CFG_RED_EN a = true → u.on F.AXIS_STATUS_ON_REDUNDANT a = false →
          exec (.useRedundant d a) s = .next (s.closeCmd d (u.axSwitch a true 3 0)))
  ∧ (∀ (s u : State) (d a : Nat), u = s.atCmd d → a < 8 → u.hostOpen (F.AXIS_CTL_RESUME.at_ a) → u.pressOn → u.on
      F.AXIS_CFG_ENABLE a = true → u.on F.AXIS_STATUS_ON_REDUNDANT a = true →
          exec (.usePrimary d a) s = .next (s.closeCmd d (u.axSwitch a false 3 0)))

/-- A lane goes from DETECT to lock, its receiver hunts for the block boundary, and it loses lock. Rules: R115, R116, R117, R119, R120,
R129, R130, as far as its clauses go. Rests on the model's choices of log 3, 74, 95. -/
def Obligations.LaneBringUp : Prop :=
  (∀ (s u : State) (d k : Nat), u = s.atCmd d → k < 544 → u.hostOpen (F.LANE_CFG_ENABLE.at_ k) →
          exec (.laneEnable d k) s = .next (s.closeCmd d ((u.wr F.LANE_CFG_ENABLE 1 k).press fun w => w.laneOn k)))
  ∧ (∀ (s u : State) (d k : Nat), u = s.atCmd d → k < 544 → u.pressOn → u.rd F.LANE_STATE_STATE k = 1 →
          ∃ t, exec (.signalDetect d k) s = .next (s.closeCmd d t) ∧ t = (u.wr F.LANE_STATE_SIGNAL 1 k).toTrain k ∧ t.rd
            F.LANE_STATE_STATE k = 2 ∧ t.rd F.LANE_STATE_CDR_LOCK k = 0 ∧ t.rd F.LANE_STATE_BLOCK_LOCK k = 0)
  ∧ (∀ (s u : State) (d k : Nat), u = s.atCmd d → k < 544 → u.pressOn → u.rd F.LANE_STATE_STATE k = 2 →
          ∃ t, exec (.cdrLock d k) s = .next (s.closeCmd d t) ∧ t = (u.wr F.LANE_STATE_CDR_LOCK 1 k).toLane k 3
            ∧ t.rd F.LANE_STATE_STATE k = 3 ∧ t.rd F.LANE_STATE_CDR_LOCK k = 1)
  ∧ (∀ (s u : State) (d k : Nat), u = s.atCmd d → k < 544 → u.pressOn → u.rd F.LANE_STATE_STATE k ≠ 2 →
          exec (.cdrLock d k) s = .next (s.closeCmd d (if u.rd F.LANE_STATE_STATE k = 8 ∨ u.rd F.LANE_STATE_STATE k = 0xA
            ∨ u.on F.LANE_STATE_LISTEN k = true then u.wr F.LANE_STATE_CDR_LOCK 1 k else u)))
  ∧ (∀ (s u : State) (d k hdr payload : Nat), u = s.atCmd d → k < 544 → hdr < 4 → payload < 2 ^ 64 → u.pressOn →
      u.rd F.LANE_STATE_STATE k = 3 → u.on F.LANE_STATE_CDR_LOCK k = true → u.on F.LANE_STATE_BLOCK_LOCK k = false →
      (u.lane k).inject = 0 → (u.lane k).bufBits = 0 → (u.lane k).buf = 0 → (u.lane k).skip = false →
      bit (u.eqByte (u.lane k).rate ((u.laneOf k).getD (u.lane k).lastLane) 7) 1 = 0 →
          ∃ t, exec (.laneBlockReceive d k hdr payload) s = .next (s.closeCmd d t) ∧ t.regs = u.regs
            ∧ (t.lane k).good = (if hdr = 1 ∨ hdr = 2 then (u.lane k).good + 1 else 0)
            ∧ (t.lane k).skip = decide (hdr ≠ 1 ∧ hdr ≠ 2))
  ∧ (∀ (s u : State) (d k : Nat), u = s.atCmd d → k < 544 → u.pressOn → u.rd F.LANE_STATE_STATE k = 3 → u.on F.LANE_STATE_BLOCK_LOCK k = false →
      64 ≤ (u.lane k).good →
          ∃ t, exec (.blockLock d k) s = .next (s.closeCmd d t) ∧ t = u.setLock k 1 ∧ t.rd F.LANE_STATE_BLOCK_LOCK k = 1
            ∧ t.rd F.LANE_STATE_STATE k = 3)
  ∧ (∀ (s u : State) (d k : Nat), u = s.atCmd d → k < 544 → u.pressOn → u.rd F.LANE_STATE_STATE k = 6 → u.on F.LANE_STATE_BLOCK_LOCK k = false →
      64 ≤ (u.lane k).good →
          exec (.blockLock d k) s = .next (s.closeCmd d ((u.setLock k 1).regain k)))
  ∧ (∀ (s u : State) (d k : Nat), u = s.atCmd d → k < 544 → u.pressOn → u.rd F.LANE_STATE_STATE k = 8 → u.on F.LANE_STATE_BLOCK_LOCK k = false →
      8 ≤ (u.lane k).good →
          exec (.blockLock d k) s = .next (s.closeCmd d ((u.setLock k 1).exitDone k)))
  ∧ (∀ (s u : State) (d k : Nat), u = s.atCmd d → k < 544 → u.pressOn → (u.lane k).good < (if u.rd F.LANE_STATE_STATE k = 8 then 8 else 64) →
          exec (.blockLock d k) s = .next (s.closeCmd d u))
  ∧ (∀ (s u : State) (d k : Nat), u = s.atCmd d → k < 544 → u.pressOn → u.on F.LANE_STATE_BLOCK_LOCK k = true → (u.lane k).winFail = true →
          exec (.lockWindowLoss d k) s = .next (s.closeCmd d (u.lockLost k)))
  ∧ (∀ (s u : State) (d k : Nat), u = s.atCmd d → k < 544 → u.pressOn → (u.lane k).winFail = false →
          exec (.lockWindowLoss d k) s = .next (s.closeCmd d u))
  ∧ (∀ (s u : State) (d k : Nat), u = s.atCmd d → k < 544 → u.pressOn → u.rd F.LANE_STATE_STATE k ≠ 5 →
          exec (.lossOfSignal d k) s = .next (s.closeCmd d (u.wr F.LANE_STATE_SIGNAL 0 k)))
  ∧ (∀ (s u : State) (d k : Nat), u = s.atCmd d → k < 544 → u.pressOn → u.rd F.LANE_STATE_STATE k = 5 →
          exec (.lossOfSignal d k) s = .next (s.closeCmd d (((u.wr F.LANE_STATE_SIGNAL 0 k).flag F.LANE_STATUS_LOS
            k).lockLost k)))
  ∧ (∀ (s u : State) (d k : Nat), u = s.atCmd d → k < 544 → u.pressOn → u.rd F.LANE_STATE_STATE k = 7 →
          ∃ t, exec (.exitDetect d k) s = .next (s.closeCmd d t) ∧ t = (u.wr F.LANE_STATE_SIGNAL 1 k).toLane k 8
            ∧ t.rd F.LANE_STATE_STATE k = 8)

/-- Timeouts of bring-up, in hardware mode and host-assisted, and the transmit exit. Rules: R117, R120, R121, R130, as far as its
clauses go. Rests on the model's choices of log 3, 4. -/
def Obligations.LaneTimeouts : Prop :=
  (∀ (s u : State) (d : Nat) (k : Nat) (l : Nat), u = s.atCmd d → k < 544 → u.pressOn → u.rd F.LANE_STATE_STATE k = 2 → (u.lane
      k).since + 2000000 ≤ u.clk → u.laneOf k = some l → u.hwMode 1 l = true →
          ∃ t, exec (.trainTimeout d k) s = .next (s.closeCmd d t) ∧ t = (u.flag F.LANE_STATUS_TRAIN_TIMEOUT k).toDetect k ∧
            t.rd F.LANE_STATE_STATE k = 1)
  ∧ (∀ (s u : State) (d : Nat) (k : Nat) (l : Nat), u = s.atCmd d → k < 544 → u.pressOn → u.rd F.LANE_STATE_STATE k = 3 → (u.lane
      k).since + 1000000 ≤ u.clk → u.laneOf k = some l → u.hwMode 1 l = true →
          ∃ t, exec (.lockTimeout d k) s = .next (s.closeCmd d t) ∧ t = (u.flag F.LANE_STATUS_LOCK_TIMEOUT k).toTrain k ∧ t.rd
            F.LANE_STATE_STATE k = 2)
  ∧ (∀ (s u : State) (d : Nat) (k : Nat) (l : Nat), u = s.atCmd d → k < 544 → u.pressOn → u.rd F.LANE_STATE_STATE k = 4 → (u.lane
      k).since + 100000000 ≤ u.clk → u.laneOf k = some l → u.hwMode 1 l = true →
          ∃ t, exec (.capsTimeout d k) s = .next (s.closeCmd d t) ∧ t = (u.flag F.LANE_STATUS_CAPS_TIMEOUT k).toDetect k ∧ t.rd
            F.LANE_STATE_STATE k = 1)
  ∧ (∀ (s u : State) (d : Nat) (k : Nat) (l : Nat), u = s.atCmd d → k < 544 → u.pressOn → u.rd F.LANE_STATE_STATE k = 6 → (u.lane
      k).since + 2000 ≤ u.clk → u.laneOf k = some l → u.hwMode 1 l = true →
          exec (.relockTimeout d k) s = .next (s.closeCmd d ((u.inc F.LANE_ERRCNT_RELOCK_FAIL k).toDetect k)))
  ∧ (∀ (s u : State) (d : Nat) (k : Nat) (l : Nat), u = s.atCmd d → k < 544 → u.pressOn → u.rd F.LANE_STATE_STATE k = 8 →
      (u.lane k).since + cdiv (96 * blockTime (u.lane k).rate) 100 ≤ u.clk → u.laneOf k = some l → u.hwMode 1 l = true →
          exec (.exitFail d k) s = .next (s.closeCmd d ((u.flag F.LANE_STATUS_EXIT_FAIL k).toTrain k)))
  ∧ (∀ (s u : State) (d : Nat) (k : Nat) (l : Nat), u = s.atCmd d → k < 544 → u.pressOn → u.rd F.LANE_STATE_STATE k = 2 → (u.lane
      k).since + 2000000 ≤ u.clk → u.laneOf k = some l → u.hwMode 1 l = false →
          exec (.trainTimeout d k) s = .next (s.closeCmd d ((u.flag F.LANE_STATUS_TRAIN_TIMEOUT k).laneAsk k l 2 2)))
  ∧ (∀ (s u : State) (d : Nat) (k : Nat), u = s.atCmd d → k < 544 → u.pressOn → u.rd F.LANE_STATE_STATE k = 3 → u.clk < (u.lane
      k).since + 1000000 →
          exec (.lockTimeout d k) s = .next (s.closeCmd d (u)))
  ∧ (∀ (s u : State) (d : Nat) (k : Nat) (l : Nat), u = s.atCmd d → k < 544 → u.pressOn → u.laneOf k = some l → (u.lane k).tx.idle
      = true → u.power.jtagTest = false →
          ∃ t pre bs, exec (.txExit d k) s = .next (s.closeCmd d t)
            ∧ t = ((u.setLane k { u.lane k with tx := { (u.lane k).tx with idle := false } }).txTo k 1 true
              (u.lane k).tx.locked).txTrain k 32 (2 + b2n (u.on F.LANE_STATE_BLOCK_LOCK k))
            ∧ (t.lane k).tx.idle = false ∧ (t.lane k).tx.fill = 1
            ∧ t.out = u.out ++ pre ++ bs ∧ bs.length = 32 ∧ ∀ b ∈ bs, ∃ h p at_, b = Out.block l h p at_)
  ∧ (∀ (s u : State) (d : Nat) (k : Nat), u = s.atCmd d → k < 544 → u.pressOn → (u.lane k).tx.idle = false →
          exec (.txExit d k) s = .next (s.closeCmd d u))

/-- Figure of merit, trims, freezing, retraining, counters and received blocks of a lane. Rules: R111, R112, R114, R124, R125, R126,
R127, R128, R133, R135, as far as its clauses go. Rests on the model's choices of log 75, 76, 95. -/
def Obligations.LaneAdaptation : Prop :=
  (∀ (s u : State) (d k v h : Nat), u = s.atCmd d → k < 544 → v < 128 → h < 64 → u.pressOn → 65536 ≤ (u.lane k).fomN →
      u.rd F.LANE_STATE_STATE k ≠ 5 →
          exec (.fomMeasure d k v h) s = .next (s.closeCmd d ((((u.wr F.LANE_EYE_V v k).wr F.LANE_EYE_H h k).wr F.LANE_FOM_FOM
            (255 * v * h / 8001) k).setLane k { u.lane k with fomN := (u.lane k).fomN - 65536, invPeriod := 0 })))
  ∧ (∀ (s u : State) (d k v h : Nat), u = s.atCmd d → k < 544 → u.pressOn → (u.lane k).fomN < 65536 →
          exec (.fomMeasure d k v h) s = .next (s.closeCmd d u))
  ∧ (∀ (s u : State) (d k v h : Nat), u = s.atCmd d → k < 544 → v < 128 → h < 64 → u.pressOn → 65536 ≤ (u.lane k).fomN →
      u.rd F.LANE_STATE_STATE k = 5 → (u.lane k).needRef = true → (u.lane k).snapped = false →
          ∃ t, exec (.fomMeasure d k v h) s = .next (s.closeCmd d t) ∧ t.rd F.LANE_EYE_V k = v ∧ t.rd F.LANE_EYE_H k = h
            ∧ t.rd F.LANE_FOM_FOM k = 255 * v * h / 8001 ∧ t.rd F.LANE_FOM_FOM_REF k = 255 * v * h / 8001
            ∧ t.rd F.LANE_EQ_CTLE_TRIM k = u.rd F.LANE_EQ_CTLE_TRIM k ∧ (t.lane k).needRef = false ∧ (t.lane k).snapped = false)
  ∧ (∀ (s u : State) (d k v h : Nat), u = s.atCmd d → k < 544 → v < 128 → h < 64 → u.pressOn → 65536 ≤ (u.lane k).fomN →
      u.rd F.LANE_STATE_STATE k = 5 → (u.lane k).needRef = false → (u.lane k).snapped = false →
      255 * v * h / 8001 + 24 ≤ u.rd F.LANE_FOM_FOM_REF k →
          ∃ t, exec (.fomMeasure d k v h) s = .next (s.closeCmd d t) ∧ t.rd F.LANE_EQ_CTLE_TRIM k = 0
            ∧ t.rd F.LANE_EQ_DFE1_TRIM k = 0 ∧ t.rd F.LANE_STATUS_SNAPBACK k = 1 ∧ (t.lane k).trimN = 0
            ∧ t.rd F.LANE_FOM_ADAPT_RESETS k = min (u.rd F.LANE_FOM_ADAPT_RESETS k + 1) (2 ^ F.LANE_FOM_ADAPT_RESETS.w - 1)
            ∧ t.rd F.LANE_FOM_FOM_REF k = u.rd F.LANE_FOM_FOM_REF k)
  ∧ (∀ (s u : State) (d k ctle dfe : Nat), u = s.atCmd d → k < 544 → ctle < 3 → dfe < 3 → u.pressOn →
      u.rd F.LANE_STATE_STATE k = 5 → 4096 ≤ (u.lane k).trimN → u.on F.LANE_CFG_TRIM_EN k = true →
      u.on F.LANE_STATE_TRIM_FROZEN k = false →
          exec (.trimDecision d k ctle dfe) s = .next (s.closeCmd d
            (((u.setLane k { u.lane k with trimN := (u.lane k).trimN - 4096 }).wr F.LANE_EQ_CTLE_TRIM (trimmed (u.rd
            F.LANE_EQ_CTLE_TRIM k) 2 ctle) k).wr F.LANE_EQ_DFE1_TRIM (trimmed (u.rd F.LANE_EQ_DFE1_TRIM k) 4 dfe) k)))
  ∧ (∀ (s u : State) (d k ctle dfe : Nat), u = s.atCmd d → k < 544 → ctle < 3 → dfe < 3 → u.pressOn →
      ((u.lane k).trimN < 4096 ∨ u.on F.LANE_CFG_TRIM_EN k = false ∨ u.on F.LANE_STATE_TRIM_FROZEN k = true) →
          exec (.trimDecision d k ctle dfe) s = .next (s.closeCmd d u))
  ∧ (∀ (s u : State) (d k : Nat), u = s.atCmd d → k < 544 → u.pressOn → u.rd F.LANE_STATE_STATE k = 5 →
          exec (.trimFreeze d k) s = .next (s.closeCmd d (if 65536 ≤ (u.lane k).idleRun then
            (u.setLane k { u.lane k with trimN := 0 }).wr F.LANE_STATE_TRIM_FROZEN 1 k else u)))
  ∧ (∀ (s u : State) (d k l : Nat), u = s.atCmd d → k < 544 → u.pressOn → u.hostOpen (F.LANE_CTL_RETRAIN.at_ k) →
      u.rd F.LANE_STATE_STATE k ∉ [0, 0xA, 0xB] → u.laneOf k = some l →
          exec (.retrain d k) s = .next (s.closeCmd d ((u.closeReqs 1 (srcNo 5 l)).toTrain k)))
  ∧ (∀ (s u : State) (d k : Nat), u = s.atCmd d → k < 544 → u.hostOpen (F.LANE_CTL_CLEAR_COUNTS.at_ k) →
          ∃ t, exec (.laneClearCounts d k) s = .next (s.closeCmd d t) ∧ (∀ f ∈ [F.LANE_ERRCNT_RELOCK_FAIL,
            F.LANE_ERRCNT_LOCK_LOSSES, F.LANE_ERRCNT_INVALID_HDR, F.LANE_EVTCNT_RATE_MISMATCH, F.LANE_EVTCNT_EIDLE_ENTRIES,
            F.LANE_EVTCNT_EXITS, F.LANE_EVTCNT_TRAINS, F.LANE_INJECTED_INJECTED], t.rd f k = 0) ∧ t = { u with regs := t.regs })
  ∧ (∀ (s u : State) (d k hdr payload : Nat), u = s.atCmd d → k < 544 → hdr < 4 → payload < 2 ^ 64 → u.pressOn →
      u.rd F.LANE_STATE_STATE k ≠ 0xA → u.on F.LANE_STATE_CDR_LOCK k = true →
          exec (.laneBlockReceive d k hdr payload) s = .next (s.closeCmd d
            (let w := if bit (u.eqByte (u.lane k).rate ((u.laneOf k).getD (u.lane k).lastLane) 7) 1 = 1
              then 2 ^ 66 - 1 - (hdr + 4 * payload) else hdr + 4 * payload
            let fr := (u.lane k).frame w
            fr.1.elim (u.setLane k fr.2) fun line => (u.setLane k fr.2).framed k line)))
  ∧ (∀ (s u : State) (d k hdr payload l : Nat), u = s.atCmd d → k < 544 → hdr < 4 → payload < 2 ^ 64 → u.pressOn →
      u.rd F.LANE_STATE_STATE k = 0xA → u.rd F.LANE_TEST_LOOP k = 3 → u.rd F.LANE_TEST_RX_CHECK k = 0 → u.laneOf k = some l →
      bit (u.eqByte (u.lane k).rate l 7) 1 = 0 →
          exec (.laneBlockReceive d k hdr payload) s = .next (s.closeCmd d
            (let v := (u.txSync k).txLine k l (hdr + 4 * payload)
            let fr := (v.lane k).frame (hdr + 4 * payload)
            fr.1.elim (v.setLane k fr.2) fun line => (v.setLane k fr.2).framed k line)))
  ∧ (∀ (s u : State) (d k payload : Nat), u = s.atCmd d → k < 544 → payload < 2 ^ 64 → u.pressOn →
      u.rd F.LANE_STATE_STATE k = 5 → u.on F.LANE_STATE_CDR_LOCK k = true → u.on F.LANE_STATE_BLOCK_LOCK k = true →
      (u.lane k).inject = 0 → (u.lane k).bufBits = 0 → (u.lane k).buf = 0 → (u.lane k).skip = false → (u.lane k).winFail = false →
      bit (u.eqByte (u.lane k).rate ((u.laneOf k).getD (u.lane k).lastLane) 7) 1 = 0 →
          ∃ t, exec (.laneBlockReceive d k 1 payload) s = .next (s.closeCmd d t) ∧ (u.on F.LANE_STATE_LISTEN k = false →
              t.rd F.LANE_STATE_TRIM_FROZEN k = 0 ∧ (t.lane k).idleRun = 0)
            ∧ (t.lane k).synced = true ∧ (t.lane k).hist = (descramble (u.lane k).hist payload).2
            ∧ (t.lane k).fomN = (u.lane k).fomN + 1)

/-- Entry to TEST, its refusal, its exit, and injected errors. Rules: R132, R133, R134, R135, as far as its clauses go. Rests on the
model's choices of log 76. -/
def Obligations.LaneTestAndInjection : Prop :=
  (∀ (s u : State) (d : Nat) (k : Nat) (v : Nat), u = s.atCmd d → k < 544 → v < 2 ^ 32 → bit v 16 = 1 → u.pressOn → u.hostOpen
      (F.LANE_TEST_TEST_EN.at_ k) → bits v 10 8 ≠ 7 → bits v 6 4 ≠ 7 → (u.rd F.LANE_STATE_STATE k = 5 ∨ u.rd F.LANE_STATE_STATE
      k = 6 ∨ u.rd F.LANE_STATE_STATE k = 9 ∨ u.on F.LANE_STATE_LISTEN k = true) →
          exec (.testEnter d k v) s = .next (s.closeCmd d (u.flag F.LANE_STATUS_TEST_REFUSED k)))
  ∧ (∀ (s u : State) (d : Nat) (k : Nat) (v : Nat), u = s.atCmd d → k < 544 → v < 2 ^ 32 → bit v 16 = 1 → u.pressOn → u.hostOpen
      (F.LANE_TEST_TEST_EN.at_ k) → bits v 10 8 ≠ 7 → bits v 6 4 ≠ 7 → u.rd F.LANE_STATE_STATE k = 1 → u.on F.LANE_STATE_LISTEN
      k = false →
          ∃ t, exec (.testEnter d k v) s = .next (s.closeCmd d t) ∧ t.rd F.LANE_STATE_STATE k = 0xA ∧ t.rd F.LANE_TEST_TEST_EN k
            = 1 ∧ t.rd F.LANE_TEST_LOOP k = bits v 1 0 ∧ t.rd F.LANE_TEST_TX_PATTERN k = bits v 6 4 ∧ t.rd F.LANE_TEST_RX_CHECK
            k = bits v 10 8 ∧ t.rd F.LANE_CHK_BITS_COUNT k = 0 ∧ t.rd F.LANE_CHK_ERRS_COUNT k = 0 ∧ t.rd F.LANE_TEST_CHK_SYNC k
            = 0)
  ∧ (∀ (s u : State) (d : Nat) (k : Nat) (v : Nat), u = s.atCmd d → k < 544 → v < 2 ^ 32 → bit v 16 = 0 → u.pressOn → u.hostOpen
      (F.LANE_TEST_TEST_EN.at_ k) → bits v 10 8 ≠ 7 → bits v 6 4 ≠ 7 → u.rd F.LANE_STATE_STATE k = 0xA →
          exec (.testExit d k v) s = .next (s.closeCmd d (((u.testFields k v).wr F.LANE_TEST_TEST_EN 0 k).leaveTest k)))
  ∧ (∀ (s u : State) (d : Nat) (k : Nat) (v : Nat), u = s.atCmd d → k < 544 → v < 2 ^ 32 → bit v 7 = 1 → u.pressOn → u.hostOpen
      (F.LANE_INJECT_FIRE.at_ k) → bits v 5 3 < 5 → bits v 1 0 = 1 → 0 < bits v 31 8 → bit v 6 = 0 → u.rd F.LANE_STATE_STATE k ≠
      0 → (∃ l, u.laneOf k = some l ∧ (u.port l).up.size = 0) → (u.lane k).tx.fill ≠ 0 → (u.lane k).tx.pads = true →
          ∃ t, exec (.injectFire d k v) s = .next (s.closeCmd d t) ∧ t.rd F.LANE_INJECT_WHERE k = 1 ∧ t.rd F.LANE_INJECT_KIND k
            = bits v 5 3 ∧ t.rd F.LANE_INJECT_INTERVAL k = bits v 31 8 ∧ t.rd F.LANE_INJECTED_INJECTED k = min (u.rd
            F.LANE_INJECTED_INJECTED k + if bits v 5 3 = 4 then 16 else 1) (2 ^ 32 - 1))
  ∧ (∀ (s u : State) (d : Nat) (k : Nat) (v : Nat), u = s.atCmd d → k < 544 → v < 2 ^ 32 → bit v 7 = 1 → u.pressOn → u.hostOpen
      (F.LANE_INJECT_FIRE.at_ k) → bits v 5 3 < 5 → bits v 1 0 = 2 → 0 < bits v 31 8 → bit v 6 = 0 → u.rd F.LANE_STATE_STATE k ≠
      0 →
          ∃ t, exec (.injectFire d k v) s = .next (s.closeCmd d t) ∧ t.rd F.LANE_INJECT_WHERE k = 2 ∧ t.rd F.LANE_INJECT_KIND k
            = bits v 5 3 ∧ (t.lane k).inject = if bits v 5 3 = 4 then 16 else 1)
  ∧ (∀ (s u : State) (d : Nat) (k : Nat), u = s.atCmd d → k < 544 → u.pressOn → u.on F.LANE_INJECT_REPEAT k = true → u.rd
      F.LANE_STATE_STATE k ≠ 0 → u.rd F.LANE_INJECT_WHERE k = 2 → u.rd F.LANE_INJECT_INTERVAL k ≤ (u.lane k).injN →
          ∃ t, exec (.injectRepeat d k) s = .next (s.closeCmd d t) ∧ (t.lane k).injN = 0
            ∧ (t.lane k).inject = if u.rd F.LANE_INJECT_KIND k = 4 then 16 else 1)
  ∧ (∀ (s u : State) (d : Nat) (k : Nat), u = s.atCmd d → k < 544 → u.pressOn → (u.on F.LANE_INJECT_REPEAT k = false ∨
      (u.rd F.LANE_INJECT_WHERE k = 2 ∧ (u.lane k).injN < u.rd F.LANE_INJECT_INTERVAL k)) →
          exec (.injectRepeat d k) s = .next (s.closeCmd d u))

/-- The spare slice of a lane group listens, takes over, is tested and abandoned. Rules: R136, R137, R138, R139, R140, as far as its
clauses go. Rests on the model's choices of log 75. -/
def Obligations.LaneSpares : Prop :=
  (∀ (s u : State) (d : Nat) (g : Nat) (pad k l : Nat), u = s.atCmd d → g < 32 → u.pressOn → (u.lgrp g).pad = some pad → u.rd
      F.LGRP_SPARE_SPARE_STATE g = 0 → k = 17 * g + u.rd F.LGRP_SPARE_SPARE_SLICE g → l = 16 * g + pad → k < 544 →
          ∃ t, exec (.spareListenStart d g) s = .next (s.closeCmd d t) ∧ t.rd F.LGRP_SPARE_SPARE_STATE g = 1 ∧ t.rd
            F.LGRP_SPARE_LISTEN_MISMATCH g = 0 ∧ t.rd F.LANE_STATE_LISTEN k = 1 ∧ t.rd F.LANE_STATE_SPARE k = 0 ∧ t.rd
            F.LANE_EQ_CTLE_TRIM k = 0 ∧ t.rd F.LANE_EQ_DFE1_TRIM k = 0)
  ∧ (∀ (s u : State) (d g pad : Nat), u = s.atCmd d → g < 32 → u.pressOn → (u.lgrp g).pad = some pad → u.rd F.LGRP_SPARE_SPARE_STATE g = 1 → (u.lgrp g).byLoss = false → 256 ≤ (u.lgrp g).cmpN → (u.lgrp g).cmpBad = false →
      u.on F.LANE_STATE_CDR_LOCK (u.spareSlice g) = true → u.on F.LANE_STATE_BLOCK_LOCK (u.spareSlice g) = true →
      u.laneState (16 * g + pad) = 5 →
          exec (.spareSwitch d g) s = .next (s.closeCmd d (u.spareTakes g pad)))
  ∧ (∀ (s u : State) (d g pad : Nat), u = s.atCmd d → g < 32 → u.pressOn → (u.lgrp g).pad = some pad → u.rd F.LGRP_SPARE_SPARE_STATE g = 1 → (u.lgrp g).byLoss = false → 256 ≤ (u.lgrp g).cmpN → (u.lgrp g).cmpBad = true → (u.lgrp g).restarts < 3 →
          exec (.spareSwitch d g) s = .next (s.closeCmd d ((u.setLgrp g
            { (u.lgrp g).restart with restarts := (u.lgrp g).restarts + 1 }).setLock (u.spareSlice g) 0)))
  ∧ (∀ (s u : State) (d g pad : Nat), u = s.atCmd d → g < 32 → u.pressOn → (u.lgrp g).pad = some pad → u.rd F.LGRP_SPARE_SPARE_STATE g = 1 → (u.lgrp g).byLoss = false → 256 ≤ (u.lgrp g).cmpN → (u.lgrp g).cmpBad = true → ¬ (u.lgrp g).restarts < 3 →
          exec (.spareSwitch d g) s = .next (s.closeCmd d ((u.flag F.LGRP_STATUS_SWAP_ABANDONED g).listenEnd g)))
  ∧ (∀ (s u : State) (d g pad k : Nat), u = s.atCmd d → g < 32 → u.pressOn → (u.lgrp g).pad = some pad → (u.lgrp
      g).byLoss = true → k = u.sliceOf (16 * g + pad) → u.laneSt k = 6 → u.rd F.LGRP_SPARE_SPARE_STATE g = 1 → u.on F.LANE_STATE_BLOCK_LOCK (u.spareSlice g) = true → (u.lane k).good < 64 →
          exec (.spareLossTakeover d g) s = .next (s.closeCmd d (let l := 16 * g + pad
            let v := u.spareTakes g pad
            let w := v.setLane (v.sliceOf l) { v.lane (v.sliceOf l) with lossClk := (u.lane k).lossClk, lossN := (u.lane k).lossN }
            ((w.inc F.COBEX_ERRCNT_GAPS l).fillGap (w.sliceOf l) l).toLane (w.sliceOf l) 5)))
  ∧ (∀ (s u : State) (d g pad k : Nat), u = s.atCmd d → g < 32 → u.pressOn → (u.lgrp g).pad = some pad → (u.lgrp
      g).byLoss = true → k = u.sliceOf (16 * g + pad) → u.laneSt k = 6 → u.rd F.LGRP_SPARE_SPARE_STATE g = 1 → u.on F.LANE_STATE_BLOCK_LOCK (u.spareSlice g) = true → 64 ≤ (u.lane k).good →
          exec (.spareLossTakeover d g) s = .next (s.closeCmd d ((u.setLock k 1).regain k)))
  ∧ (∀ (s u : State) (d g pad k : Nat), u = s.atCmd d → g < 32 → u.pressOn → (u.lgrp g).pad = some pad → (u.lgrp
      g).byLoss = true → k = u.sliceOf (16 * g + pad) → u.laneSt k = 6 → u.rd F.LGRP_SPARE_SPARE_STATE g = 1 → u.on F.LANE_STATE_BLOCK_LOCK (u.spareSlice g) = false →
          exec (.spareLossTakeover d g) s = .next (s.closeCmd d u))
  ∧ (∀ (s u : State) (d : Nat) (g : Nat) (errs : Nat) (k at_ : Nat), u = s.atCmd d → g < 32 → u.pressOn → (u.lgrp g).test = some
      (k, at_) → at_ + 1000000000 ≤ u.clk → k < 544 → errs = 0 →
          ∃ t, exec (.suspectTestDone d g errs) s = .next (s.closeCmd d t) ∧ t.sliceState g (k % 17) = 1 ∧ (t.lgrp g).test =
            none ∧ t.rd F.LGRP_SPARE_SPARE_STATE g = 0 ∧ t.rd F.LGRP_SPARE_SPARE_SLICE g = k % 17 ∧ t.rd F.LANE_STATE_STATE k =
            0)
  ∧ (∀ (s u : State) (d : Nat) (g : Nat) (errs : Nat) (k at_ : Nat), u = s.atCmd d → g < 32 → u.pressOn → (u.lgrp g).test = some
      (k, at_) → at_ + 1000000000 ≤ u.clk → k < 544 → errs ≠ 0 →
          ∃ t, exec (.suspectTestDone d g errs) s = .next (s.closeCmd d t) ∧ t.sliceState g (k % 17) = 3 ∧ (t.lgrp g).test =
            none ∧ t.rd F.LGRP_SPARE_SPARE_STATE g = 3 ∧ t.rd F.LGRP_SPARE_SPARE_SLICE g = 0x1F ∧ t.rd F.LANE_STATE_STATE k =
            0xB)
  ∧ (∀ (s u : State) (d : Nat) (g : Nat) (pad : Nat), u = s.atCmd d → g < 32 → pad < 16 → u.pressOn → u.hostOpen
      (F.LGRP_CTL_OP.at_ g) → u.laneState (16 * g + pad) = 5 → (u.lgrp g).pad = none → u.rd F.LGRP_SPARE_SPARE_STATE g = 0 →
      u.rd F.LGRP_SPARE_SPARE_SLICE g ≠ 0x1F →
          exec (.lgrpSubstitute d g pad) s = .next (s.closeCmd d (u.setLgrp g
            { (u.lgrp g).restart with pad := some pad, restarts := 0, byLoss := false, cause := 3, claimAt := u.clk })))
  ∧ (∀ (s u : State) (d : Nat) (g : Nat) (pad : Nat), u = s.atCmd d → g < 32 → pad < 16 → u.pressOn → u.hostOpen
      (F.LGRP_CTL_OP.at_ g) → (u.laneState (16 * g + pad) ≠ 5 ∨ (u.lgrp g).pad.isSome = true) →
          exec (.lgrpSubstitute d g pad) s = .next (s.closeCmd d (u.flag F.LGRP_STATUS_BAD_ORDER g)))
  ∧ (∀ (s u : State) (d : Nat) (g : Nat) (pad k : Nat), u = s.atCmd d → g < 32 → u.pressOn → u.hostOpen (F.LGRP_CTL_OP.at_ g) →
      (u.lgrp g).pad = some pad → k = 17 * g + u.rd F.LGRP_SPARE_SPARE_SLICE g → k < 544 →
          ∃ t, exec (.lgrpAbandon d g) s = .next (s.closeCmd d t) ∧ (t.lgrp g).pad = none ∧ t.rd F.LGRP_SPARE_SPARE_STATE g = 0
            ∧ t.rd F.LANE_STATE_LISTEN k = 0 ∧ t.rd F.LANE_STATE_SPARE k = 1)

/-- Marker sets keep, break or make the alignment of a bond, whose stream is taken from its lanes in turn; ALIGNING times out, and
LINK_RESET waits its 100 ms. Rules: R146, R147, R148, R149, R150, as far as its clauses go. Rests on the model's choices of log 3, 73, 96. -/
def Obligations.BondAlignment : Prop :=
  (∀ (s u : State) (d p : Nat) (ms : List (Option Marker)) (v : SetView) (seq : Nat), u = s.atCmd d → p < 512 → u.pressOn → u.setDue p = true → ms = u.markersOf p → v = u.viewSet p ms → u.bond p = 3 → (u.port p).marker = some seq → setMisses ms (u.alignLanes p ms) seq = false →
      (setDelays ms (u.alignLanes p ms)).foldl max 0 ≤ 48 →
          exec (.markerSetReceive d p) s = .next (s.closeCmd d
            (let w := (u.setSkew p ms (u.alignLanes p ms) ((setDelays ms (u.alignLanes p ms)).foldl max 0)).takeMarkers p
            (w.setPort p { w.port p with misses := 0, marker := some ((seq + 1) % 65536) }).pump p)))
  ∧ (∀ (s u : State) (d p : Nat) (ms : List (Option Marker)) (v : SetView) (seq : Nat), u = s.atCmd d → p < 512 → u.pressOn → u.setDue p = true → ms = u.markersOf p → v = u.viewSet p ms → u.bond p = 3 → (u.port p).marker = some seq → setMisses ms (u.alignLanes p ms) seq = true → (u.port p).misses = 0 →
          exec (.markerSetReceive d p) s = .next (s.closeCmd d
            (let w := ((u.skewSet p ms v).inc F.COBEX_STATE_ALIGN_MISS p).takeMarkers p
            (w.setPort p { w.port p with misses := 1, marker := some ((seq + 1) % 65536) }).pump p)))
  ∧ (∀ (s u : State) (d p : Nat) (ms : List (Option Marker)) (v : SetView) (seq : Nat), u = s.atCmd d → p < 512 → u.pressOn → u.setDue p = true → ms = u.markersOf p → v = u.viewSet p ms → u.bond p = 3 → (u.port p).marker = some seq → setMisses ms (u.alignLanes p ms) seq = true → (u.port p).misses = 1 →
          exec (.markerSetReceive d p) s = .next (s.closeCmd d
            (let w := (u.skewSet p ms v).inc F.COBEX_STATE_ALIGN_MISS p
            (w.flag F.COBEX_STATUS_ALIGN_LOST p).bondLeave p (if w.allActive p then 2 else 0))))
  ∧ (∀ (s u : State) (d p : Nat) (ms : List (Option Marker)) (v : SetView), u = s.atCmd d → p < 512 → u.pressOn → u.setDue p = true → ms = u.markersOf p → v = u.viewSet p ms → u.bond p = 2 → v.equal = true → v.wide = false → v.miss = false → (u.port p).lined = 1 →
          exec (.markerSetReceive d p) s = .next (s.closeCmd d
            (((((u.skewSet p ms v).takeMarkers p).attach p).setMarker p v.next).pump p)))
  ∧ (∀ (s u : State) (d p : Nat), u = s.atCmd d → p < 512 → u.pressOn → u.setDue p = false →
          exec (.markerSetReceive d p) s = .next (s.closeCmd d u))
  ∧ (∀ (s : State) (p q : Nat) (b : Blk) (rest : List Blk), s.laneCount p ≠ 1 → (s.port p).row ≠ 16383 →
      s.memberAt p (s.port p).turn = some q → (s.port q).rx = b :: rest → isAlign b = true →
          s.takeBlock p = if (s.port q).gap = true then
            (let w := s.streamBlock p (0, 0, b.2.2)
            some (w.setPort p (if (s.port p).turn + 1 < s.laneCount p then { w.port p with turn := (s.port p).turn + 1 }
              else { w.port p with turn := 0, row := (s.port p).row + 1 })))
            else some (s.setPort q { s.port q with rx := rest }))
  ∧ (∀ (s : State) (p q : Nat) (b : Blk) (rest : List Blk), (s.laneCount p = 1 ∨ (s.port p).row ≠ 16383) →
      s.memberAt p (s.port p).turn = some q → (s.port q).rx = b :: rest → isAlign b = false →
          s.takeBlock p = (let w := (s.setPort q { s.port q with rx := rest }).streamBlock p b
            some (w.setPort p (if (s.port p).turn + 1 < s.laneCount p then { w.port p with turn := (s.port p).turn + 1 }
              else { w.port p with turn := 0, row := (s.port p).row + 1 }))))
  ∧ (∀ (s u : State) (d p : Nat), u = s.atCmd d → p < 512 → u.pressOn → u.isMaster p = true → u.bond p = 2 → (u.port
      p).alignAt + u.markerPeriod p 16 ≤ u.clk →
          exec (.alignTimeout d p) s = .next (s.closeCmd d (((u.flag F.COBEX_STATUS_ALIGN_TIMEOUT p).bondLeave p 0).linkReset
            p)))
  ∧ (∀ (s u : State) (d p t0 : Nat), u = s.atCmd d → p < 512 → u.pressOn → (u.port p).resetWaits = true →
      (u.port p).lastReset = some t0 → t0 + 100000000 ≤ u.clk →
          exec (.linkResetDeferred d p) s = .next (s.closeCmd d ((u.setPort p
            { u.port p with resetWaits := false, lastReset := some u.clk }).sendReset p)))
  ∧ (∀ (s u : State) (d p t0 : Nat), u = s.atCmd d → p < 512 → u.pressOn → (u.port p).resetWaits = true →
      (u.port p).lastReset = some t0 → u.clk < t0 + 100000000 →
          exec (.linkResetDeferred d p) s = .next (s.closeCmd d (u.setPort p { u.port p with resetWaits := true })))

/-- Capability requests are repeated; a capability block is accepted or refused with its reason. Rules: R149, R151, R153, R204, as
far as its clauses go. Rests on the model's choices of log 74, 75, 96. -/
def Obligations.CameraCapabilities : Prop :=
  (∀ (s u : State) (d l : Nat), u = s.atCmd d → l < 512 → u.pressOn → u.laneState l = 4 → (u.port l).capsReqAt ≤ u.clk
      →
          exec (.capsReqSend d l) s = .next (s.closeCmd d (((u.setPort l { u.port l with capsReqAt := u.clk + 1000000 }).txSync
            (u.sliceOf l)).txBlock (u.sliceOf l) l 2 (0x3C + 2 ^ 8 * fromLe (le 1 1 ++ le 2 l ++ le 1 (u.rd
            F.COBEX_CFG_LANE_INDEX l) ++ le 1 (u.laneCount l) ++ zeros 2)))))
  ∧ (∀ (s u w : State) (d q version : Nat) (block : Bytes) (crcOk : Bool), u = s.atCmd d → q < 512 → u.pressOn → u.laneState q = 4 → capsPacket (u.port q).caps = some (version, block, crcOk) → w = u.setPort q { u.port q with caps := [] } → w.capsReason q version block crcOk = 0 →
          exec (.capsReceive d q) s = .next (s.closeCmd d ((((w.holdCaps q block).setLane (w.sliceOf q)
            { (w.holdCaps q block).lane (w.sliceOf q) with since := u.clk, needRef := true, snapped := false, lowFom := 0, invActive := 0, invPeriod := 0, lossActive := 0, trimN := 0, idleRun := 0 }).wr
            F.LANE_STATE_STATE 5 (w.sliceOf q)).portActive q)))
  ∧ (∀ (s u w : State) (d q version : Nat) (block : Bytes) (crcOk : Bool), u = s.atCmd d → q < 512 → u.pressOn → u.laneState q = 4 → capsPacket (u.port q).caps = some (version, block, crcOk) → w = u.setPort q { u.port q with caps := [] } → w.capsReason q version block crcOk ≠ 0 →
          exec (.capsReceive d q) s = .next (s.closeCmd d ((w.wr F.COBEX_STATE_CAPS_REASON (w.capsReason q
            version block crcOk) q).flag F.COBEX_STATUS_CAPS_REFUSED q)))
  ∧ (∀ (s u w : State) (d q version : Nat) (block : Bytes) (crcOk : Bool), u = s.atCmd d → q < 512 → u.pressOn → u.laneState q = 4 → capsPacket (u.port q).caps = some (version, block, crcOk) → w = u.setPort q { u.port q with caps := [] } → crcOk = false →
          exec (.capsReceive d q) s = .next (s.closeCmd d ((w.wr F.COBEX_STATE_CAPS_REASON 9 q).flag
            F.COBEX_STATUS_CAPS_REFUSED q)))
  ∧ (∀ (s u : State) (d q : Nat), u = s.atCmd d → q < 512 → u.pressOn → (u.laneState q ≠ 4 ∨ capsPacket (u.port q).caps = none) →
          exec (.capsReceive d q) s = .next (s.closeCmd d u))

/-- Host commands to a camera are sent, refused or ignored; responses and timeouts end them. Rules: R163, R164, R165, R166, R167,
R172, as far as its clauses go. Rests on the model's choices of log 73, 74. -/
def Obligations.CameraCommands : Prop :=
  (∀ (s u : State) (d : Nat) (p : Nat) (len : Nat) (addr : Nat), u = s.atCmd d → p < 512 → len ≤ 32 → addr < 2 ^ 32 →
      u.hostOpen (F.COBEX_CMD_OP.at_ p) → u.pressOn → u.on F.COBEX_RSP_BUSY p = false → u.isMaster p = true → u.bond p = 3 →
          exec (.cmdRead d p len addr) s = .next (s.closeCmd d (((u.sendCmd p 1 0 len addr []).2.wr F.COBEX_RSP_TAG (u.port
            p).nextTag p).wr F.COBEX_RSP_BUSY 1 p)))
  ∧ (∀ (s u : State) (d : Nat) (p : Nat) (len : Nat) (addr : Nat), u = s.atCmd d → p < 512 → len ≤ 32 → addr < 2 ^ 32 →
      u.hostOpen (F.COBEX_CMD_OP.at_ p) → u.pressOn → u.on F.COBEX_RSP_BUSY p = false → u.isMaster p = true → u.bond p = 3 →
          exec (.cmdWrite d p len addr) s = .next (s.closeCmd d (((u.sendCmd p 2 0 len addr (u.bufRead (cmdDataAddr p) (8 *
            len))).2.wr F.COBEX_RSP_TAG (u.port p).nextTag p).wr F.COBEX_RSP_BUSY 1 p)))
  ∧ (∀ (s u : State) (d : Nat) (p : Nat), u = s.atCmd d → p < 512 → u.hostOpen (F.COBEX_CMD_OP.at_ p) → u.pressOn → u.on
      F.COBEX_RSP_BUSY p = false → u.isMaster p = true → u.bond p = 3 →
          exec (.cmdEidleDown d p) s = .next (s.closeCmd d (((u.sendCmd p 4 0 0 0 []).2.wr F.COBEX_RSP_TAG (u.port p).nextTag
            p).wr F.COBEX_RSP_BUSY 1 p)))
  ∧ (∀ (s u : State) (d : Nat) (p : Nat), u = s.atCmd d → p < 512 → u.hostOpen (F.COBEX_CMD_OP.at_ p) → u.pressOn → u.on
      F.COBEX_RSP_BUSY p = false → u.isMaster p = true → (u.bond p = 3 ∨ u.bond p = 4) →
          exec (.cmdWakeDown d p) s = .next (s.closeCmd d (((u.sendCmd p 5 0 0 0 []).2.wr F.COBEX_RSP_TAG (u.port p).nextTag
            p).wr F.COBEX_RSP_BUSY 1 p)))
  ∧ (∀ (s u : State) (d : Nat) (p : Nat), u = s.atCmd d → p < 512 → u.hostOpen (F.COBEX_CMD_OP.at_ p) → u.pressOn → u.on
      F.COBEX_RSP_BUSY p = false → u.isMaster p = true → u.bond p = 3 →
          exec (.cmdCapsRead d p) s = .next (s.closeCmd d (((u.sendCmd p 6 0 0 0 []).2.wr F.COBEX_RSP_TAG (u.port p).nextTag
            p).wr F.COBEX_RSP_BUSY 1 p)))
  ∧ (∀ (s u : State) (d : Nat) (p : Nat), u = s.atCmd d → p < 512 → u.hostOpen (F.COBEX_CMD_OP.at_ p) → u.pressOn → u.on
      F.COBEX_RSP_BUSY p = false → u.isMaster p = true → u.bond p = 3 →
          exec (.cmdLinkReset d p) s = .next (s.closeCmd d ((((u.sendCmd p 7 0 0 0 []).2.wr F.COBEX_RSP_TAG (u.port p).nextTag
            p).wr F.COBEX_RSP_BUSY 1 p).bondLeave p 0)))
  ∧ (∀ (s u : State) (d : Nat) (p : Nat) (op : Nat) (len : Nat) (addr : Nat), u = s.atCmd d → p < 512 → 0x80 ≤ op → op < 256 →
      len ≤ 32 → addr < 2 ^ 32 → u.hostOpen (F.COBEX_CMD_OP.at_ p) → u.pressOn → u.on F.COBEX_RSP_BUSY p = false → u.isMaster p
      = true → u.bond p = 3 →
          exec (.cmdCameraPrivate d p op len addr) s = .next (s.closeCmd d (((u.sendCmd p op 0 len addr (u.bufRead (cmdDataAddr
            p) (8 * len))).2.wr F.COBEX_RSP_TAG (u.port p).nextTag p).wr F.COBEX_RSP_BUSY 1 p)))
  ∧ (∀ (s u : State) (d : Nat) (p : Nat) (len : Nat) (addr : Nat), u = s.atCmd d → p < 512 → len < 256 → addr < 2 ^ 32 →
      u.hostOpen (F.COBEX_CMD_OP.at_ p) → u.pressOn → u.on F.COBEX_RSP_BUSY p = false → u.isMaster p = true → 32 < len →
          exec (.cmdRead d p len addr) s = .next (s.closeCmd d (u.hostDone p 0xF3 [])))
  ∧ (∀ (s u : State) (d : Nat) (p : Nat) (len : Nat) (addr : Nat), u = s.atCmd d → p < 512 → len < 256 → addr < 2 ^ 32 →
      u.hostOpen (F.COBEX_CMD_OP.at_ p) → u.pressOn → u.on F.COBEX_RSP_BUSY p = true →
          exec (.cmdRead d p len addr) s = .next (s.closeCmd d (u)))
  ∧ (∀ (s u : State) (d p tag : Nat) (k : RspS) (c : CmdS), u = s.atCmd d → p < 512 → u.pressOn →
      u.firstOf p = some (.rsp k true) → tag = bits k.head 15 8 → u.cmdAt p tag = some c → c.owner = 0 →
          exec (.rspReceive d p) s = .next (s.closeCmd d (((((u.takeItem p).endCmd p tag).hostDone p (bits k.head 23 16)
            k.data).idleAfter p c.op (bits k.head 23 16)))))
  ∧ (∀ (s u : State) (d p tag : Nat) (k : RspS), u = s.atCmd d → p < 512 → u.pressOn → u.firstOf p = some (.rsp k true) →
      tag = bits k.head 15 8 → u.cmdAt p tag = none → tag ∉ (u.port p).quiet →
          exec (.rspReceive d p) s = .next (s.closeCmd d ((u.takeItem p).flag F.COBEX_STATUS_RSP_UNEXPECTED p)))
  ∧ (∀ (s u : State) (d p : Nat) (k : RspS), u = s.atCmd d → p < 512 → u.pressOn → u.firstOf p = some (.rsp k false) →
          exec (.rspReceive d p) s = .next (s.closeCmd d (u.takeItem p)))
  ∧ (∀ (s u : State) (d : Nat) (p : Nat) (tag : Nat) (c : CmdS), u = s.atCmd d → p < 512 → tag < 256 → u.pressOn → u.cmdAt p tag
      = some c → c.owner = 0 → c.at_ + 1000 * u.rd F.COBEX_TIMING_CMD_TIMEOUT_US p ≤ u.clk →
          exec (.cmdTimeout d p tag) s = .next (s.closeCmd d (((u.endCmd p tag).flag F.COBEX_STATUS_CMD_TIMEOUT p).hostDone p
            0xF1 [])))
  ∧ (∀ (s u : State) (d : Nat) (p : Nat), u = s.atCmd d → p < 512 → u.hostOpen (F.COBEX_CTL_LINK_RESET.at_ p) → u.pressOn →
      u.isMaster p = true →
          exec (.cobexLinkReset d p) s = .next (s.closeCmd d ((u.sendReset p).bondLeave p 0)))
  ∧ (∀ (s u : State) (d : Nat) (p : Nat), u = s.atCmd d → p < 512 → u.hostOpen (F.COBEX_CTL_CLEAR_COUNTS.at_ p) →
          ∃ t, exec (.cobexClearCounts d p) s = .next (s.closeCmd d t) ∧ t.rd F.COBEX_PKTCNT_CRC_ERR p = 0 ∧ t.rd
            F.COBEX_PKTCNT_PACKETS p = 0 ∧ t.rd F.COBEX_ERRCNT_MISSING p = 0 ∧ t.rd F.COBEX_ERRCNT_TRUNCATED p = 0 ∧ t.rd
            F.COBEX_ERRCNT_STRAY p = 0 ∧ t.rd F.COBEX_ERRCNT_GAPS p = 0 ∧ t.rd F.COBEX_STATE_ALIGN_MISS p = 0 ∧ t.rd
            F.COBEX_STATE_BOND p = u.rd F.COBEX_STATE_BOND p)

/-- Events and heartbeats of an ACTIVE bond. Rules: R168, R169, R170, R172, as far as its clauses go. Rests on the model's choices of
log 3, 95, 96. -/
def Obligations.CameraEvents : Prop :=
  (∀ (s u w : State) (d p pay dt : Nat), u = s.atCmd d → p < 512 → u.pressOn → u.firstOf p = some (.event pay dt) →
      w = (u.takeItem p).raise (ev 0x09 (u.rd F.COBEX_CFG_HEARTH p)) → w.on F.COBEX_EVT_EVT_EN p = false →
          exec (.eventReceive d p) s = .next (s.closeCmd d (if bits pay 15 8 = 1 then w.bondLeave p 0 else w)))
  ∧ (∀ (s u w : State) (d p pay dt src : Nat), u = s.atCmd d → p < 512 → u.pressOn → u.firstOf p = some (.event pay dt) →
      w = (u.takeItem p).raise (ev 0x09 (u.rd F.COBEX_CFG_HEARTH p)) → w.on F.COBEX_EVT_EVT_EN p = true → bits pay 15 8 ≠ 1 →
      src = srcNo 6 (w.rd F.COBEX_CFG_MASTER p) →
          exec (.eventReceive d p) s = .next (s.closeCmd d (w.pushOr src (w.rd F.COBEX_EVT_EVT_TROUGH p) (record 0x0120 src dt
            (le 1 (bits pay 15 8) ++ le 1 0 ++ le 6 (bits pay 63 16) ++ le 8 (w.capsByte p 0 8))) F.COBEX_STATUS_RESOURCE_HELD p)))
  ∧ (∀ (s u : State) (d p : Nat), u = s.atCmd d → p < 512 → u.pressOn → u.firstOf p = some .beat →
          exec (.heartbeatReceive d p) s = .next (s.closeCmd d ((u.takeItem p).setPort p
            { (u.takeItem p).port p with hbAt := u.clk })))
  ∧ (∀ (s u : State) (d p : Nat), u = s.atCmd d → p < 512 → u.pressOn → u.firstOf p ≠ some .beat →
          exec (.heartbeatReceive d p) s = .next (s.closeCmd d u))
  ∧ (∀ (s u : State) (d p : Nat), u = s.atCmd d → p < 512 → u.pressOn → u.isMaster p = true → u.bond p = 3 → (u.port
      p).hbAt + 10000 * u.rd F.COBEX_TIMING_HB_TIMEOUT p ≤ u.clk →
          exec (.heartbeatTimeout d p) s = .next (s.closeCmd d ((u.flag F.COBEX_STATUS_HB_TIMEOUT p).bondLeave p 0)))
  ∧ (∀ (s u : State) (d p : Nat), u = s.atCmd d → p < 512 → u.pressOn → u.isMaster p = true → u.bond p = 3 → (u.port
      p).hbSent + 100000 ≤ u.clk →
          exec (.heartbeatSend d p) s = .next (s.closeCmd d (let w := u.txSync (u.sliceOf p)
            (w.setPort p { w.port p with hbSent := w.clk, up := { (w.port p).up with beat := true } }).txSync (w.sliceOf p))))

/-- Frames start and end at a Hearth as the rebuilt stream delivers them, packets are taken or discarded, counters clear. Rules: R155,
R156, R158, R177, R178, R179, R180, R181, R182, as far as its clauses go. Rests on the model's choices of log 71, 96. -/
def Obligations.FramesAndPackets : Prop :=
  (∀ (s u v : State) (d p pay dt bad n idx : Nat) (e : LedgerE), u = s.atCmd d → p < 512 → u.pressOn → u.fedBy p = some n → u.firstOf p = some (.frameStart pay dt) → v = (u.takeItem p).setPort p { (u.takeItem p).port p with dropFrame := false } → 1 ≤ fsFormat pay → fsFormat pay ≤ 4 → (v.hth n).frame = none → v.entryOf (v.logicalOf n) (fsFrameNo pay) = some (idx, e) → e.state = 1 →
      (v.port p).attachDt < e.dt → fsFormat pay = v.rd F.HEARTH_CFG_FORMAT n → fsStreams pay = v.bandsN n →
          exec (.frameStart d p bad) s = .next (s.closeCmd d (v.openFrame (v.logicalOf n) idx e)))
  ∧ (∀ (s u v : State) (d p pay dt bad n idx : Nat) (e : LedgerE), u = s.atCmd d → p < 512 → u.pressOn → u.fedBy p = some n → u.firstOf p = some (.frameStart pay dt) → v = (u.takeItem p).setPort p { (u.takeItem p).port p with dropFrame := false } → 1 ≤ fsFormat pay → fsFormat pay ≤ 4 → (v.hth n).frame = none → v.entryOf (v.logicalOf n) (fsFrameNo pay) = some (idx, e) → (e.state ≠ 1 ∨ e.dt ≤ (v.port p).attachDt) →
          exec (.frameStart d p bad) s = .next (s.closeCmd d (v.discardFrame n F.HEARTH_ERRS_ORPHANS F.HEARTH_STATUS_ORPHAN)))
  ∧ (∀ (s u v : State) (d p pay dt bad n idx : Nat) (e : LedgerE), u = s.atCmd d → p < 512 → u.pressOn → u.fedBy p = some n → u.firstOf p = some (.frameStart pay dt) → v = (u.takeItem p).setPort p { (u.takeItem p).port p with dropFrame := false } → 1 ≤ fsFormat pay → fsFormat pay ≤ 4 → (v.hth n).frame = none → v.entryOf (v.logicalOf n) (fsFrameNo pay) = some (idx, e) → e.state = 1 →
      (v.port p).attachDt < e.dt → (fsFormat pay ≠ v.rd F.HEARTH_CFG_FORMAT n ∨ fsStreams pay ≠ v.bandsN n) →
          exec (.frameStart d p bad) s = .next (s.closeCmd d
            (v.discardFrame n F.HEARTH_ERRS_FORMAT_ERR F.HEARTH_STATUS_FORMAT_ERR)))
  ∧ (∀ (s u v : State) (d p pay dt bad n : Nat), u = s.atCmd d → p < 512 → u.pressOn → u.fedBy p = some n → u.firstOf p = some (.frameStart pay dt) → v = (u.takeItem p).setPort p { (u.takeItem p).port p with dropFrame := false } → 1 ≤ fsFormat pay → fsFormat pay ≤ 4 → (v.hth n).frame = none → v.entryOf (v.logicalOf n) (fsFrameNo pay) = none →
          exec (.frameStart d p bad) s = .next (s.closeCmd d (v.discardFrame n F.HEARTH_ERRS_ORPHANS F.HEARTH_STATUS_ORPHAN)))
  ∧ (∀ (s u w : State) (d p pay dt bad n : Nat), u = s.atCmd d → p < 512 → u.pressOn → u.fedBy p = some n → u.firstOf p = some (.frameStart pay dt) → w = u.takeItem p → (fsFormat pay = 0 ∨ 5 ≤ fsFormat pay) →
          exec (.frameStart d p bad) s = .next (s.closeCmd d ((((w.setPort p
            { w.port p with dropFrame := true }).inc F.COBEX_ERRCNT_TRUNCATED p).endFrame n bad none false 0).clearPrev n)))
  ∧ (∀ (s u : State) (d p bad : Nat), u = s.atCmd d → p < 512 → u.pressOn → (∀ pay dt, u.firstOf p ≠ some (.frameStart pay dt)) →
          exec (.frameStart d p bad) s = .next (s.closeCmd d u))
  ∧ (∀ (s u w : State) (d p pay dt bad n power : Nat) (f : FrameS), u = s.atCmd d → p < 512 → u.pressOn → u.fedBy p = some n →
      u.firstOf p = some (.frameEnd pay dt) → w = u.takeItem p → (w.port p).dropFrame = false → (w.hth n).frame = some f →
          exec (.frameEnd d p power bad) s = .next (s.closeCmd d (if f.frameNo = feFrameNo pay then
            w.endFrame n bad (some (feSent pay)) false power else (w.orderErr n).endFrame n bad none false power)))
  ∧ (∀ (s u w : State) (d p pay dt bad n power : Nat), u = s.atCmd d → p < 512 → u.pressOn → u.fedBy p = some n →
      u.firstOf p = some (.frameEnd pay dt) → w = u.takeItem p → (w.port p).dropFrame = false → (w.hth n).frame = none →
          exec (.frameEnd d p power bad) s = .next (s.closeCmd d ((w.inc F.HEARTH_ERRS_ORDER_ERR n).flag
            F.HEARTH_STATUS_ORDER_ERR n)))
  ∧ (∀ (s u w : State) (d p pay dt bad n power : Nat), u = s.atCmd d → p < 512 → u.pressOn → u.fedBy p = some n →
      u.firstOf p = some (.frameEnd pay dt) → w = u.takeItem p → (w.port p).dropFrame = true →
          exec (.frameEnd d p power bad) s = .next (s.closeCmd d (w.setPort p { w.port p with dropFrame := false })))
  ∧ (∀ (u : State) (p pay : Nat) (k : ImgS), k.eop = some pay → 1 ≤ eopValid pay → eopValid pay ≤ 8 →
      u.checkPacket p k = if k.fits = false then (none, (u.packetSeq p k).inc F.COBEX_ERRCNT_TRUNCATED p)
        else if k.crcOk (eopValid pay) = false then (none, (u.packetSeq p k).inc F.COBEX_PKTCNT_CRC_ERR p)
        else (some (k.data (eopValid pay)), (u.packetSeq p k).inc F.COBEX_PKTCNT_PACKETS p))
  ∧ (∀ (u : State) (p : Nat) (k : ImgS), k.eop = none → u.checkPacket p k = (none, u.inc F.COBEX_ERRCNT_TRUNCATED p))
  ∧ (∀ (s u v : State) (d p bad n : Nat) (k : ImgS) (data : Option Bytes), u = s.atCmd d → p < 512 → u.pressOn →
      u.fedBy p = some n → u.firstOf p = some (.image k) → (u.takeItem p).checkPacket p k = (data, v) →
          exec (.imagePacket d p bad) s = .next (s.closeCmd d (if (v.port p).dropFrame = true ∨ (v.hth n).frame = none then v else
            v.takePacket n bad k.first k.last (sopLine k.sop) (sopStream k.sop) (sopOffset k.sop) (sopFirst k.sop) (sopLast k.sop)
              data)))
  ∧ (∀ (s u : State) (d : Nat) (n : Nat), u = s.atCmd d → n < 264 → u.hostOpen (F.HEARTH_CTL_CLEAR_COUNTS.at_ n) →
          ∃ t, exec (.hearthClearCounts d n) s = .next (s.closeCmd d t) ∧ t.rd F.HEARTH_FRAMES_ENDED n = 0 ∧ t.rd
            F.HEARTH_FRAMES_SHORT n = 0 ∧ t.rd F.HEARTH_FRAMES_LONG n = 0 ∧ t.rd F.HEARTH_ERRS_ORPHANS n = 0 ∧ t.rd
            F.HEARTH_DROP_DROPPED0 n = 0 ∧ t.rd F.HEARTH_EXP_CNT_CHANGES n = 0 ∧ t.hearths = u.hearths)

/-- Table swaps and stream marks of a Hearth. Rules: R193, R199, as far as its clauses go. -/
def Obligations.TablesAndMarks : Prop :=
  (∀ (s u : State) (d : Nat) (n : Nat), u = s.atCmd d → n < 264 → u.hostOpen (F.HEARTH_TBL_CTL_SWAP.at_ n) → u.pressOn →
          exec (.tableSwap d n) s = .next (s.closeCmd d (u.wr F.HEARTH_TBL_CTL_SWAP_PENDING 1 n)))
  ∧ (∀ (s u : State) (d : Nat) (n : Nat) (m : Nat) (st : Nat), u = s.atCmd d → n < 264 → m < 4 → st < 4 → u.hostOpen
      (F.HEARTH_MARK_CTL_OP.at_ n) → u.pressOn →
          ∃ t, exec (.markSetNow d n m st) s = .next (s.closeCmd d t) ∧ t.rd F.HEARTH_MARK_STATE_VALID n m = 1 ∧ t.rd
            F.HEARTH_MARK_STATE_PENDING n m = 0 ∧ t.rd F.HEARTH_MARK_STATE_STREAM n m = st ∧ t.rd F.HEARTH_MARK_POS_LSEQ n m =
            u.rd F.HEARTH_LSEQ_VALUE n st % 2 ^ F.HEARTH_MARK_POS_LSEQ.w ∧ t.hearths = u.hearths)
  ∧ (∀ (s u : State) (d : Nat) (n : Nat) (m : Nat) (st : Nat), u = s.atCmd d → n < 264 → m < 4 → st < 4 → u.hostOpen
      (F.HEARTH_MARK_CTL_OP.at_ n) → u.pressOn → bit (u.hth n).armedMarks m = 0 →
          ∃ t, exec (.markSetNextFrame d n m st) s = .next (s.closeCmd d t) ∧ t.rd F.HEARTH_MARK_STATE_VALID n m = 0 ∧ t.rd
            F.HEARTH_MARK_STATE_PENDING n m = 1 ∧ t.rd F.HEARTH_MARK_STATE_STREAM n m = st)
  ∧ (∀ (s u : State) (d : Nat) (n : Nat) (m : Nat), u = s.atCmd d → n < 264 → m < 4 → u.hostOpen (F.HEARTH_MARK_CTL_OP.at_ n) →
      u.pressOn →
          exec (.markClear d n m) s = .next (s.closeCmd d ((u.wr F.HEARTH_MARK_STATE_VALID 0 n m).wr F.HEARTH_MARK_STATE_PENDING
            0 n m)))

/-- An exposure order is taken, queued or refused; an acknowledged one comes into force. Rules: R207, R209, R211, R212, R213, R219,
as far as its clauses go. Rests on the model's choices of log 72. -/
def Obligations.ExposureOrders : Prop :=
  (∀ (s u : State) (d : Nat) (n : Nat) (value : Nat), u = s.atCmd d → n < 264 → value < 2 ^ 64 → u.hostOpen
      (F.HEARTH_EXP_SET_GAIN.at_ n) → u.pressOn → 0x1000 ≤ bits value 47 32 →
          exec (.exposureOrder d n value) s = .next (s.closeCmd d (u.expOrder n ⟨bits value 31 0, bits value 47 32⟩)))
  ∧ (∀ (s u : State) (d : Nat) (n : Nat) (value : Nat), u = s.atCmd d → n < 264 → value < 2 ^ 64 → u.hostOpen
      (F.HEARTH_EXP_SET_GAIN.at_ n) → u.pressOn → bits value 47 32 < 0x1000 →
          exec (.exposureOrder d n value) s = .next (s.closeCmd d (u)))
  ∧ (∀ (s u : State) (d : Nat) (n : Nat) (value : Nat) (f : FrameS), u = s.atCmd d → n < 264 → value < 2 ^ 64 → u.hostOpen
      (F.HEARTH_EXP_SET_GAIN.at_ n) → u.pressOn → 0x1000 ≤ bits value 47 32 → (u.hth n).frame = some f → (u.ex n).queue = none →
          ∃ t, exec (.exposureOrder d n value) s = .next (s.closeCmd d t) ∧ (t.ex n).queue = some (ExpOrder.mk (bits value 31 0)
            (bits value 47 32)) ∧ t.rd F.HEARTH_EXP_PEND_QUEUED n = 1 ∧ t.rd F.HEARTH_EXP_CNT_QUEUE_REPLACED n = u.rd
            F.HEARTH_EXP_CNT_QUEUE_REPLACED n)
  ∧ (∀ (s u : State) (d : Nat) (h : Nat) (n gen frm : Nat), u = s.atCmd d → h < 256 → u.pressOn → u.hearthOf h = some n → (u.ex
      n).notice = some (gen, frm) → sOf 32 (uOf 32 ((u.rd F.CTRIG_COUNT_FRAME_NO h : Int) - frm)) ≤ 0 →
          exec (.exposeAckApply d h) s = .next (s.closeCmd d (((u.setEx n
            { u.ex n with notice := none, applied := some (u.dt, u.rd F.HEARTH_EXP_GEN n, frm) }).wr
            F.HEARTH_EXP_PEND_FROM_FRAME frm n).wr F.HEARTH_EXP_PEND_ACKED 1 n)))

/-- Generators are armed, stopped, flushed and issue; the ledger follows its frames. Rules: R87, R92, R93, R94, R95, R96, R97, R101,
R102, R103, R104, R105, R173, R266, R344, as far as its clauses go. Rests on the model's choices of log 3, 61, 62. -/
def Obligations.Generators : Prop :=
  (∀ (s u : State) (d : Nat) (g : Nat), u = s.atCmd d → g < 32 → u.hostOpen ((gf .ptrig F.CTRIG_CTL_ARM).at_ g) → u.pressOn →
      u.armed .ptrig g = false → 2 ^ 24 ≤ u.pitch .ptrig g →
          ∃ t, exec (.generatorArm d .ptrig g) s = .next (s.closeCmd d t) ∧ t.armed .ptrig g = true ∧ (t.gen .ptrig g).k = (u.wr
            (gf .ptrig F.CTRIG_STATUS_ARMED) 1 g).firstTarget .ptrig g (u.rd F.AXIS_STATUS_DIR (u.genAxis .ptrig g)) ∧ (t.gen
            .ptrig g).count = 0)
  ∧ (∀ (s u : State) (d : Nat) (g : Nat) (kk : GenKind), u = s.atCmd d → g < genCount kk → u.hostOpen ((gf kk
      F.CTRIG_CTL_ARM).at_ g) → u.pressOn → u.armed kk g = false → u.pitch kk g < 2 ^ 24 →
          exec (.generatorArm d kk g) s = .next (s.closeCmd d (u.flag (gf kk F.CTRIG_STATUS_ARM_REFUSED) g)))
  ∧ (∀ (s u : State) (d : Nat) (g : Nat), u = s.atCmd d → g < 256 → u.hostOpen ((gf .ctrig F.CTRIG_CTL_ARM).at_ g) → u.pressOn →
      u.armed .ctrig g = false → 2 ^ 24 ≤ u.pitch .ctrig g →
          exec (.generatorArm d .ctrig g) s = .next (s.closeCmd d ((u.armGen .ctrig g).wakeBond g)))
  ∧ (∀ (s u : State) (d : Nat) (g : Nat), u = s.atCmd d → g < 64 → u.hostOpen ((gf .fire F.CTRIG_CTL_ARM).at_ g) → u.pressOn →
      u.armed .fire g = false → 2 ^ 24 ≤ u.pitch .fire g → u.armRefuse g ≠ 0 →
          exec (.generatorArm d .fire g) s = .next (s.closeCmd d ((u.flag F.HAMMER_STATUS_ARM_REFUSED g).wr
            F.HAMMER_STATE_REFUSE (u.armRefuse g) g)))
  ∧ (∀ (s u : State) (d : Nat) (g : Nat), u = s.atCmd d → g < 32 → u.hostOpen ((gf .ptrig F.CTRIG_CTL_ARM).at_ g) → u.pressOn →
      u.armed .ptrig g = true →
          ∃ t, exec (.generatorDisarm d .ptrig g) s = .next (s.closeCmd d t) ∧ t.armed .ptrig g = false ∧ (t.gen .ptrig
            g).waiting = [] ∧ (t.gen .ptrig g).pulseEnd = (u.gen .ptrig g).pulseEnd)
  ∧ (∀ (s u : State) (d : Nat) (g : Nat), u = s.atCmd d → g < 256 → u.hostOpen ((gf .ctrig F.CTRIG_CTL_ARM).at_ g) → u.pressOn →
          ∃ t, exec (.generatorFlush d .ctrig g) s = .next (s.closeCmd d t) ∧ t = (u.disarm .ctrig g).loseAll g 4)
  ∧ (∀ (s u : State) (d : Nat) (k : GenKind) (g : Nat), u = s.atCmd d → g < genCount k → u.pressOn → u.armed k g = true →
      u.crossed k g = 0 →
          exec (.targetCrossing d k g) s = .next (s.closeCmd d (u)))
  ∧ (∀ (s u : State) (d : Nat) (g : Nat), u = s.atCmd d → g < 32 → u.pressOn → u.armed .ptrig g = true → u.crossed .ptrig g = 1 →
          exec (.targetCrossing d .ptrig g) s = .next (s.closeCmd d (u.crossPoint .ptrig g (u.rd F.AXIS_STATUS_DIR (u.genAxis
            .ptrig g)) (u.axPos (u.genAxis .ptrig g)) true)))
  ∧ (∀ (s u : State) (d : Nat) (g : Nat) (wait : Nat) (cr : Crossing) (rest : List Crossing), u = s.atCmd d → g < 256 → wait <
      640 → u.pressOn → (u.gen .ctrig g).waiting = cr :: rest → cr.at_ ≤ u.dt →
          exec (.triggerIssue d g wait) s = .next (s.closeCmd d (((u.setGen .ctrig g
            { u.gen .ctrig g with waiting := rest }).issueCam g wait cr).issueDone g cr)))
  ∧ (∀ (s u : State) (d : Nat) (g : Nat) (wait : Nat) (cr : Crossing) (rest : List Crossing), u = s.atCmd d → g < 256 → wait <
      640 → u.pressOn → (u.gen .ctrig g).waiting = cr :: rest → u.dt < cr.at_ →
          exec (.triggerIssue d g wait) s = .next (s.closeCmd d (u)))
  ∧ (∀ (s u : State) (d : Nat) (p : Nat) (cr : Crossing) (rest : List Crossing), u = s.atCmd d → p < 32 → u.pressOn → (u.gen
      .ptrig p).waiting = cr :: rest → cr.at_ ≤ u.dt → u.frozen .ptrig p = false → u.power.jtagTest = false →
          ∃ t, exec (.pinPulseIssue d p) s = .next (s.closeCmd d t) ∧ (t.gen .ptrig p).last = some cr.at_ ∧ (t.gen .ptrig
            p).count = (u.gen .ptrig p).count + 1 ∧ (t.gen .ptrig p).pulseEnd = some (u.dt + u.rd F.PTRIG_PULSE_WIDTH_NS p) ∧
            t.rd F.PTRIG_COUNT_ISSUED p = min (u.rd F.PTRIG_COUNT_ISSUED p + 1) (2 ^ F.PTRIG_COUNT_ISSUED.w - 1) ∧ Out.pulse p
            cr.at_ (u.rd F.PTRIG_PULSE_WIDTH_NS p) ∈ t.out)
  ∧ (∀ (s u : State) (d : Nat) (p : Nat) (e : Nat), u = s.atCmd d → p < 32 → u.pressOn → (u.gen .ptrig p).pulseEnd = some e → e ≤
      u.dt →
          exec (.pinPulseEnd d p) s = .next (s.closeCmd d ((u.setGen .ptrig p { u.gen .ptrig p with pulseEnd := none }).pinLevel
            p)))
  ∧ (∀ (s u : State) (d : Nat) (idx : Nat) (k : Notice) (e : LedgerE), u = s.atCmd d → idx < 131072 → u.pressOn →
      u.noticeFor idx false = some k → u.pos.ledger.find idx = some e → e.gen = k.gen → e.frameNo = k.frameNo →
          ∃ t, exec (.ledgerFirstBlockNotice d idx) s = .next (s.closeCmd d t) ∧ t.pos.ledger.find idx = some
            { e with state := 2 } ∧ t.regs = u.regs ∧ t.pos.notices = u.pos.notices.erase k)
  ∧ (∀ (s u : State) (d : Nat) (idx : Nat) (k : Notice), u = s.atCmd d → idx < 131072 → u.pressOn →
      u.noticeFor idx false = some k → u.holdsEntry k = false →
          exec (.ledgerFirstBlockNotice d idx) s = .next (s.closeCmd d (u.takeNotice k)))
  ∧ (∀ (s u : State) (d : Nat) (idx : Nat) (k : Notice) (e : EndedS), u = s.atCmd d → idx < 131072 → u.pressOn →
      u.noticeFor idx true = some k → (u.hth k.hearth).ended = [e] → e.frame.idx = k.idx → e.frame.frameNo = k.frameNo →
          exec (.ledgerFrameTagNotice d idx) s = .next (s.closeCmd d
            (let v := if u.holdsEntry k = true then (u.takeNotice k).ledgerRetire idx else u.takeNotice k
            (v.setHth k.hearth { v.hth k.hearth with ended := [] }).frameRecords k.hearth e (!u.holdsEntry k) false)))
  ∧ (∀ (s u : State) (d : Nat) (idx : Nat) (k : Notice), u = s.atCmd d → idx < 131072 → u.pressOn →
      u.noticeFor idx true = some k → (u.hth k.hearth).ended = [] → u.holdsEntry k = true →
          ∃ t, exec (.ledgerFrameTagNotice d idx) s = .next (s.closeCmd d t) ∧ t.pos.ledger = u.pos.ledger.del idx)
  ∧ (∀ (s u : State) (d : Nat) (idx : Nat) (e : LedgerE), u = s.atCmd d → idx < 131072 → u.pressOn → u.pos.ledger.find idx = some
      e → e.state = 1 → e.dt + 1000 * u.rd F.CTRIG_TIMEOUT_FIRST_TIMEOUT_US e.gen ≤ u.dt →
          exec (.firstBlockTimeout d idx) s = .next (s.closeCmd d (u.loseEntry idx 1)))
  ∧ (∀ (s u : State) (d : Nat) (idx : Nat) (e : LedgerE), u = s.atCmd d → idx < 131072 → u.pressOn → u.pos.ledger.find idx = some
      e → e.dt + 1000 * u.rd F.CTRIG_TIMEOUT_FRAME_TIMEOUT_US e.gen ≤ u.dt →
          exec (.frameTimeout d idx) s = .next (s.closeCmd d (u.loseEntry idx 2)))
  ∧ (∀ (s u : State) (d : Nat) (index : Nat), u = s.atCmd d → index < 131072 → u.hostOpen (F.LEDGER_SEL_INDEX.addr) →
      u.pos.ledger.find index = none →
          ∃ t, exec (.ledgerSelWrite d index) s = .next (s.closeCmd d t) ∧ t.rd F.LEDGER_SEL_INDEX = index ∧ (List.range 4).map
            (fun i => t.rd F.LEDGER_DATA_WORD i) = [0, 0, 0, 0] ∧ t.pos = u.pos)
  ∧ (∀ (s u : State) (d : Nat) (index : Nat) (e : LedgerE), u = s.atCmd d → index < 131072 → u.hostOpen (F.LEDGER_SEL_INDEX.addr)
      → u.pos.ledger.find index = some e →
          ∃ t, exec (.ledgerSelWrite d index) s = .next (s.closeCmd d t) ∧ t.rd F.LEDGER_SEL_INDEX = index ∧ (List.range 4).map
            (fun i => t.rd F.LEDGER_DATA_WORD i) = (List.range 4).map (fun i => leAt (e.bytes e.state 0) (8 * i) 8 % 2 ^ 64))

/-- Fire points are issued, latch loads begin and end, the dot store is flushed. Rules: R87, R98, R262, R270, R271, R281, as far as
its clauses go. Rests on the model's choices of log 63. -/
def Obligations.FirePoints : Prop :=
  (∀ (s u : State) (d : Nat) (c : Nat) (cr : Crossing) (rest : List Crossing), u = s.atCmd d → c < 64 → u.pressOn → (u.gen
      .fire c).waiting = cr :: rest → cr.at_ ≤ u.dt → cr.skipped = false → u.frozen .fire c = false →
          exec (.firePointIssue d c) s = .next (s.closeCmd d (((u.setGen .fire c
            { u.gen .fire c with waiting := rest, last := some cr.at_ }).inc F.FIRE_COUNT_ISSUED c).firePoint c cr false)))
  ∧ (∀ (s u : State) (d : Nat) (c : Nat) (cr : Crossing) (rest : List Crossing), u = s.atCmd d → c < 64 → u.pressOn → (u.gen
      .fire c).waiting = cr :: rest → cr.at_ ≤ u.dt → cr.skipped = false → u.frozen .fire c = true →
          exec (.firePointIssue d c) s = .next (s.closeCmd d (((u.skip .fire c 1).setGen .fire c
            { u.gen .fire c with waiting := rest }).firePoint c cr true)))
  ∧ (∀ (s u : State) (d : Nat) (c : Nat) (t0 : Nat), u = s.atCmd d → c < 64 → u.pressOn → (u.hm c).loadAt = some t0 → t0 ≤ u.dt →
      (u.hm c).pend = [] →
          exec (.latchLoadBegin d c []) s = .next (s.closeCmd d ((u.beginLoad c t0).shiftLoad c)))
  ∧ (∀ (s u : State) (d : Nat) (c : Nat) (t0 : Nat), u = s.atCmd d → c < 64 → u.pressOn → (u.hm c).loadAt = some t0 → u.dt < t0 →
          exec (.latchLoadBegin d c []) s = .next (s.closeCmd d (u)))
  ∧ (∀ (s u : State) (d : Nat) (c : Nat) (t0 : Nat), u = s.atCmd d → c < 64 → u.pressOn → (u.hm c).loadAt = some t0 → t0 ≤ u.dt →
      0 < (u.hm c).nextK → (u.hm c).pend = [] →
          exec (.latchPulseEnd d c) s = .next (s.closeCmd d ((u.beginLoad c t0).shiftLoad c)))
  ∧ (∀ (s u : State) (d : Nat) (c : Nat), u = s.atCmd d → c < 64 → u.hostOpen (F.HAMMER_CTL_FLUSH.at_ c) → u.pressOn → u.armed
      .fire c = false →
          ∃ t, exec (.hammerFlush d c) s = .next (s.closeCmd d t) ∧ t.rd F.HAMMER_WR_INDEX c = u.rd F.HAMMER_NEXT_INDEX c % 2 ^
            F.HAMMER_WR_INDEX.w ∧ t.hm c =
            { u.hm c with slots := (u.hm c).slots.filter (fun e => e.2.state ≠ 1), writing := none, flushes := (u.hm c).flushes + 1 }
            ∧ t.hbm = u.hbm)
  ∧ (∀ (s u : State) (d : Nat) (c : Nat), u = s.atCmd d → c < 64 → u.hostOpen (F.HAMMER_CTL_FLUSH.at_ c) → u.pressOn → u.armed
      .fire c = true →
          exec (.hammerFlush d c) s = .next (s.closeCmd d (u)))
  ∧ (∀ (s u : State) (d : Nat) (c : Nat), u = s.atCmd d → c < 64 → u.hostOpen (F.HAMMER_CTL_FLUSH.at_ c) →
          ∃ t, exec (.hammerClearCounts d c) s = .next (s.closeCmd d t) ∧ t.rd F.HAMMER_FIRED_FIRED c = 0 ∧ t.rd
            F.HAMMER_CNT_UNDERRUNS c = 0 ∧ t.rd F.HAMMER_CNT_SEQ_ERRS c = 0 ∧ t.rd F.HAMMER_CNT_FORCED c = 0 ∧ t.rd
            F.HAMMER_CNT2_HELD c = 0 ∧ t.rd F.HAMMER_CNT2_WRONG_DIR c = 0 ∧ t.rd F.HAMMER_CNT2_LATE c = 0 ∧ t.hammer = u.hammer)

/-- A hot head holds its print group, and the group resumes when it is cool. Rules: R280, R281, R283, R284, as far as its clauses
go. Rests on the model's choices of log 91. -/
def Obligations.HeadTemperature : Prop :=
  (∀ (s u : State) (d : Nat) (c : Nat), u = s.atCmd d → c < 64 → u.pressOn → u.on F.HAMMER_CFG_ENABLE c = true → u.on
      F.HAMMER_STATE_HOT c = false → (u.hm c).pinHigh = false → (u.hm c).pinAt + (u.rd F.HGRP_HOT_HOT_FILTER_NS (u.grpOf c) + 2)
      ≤ u.clk → u.rd F.HGRP_PASS_MODE (u.grpOf c) < 2 →
          ∃ t, exec (.headHotAccept d c) s = .next (s.closeCmd d t) ∧ t.rd F.HAMMER_STATE_HOT c = 1 ∧ t.rd
            F.HAMMER_STATUS_HOT_SEEN c = 1 ∧ t.rd F.HGRP_PASS_MODE (u.grpOf c) = 2 ∧ t.rd F.HGRP_STATUS_HOLD (u.grpOf c) = 1 ∧
            t.rd F.HGRP_HOLD_HOLD_DT (u.grpOf c) = u.dt % 2 ^ F.HGRP_HOLD_HOLD_DT.w ∧ t.grp (u.grpOf c) =
            { u.grp (u.grpOf c) with hotMask := 2 ^ c, held := 0, heldFrom := u.dt + 40, resumeAt := none,
                                     heldInPass := (u.grp (u.grpOf c)).heldInPass || (u.grp (u.grpOf c)).pass.isSome })
  ∧ (∀ (s u : State) (d : Nat) (c : Nat), u = s.atCmd d → c < 64 → u.pressOn → u.on F.HAMMER_CFG_ENABLE c = true →
      (u.hm c).pinHigh = true →
          exec (.headHotAccept d c) s = .next (s.closeCmd d (u.setHm c { u.hm c with pinHigh := false, pinAt := u.clk })))
  ∧ (∀ (s u : State) (d : Nat) (c : Nat), u = s.atCmd d → c < 64 → u.pressOn → u.on F.HAMMER_CFG_ENABLE c = true →
      (u.hm c).pinHigh = false →
          exec (.headCoolAccept d c) s = .next (s.closeCmd d (u.setHm c { u.hm c with pinHigh := true, pinAt := u.clk })))
  ∧ (∀ (s u : State) (d : Nat) (c : Nat), u = s.atCmd d → c < 64 → u.pressOn → u.on F.HAMMER_CFG_ENABLE c = true →
      u.clk < (u.hm c).pinAt + (u.rd F.HGRP_HOT_HOT_FILTER_NS (u.grpOf c) + 2) →
          ((u.hm c).pinHigh = false → exec (.headHotAccept d c) s = .next (s.closeCmd d u))
          ∧ ((u.hm c).pinHigh = true → exec (.headCoolAccept d c) s = .next (s.closeCmd d u)))
  ∧ (∀ (s u : State) (d : Nat) (c : Nat), u = s.atCmd d → c < 64 → u.pressOn → u.on F.HAMMER_CFG_ENABLE c = true → u.on
      F.HAMMER_STATE_HOT c = true → (u.hm c).pinHigh = true → (u.hm c).pinAt + (u.rd F.HGRP_HOT_HOT_FILTER_NS (u.grpOf c) + 2)
      ≤ u.clk →
          exec (.headCoolAccept d c) s = .next (s.closeCmd d ((u.wr F.HAMMER_STATE_HOT 0 c).grpCooled (u.grpOf c))))
  ∧ (∀ (s u : State) (d : Nat) (g : Nat) (t0 : Nat), u = s.atCmd d → g < 8 → u.pressOn → (u.grp g).resumeAt = some t0 → t0 ≤
      u.clk →
          exec (.resumeDelayExpiry d g) s = .next (s.closeCmd d (u.grpResume g)))
  ∧ (∀ (s u : State) (d : Nat) (g : Nat), u = s.atCmd d → g < 8 → u.hostOpen (F.HGRP_CTL_RESUME.at_ g) → u.pressOn → u.rd
      F.HGRP_PASS_MODE g = 3 →
          ∃ t, exec (.hgrpResume d g) s = .next (s.closeCmd d t) ∧ t.rd F.HGRP_PASS_MODE g = 0 ∧ t.rd F.HGRP_STATUS_RESUMED g =
            1 ∧ (t.grp g).resumeAt = none ∧ ∀ r ∈ t.dcs.open_, ¬ (r.func = 9 ∧ leAt r.proposal 0 1 = g))
  ∧ (∀ (s u : State) (d : Nat) (g : Nat), u = s.atCmd d → g < 8 → u.hostOpen (F.HGRP_CTL_RESUME.at_ g) → u.pressOn → u.rd
      F.HGRP_PASS_MODE g ≠ 3 →
          exec (.hgrpResume d g) s = .next (s.closeCmd d (u)))

/-- Writes, evidence, head reset and snapshots of a nozzle-context store. Rules: R286, R288, R291, R292, R297, R304, R307, R310, as
far as its clauses go. -/
def Obligations.NozzleContexts : Prop :=
  (∀ (s u : State) (d : Nat) (c : Nat) (i : Nat) (m : EvMsg), u = s.atCmd d → c < 64 → u.pressOn → (u.noz c).msgs[i]? = some m
      → u.on F.NCTX_CFG_EV_EN c = false →
          exec (.evidenceMessage d c i) s = .next (s.closeCmd d ((u.setNoz c
            { u.noz c with msgs := (u.noz c).msgs.take i ++ (u.noz c).msgs.drop (i + 1) }).inc F.NCTX_EVCNT_DISCARDED c)))
  ∧ (∀ (s u : State) (d : Nat) (c : Nat) (i : Nat) (m : EvMsg), u = s.atCmd d → c < 64 → u.pressOn → (u.noz c).msgs[i]? = some m
      →
          exec (.evidenceMessage d c i) s = .next (s.closeCmd d ((u.setNoz c
            { u.noz c with msgs := (u.noz c).msgs.take i ++ (u.noz c).msgs.drop (i + 1) }).evApply c m)))
  ∧ (∀ (s u : State) (d : Nat) (c : Nat) (n : Nat) (v : Nat), u = s.atCmd d → c < 64 → n < 16384 → u.hostOpen (nctxAddr c n) → n
      < u.nozzles c → v < 2 ^ 64 → bits v 2 0 < 4 → bits v 2 0 = u.rd F.NCTX_STATE c n → bits v 4 3 = u.rd F.NCTX_HMASK c n →
          ∃ t, exec (.contextWrite d c n 8 v) s = .next (s.closeCmd d t) ∧ t.rd F.NCTX_EV_FIRED c n = bits v 39 24 ∧ t.rd
            F.NCTX_EV_MISS c n = bits v 51 40 ∧ t.rd F.NCTX_EV_WEAK c n = bits v 63 52 ∧ t.rd F.NCTX_STATE c n = u.rd
            F.NCTX_STATE c n ∧ t.rd F.NCTX_GEN_CTX_GEN c = u.rd F.NCTX_GEN_CTX_GEN c)
  ∧ (∀ (s u : State) (d : Nat) (c : Nat) (n : Nat) (size : Nat) (v : Nat), u = s.atCmd d → c < 64 → n < 16384 → u.hostOpen
      (nctxAddr c n) → n < u.nozzles c → (size ≠ 8 ∨ 4 ≤ bits v 2 0) →
          exec (.contextWrite d c n size v) s = .next (s.closeCmd d (u.flag F.NCTX_STATUS_BAD_WRITE c)))
  ∧ (∀ (s u : State) (d : Nat) (c : Nat) (n : Nat) (v : Nat), u = s.atCmd d → c < 64 → n < 16384 → u.hostOpen (nctxAddr c n) → n
      < u.nozzles c → v < 2 ^ 64 → bits v 2 0 < 4 → (bits v 2 0 ≠ u.rd F.NCTX_STATE c n ∨ bits v 4 3 ≠ u.rd F.NCTX_HMASK c n) →
          exec (.contextWrite d c n 8 v) s = .next (s.closeCmd d ((u.closeNoz c n).nozCommit c n (bits v 2 0) (bits v 4 3) (bits
            v 39 24, bits v 51 40, bits v 63 52) { cause := 5 })))
  ∧ (∀ (s u : State) (d c n size v : Nat), u = s.atCmd d → c < 64 → n < 16384 → u.hostOpen (nctxAddr c n) → u.nozzles c ≤ n →
        exec (.contextWrite d c n size v) s = .next (s.closeCmd d u))
  ∧ (∀ (s u : State) (d : Nat) (c : Nat) (n : Nat), u = s.atCmd d → c < 64 → n < 16384 → u.pressOn → (u.rd F.NCTX_CFG_HOLDOFF c :
      Int) ≤ u.nozAge c n u.dt →
          exec (.holdSweep d c n) s = .next (s.closeCmd d (u.wr F.NCTX_HOLD 0 c n)))
  ∧ (∀ (s u : State) (d : Nat) (c : Nat) (n : Nat), u = s.atCmd d → c < 64 → n < 16384 → u.pressOn → u.nozAge c n u.dt < (u.rd
      F.NCTX_CFG_HOLDOFF c : Int) →
          exec (.holdSweep d c n) s = .next (s.closeCmd d (u)))
  ∧ (∀ (s u : State) (d : Nat) (c : Nat) (tag : Nat), u = s.atCmd d → c < 64 → u.hostOpen (F.NCTX_HEAD_HEAD_TAG.at_ c) → u.armed
      .fire c = false → u.openNozReqs c = [] →
          exec (.headReset d c tag) s = .next (s.closeCmd d (u.headReset c (tag % 2 ^ 32))))
  ∧ (∀ (s u : State) (d : Nat) (c : Nat) (tag : Nat), u = s.atCmd d → c < 64 → u.hostOpen (F.NCTX_HEAD_HEAD_TAG.at_ c) → u.armed
      .fire c = true →
          exec (.headReset d c tag) s = .next (s.closeCmd d (u.flag F.NCTX_STATUS_CFG_LOCKED c)))
  ∧ (∀ (s u : State) (d : Nat) (c : Nat), u = s.atCmd d → c < 64 → u.hostOpen (F.NCTX_CTL_SNAPSHOT.at_ c) → u.pressOn →
          exec (.snapshot d c) s = .next (s.closeCmd d ((u.setNoz c
            { u.noz c with snapGen := u.rd F.NCTX_GEN_CTX_GEN c }).queueIngot 2 (u.nozzleMap c) c)))
  ∧ (∀ (s u : State) (d : Nat), u = s.atCmd d → u.rd F.NCTX_SNAP_PERIOD_MIN ≠ 0 → u.pressOn → u.snapClk + u.rd
      F.NCTX_SNAP_PERIOD_MIN * 60000000000 ≤ u.clk →
          exec (.snapshotPeriodic d) s = .next (s.closeCmd d ((List.range 64).foldl (fun w c => if w.rd F.NCTX_GEN_CTX_GEN c ≠
            (w.noz c).snapGen then w.snapshot c else w) { u with snapClk := u.clk })))
  ∧ (∀ (s u : State) (d : Nat) (c : Nat), u = s.atCmd d → c < 64 → u.hostOpen (F.NCTX_CTL_SNAPSHOT.at_ c) →
          ∃ t, exec (.nctxClearCounts d c) s = .next (s.closeCmd d t) ∧ t.rd F.NCTX_DROPS_CLIPPED c = 0 ∧ t.rd
            F.NCTX_DROPS_EXCL_LEVELS c = 0 ∧ t.rd F.NCTX_DROPS_UNCOMP_LEVELS c = 0 ∧ t.nozzle = u.nozzle)

/-- Billets start, end, are abandoned; a model bank is committed; compare is disabled. Rules: R221, R223, R233, R250, R257, R258,
R330, R331, as far as its clauses go. Rests on the model's choices of log 67, 69. -/
def Obligations.Compare : Prop :=
  (∀ (s u : State) (d : Nat) (lt : Nat) (b : BilletS), u = s.atCmd d → u.pressOn → (u.runSet.find? fun x => (u.tileOf x).any
      fun n => (u.anvil.running.find n).isNone) = some lt → firstBillet (u.anvil.ready.filter fun b => u.inTime lt (u.samplesOf
      b) (u.startDt lt) b.deadline) = some b →
          exec (.billetStart d) s = .next (s.closeCmd d (u.startBillet lt b)))
  ∧ (∀ (s u : State) (d : Nat) (tile n : Nat) (b : BilletS) (lt : Nat), u = s.atCmd d → lt < 128 → u.pressOn → u.tileOf lt = some
      tile → u.anvil.running.find tile = some b → u.hearthOf b.h = some n → b.start ≤ u.dt →
          exec (.billetCompareEnd d lt) s = .next (s.closeCmd d (u.compareEnd lt tile n b)))
  ∧ (∀ (s u : State) (d : Nat) (i : Nat) (b : BilletS), u = s.atCmd d → u.pressOn → u.anvil.ready[i]? = some b →
      u.tilesInService.any (fun x => u.inTime x (u.samplesOf b) u.dt b.deadline) = false → u.tilesInService.isEmpty = false →
          exec (.billetAbandon d i) s = .next (s.closeCmd d (u.abandonBillet b u.abandonCause)))
  ∧ (∀ (s u : State) (d : Nat) (h : Nat) (r : RowS), u = s.atCmd d → h < 256 → u.pressOn → (u.anvil.rows.find? fun r => decide
      (r.h = h)) = some r → r.at_ + 1000000 * u.rd F.CMP_CFG_BILLET_IDLE_MS h ≤ u.clk →
          exec (.billetIdleTimeout d h) s = .next (s.closeCmd d (u.rowReady h)))
  ∧ (∀ (s u : State) (d : Nat) (p : Nat), u = s.atCmd d → p < 16 → u.hostOpen (F.MODEL_CTL_OP.addr) → u.pressOn →
          exec (.modelCommit d p) s = .next (s.closeCmd d (u.wr F.MODEL_ACTIVE_BANK (u.rd F.MODEL_ACTIVE_BANK ^^^ 2 ^ p))))
  ∧ (∀ (s u : State) (d : Nat) (h : Nat), u = s.atCmd d → h < 256 → u.hostOpen (F.CMP_CFG_ENABLE.at_ h) → u.on F.CMP_CFG_ENABLE h
      = true →
          exec (.compareDisable d h) s = .next (s.closeCmd d ((u.wr F.CMP_CFG_ENABLE 0 h).discardBillets h)))
  ∧ (∀ (s u : State) (d : Nat) (tl : Nat) (h : Nat), u = s.atCmd d → u.hostOpen (F.ANVIL_GCTL_CLEAR_COUNTS.addr) → tl < 136 → h <
      256 →
          ∃ t, exec (.anvilClearCounts d) s = .next (s.closeCmd d t) ∧ t.rd F.ANVIL_CNT_BILLETS tl = 0 ∧ t.rd
            F.ANVIL_CNT_MSAMPLES tl = 0 ∧ t.rd F.CMP_COUNT_NOT_COMPARED h = 0 ∧ t.rd F.CMP_COUNT_COMPARED h = 0 ∧ t.anvil.ready
            = u.anvil.ready)

/-- Temperatures, the budget, epochs, banking and peaks. Rules: R129, R317, R318, R323, R327, R343, R344, R345, as far as its
clauses go. Rests on the model's choices of log 4, 5, 74, 78, 98. -/
def Obligations.Power : Prop :=
  (∀ (s u : State) (d : Nat) (readings : List Nat), u = s.atCmd d → readings.length = 32 → readings.all (fun r => decide (r <
      65536)) = true → u.power.on = true → u.blw.thermtrip = true →
          ∃ t, exec (.tempSample d readings) s = .next (s.closeCmd d t) ∧ (List.range 32).map (fun i => t.rd F.BLW_TEMP_TEMP i)
            = readings ∧ t.blw = u.blw)
  ∧ (∀ (s u : State) (d act pTile : Nat) (toks : List Nat), u = s.atCmd d → pTile < 65536 → u.power.on = true →
          ∃ t, exec (.budgetGuard d act pTile toks) s = .next (s.closeCmd d t) ∧ t.rd F.BLW_EST_P_TILE = pTile ∧ t.blw.samples =
            (satU 16 (rdiv ((act * u.blw.scale : Nat) : Int) 65536) :: u.blw.samples).take 10
            ∧ t.rd F.BLW_POWER_P_AVG = satU 16 (rdiv ((t.blw.samples.sum + t.blw.samples.length * u.rd F.BLW_POWER_P_FIXED : Nat) : Int)
              t.blw.samples.length))
  ∧ (∀ (s u : State) (d : Nat), u = s.atCmd d → u.pressOn → u.blw.busy = none → u.blw.queue = [] → u.mayPmbus = true →
          exec (.telemetryRead d) s = .next (s.closeCmd d ((List.range 16).foldl (fun w k => if w.on F.BLW_RAIL_STATE_FAULT k
            then w else w.blwSend false k [(0x8B, 0), (0x8C, 0)]) { u with blw := { u.blw with round := true } })))
  ∧ (∀ (s u : State) (d : Nat), u = s.atCmd d → u.pressOn → (u.blw.busy.isSome = true ∨ u.blw.queue ≠ [] ∨ u.mayPmbus = false) →
          exec (.telemetryRead d) s = .next (s.closeCmd d u))
  ∧ (∀ (s u : State) (d : Nat) (toks : List Nat), u = s.atCmd d → toks.length = 64 → toks.all (fun r => decide (r < 65536)) =
      true → u.pressOn →
          ∃ t, exec (.bellowsEpoch d toks) s = .next (s.closeCmd d t) ∧ t.rd F.BLW_SCHED_EPOCH = (u.rd F.BLW_SCHED_EPOCH + 1) %
            2 ^ 32 ∧ (upto 32 16).map (fun i => t.rd F.BLW_DOM_TOK i) = (toks.drop 32).take 16)
  ∧ (∀ (s u : State) (d : Nat) (dom : Nat), u = s.atCmd d → dom < 64 → u.pressOn → u.blw.exits.find dom = none → u.rd
      F.BLW_DOM_LEVEL dom < u.bankLevel dom →
          exec (.bankEntry d dom) s = .next (s.closeCmd d (u.wr F.BLW_DOM_LEVEL (u.bankLevel dom) dom)))
  ∧ (∀ (s u : State) (d : Nat) (dom : Nat), u = s.atCmd d → dom < 64 → u.pressOn → 2 ≤ u.rd F.BLW_DOM_LEVEL dom →
      u.blw.exits.find dom = none →
          ∃ t, exec (.bankExit d dom) s = .next (s.closeCmd d t) ∧ t.blw.exits.find dom = some (u.clk + 1) ∧ t.rd
            F.BLW_DOM_LEVEL dom = u.rd F.BLW_DOM_LEVEL dom ∧ t.regs = u.regs)
  ∧ (∀ (s u : State) (d : Nat) (dom : Nat), u = s.atCmd d → dom < 64 → u.pressOn → u.rd F.BLW_DOM_LEVEL dom = 1 →
          exec (.bankExit d dom) s = .next (s.closeCmd d (u.wr F.BLW_DOM_LEVEL 0 dom)))
  ∧ (∀ (s u : State) (d : Nat) (v : Nat), u = s.atCmd d → v < 2 ^ 64 → u.hostOpen (F.BLW_WAKE_WAKE_NS.at_ 5) → 1 ≤ bits v 63 32 →
      bits v 63 32 ≤ 10000000 →
          exec (.wakeNsWrite d 5 v) s = .next (s.closeCmd d ((u.wr F.BLW_WAKE_IDLE_US (bits v 63 32) 5).wr F.BLW_WAKE_WAKE_NS
            (bits v 31 0) 5)))
  ∧ (∀ (s u : State) (d : Nat) (k : Nat) (v : Nat), u = s.atCmd d → k < 6 → v < 2 ^ 64 → u.hostOpen (F.BLW_WAKE_WAKE_NS.at_ k) →
      (bits v 63 32 = 0 ∨ 10000000 < bits v 63 32) →
          exec (.wakeNsWrite d k v) s = .next (s.closeCmd d (u)))
  ∧ (∀ (s u : State) (d : Nat) (p : Nat) (n : Nat), u = s.atCmd d → p < 512 → u.pressOn → u.isMaster p = true → u.bond p = 3 →
      u.armed .ctrig (u.rd F.COBEX_CFG_HEARTH p) = false → u.hearthOf (u.rd F.COBEX_CFG_HEARTH p) = some n → (u.hth n).frame =
      none → (u.hth n).idleAt + 1000 * u.rd F.BLW_WAKE_IDLE_US 5 ≤ u.clk → (u.port p).cmds = [] → laneExit (u.rd F.LANE_CFG_RATE
      (u.sliceOf p)) + u.markerPeriod p 1 ≤ u.rd F.BLW_WAKE_WAKE_NS 5 → u.members p = [p] →
          exec (.bondIdleEntry d p) s = .next (s.closeCmd d ((u.sendCmd p 4 2 0 0 []).2)))
  ∧ (∀ (s u : State) (d : Nat) (i : Nat), u = s.atCmd d → i < 32 → u.hostOpen (F.BLW_CTL_CLEAR_PEAKS.addr) →
          ∃ t, exec (.blwClearPeaks d) s = .next (s.closeCmd d t) ∧ t.rd F.BLW_TEMP_PEAK i = u.rd F.BLW_TEMP_TEMP i ∧ t.rd
            F.BLW_TEMP_TEMP i = u.rd F.BLW_TEMP_TEMP i)
  ∧ (∀ (s u : State) (d : Nat), u = s.atCmd d → u.hostOpen (F.BLW_CTL_CLEAR_COUNTS.addr) →
          ∃ t, exec (.blwClearCounts d) s = .next (s.closeCmd d t) ∧ t.rd F.BLW_CNT_ABANDONED = 0 ∧ t.rd F.BLW_CNT_C2_DROPPED =
            0 ∧ t.rd F.BLW_CNT_GUARD_ACTIONS = 0)

/-- Records are admitted, dropped, committed, flushed and marked. Rules: R349, R350, R351, R352, R353, R354, R359, R361, R363, R368,
as far as its clauses go. Rests on the model's choices of log 44, 48, 49. -/
def Obligations.Troughs : Prop :=
  (∀ (s u : State) (d : Nat) (source : Nat) (data : Bytes) (tr : Nat), u = s.atCmd d → tr < 1536 → source ≠ 0 → data.length %
      64 = 0 → 64 ≤ data.length → data.length ≤ 65536 → u.pressOn → u.owner 6 tr = source → u.admits tr (data.length / 64) =
      true →
          ∃ t, exec (.recordPush d tr source data) s = .next (s.closeCmd d t) ∧ (t.tr tr).recs = (u.tr tr).recs ++ [TRec.mk data
            (min (u.tr tr).pend 65535) (u.tr tr).seq false 0 [] 0] ∧ (t.tr tr).pend = 0 ∧ (t.tr tr).seq = ((u.tr tr).seq + 1) %
            65536)
  ∧ (∀ (s u : State) (d : Nat) (source : Nat) (data : Bytes) (tr : Nat), u = s.atCmd d → tr < 1536 → source ≠ 0 → data.length %
      64 = 0 → 64 ≤ data.length → data.length ≤ 65536 → u.pressOn → u.owner 6 tr = source → u.admits tr (data.length / 64) =
      false →
          ∃ t, exec (.recordPush d tr source data) s = .next (s.closeCmd d t) ∧ (t.tr tr).recs = (u.tr tr).recs ∧ (t.tr tr).pend
            = (u.tr tr).pend + 1 ∧ (t.tr tr).dropped = (u.tr tr).dropped + 1 ∧ t.rd F.TRGH_STATUS_OVERRUN tr = 1 ∧ t.rd
            F.TRGH_STATUS_FULL tr = 1)
  ∧ (∀ (s u : State) (d : Nat) (source : Nat) (data : Bytes) (tr : Nat), u = s.atCmd d → tr < 1536 → source ≠ 0 → data.length %
      64 = 0 → 64 ≤ data.length → data.length ≤ 65536 → u.pressOn → u.owner 6 tr ≠ source →
          exec (.recordPush d tr source data) s = .next (s.closeCmd d (u)))
  ∧ (∀ (s u : State) (d : Nat) (i : Nat) (tr : Nat) (r : TRec) (k : Nat), u = s.atCmd d → tr < 1536 → u.pressOn → ((u.tr
      tr).recs.zipIdx.filter fun e => !e.1.committed)[i]? = some (r, k) → (u.tr tr).inject = false →
          ∃ t, exec (.recordCommit d tr i) s = .next (s.closeCmd d t) ∧ (t.tr tr).recs.length = (u.tr tr).recs.length ∧ ((t.tr
            tr).recs[k]?.map fun (e : TRec) => (e.data, e.committed)) = some (r.data, true))
  ∧ (∀ (s u : State) (d : Nat) (tr : Nat), u = s.atCmd d → tr < 1536 → u.hostOpen (F.TRGH_CTL_FLUSH.at_ tr) → u.readerInside tr =
      false →
          exec (.troughFlush d tr) s = .next (s.closeCmd d (u.flushNow tr)))
  ∧ (∀ (s u : State) (d : Nat) (tr : Nat), u = s.atCmd d → tr < 1536 → u.hostOpen (F.TRGH_CTL_FLUSH.at_ tr) → u.readerInside tr =
      true →
          exec (.troughFlush d tr) s = .next (s.closeCmd d (u.wr F.TRGH_STATUS_FLUSH_PENDING 1 tr)))
  ∧ (∀ (s u : State) (d : Nat) (tr : Nat), u = s.atCmd d → tr < 1536 → u.hostOpen (F.TRGH_CTL_MARK.at_ tr) → u.admits tr 1 =
      false →
          ∃ t, exec (.troughMark d tr) s = .next (s.closeCmd d t) ∧ t.rd F.TRGH_STATUS_MARK_REFUSED tr = 1 ∧ t.rd
            F.TRGH_MARKSEQ_MARK_SEQ tr = u.rd F.TRGH_MARKSEQ_MARK_SEQ tr ∧ (t.tr tr).dropped = (u.tr tr).dropped + 1)
  ∧ (∀ (s u : State) (d : Nat) (tr : Nat), u = s.atCmd d → tr < 1536 → u.hostOpen (F.TRGH_CTL_MARK.at_ tr) → u.admits tr 1 = true
      →
          ∃ t, exec (.troughMark d tr) s = .next (s.closeCmd d t) ∧ t.rd F.TRGH_MARKSEQ_MARK_SEQ tr = (u.rd
            F.TRGH_MARKSEQ_MARK_SEQ tr + 1) % 2 ^ 32 ∧ (t.tr tr).recs.length = (u.tr tr).recs.length + 1)
  ∧ (∀ (s u : State) (d : Nat) (tr : Nat), u = s.atCmd d → tr < 1536 → u.hostOpen (F.TRGH_CTL_INJECT.at_ tr) →
          exec (.troughInject d tr) s = .next (s.closeCmd d (u.setTr tr { u.tr tr with inject := true })))
  ∧ (∀ (s u : State) (d : Nat) (tr : Nat), u = s.atCmd d → tr < 1536 → u.hostOpen (F.TRGH_CTL_CLEAR_COUNTS.at_ tr) →
          ∃ t, exec (.troughClearCounts d tr) s = .next (s.closeCmd d t) ∧ t.rd F.TRGH_CNT_POPPED tr = 0 ∧ t.rd
            F.TRGH_CNT_PUSHED tr = 0 ∧ t.rd F.TRGH_CNT2_DROPPED tr = 0 ∧ t.rd F.TRGH_CNT2_FLUSHED tr = 0 ∧ t.rd
            F.TRGH_CNT2_POISONED tr = 0 ∧ t.trough = u.trough)
  ∧ (∀ (s u : State) (d : Nat) (v : Nat) (tr : Nat), u = s.atCmd d → tr < 1536 → v < 2 ^ 64 → u.hostOpen (F.TRGH_WM_WM_EN.at_ tr)
      → (bit v 63 = 0 ∨ (bits v 48 32 < bits v 16 0 ∧ bits v 16 0 ≤ u.rd F.TRGH_CFG_SIZE tr)) →
          exec (.watermarkWrite d tr v) s = .next (s.closeCmd d ((((u.wr F.TRGH_WM_WM_EN (bit v 63) tr).wr F.TRGH_WM_LOW_WM
            (bits v 48 32) tr).wr F.TRGH_WM_HIGH_WM (bits v 16 0) tr).watermark tr)))
  ∧ (∀ (s u : State) (d : Nat) (v : Nat) (tr : Nat), u = s.atCmd d → tr < 1536 → v < 2 ^ 64 → u.hostOpen (F.TRGH_WM_WM_EN.at_ tr)
      → bit v 63 = 1 → bits v 16 0 ≤ bits v 48 32 →
          exec (.watermarkWrite d tr v) s = .next (s.closeCmd d (u.flag F.TRGH_STATUS_BAD_WRITE tr)))

/-- Channels carry events to tasks and balls; windows, filters, cells and counters. Rules: R447, R449, R450, R452, R453, R454, R456,
R457, R461, as far as its clauses go. Rests on the model's choices of log 56, 57, 80, 91. -/
def Obligations.StrikerEvents : Prop :=
  (∀ (s u : State) (d : Nat) (ch : Nat) (l : Nat × Nat × Nat), u = s.atCmd d → ch < 512 → u.pressOn → (u.stk.latched.find? fun
      l => decide (l.1 = ch ∧ l.2.1 ≤ u.dt)) = some l →
          exec (.channelEvent d ch) s = .next (s.closeCmd d ((u.setStk
            { u.stk with latched := u.stk.latched.erase l }).presentAt ch l.2.1 l.2.2)))
  ∧ (∀ (s u : State) (d : Nat) (ch : Nat) (cyc : Nat), u = s.atCmd d → ch < 512 → u.pressOn → (u.stk.latched.find? fun l =>
      decide (l.1 = ch ∧ l.2.1 ≤ u.dt)) = some (ch, cyc, 2) → u.chanOn ch = true → u.tasksOf ch = [] → u.gpioOn ch = [] →
      u.stk.win.getD ch 0 < 1000 →
          ∃ t, exec (.channelEvent d ch) s = .next (s.closeCmd d t) ∧ t.rd F.STK_CH_STAT_EVENTS ch = min (u.rd
            F.STK_CH_STAT_EVENTS ch + 1) (2 ^ F.STK_CH_STAT_EVENTS.w - 1) ∧ t.rd F.STK_CH_LAST_DT ch = cyc % 2 ^
            F.STK_CH_LAST_DT.w ∧ bit (t.rd F.STK_WATCH_FLAG (ch / 32)) (ch % 32) = 1)
  ∧ (∀ (s u : State) (d : Nat), u = s.atCmd d → u.pressOn → u.stk.window < u.dt / 10000 →
          exec (.loopWindowEnd d) s = .next (s.closeCmd d (u.setStk { u.stk with window := u.dt / 10000, win := [] })))
  ∧ (∀ (s u : State) (d : Nat), u = s.atCmd d → u.pressOn → u.dt / 10000 ≤ u.stk.window →
          exec (.loopWindowEnd d) s = .next (s.closeCmd d (u)))
  ∧ (∀ (s u : State) (d : Nat) (ch : Nat), u = s.atCmd d → ch < 512 → u.hostOpen (F.STK_CH_STAT_LOOP.at_ ch) → u.on
      F.STK_CH_STAT_LOOP ch = true →
          ∃ t, exec (.loopClear d ch) s = .next (s.closeCmd d t) ∧ t.rd F.STK_CH_STAT_LOOP ch = 0 ∧ t.stk.win.getD ch 0 = 0)
  ∧ (∀ (s u : State) (d : Nat) (k : Nat) (c : Nat), u = s.atCmd d → k < 256 → u.pressOn → u.filterDue k = some c → c ≤ u.dt →
          exec (.cellFilterExpiry d k) s = .next (s.closeCmd d (u.cellDue c k)))
  ∧ (∀ (s u : State) (d n level : Nat), u = s.atCmd d → n < 32 → level < 2 → u.pressOn → (u.stk.pins.getD n {}).level ≠ level →
        exec (.gpioInputEdge d n level) s = .next (s.closeCmd d (u.setStk { u.stk with pins := u.stk.pins.ins n ⟨level,
          if (u.rd F.STK_GPIO_STAT_IN n + u.rd F.STK_GPIO_POL n) % 2 = level then none
          else some (u.dt + u.rd F.STK_GPIO_FILTER_NS n + 1)⟩ })))
  ∧ (∀ (s u : State) (d n level : Nat), u = s.atCmd d → n < 32 → level < 2 → u.pressOn → (u.stk.pins.getD n {}).level = level →
        exec (.gpioInputEdge d n level) s = .next (s.closeCmd d u))
  ∧ (∀ (u : State) (n level c : Nat), u.stk.pins = [(n, ⟨level, some c⟩)] →
      (c ≤ u.dt → u.runPins.rd F.STK_GPIO_STAT_IN n = (level + u.rd F.STK_GPIO_POL n) % 2
        ∧ u.runPins.stk.pins = [(n, ⟨level, none⟩)]
        ∧ u.runPins.level (ev 0x19 n) = (level + u.rd F.STK_GPIO_POL n) % 2)
      ∧ (u.dt < c → u.runPins = u))
  ∧ (∀ (s u : State) (d : Nat) (n : Nat) (e : Nat), u = s.atCmd d → n < 32 → u.pressOn → u.stk.pulseEnd.find n = some e → e ≤
      u.dt →
          exec (.gpioPulseEnd d n) s = .next (s.closeCmd d (u.setStk { u.stk with pulseEnd := u.stk.pulseEnd.del n })))
  ∧ (∀ (s u : State) (d : Nat) (k : Nat), u = s.atCmd d → k < 64 → u.hostOpen (F.STK_TASK_SW_TASK.addr) → (u.stk.tasks.getD k
      {}).n = 0 → (u.rd F.STK_CNT_COUNT k + 1) % 2 ^ F.STK_CNT_COUNT.w ≠ u.rd F.STK_CNT_CMP_COMPARE k →
          ∃ t, exec (.softwareTask d k) s = .next (s.closeCmd d t) ∧ t.rd F.STK_CNT_COUNT k = (u.rd F.STK_CNT_COUNT k + 1) % 2 ^
            F.STK_CNT_COUNT.w ∧ t.regs = (u.wr F.STK_CNT_COUNT (u.rd F.STK_CNT_COUNT k + 1) k).regs)
  ∧ (∀ (s u : State) (d : Nat) (k : Nat), u = s.atCmd d → k < 1024 → 768 ≤ k → u.hostOpen (F.STK_TASK_SW_TASK.addr) →
          exec (.softwareTask d k) s = .next (s.closeCmd d (u.flag F.STK_STATUS_BAD_WRITE)))
  ∧ (∀ (s u : State) (d : Nat) (i : Nat) (v : Nat), u = s.atCmd d → i < 256 → v < 2 ^ 64 → u.hostOpen (F.STK_CELL_TRUTH.at_ i) →
          exec (.cellConfigWrite d true i v) s = .next (s.closeCmd d (u.cellWrite i v)))
  ∧ (∀ (s u : State) (d : Nat) (i : Nat) (v : Nat), u = s.atCmd d → i < 256 → v < 2 ^ 64 → u.hostOpen (F.STK_CELL_TRUTH.at_ i) →
      bits v 17 8 = 0x3FE → bit v 7 = 0 →
          exec (.cellConfigWrite d true i v) s = .next (s.closeCmd d (u.flag F.STK_STATUS_BAD_WRITE)))
  ∧ (∀ (s u : State) (d : Nat) (i : Nat) (v : Nat), u = s.atCmd d → i < 512 → v < 2 ^ 64 → u.hostOpen (F.STK_CH_CFG_ENABLE.at_ i)
      →
          exec (.cellConfigWrite d false i v) s = .next (s.closeCmd d (u.chanCfgWrite i v)))
  ∧ (∀ (s u : State) (d : Nat) (ch k : Nat), u = s.atCmd d → u.hostOpen (F.STK_CTL_CLEAR_COUNTS.addr) → ch < 512 → k < 768 →
          ∃ t, exec (.stkClearCounts d) s = .next (s.closeCmd d t) ∧ t.rd F.STK_CH_STAT_EVENTS ch = 0 ∧ t.rd
            F.STK_CH_STAT_MERGED ch = 0 ∧ t.rd F.STK_TASK_STAT_OVERRUNS k = 0 ∧ t.rd F.STK_TASK_STAT_COINCIDE k = 0 ∧ t.stk =
            u.stk)

/-- A software event reaches its PULSE channel in the next cycle, merges with one there, and is refused on a LEVEL channel. Rules:
R450, whole. -/
def Obligations.SoftwareEvents : Prop :=
  (∀ (s u : State) (d : Nat) (ch : Nat), u = s.atCmd d → ch < 512 → u.hostOpen (F.STK_SWEVT_CHANNEL.addr) → evLevel (u.rd
      F.STK_CH_CFG_SOURCE ch) = false → (ch, u.dt + 1, 2) ∉ u.stk.latched →
          exec (.softwareEvent d ch) s = .next (s.closeCmd d (u.setStk
            { u.stk with latched := u.stk.latched ++ [(ch, u.dt + 1, 2)] })))
  ∧ (∀ (s u : State) (d : Nat) (ch : Nat), u = s.atCmd d → ch < 512 → u.hostOpen (F.STK_SWEVT_CHANNEL.addr) → evLevel (u.rd
      F.STK_CH_CFG_SOURCE ch) = false → (ch, u.dt + 1, 2) ∈ u.stk.latched →
          exec (.softwareEvent d ch) s = .next (s.closeCmd d (u.wr F.STK_CH_STAT_MERGED (min (u.rd F.STK_CH_STAT_MERGED ch + 1)
            (2 ^ F.STK_CH_STAT_MERGED.w - 1)) ch)))
  ∧ (∀ (s u : State) (d : Nat) (ch : Nat), u = s.atCmd d → ch < 512 → u.hostOpen (F.STK_SWEVT_CHANNEL.addr) → evLevel (u.rd
      F.STK_CH_CFG_SOURCE ch) = true →
          exec (.softwareEvent d ch) s = .next (s.closeCmd d (u.flag F.STK_STATUS_BAD_WRITE)))

/-- Enabling, disabling, doorbells and the completion ring of a Tongs channel. Rules: R375, R376, R377, R391, R392, R398, as far as
its clauses go. Rests on the model's choices of log 50, 52. -/
def Obligations.TongsControl : Prop :=
  (∀ (s u : State) (d : Nat) (ch : Nat), u = s.atCmd d → ch < 1152 → u.hostOpen (F.TONGS_CFG_ENABLE.at_ ch) → u.pressOn → isDot
      ch = false → (u.tg ch).st = 0 → (u.tg ch).stop = false → (u.tg ch).headNew = true → (u.wr F.TONGS_CFG_ENABLE 1 ch).rd
      F.TONGS_CQ_BASE_ADDR ch % 64 = 0 → (u.wr F.TONGS_CFG_ENABLE 1 ch).rd F.TONGS_HEAD_ADDR ch % 32 = 0 →
          ∃ t, exec (.channelEnable d ch) s = .next (s.closeCmd d t) ∧ t.rd F.TONGS_CFG_ENABLE ch = 1 ∧ (t.tg ch).st = 1 ∧ (t.tg
            ch).headNew = false ∧ (t.tg ch).want = (u.tg ch).want ++ [ReadReq.mk 0 (u.rd F.TONGS_HEAD_ADDR ch) 32])
  ∧ (∀ (s u : State) (d : Nat) (ch : Nat), u = s.atCmd d → ch < 1152 → u.hostOpen (F.TONGS_CFG_ENABLE.at_ ch) → u.pressOn → isDot
      ch = false → (u.tg ch).st = 6 →
          exec (.channelEnable d ch) s = .next (s.closeCmd d ((u.setTg ch { u.tg ch with restart := true }).wr
            F.TONGS_CFG_ENABLE 1 ch)))
  ∧ (∀ (s u : State) (d : Nat) (ch : Nat), u = s.atCmd d → ch < 1152 → u.hostOpen (F.TONGS_CFG_ENABLE.at_ ch) → isDot ch = false
      → (u.tg ch).st = 0 →
          exec (.channelDisable d ch) s = .next (s.closeCmd d (u.wr F.TONGS_CFG_ENABLE 0 ch)))
  ∧ (∀ (s u : State) (d : Nat) (ch : Nat), u = s.atCmd d → ch < 1152 → u.hostOpen (F.TONGS_CFG_ENABLE.at_ ch) → isDot ch = false
      → (u.tg ch).st = 5 → (u.tg ch).closing = none → (u.tg ch).pop = none → (u.tg ch).reading = false → (u.tg ch).commits = []
      → (u.tg ch).desc = none →
          ∃ t, exec (.channelDisable d ch) s = .next (s.closeCmd d t) ∧ t.rd F.TONGS_CFG_ENABLE ch = 0 ∧ (t.tg ch).st = 6 ∧
            (t.tg ch).want = [] ∧ (t.tg ch).fetched = none)
  ∧ (∀ (s u : State) (d : Nat) (ch : Nat), u = s.atCmd d → ch < 1152 → u.pressOn → (u.tg ch).st = 6 → u.outstanding ch = 0 →
      (u.tg ch).restart = false →
          exec (.drainComplete d ch) s = .next (s.closeCmd d (u.setTg ch
            { u.tg ch with st := 0, stop := false, restart := false })))
  ∧ (∀ (s u : State) (d : Nat) (ch : Nat), u = s.atCmd d → ch < 1152 → u.pressOn → (u.tg ch).st = 6 → u.outstanding ch ≠ 0 →
          exec (.drainComplete d ch) s = .next (s.closeCmd d (u)))
  ∧ (∀ (s u : State) (d : Nat) (ch : Nat) (c : Desc), u = s.atCmd d → ch < 1152 → u.hostOpen (F.TONGS_DOORBELL_VALUE.at_ ch) →
      isDot ch = false → (u.tg ch).st = 5 → (u.tg ch).closed = some c →
          ∃ t, exec (.doorbell d ch) s = .next (s.closeCmd d t) ∧ (t.tg ch).st = 1 ∧ (t.tg ch).want = (u.tg ch).want ++
            [ReadReq.mk 1 (c.at_ + 8) 8] ∧ t.rd F.TONGS_STATE_REFETCH ch = 0)
  ∧ (∀ (s u : State) (d : Nat) (ch : Nat), u = s.atCmd d → ch < 1152 → u.hostOpen (F.TONGS_DOORBELL_VALUE.at_ ch) → isDot ch =
      false → 1 ≤ (u.tg ch).st → (u.tg ch).st ≤ 4 →
          exec (.doorbell d ch) s = .next (s.closeCmd d (u.wr F.TONGS_STATE_REFETCH 1 ch)))
  ∧ (∀ (s u : State) (d : Nat) (ch : Nat) (rd : Nat), u = s.atCmd d → ch < 1152 → rd < 2 ^ 20 → u.hostOpen (F.TONGS_CQ_RD_RD.at_
      ch) → rd < u.cqSize ch → (rd + u.cqSize ch - u.rd F.TONGS_CQ_RD_RD ch) % u.cqSize ch ≤ (u.rd F.TONGS_CQ_CFG_WR ch +
      u.cqSize ch - u.rd F.TONGS_CQ_RD_RD ch) % u.cqSize ch → (u.tg ch).heldRec = none → (u.tg ch).closing = none →
          exec (.cqReturn d ch rd) s = .next (s.closeCmd d (u.wr F.TONGS_CQ_RD_RD rd ch)))
  ∧ (∀ (s u : State) (d : Nat) (ch : Nat) (rd : Nat), u = s.atCmd d → ch < 1152 → rd < 2 ^ 20 → u.hostOpen (F.TONGS_CQ_RD_RD.at_
      ch) → u.cqSize ch ≤ rd →
          exec (.cqReturn d ch rd) s = .next (s.closeCmd d (u)))
  ∧ (∀ (s u : State) (d : Nat) (ch : Nat) (v : Nat), u = s.atCmd d → ch < 1152 → v < 2 ^ 32 → u.hostOpen (F.TONGS_CQ_CFG_LOG2.at_
      ch) → u.on F.TONGS_CFG_ENABLE ch = false → 4 ≤ bits v 24 20 → bits v 24 20 ≤ 20 →
          ∃ t, exec (.cqCfgWrite d ch v) s = .next (s.closeCmd d t) ∧ t.rd F.TONGS_CQ_CFG_LOG2 ch = bits v 24 20 ∧ t.rd
            F.TONGS_CQ_CFG_WR ch = 0 ∧ t.rd F.TONGS_CQ_RD_RD ch = 0 ∧ t.rd F.TONGS_CQ_CFG_PHASE ch = 1)
  ∧ (∀ (s u : State) (d : Nat) (ch : Nat) (v : Nat), u = s.atCmd d → ch < 1152 → v < 2 ^ 32 → u.hostOpen (F.TONGS_CQ_CFG_LOG2.at_
      ch) → u.on F.TONGS_CFG_ENABLE ch = true →
          exec (.cqCfgWrite d ch v) s = .next (s.closeCmd d (u)))
  ∧ (∀ (s u : State) (d : Nat) (ch : Nat), u = s.atCmd d → ch < 1152 → u.hostOpen (F.TONGS_CTL_CLEAR_COUNTS.at_ ch) →
          ∃ t, exec (.tongsClearCounts d ch) s = .next (s.closeCmd d t) ∧ t.rd F.TONGS_CNT_CLOSED ch = 0 ∧ t.rd
            F.TONGS_CNT_KBYTES ch = 0 ∧ t.tongs = u.tongs)
  ∧ (∀ (s u : State) (d : Nat) (ch : Nat), u = s.atCmd d → ch < 1152 → u.pressOn → isDot ch = false → (u.tg ch).st = 2 → u.rd
      F.TONGS_CFG_CLOSE_US ch ≠ 0 → 0 < (u.tg ch).buf.items → (u.tg ch).closing = none → (u.tg ch).pop = none → (u.tg
      ch).buf.lastAt + 1000 * u.rd F.TONGS_CFG_CLOSE_US ch ≤ u.clk →
          exec (.bufferCloseTimeout d ch) s = .next (s.closeCmd d (u.close ch 2)))
  ∧ (∀ (s u : State) (d : Nat) (tr : Nat) (r : TRec) (rs : List TRec), u = s.atCmd d → tr < 1536 → u.pressOn → (u.tr tr).recs = r
      :: rs → r.committed = true → u.rd F.TONGS_PACE_HOLD_US (u.rd F.TRGH_CFG_READER tr) ≠ 0 → r.at_ + 1000 * u.rd
      F.TONGS_PACE_HOLD_US (u.rd F.TRGH_CFG_READER tr) ≤ u.clk →
          exec (.pacingHoldExpiry d tr) s = .next (s.closeCmd d (u.setTr tr { u.tr tr with overdue := true })))

/-- Reads of host memory: descriptors, tags, completions, their timeouts and quarantine. Rules: R374, R375, R376, R381, R383, R405,
R418, R419, R420, as far as its clauses go. Rests on the model's choices of log 3, 50. -/
def Obligations.TongsReads : Prop :=
  (∀ (s u : State) (d : Nat) (ch : Nat) (r : ReadReq) (bs : Bytes), u = s.atCmd d → ch < 1152 → u.pressOn → (u.tg ch).fetched =
      some (r, bs) → r.kind = 0 → (u.tg ch).st = 1 →
          exec (.descriptorFetch d ch) s = .next (s.closeCmd d ((u.setTg ch { u.tg ch with fetched := none }).runDesc ch
            (parseDesc r.addr bs))))
  ∧ (∀ (s u : State) (d : Nat) (ch : Nat) (r : ReadReq) (bs : Bytes) (c : Desc), u = s.atCmd d → ch < 1152 → u.pressOn → (u.tg
      ch).fetched = some (r, bs) → (u.tg ch).closed = some c → r.kind = 1 → (u.tg ch).st = 1 → bit (leAt bs 0 8) 0 = 0 →
          ∃ t, exec (.linkRefetch d ch) s = .next (s.closeCmd d t) ∧ (t.tg ch).st = 1 ∧ (t.tg ch).fetched = none ∧ (t.tg ch).want = (u.tg ch).want ++ [ReadReq.mk 0 (leAt bs 0 8 / 32 * 32) 32])
  ∧ (∀ (s u : State) (d ch : Nat) (r : ReadReq) (bs : Bytes) (c : Desc), u = s.atCmd d → ch < 1152 → u.pressOn → (u.tg
      ch).fetched = some (r, bs) → (u.tg ch).closed = some c → r.kind = 1 → (u.tg ch).st = 1 → bit (leAt bs 0 8) 0 = 1 →
      u.on F.TONGS_STATE_REFETCH ch = false →
          ∃ t, exec (.linkRefetch d ch) s = .next (s.closeCmd d t) ∧ (t.tg ch).st = 5 ∧ (t.tg ch).fetched = none ∧ (t.tg
            ch).want = (u.tg ch).want ∧ t.regs = u.regs)
  ∧ (∀ (s u : State) (d : Nat) (ch tg : Nat) (r : ReadReq) (rest : List ReadReq), u = s.atCmd d → u.pressOn → u.hostBlocked =
      false → u.hep.tags.length < u.lTag → (u.tagWaiters.find? fun c => decide (u.hep.tagNext ≤ c)).orElse (fun _ =>
      u.tagWaiters.head?) = some ch → u.freeTag = some tg → (u.tg ch).want = r :: rest → r.kind ≠ 2 → u.power.jtagTest = false →
          ∃ t, exec (.tagGrant d) s = .next (s.closeCmd d t) ∧ t.hep.tags.find tg = some (TagS.mk ch r.kind r.addr r.len []
            u.clk false) ∧ t.hep.tagNext = ch + 1 ∧ (t.tg ch).want = rest ∧ t.out = u.out ++ [Out.hostRead ch tg r.addr r.len
            false false])
  ∧ (∀ (s u : State) (d ch tg : Nat) (r : ReadReq) (rest : List ReadReq) (dsc : Desc), u = s.atCmd d → u.pressOn → u.hostBlocked =
      false → u.hep.tags.length < u.lTag → (u.tagWaiters.find? fun c => decide (u.hep.tagNext ≤ c)).orElse (fun _ =>
      u.tagWaiters.head?) = some ch → u.freeTag = some tg → (u.tg ch).want = r :: rest → r.kind = 2 → (u.tg ch).desc = some dsc →
      u.power.jtagTest = false →
          ∃ t, exec (.tagGrant d) s = .next (s.closeCmd d t) ∧ t.hep.tags.find tg = some (TagS.mk ch 2 r.addr r.len []
            u.clk false) ∧ (t.tg ch).want = rest ∧ t.out = u.out ++ [Out.hostRead ch tg r.addr r.len
            (dsc.relaxed && u.hep.cfg.roEn) (dsc.ns && u.on F.TONGS_CFG_NS_EN ch && u.hep.cfg.nsEn)])
  ∧ (∀ (s u : State) (d : Nat) (tag : Nat) (data : Bytes) (status : Nat) (poisoned : Bool) (last : Bool) (tg : TagS), u = s.atCmd
      d → tag < 2 ^ 14 → data.length ≤ 4096 → u.power.on = true → u.hep.tags.find tag = some tg → tg.quarantined = false →
      status = 0 → poisoned = false → tg.got.length + data.length < tg.len →
          ∃ t, exec (.completionReceive d tag data status poisoned last) s = .next (s.closeCmd d t) ∧ t.hep.tags.find tag = some
            { tg with got := tg.got ++ data } ∧ t.regs = u.regs ∧ t.tongs = u.tongs)
  ∧ (∀ (s u : State) (d : Nat) (tag : Nat) (data : Bytes) (status : Nat) (poisoned : Bool) (last : Bool), u = s.atCmd d → tag < 2
      ^ 14 → data.length ≤ 4096 → status < 3 → u.power.on = true → u.hep.tags.find tag = none →
          exec (.completionReceive d tag data status poisoned last) s = .next (s.closeCmd d (((u.inc
            F.HEP_CPL_UNEXPECTED).flag F.HEP_STATUS_LATE_CPL).hostErr .unexpectedCompletion true [])))
  ∧ (∀ (s u : State) (d : Nat) (tag : Nat) (data : Bytes) (status : Nat) (poisoned : Bool) (last : Bool) (tg : TagS), u = s.atCmd
      d → tag < 2 ^ 14 → data.length ≤ 4096 → u.power.on = true → u.hep.tags.find tag = some tg → tg.quarantined = false → 1 ≤
      status → status < 3 →
          exec (.completionReceive d tag data status poisoned last) s = .next (s.closeCmd d ((u.freeTags tag).readFailed tg 6)))
  ∧ (∀ (s u : State) (d : Nat) (tag : Nat) (tg : TagS), u = s.atCmd d → tag < 2 ^ 14 → u.power.on = true → u.hep.tags.find tag =
      some tg → tg.quarantined = false → tg.at_ + u.tCto ≤ u.clk →
          ∃ t, exec (.completionTimeout d tag) s = .next (s.closeCmd d t) ∧ t.hep.tags.find tag = some
            { tg with quarantined := true, at_ := u.clk } ∧ t.rd F.HEP_STATUS_CTO = 1)
  ∧ (∀ (s u : State) (d : Nat) (tag : Nat) (tg : TagS), u = s.atCmd d → tag < 2 ^ 14 → u.power.on = true → u.hep.tags.find tag =
      some tg → tg.quarantined = true → tg.at_ + 4 * u.tCto ≤ u.clk →
          exec (.quarantineExpiry d tag) s = .next (s.closeCmd d ((u.inc F.HEP_CPL_QUAR_EXPIRED).freeTags tag)))

/-- Lines, records and dot lines that a channel moves, and the rewind of a reader. Rules: R201, R269, R354, R384, R385, R386, R388,
R390, R394, as far as its clauses go. Rests on the model's choices of log 51, 53, 54. -/
def Obligations.TongsDelivery : Prop :=
  (∀ (s u : State) (d : Nat) (ch : Nat) (q a n : Nat) (dsc : Desc), u = s.atCmd d → isStream ch = true → u.pressOn → u.mayTake
      ch = true → u.nextLine ch = some (q, a, n) → u.fits ch n = 0 → u.on F.TONGS_CFG_RATE_EN ch = false → u.hbmBad a n = false
      → (u.tg ch).desc = some dsc →
          ∃ t, exec (.streamLineDeliver d ch) s = .next (s.closeCmd d t) ∧ t.readers.getD ch 0 = q + 1 ∧ (t.tg ch).expect = q +
            1 ∧ (t.tg ch).rewound = false ∧ (t.tg ch).buf.items = (u.tg ch).buf.items + 1 ∧ t.hbm = u.hbm)
  ∧ (∀ (s u : State) (d : Nat) (ch : Nat) (p : PopS) (r : TRec) (rs : List TRec), u = s.atCmd d → isGeneral ch = true → ch < 1152
      → u.pressOn → (u.tg ch).pop = some p → p.data.length ≠ 64 * p.units → u.hostBlocked = false → (u.tr p.trough).recs = r ::
      rs → r.committed = true → r.bad = [] →
          ∃ t, exec (.unitPop d ch none false) s = .next (s.closeCmd d t) ∧ (t.tg ch).pop = some
            { p with data := p.data ++ (r.data.drop (64 * r.popped)).take 64 })
  ∧ (∀ (s u : State) (d : Nat) (ch : Nat) (p : PopS) (dsc : Desc), u = s.atCmd d → isGeneral ch = true → ch < 1152 → u.pressOn →
      (u.tg ch).pop = some p → p.data.length = 64 * p.units → u.hostBlocked = false → p.dropGap = 0 → p.poison = [] → u.on
      F.TRGH_CFG_MODE p.trough = false → (u.tg ch).stop = false → (u.tg ch).desc = some dsc →
          ∃ t, exec (.troughRecordDeliver d ch) s = .next (s.closeCmd d t) ∧ (t.tg ch).pop = none ∧ (t.tg ch).buf.items = (u.tg
            ch).buf.items + 1 ∧ (t.tg ch).buf.bytes = (u.tg ch).buf.bytes + p.data.length ∧ (t.tg ch).buf.flags = (u.tg
            ch).buf.flags)
  ∧ (∀ (s u : State) (d : Nat) (c : Nat), u = s.atCmd d → c < 64 → u.pressOn → (u.tongs.find? fun e => e.2.commits.contains c) =
      none →
          exec (.dotLineCommit d c) s = .next (s.closeCmd d ((u.dotCommit c).2)))
  ∧ (∀ (s u : State) (d : Nat) (ch : Nat), u = s.atCmd d → isDot ch = true → u.pressOn → (u.tg ch).st = 3 →
          exec (.dotSlotWaitEnd d ch) s = .next (s.closeCmd d (u.startLine ch)))
  ∧ (∀ (s u : State) (d : Nat) (n : Nat) (m : Nat), u = s.atCmd d → n < 264 → m < 4 → u.hostOpen (F.HEARTH_REWIND_GO.at_ n) →
      u.pressOn → u.on F.HEARTH_MARK_STATE_VALID n m = true → (u.tg (4 * u.logicalOf n + u.rd F.HEARTH_MARK_STATE_STREAM n
      m)).st ≠ 0 →
          ∃ t, exec (.rewind d n m) s = .next (s.closeCmd d t) ∧ t.rd F.HEARTH_REWIND_RESULT n = 1 ∧ t.readers.getD (4 *
            u.logicalOf n + u.rd F.HEARTH_MARK_STATE_STREAM n m) 0 = u.rd F.HEARTH_MARK_POS_LSEQ n m ∧ (t.tg (4 * u.logicalOf n
            + u.rd F.HEARTH_MARK_STATE_STREAM n m)).rewound = true)
  ∧ (∀ (s u : State) (d : Nat) (n : Nat) (m : Nat), u = s.atCmd d → n < 264 → m < 4 → u.hostOpen (F.HEARTH_REWIND_GO.at_ n) →
      u.pressOn → u.on F.HEARTH_MARK_STATE_VALID n m = false → u.on F.HEARTH_MARK_STATE_PENDING n m = false → u.on
      F.HEARTH_MARK_STATE_LAPPED n m = true →
          exec (.rewind d n m) s = .next (s.closeCmd d (u.wr F.HEARTH_REWIND_RESULT 2 n)))

/-- Sources, unmasking and moderation of the vectors. Rules: R439, R440, R441, R442, R443, R444, as far as its clauses go. -/
def Obligations.MessageSignalledInterrupts : Prop :=
  (∀ (s u : State) (d : Nat) (v : Nat) (x : Nat), u = s.atCmd d → v < 2048 → x < 2 ^ 32 → u.hostOpen (F.HEP_MSIX_SRC_ENABLE.at_
      v) → (bit x 31 = 0 ∨ u.drives (bits x 8 0) 8 v = true) →
          exec (.msixSrcWrite d v x) s = .next (s.closeCmd d ((((u.wr F.HEP_MSIX_SRC_ENABLE (bit x 31) v).wr
            F.HEP_MSIX_SRC_MODERATE_US (bits x 25 16) v).wr F.HEP_MSIX_SRC_CHANNEL (bits x 8 0) v).sendIfFree v)))
  ∧ (∀ (s u : State) (d : Nat) (v : Nat) (x : Nat), u = s.atCmd d → v < 2048 → x < 2 ^ 32 → u.hostOpen (F.HEP_MSIX_SRC_ENABLE.at_
      v) → bit x 31 = 1 → u.drives (bits x 8 0) 8 v = false →
          exec (.msixSrcWrite d v x) s = .next (s.closeCmd d (u.flag F.HEP_STATUS_RESOURCE_HELD)))
  ∧ (∀ (s u : State) (d : Nat), u = s.atCmd d → u.power.on = true → u.hep.pba = [] →
          exec (.vectorUnmask d none) s = .next (s.closeCmd d (u.setHep
            { u.hep with cfg := { u.hep.cfg with funcMask := false } })))
  ∧ (∀ (s u : State) (d : Nat) (some_v : Option Nat) (n : Nat), u = s.atCmd d → u.power.on = true → n < 2048 → some_v = some n →
      (u.hep.pba.find n).isSome = true → (u.setMsixWord n 3 (u.msixWord n 3 - bit (u.msixWord n 3) 0)).vectorBlocked n = false →
          exec (.vectorUnmask d some_v) s = .next (s.closeCmd d ((u.setMsixWord n 3 (u.msixWord n 3 - bit (u.msixWord n 3)
            0)).sendMsix n)))
  ∧ (∀ (s u : State) (d : Nat) (v : Nat), u = s.atCmd d → v < 2048 → u.power.on = true → (u.hep.pba.find v).isSome = true →
      u.vectorBlocked v = false → u.power.jtagTest = false →
          ∃ t, exec (.moderationExpiry d v) s = .next (s.closeCmd d t) ∧ t.hep.pba = u.hep.pba.del v ∧ t.hep.lastMsg.find v =
            some u.clk ∧ t.out = u.out ++ [Out.msix v (u.msixWord v 0 + 2 ^ 32 * u.msixWord v 1) (u.msixWord v 2)] ∧ t.regs =
            u.regs)
  ∧ (∀ (s u : State) (d : Nat) (v : Nat), u = s.atCmd d → v < 2048 → u.power.on = true → u.vectorBlocked v = true →
          exec (.moderationExpiry d v) s = .next (s.closeCmd d (u)))

/-- Entry into Quench, its causes, the question to host software and its release. Rules: R422, R432, R433, R434, R435, R436, R437,
R438, as far as its clauses go. Rests on the model's choices of log 55. -/
def Obligations.Quench : Prop :=
  (∀ (s u : State) (d : Nat), u = s.atCmd d → u.hostOpen (F.HEP_QUENCH_CTL_KEY.addr) → u.on F.HEP_QUENCH_QUENCHED = false →
          ∃ t, exec (.quenchEnter d) s = .next (s.closeCmd d t) ∧ t.rd F.HEP_QUENCH_QUENCHED = 1 ∧ t.rd F.HEP_QUENCH_CAUSE = 4 ∧
            t.rd F.HEP_QUENCH_SEEN = 4 ∧ t.rd F.HEP_QUENCH_DT_ENTRY_DT = u.dt % 2 ^ F.HEP_QUENCH_DT_ENTRY_DT.w ∧ t.rd
            F.HEP_STATUS_QUENCH_ENTERED = 1 ∧ t.hep.qClk = u.clk)
  ∧ (∀ (s u : State) (d : Nat), u = s.atCmd d → u.hostOpen (F.HEP_QUENCH_CTL_KEY.addr) → bit (u.rd F.HEP_QUENCH_CAUSE) 2 = 1 →
          exec (.quenchClearHost d) s = .next (s.closeCmd d (u.wr F.HEP_QUENCH_CAUSE (u.rd F.HEP_QUENCH_CAUSE - 4))))
  ∧ (∀ (s u : State) (d : Nat), u = s.atCmd d → u.hostOpen (F.HEP_QUENCH_CTL_KEY.addr) → bit (u.rd F.HEP_QUENCH_CAUSE) 2 = 0 →
          exec (.quenchClearHost d) s = .next (s.closeCmd d (u)))
  ∧ (∀ (s u : State) (d : Nat), u = s.atCmd d → u.hostOpen (F.HEP_QUENCH_CTL_KEY.addr) → bit (u.rd F.HEP_QUENCH_CAUSE) 1 = 1 →
          exec (.quenchClearCto d) s = .next (s.closeCmd d (u.wr F.HEP_QUENCH_CAUSE (u.rd F.HEP_QUENCH_CAUSE - 2))))
  ∧ (∀ (s u : State) (d : Nat), u = s.atCmd d → u.hostOpen (F.HEP_QUENCH_CTL_KEY.addr) → u.on F.HEP_QUENCH_QUENCHED = true → u.rd
      F.HEP_QUENCH_CAUSE = 0 → u.reqOpen 7 hepSrc = false → u.hwMode 7 0 = false → u.dcs.open_.length < 4096 →
          ∃ t, exec (.quenchAsk d) s = .next (s.closeCmd d t) ∧ t.hep.asked = true ∧ t.reqOpen 7 hepSrc = true ∧
            t.dcs.open_.length = u.dcs.open_.length + 1)
  ∧ (∀ (s u : State) (d : Nat), u = s.atCmd d → u.hostOpen (F.HEP_QUENCH_CTL_KEY.addr) → u.rd F.HEP_QUENCH_CAUSE ≠ 0 →
          exec (.quenchAsk d) s = .next (s.closeCmd d (u)))
  ∧ (∀ (s u : State) (d : Nat), u = s.atCmd d → u.power.on = true → u.on F.HEP_QUENCH_QUENCHED = true → u.rd F.HEP_QUENCH_CAUSE =
      0 → u.on F.HEP_LINK_DL_ACTIVE = true → u.hep.l1 = false → u.hep.releaseAt = none → u.hwMode 7 0 = true →
          ∃ t, exec (.quenchRelease d) s = .next (s.closeCmd d t) ∧ t = u.release ∧ t.rd F.HEP_QUENCH_QUENCHED = 0)
  ∧ (∀ (s u : State) (d : Nat), u = s.atCmd d → u.power.on = true → (u.on F.HEP_QUENCH_QUENCHED = false ∨ u.rd F.HEP_QUENCH_CAUSE
      ≠ 0 ∨ u.on F.HEP_LINK_DL_ACTIVE = false) →
          exec (.quenchRelease d) s = .next (s.closeCmd d (u)))
  ∧ (∀ (s u : State) (d : Nat) (t0 : Nat), u = s.atCmd d → u.power.on = true → u.hep.releaseAt = some t0 → t0 ≤ u.clk →
          ∃ t, exec (.quenchReleaseDelayExpiry d) s = .next (s.closeCmd d t) ∧ t = u.release ∧ t.rd F.HEP_QUENCH_QUENCHED = 0)
  ∧ (∀ (s u : State) (d : Nat) (unc : Nat) (cor : Nat), u = s.atCmd d → unc < 2 ^ 32 → cor < 2 ^ 32 → u.power.on = true →
          ∃ t, exec (.aerStatusClear d unc cor) s = .next (s.closeCmd d t) ∧ t.hep.aer.unc = u.hep.aer.unc - (u.hep.aer.unc &&&
            unc) ∧ t.hep.aer.cor = u.hep.aer.cor - (u.hep.aer.cor &&& cor) ∧ t.hep.aer.headers = u.hep.aer.headers.filter (fun
            (h : Nat × Bytes) => decide (bit unc h.1 = 0)) ∧ t.out = u.out)
  ∧ (∀ (s u : State) (d : Nat), u = s.atCmd d → u.hostOpen (F.HEP_CTL_CLEAR_COUNTS.addr) →
          ∃ t, exec (.hepClearCounts d) s = .next (s.closeCmd d t) ∧ t.rd F.HEP_CPL_CTO = 0 ∧ t.rd F.HEP_CPL_LATE_CPL = 0 ∧ t.rd
            F.HEP_CPL_QUAR_EXPIRED = 0 ∧ t.rd F.HEP_CPL_UNEXPECTED = 0 ∧ t.rd F.HEP_QCNT_ENTRIES = 0 ∧ t.rd
            F.HEP_QCNT_QDROP_WRITES = 0 ∧ t.rd F.HEP_QCNT_QDROP_BAR2 = 0)

/-- Requests of the host to BAR0, BAR2 and BAR4, and errors of the port. Rules: R407, R409, R410, R412, R415, R423, R424, R433,
R434, R568, as far as its clauses go. Rests on the model's choices of log 9, 45, 55. -/
def Obligations.HostRequests : Prop :=
  (∀ (s u : State) (d off len ns a : Nat) (data : Bytes) (poisoned : Bool), u = s.atCmd d → off % 4096 + data.length ≤ 4096 →
      off < 2 ^ 37 → u.power.on = true → u.hep.d3hot = false → u.on F.HEP_QUENCH_QUENCHED = false →
      u.aperture false off data.length = some a →
        ∃ t, exec (.bar2Request d false off len data poisoned ns) s = .next (s.closeCmd d t)
          ∧ t.hbm = ((u.hbmWrite a data).hbm) ∧ (poisoned = false → t = (u.bar2Arrive false off data.length ns).hbmWrite a data)
          ∧ (poisoned = true → t = (((u.bar2Arrive false off data.length ns).hbmWrite a data).hbmMark a data.length).hostErr
              .poisonedTlp true []))
  ∧ (∀ (s u : State) (d off len ns a : Nat) (data : Bytes) (poisoned : Bool), u = s.atCmd d → off % 4096 + len ≤ 4096 →
      off < 2 ^ 37 → u.power.on = true → u.hep.d3hot = false → u.on F.HEP_QUENCH_QUENCHED = false →
      u.aperture true off len = some a → u.hbmBad a len = false →
        exec (.bar2Request d true off len data poisoned ns) s
          = .next (s.closeCmd d ((u.bar2Arrive true off len ns).emit (.completion 0 (u.hbmRead a len) false))))
  ∧ (∀ (s u : State) (d off len ns a : Nat) (data : Bytes) (poisoned : Bool), u = s.atCmd d → off % 4096 + len ≤ 4096 →
      off < 2 ^ 37 → u.power.on = true → u.hep.d3hot = false → u.on F.HEP_QUENCH_QUENCHED = false →
      u.aperture true off len = some a → u.hbmBad a len = true →
        ∃ t, exec (.bar2Request d true off len data poisoned ns) s = .next (s.closeCmd d t)
          ∧ Out.completion 0 (u.hbmRead a len) true ∈ t.out ∧ t.hbm = u.hbm
          ∧ t.rd F.WELD_ERR_CNT_COUNT 0x1A = min (u.rd F.WELD_ERR_CNT_COUNT 0x1A + 1) (2 ^ F.WELD_ERR_CNT_COUNT.w - 1))
  ∧ (∀ (s u : State) (d off len ns : Nat) (isRead : Bool) (data : Bytes) (poisoned : Bool), u = s.atCmd d →
      off % 4096 + (if isRead then len else data.length) ≤ 4096 → off < 2 ^ 37 → u.power.on = true → u.hep.d3hot = false →
      u.on F.HEP_QUENCH_QUENCHED = false → u.aperture isRead off (if isRead then len else data.length) = none →
        exec (.bar2Request d isRead off len data poisoned ns) s
          = .next (s.closeCmd d ((u.unsupported isRead).flag F.HEP_STATUS_APER_REFUSED)))
  ∧ (∀ (s u : State) (d off len ns : Nat) (isRead : Bool) (data : Bytes) (poisoned : Bool), u = s.atCmd d →
      off % 4096 + (if isRead then len else data.length) ≤ 4096 → off < 2 ^ 37 → u.power.on = true → u.hep.d3hot = false →
      u.on F.HEP_QUENCH_QUENCHED = true →
        exec (.bar2Request d isRead off len data poisoned ns) s = .next (s.closeCmd d (u.bar2Quenched isRead)))
  ∧ (∀ (s u : State) (d off len ns : Nat) (isRead : Bool) (data : Bytes) (poisoned : Bool), u = s.atCmd d →
      off % 4096 + (if isRead then len else data.length) ≤ 4096 → off < 2 ^ 37 → u.power.on = true → u.hep.d3hot = true →
        exec (.bar2Request d isRead off len data poisoned ns) s = .next (s.closeCmd d (u.unsupported isRead)))
  ∧ (∀ (s u : State) (d off len ns a : Nat) (isRead : Bool), u = s.atCmd d → u.hep.d3hot = false →
      u.on F.HEP_QUENCH_QUENCHED = false → u.aperture isRead off len = some a →
        (u.bar2Arrive isRead off len ns).hep.inflight = (u.hep.inflight.filter fun x => decide (u.clk < x.until_))
            ++ [⟨off / 2 ^ 33, u.rd F.HEP_APER_STAT_COMMIT_GEN (off / 2 ^ 33), u.clk + ns⟩]
          ∧ (u.bar2Arrive isRead off len ns).regs = u.regs ∧ (u.bar2Arrive isRead off len ns).hbm = u.hbm)
  ∧ (∀ (s u : State) (d : Nat) (off : Nat) (size : Nat) (v : Nat), u = s.atCmd d → off < 65536 → (size = 4 ∨ size = 8) → off %
      size = 0 → u.power.on = true → u.hep.d3hot = false →
          exec (.bar4Request d true off size v true) s = .next (s.closeCmd d (u.emit (.completion 0 ((upto 0 (size / 4)).flatMap
            fun i => le 4 (u.bar4Word (off + 4 * i))) false))))
  ∧ (∀ (s u : State) (d : Nat) (off : Nat) (v : Nat), u = s.atCmd d → off < 0x8000 → off % 4 = 0 → v < 2 ^ 32 → u.power.on = true
      → u.hep.d3hot = false → u.hep.pba = [] →
          ∃ t, exec (.bar4Request d false off 4 v true) s = .next (s.closeCmd d t) ∧ t.msixWord (off / 16) (off % 16 / 4) = v ∧
            t.regs = u.regs ∧ t.out = u.out)
  ∧ (∀ (s u : State) (d : Nat) (isRead : Bool) (off : Nat) (size : Nat) (v : Nat), u = s.atCmd d → off < 65536 → 0 < size → size
      ≤ 4096 → u.power.on = true → u.hep.d3hot = false →
          exec (.bar4Request d isRead off size v false) s = .next (s.closeCmd d ((u.unsupported isRead).flag F.HEP_STATUS_BAR4_BAD)))
  ∧ (∀ (s u : State) (d : Nat) (isRead : Bool) (addr : Nat) (size : Nat) (whole : Bool), u = s.atCmd d → addr < 2 ^ 26 → 0 < size
      → size ≤ 4096 → u.power.on = true → u.hep.d3hot = false → bar0Good addr size whole = false →
          exec (.bar0BadRequest d isRead addr size whole) s = .next (s.closeCmd d ((u.unsupported isRead).flag
            F.HEP_STATUS_BAR0_BAD)))
  ∧ (∀ (s u : State) (d addr size : Nat) (isRead whole : Bool), u = s.atCmd d → u.power.on = true → bar0Good addr size whole = true →
          exec (.bar0BadRequest d isRead addr size whole) s = .next (s.closeCmd d u))
  ∧ (∀ (s u : State) (d : Nat), u = s.atCmd d → u.power.on = true →
          exec (.unsupportedRequestReceive d true) s = .next (s.closeCmd d (u.hostErr .unsupportedRequest true [])))
  ∧ (∀ (s u : State) (d : Nat), u = s.atCmd d → u.power.on = true →
          exec (.unsupportedRequestReceive d false) s = .next (s.closeCmd d ((u.emit (.completion 1 [] false)).hostErr
            .unsupportedRequest true [])))
  ∧ (∀ (s u : State) (d : Nat) (kind : Nat) (hdr : Bytes) (e : HostErr), u = s.atCmd d → kind < 17 → hdr.length ≤ 32 → u.power.on
      = true → hostErrOf kind = some e →
          exec (.hostPortError d kind hdr) s = .next (s.closeCmd d (u.hostErr e e.advisory hdr)))
  ∧ (∀ (s u : State) (d : Nat) (a : Nat), u = s.atCmd d → a < 16 → u.hostOpen (F.HEP_APER_CTL_COMMIT.at_ a) → u.owner 0x0B a =
      hostOwner → 1 ≤ u.rd F.HEP_APER_SHD_SIZE_MIB a → u.rd F.HEP_APER_SHD_SIZE_MIB a ≤ 8192 → u.rd F.HEP_APER_SHD_BASE_MIB a +
      u.rd F.HEP_APER_SHD_SIZE_MIB a ≤ 98304 →
          ∃ t, exec (.apertureCommit d a) s = .next (s.closeCmd d t) ∧ t.rd F.HEP_APER_ACT_ENABLE a = b2n (u.on
            F.HEP_APER_SHD_ENABLE a) ∧ t.rd F.HEP_APER_ACT_SIZE_MIB a = u.rd F.HEP_APER_SHD_SIZE_MIB a % 2 ^
            F.HEP_APER_ACT_SIZE_MIB.w ∧ t.rd F.HEP_APER_ACT_BASE_MIB a = u.rd F.HEP_APER_SHD_BASE_MIB a % 2 ^
            F.HEP_APER_ACT_BASE_MIB.w ∧ t.rd F.HEP_APER_STAT_RESULT a = 1)
  ∧ (∀ (s u : State) (d : Nat) (a : Nat), u = s.atCmd d → a < 16 → u.hostOpen (F.HEP_APER_CTL_COMMIT.at_ a) → u.owner 0x0B a ≠
      hostOwner →
          exec (.apertureCommit d a) s = .next (s.closeCmd d ((u.wr F.HEP_APER_STAT_RESULT 3 a).flag F.HEP_STATUS_RESOURCE_HELD)))

/-- The link comes up and goes down, resets begin and end, power states change. Rules: R400, R404, R425, R426, R427, R428, R429,
R430, R431, R438, as far as its clauses go. Rests on the model's choices of log 4, 5, 9, 55, 99. -/
def Obligations.HostResetsAndPower : Prop :=
  (∀ (s u : State) (d : Nat) (speed : Nat) (width : Nat) (flit : Bool), u = s.atCmd d → 1 ≤ speed → speed ≤ 6 → (width = 1 ∨
      width = 4 ∨ width = 8 ∨ width = 16) → u.power.on = true → u.power.perst = false → u.hep.resetting = false →
          exec (.hostLinkUp d speed width flit) s = .next (s.closeCmd d (((((((u.wr F.HEP_LINK_DL_ACTIVE 1).wr F.HEP_LINK_SPEED
            (min speed (u.rd F.HEP_LINK_CFG_MAX_SPEED))).wr F.HEP_LINK_WIDTH (min width (u.rd F.HEP_LINK_CFG_MAX_WIDTH))).wr
            F.HEP_LINK_ACTIVE_WIDTH (min width (u.rd F.HEP_LINK_CFG_MAX_WIDTH))).wr F.HEP_LINK_FLIT (b2n (flit || decide (min speed
            (u.rd F.HEP_LINK_CFG_MAX_SPEED) = 6)))).wr F.HEP_LINK_L0P 0))))
  ∧ (∀ (s u : State) (d : Nat) (speed : Nat) (width : Nat) (flit : Bool), u = s.atCmd d → 1 ≤ speed → speed ≤ 6 → (width = 1 ∨
      width = 4 ∨ width = 8 ∨ width = 16) → u.power.on = true → u.power.perst = false → u.hep.resetting = true →
          ∃ t, exec (.hostLinkUp d speed width flit) s = .next (s.closeCmd d t) ∧ t.rd F.HEP_LINK_DL_ACTIVE = 1 ∧ t.rd
            F.HEP_LINK_WIDTH = min width (u.rd F.HEP_LINK_CFG_MAX_WIDTH) ∧ t.hep.resetting = false ∧ t.rd F.HEP_STATUS_HOST_RESET = 1)
  ∧ (∀ (s u : State) (d : Nat), u = s.atCmd d → u.power.on = true → u.on F.HEP_LINK_DL_ACTIVE = true →
          exec (.linkDown d) s = .next (s.closeCmd d (u.hostReset F.HEP_RESET_HOT_RESETS 3 true)))
  ∧ (∀ (s u : State) (d : Nat), u = s.atCmd d → u.power.on = true →
          ∃ t, exec (.hotReset d) s = .next (s.closeCmd d t) ∧ t = u.hostReset F.HEP_RESET_HOT_RESETS 2 true ∧ t.hep.cfg = ({} :
            CfgSpace) ∧ t.hep.table = [] ∧ t.hep.pba = [] ∧ t.hep.resetting = true ∧ t.rd F.HEP_LINK_DL_ACTIVE = 0 ∧ t.rd
            F.HEP_QUENCH_QUENCHED = 0 ∧ t.rd F.HEP_RESET_LAST = 2)
  ∧ (∀ (s u : State) (d : Nat), u = s.atCmd d → u.power.on = true →
          ∃ t, exec (.functionLevelReset d) s = .next (s.closeCmd d t) ∧ t.hep.cfg = ({} : CfgSpace) ∧ t.hep.table = [] ∧
            t.hep.pba = [] ∧ t.hep.flr = true ∧ t.hep.resetting = true ∧ t.rd F.HEP_LINK_DL_ACTIVE = u.rd F.HEP_LINK_DL_ACTIVE ∧
            t.rd F.HEP_QUENCH_QUENCHED = 0 ∧ t.rd F.HEP_RESET_LAST = 4)
  ∧ (∀ (s u : State) (d : Nat), u = s.atCmd d → u.power.on = true → u.hep.flr = true → u.hep.resetting = true →
          ∃ t, exec (.functionLevelResetComplete d) s = .next (s.closeCmd d t) ∧ t.hep.flr = false ∧ t.hep.resetting = false ∧
            t.rd F.HEP_STATUS_HOST_RESET = 1)
  ∧ (∀ (s u : State) (d : Nat) (cfg : CfgSpace) (uncMask : Nat) (corMask : Nat) (uncSev : Nat), u = s.atCmd d → uncMask < 2 ^ 32 →
      corMask < 2 ^ 32 → uncSev < 2 ^ 32 → u.power.on = true → u.hep.flr = false →
          ∃ t, exec (.configurationWrite d (.write cfg uncMask corMask uncSev)) s = .next (s.closeCmd d t) ∧ t.hep.cfg = cutCfg cfg
            ∧ t.hep.aer = { u.hep.aer with uncMask := uncMask, corMask := corMask, uncSev := uncSev }
            ∧ t.hep.header = u.hep.header ∧ t.rd F.HEP_TAGS_LIMIT = t.lTag % 2 ^ F.HEP_TAGS_LIMIT.w)
  ∧ (∀ (s u : State) (d : Nat) (x : CfgReq), u = s.atCmd d → u.power.on = true → u.hep.flr = true →
          exec (.configurationWrite d x) s = .next (s.closeCmd d (u.emit (.completion 3 [] false))))
  ∧ (∀ (s u : State) (d : Nat) (f : CfgField), u = s.atCmd d → u.power.on = true → u.hep.flr = false →
          exec (.configurationWrite d (.read f)) s = .next (s.closeCmd d (u.emit (.completion 0 (u.configRead f) false))))
  ∧ (∀ u : State, u.hep.header = State.reset.hep.header →
      u.configRead .deviceId = le 2 0x5120 ∧ u.configRead .subsystemId = le 2 0x5120 ∧ u.configRead .classCode = le 3 0x118000
      ∧ u.configRead .vendorId = le 2 (u.rd F.ID_DEVICE_VENDOR_ID) ∧ u.configRead .subsystemVendorId = le 2 (u.rd F.ID_DEVICE_VENDOR_ID)
      ∧ u.configRead .revisionId = le 1 (u.rd F.ID_DEVICE_REVISION) ∧ u.configRead .serialNumber = le 8 (u.rd F.ID_SERIAL_SERIAL))
  ∧ (∀ (s u : State) (d : Nat), u = s.atCmd d → u.power.on = true →
          exec (.d3hotEntry d) s = .next (s.closeCmd d (u.setHep { u.hep with d3hot := true })))
  ∧ (∀ (s u : State) (d : Nat), u = s.atCmd d → u.power.on = true → u.tongs = [] → u.hep.pba = [] → u.dcs.outbox = [] →
          exec (.d0Return d) s = .next (s.closeCmd d (u.setHep { u.hep with d3hot := false })))
  ∧ (∀ (s u : State) (d : Nat) (width : Nat), u = s.atCmd d → (width = 1 ∨ width = 4 ∨ width = 8) → u.power.on = true → u.l0pOk =
      true → u.on F.HEP_LINK_DL_ACTIVE = true → u.on F.HEP_LINK_FLIT = true → u.hep.l1 = false → width < u.rd F.HEP_LINK_WIDTH →
          exec (.l0pEntry d width) s = .next (s.closeCmd d ((u.wr F.HEP_LINK_L0P 1).wr F.HEP_LINK_ACTIVE_WIDTH width)))
  ∧ (∀ (s u : State) (d : Nat), u = s.atCmd d → u.power.on = true → u.l1Ok = true → u.on F.HEP_LINK_DL_ACTIVE = true → u.linkIdle
      = true →
          exec (.l1Entry d) s = .next (s.closeCmd d (((u.setHep { u.hep with l1 := true }).wr F.HEP_LINK_L0P 0).wr
            F.HEP_LINK_ACTIVE_WIDTH (u.rd F.HEP_LINK_WIDTH))))
  ∧ (∀ (s u : State) (d : Nat), u = s.atCmd d → u.power.on = true → u.hep.l1 = false → u.on F.HEP_LINK_L0P = true →
          exec (.linkPmExit d) s = .next (s.closeCmd d ((u.wr F.HEP_LINK_L0P 0).wr F.HEP_LINK_ACTIVE_WIDTH (u.rd
            F.HEP_LINK_WIDTH))))
  ∧ (∀ (s u : State) (d : Nat), u = s.atCmd d → u.power.on = true → u.hep.l1 = true → u.hep.cfg.ltrEn = false →
          exec (.linkPmExit d) s = .next (s.closeCmd d (u.setHep { u.hep with l1 := false })))
  ∧ (∀ (s u : State) (d : Nat) (us : Nat), u = s.atCmd d → 1 ≤ us → us < 65536 → u.hostOpen (F.HEP_LPM_LTR_US.addr) →
      u.hep.cfg.ltrEn = true →
          exec (.ltrUsWrite d us) s = .next (s.closeCmd d ((u.wr F.HEP_LPM_LTR_US us).emit (.ltr ((u.wr F.HEP_LPM_LTR_US us).rd
            F.HEP_LPM_LTR_US)))))
  ∧ (∀ (s u : State) (d : Nat), u = s.atCmd d → u.hostOpen (F.HEP_LPM_LTR_US.addr) →
          exec (.ltrUsWrite d 0) s = .next (s.closeCmd d (u)))

/-- Host commands on an SMBus controller port and how its transactions end. Rules: R484, R485, R486, R487, R488, as far as its
clauses go. Rests on the model's choices of log 40, 41. -/
def Obligations.ControllerCommands : Prop :=
  (∀ (s u : State) (d p : Nat) (x : SmbcArg), u = s.atCmd d → p < 2 → u.hostOpen (F.SMBC_CMD_OP.at_ p) → x.Fits →
      u.on F.SMBC_RSLT_BUSY p = false → u.on F.SMBC_CFG_ENABLE p = true → u.owner 0x0A p = hostOwner → x.wlen ≤ 32 →
      (x.sda = 0 ∨ x.lowMs < u.rd F.SMBC_CFG_DAT_LOW_MS p) →
        exec (.smbcSendByte d p x) s = .next (s.closeCmd d (u.smbcStarted p ⟨1, x.addr, x.code, [], x.rlen, x.pec,
          none, 0, 0⟩)))
  ∧ (∀ (s u : State) (d p : Nat) (x : SmbcArg), u = s.atCmd d → p < 2 → u.hostOpen (F.SMBC_CMD_OP.at_ p) → x.Fits →
      u.on F.SMBC_RSLT_BUSY p = false → u.on F.SMBC_CFG_ENABLE p = true → u.owner 0x0A p = hostOwner → x.wlen ≤ 32 →
      (x.sda = 0 ∨ x.lowMs < u.rd F.SMBC_CFG_DAT_LOW_MS p) →
        exec (.smbcWriteByte d p x) s = .next (s.closeCmd d (u.smbcStarted p ⟨2, x.addr, x.code, u.bufRead (smbcBuf p) 1, x.rlen, x.pec,
          none, 0, 0⟩)))
  ∧ (∀ (s u : State) (d p : Nat) (x : SmbcArg), u = s.atCmd d → p < 2 → u.hostOpen (F.SMBC_CMD_OP.at_ p) → x.Fits →
      u.on F.SMBC_RSLT_BUSY p = false → u.on F.SMBC_CFG_ENABLE p = true → u.owner 0x0A p = hostOwner → x.wlen ≤ 32 →
      (x.sda = 0 ∨ x.lowMs < u.rd F.SMBC_CFG_DAT_LOW_MS p) →
        exec (.smbcWriteWord d p x) s = .next (s.closeCmd d (u.smbcStarted p ⟨3, x.addr, x.code, u.bufRead (smbcBuf p) 2, x.rlen, x.pec,
          none, 0, 0⟩)))
  ∧ (∀ (s u : State) (d p : Nat) (x : SmbcArg), u = s.atCmd d → p < 2 → u.hostOpen (F.SMBC_CMD_OP.at_ p) → x.Fits →
      u.on F.SMBC_RSLT_BUSY p = false → u.on F.SMBC_CFG_ENABLE p = true → u.owner 0x0A p = hostOwner → x.wlen ≤ 32 →
      (x.sda = 0 ∨ x.lowMs < u.rd F.SMBC_CFG_DAT_LOW_MS p) →
        exec (.smbcReadByte d p x) s = .next (s.closeCmd d (u.smbcStarted p ⟨4, x.addr, x.code, [], x.rlen, x.pec,
          none, 0, 0⟩)))
  ∧ (∀ (s u : State) (d p : Nat) (x : SmbcArg), u = s.atCmd d → p < 2 → u.hostOpen (F.SMBC_CMD_OP.at_ p) → x.Fits →
      u.on F.SMBC_RSLT_BUSY p = false → u.on F.SMBC_CFG_ENABLE p = true → u.owner 0x0A p = hostOwner → x.wlen ≤ 32 →
      (x.sda = 0 ∨ x.lowMs < u.rd F.SMBC_CFG_DAT_LOW_MS p) →
        exec (.smbcReadWord d p x) s = .next (s.closeCmd d (u.smbcStarted p ⟨5, x.addr, x.code, [], x.rlen, x.pec,
          none, 0, 0⟩)))
  ∧ (∀ (s u : State) (d p : Nat) (x : SmbcArg), u = s.atCmd d → p < 2 → u.hostOpen (F.SMBC_CMD_OP.at_ p) → x.Fits →
      u.on F.SMBC_RSLT_BUSY p = false → u.on F.SMBC_CFG_ENABLE p = true → u.owner 0x0A p = hostOwner → x.wlen ≤ 32 →
      (x.sda = 0 ∨ x.lowMs < u.rd F.SMBC_CFG_DAT_LOW_MS p) →
        exec (.smbcBlockWrite d p x) s = .next (s.closeCmd d (u.smbcStarted p ⟨6, x.addr, x.code, u.bufRead (smbcBuf p) x.wlen, x.rlen, x.pec,
          none, 0, 0⟩)))
  ∧ (∀ (s u : State) (d p : Nat) (x : SmbcArg), u = s.atCmd d → p < 2 → u.hostOpen (F.SMBC_CMD_OP.at_ p) → x.Fits →
      u.on F.SMBC_RSLT_BUSY p = false → u.on F.SMBC_CFG_ENABLE p = true → u.owner 0x0A p = hostOwner → x.wlen ≤ 32 →
      (x.sda = 0 ∨ x.lowMs < u.rd F.SMBC_CFG_DAT_LOW_MS p) →
        exec (.smbcBlockRead d p x) s = .next (s.closeCmd d (u.smbcStarted p ⟨7, x.addr, x.code, [], x.rlen, x.pec,
          none, 0, 0⟩)))
  ∧ (∀ (s u : State) (d p : Nat) (x : SmbcArg), u = s.atCmd d → p < 2 → u.hostOpen (F.SMBC_CMD_OP.at_ p) → x.Fits →
      u.on F.SMBC_RSLT_BUSY p = false → u.on F.SMBC_CFG_ENABLE p = true → u.owner 0x0A p = hostOwner → x.wlen ≤ 32 →
      (x.sda = 0 ∨ x.lowMs < u.rd F.SMBC_CFG_DAT_LOW_MS p) →
        exec (.smbcFixedWrite d p x) s = .next (s.closeCmd d (u.smbcStarted p ⟨8, x.addr, x.code, u.bufRead (smbcBuf p) x.wlen, x.rlen, x.pec,
          none, 0, 0⟩)))
  ∧ (∀ (s u : State) (d p : Nat) (x : SmbcArg), u = s.atCmd d → p < 2 → u.hostOpen (F.SMBC_CMD_OP.at_ p) → x.Fits →
      u.on F.SMBC_RSLT_BUSY p = false → u.on F.SMBC_CFG_ENABLE p = true → u.owner 0x0A p = hostOwner → x.wlen ≤ 32 → 1 ≤ x.rlen → x.rlen ≤ 32 →
      (x.sda = 0 ∨ x.lowMs < u.rd F.SMBC_CFG_DAT_LOW_MS p) →
        exec (.smbcFixedRead d p x) s = .next (s.closeCmd d (u.smbcStarted p ⟨9, x.addr, x.code, [], x.rlen, x.pec,
          none, 0, 0⟩)))
  ∧ (∀ (s u : State) (d p : Nat) (x : SmbcArg), u = s.atCmd d → p < 2 → u.hostOpen (F.SMBC_CMD_OP.at_ p) → x.Fits →
      u.on F.SMBC_RSLT_BUSY p = false → u.on F.SMBC_CFG_ENABLE p = true → u.owner 0x0A p = hostOwner → x.wlen ≤ 32 → x.sda = 1 →
      u.rd F.SMBC_CFG_DAT_LOW_MS p ≤ x.lowMs →
        ∃ t, exec (.smbcWriteByte d p x) s = .next (s.closeCmd d t)
          ∧ t.rd F.SMBC_CNT_CLEARS p = min (u.rd F.SMBC_CNT_CLEARS p + 1) (2 ^ F.SMBC_CNT_CLEARS.w - 1) ∧ t.rd F.SMBC_RSLT_BUSY p = 1
          ∧ t.smb.tx.find p = some ⟨2, x.addr, x.code, u.bufRead (smbcBuf p) 1, x.rlen, x.pec, none, 0, 0⟩)
  ∧ (∀ (s u : State) (d p : Nat) (x : SmbcArg), u = s.atCmd d → p < 2 → u.hostOpen (F.SMBC_CMD_OP.at_ p) → x.Fits →
      u.on F.SMBC_RSLT_BUSY p = false → u.on F.SMBC_CFG_ENABLE p = true → u.owner 0x0A p = hostOwner → x.wlen ≤ 32 → x.sda = 2 →
      u.rd F.SMBC_CFG_DAT_LOW_MS p ≤ x.lowMs →
        ∃ t, exec (.smbcReadByte d p x) s = .next (s.closeCmd d t) ∧ t.rd F.SMBC_RSLT_BUSY p = 0 ∧ t.rd F.SMBC_RSLT_STATUS p = 8
          ∧ t.smb.tx.find p = none)
  ∧ (∀ (s u : State) (d p : Nat) (x : SmbcArg), u = s.atCmd d → p < 2 → u.hostOpen (F.SMBC_CMD_OP.at_ p) →
      u.on F.SMBC_RSLT_BUSY p = false → u.on F.SMBC_CFG_ENABLE p = true → u.owner 0x0A p ≠ hostOwner →
        exec (.smbcSendByte d p x) s = .next (s.closeCmd d (u.smbcResult p 9 0 0)))
  ∧ (∀ (s u : State) (d p : Nat) (x : SmbcArg), u = s.atCmd d → p < 2 → u.hostOpen (F.SMBC_CMD_OP.at_ p) → x.Fits →
      u.on F.SMBC_RSLT_BUSY p = false → u.on F.SMBC_CFG_ENABLE p = true → u.owner 0x0A p = hostOwner → 32 < x.wlen →
        exec (.smbcBlockWrite d p x) s = .next (s.closeCmd d (u.smbcResult p 10 0 0)))
  ∧ (∀ (s u : State) (d p status : Nat) (data : Bytes) (x : SmbcTx), u = s.atCmd d → p < 2 → u.power.on = true → u.smb.tx.find p = some x →
      (status = 3 ∨ status = 5 ∨ status = 6 ∨ status = 7) →
        exec (.smbcComplete d p status data) s = .next (s.closeCmd d (u.smbcEnd p x status [])))
  ∧ (∀ (s u : State) (d p : Nat) (data : Bytes) (x : SmbcTx), u = s.atCmd d → p < 2 → u.power.on = true → u.smb.tx.find p = some x → x.pec = false →
        exec (.smbcComplete d p 1 data) s = .next (s.closeCmd d (u.smbcEnd p x 1 data)))
  ∧ (∀ (s u : State) (d p b : Nat) (data : Bytes) (x : SmbcTx), u = s.atCmd d → p < 2 → u.power.on = true → u.smb.tx.find p = some x → x.pec = true → x.op = 7 → b < 256 →
        exec (.smbcComplete d p 1 (data ++ ([b] : Bytes))) s
          = .next (s.closeCmd d (if b = crc8 (x.sent ++ le 1 data.length ++ data) then u.smbcEnd p x 1 data else u.smbcEnd p x 6 [])))
  ∧ (∀ (s u : State) (d p : Nat) (data : Bytes) (x : SmbcTx), u = s.atCmd d → p < 2 → u.power.on = true → u.smb.tx.find p = some x → x.bellows = none → x.op = 7 → x.pec = false →
      data.length ≤ 32 →
        ∃ t, exec (.smbcComplete d p 1 data) s = .next (s.closeCmd d t) ∧ t.rd F.SMBC_RSLT_BUSY p = 0 ∧ t.rd F.SMBC_RSLT_DONE p = 1
          ∧ t.rd F.SMBC_RSLT_STATUS p = 1 ∧ t.rd F.SMBC_RSLT_RLEN p = data.length ∧ t.smb.tx.find p = none
          ∧ t.bufRead (smbcBuf p) data.length = data)
  ∧ (∀ (s u : State) (d p : Nat) (x : SmbcTx), u = s.atCmd d → p < 2 → u.power.on = true → u.smb.tx.find p = some x → x.losses < u.rd F.SMBC_CFG_RETRIES p →
        exec (.smbcArbRetry d p) s = .next (s.closeCmd d ((((u.inc F.SMBC_CNT_ARB_LOST p).setTx p
          { x with losses := x.losses + 1, retries := x.retries + 1 }).wr F.SMBC_RSLT_ATTEMPTS (min 7 (x.retries + 1)) p).smbcSend p
          { x with losses := x.losses + 1, retries := x.retries + 1 } u.clk)))
  ∧ (∀ (s u : State) (d p : Nat) (x : SmbcTx), u = s.atCmd d → p < 2 → u.power.on = true → u.smb.tx.find p = some x → u.rd F.SMBC_CFG_RETRIES p ≤ x.losses →
        exec (.smbcArbRetry d p) s = .next (s.closeCmd d ((u.inc F.SMBC_CNT_ARB_LOST p).smbcEnd p
          { x with losses := x.losses + 1 } 4 [])))
  ∧ (∀ (s u : State) (d p : Nat) (x : SmbcTx), u = s.atCmd d → p < 2 → u.power.on = true → u.smb.tx.find p = some x → x.retries - x.losses < u.rd F.SMBC_CFG_RETRIES p →
        exec (.smbcAddrRetry d p) s = .next (s.closeCmd d ((((u.inc F.SMBC_CNT_ADDR_NACKS p).setTx p
          { x with retries := x.retries + 1 }).wr F.SMBC_RSLT_ATTEMPTS (min 7 (x.retries + 1)) p).smbcSend p
          { x with retries := x.retries + 1 } (u.clk + 1000 * u.rd F.SMBC_CFG_RETRY_GAP_US p))))
  ∧ (∀ (s u : State) (d p : Nat) (x : SmbcTx), u = s.atCmd d → p < 2 → u.power.on = true → u.smb.tx.find p = some x → u.rd F.SMBC_CFG_RETRIES p ≤ x.retries - x.losses →
        exec (.smbcAddrRetry d p) s = .next (s.closeCmd d ((u.inc F.SMBC_CNT_ADDR_NACKS p).smbcEnd p x 2 [])))
  ∧ (∀ (s u : State) (d p : Nat) (data : Bytes) (x : SmbcTx), u = s.atCmd d → p < 2 → u.power.on = true → u.smb.tx.find p = some x →
        exec (.smbcComplete d p 2 data) s = exec (.smbcAddrRetry d p) s ∧ exec (.smbcComplete d p 4 data) s = exec (.smbcArbRetry d p) s)
  ∧ (∀ (s u : State) (d p : Nat) (x : SmbcTx), u = s.atCmd d → p < 2 → u.power.on = true → u.smb.tx.find p = some x →
        exec (.smbcTimeout d p) s = .next (s.closeCmd d (u.smbcEnd p x 5 []))
          ∧ exec (.smbcProtocolStop d p) s = .next (s.closeCmd d (u.smbcEnd p x 7 [])))
  ∧ (∀ (s u : State) (d p : Nat), u = s.atCmd d → p < 2 → u.hostOpen (F.SMBC_CFG_CLEAR_COUNTS.at_ p) → u.on
      F.SMBC_RSLT_BUSY p = false →
          ∃ t, exec (.smbcClearCounts d p) s = .next (s.closeCmd d t) ∧ t.rd F.SMBC_CNT_ARB_LOST p = 0 ∧ t.rd
            F.SMBC_CNT_ADDR_NACKS p = 0 ∧ t.rd F.SMBC_CNT_TIMEOUTS p = 0 ∧ t.rd F.SMBC_CNT_CLEARS p = 0 ∧ t.smb = u.smb)
  ∧ (∀ (s u : State) (d p : Nat), u = s.atCmd d → p < 2 → u.hostOpen (F.SMBC_CFG_CLEAR_COUNTS.at_ p) → u.on
      F.SMBC_RSLT_BUSY p = true →
          exec (.smbcClearCounts d p) s = .next (s.closeCmd d (u)))

/-- Status commands, the PEC rule, alerts, errors and privileged sessions of the SMBus target. Rules: R465, R466, R467, R469, R470, R475,
R477, R479, R481, R482, R483, as far as its clauses go. Rests on the model's choices of log 20, 21. -/
def Obligations.TargetStatusAndSessions : Prop :=
  (∀ (s u : State) (d : Nat), u = s.atCmd d → u.smbOpen →
        exec (.smbStatus d) s = .next (s.closeCmd d (u.smbData 1 (le 2 u.smbWord))))
  ∧ (∀ (s u : State) (d : Nat), u = s.atCmd d → u.power.on = true → u.rd F.KINDLE_STATUS_PHASE = 0 →
        exec (.smbStatus d) s = .next (s.closeCmd d (u.emit .smbNack)))
  ∧ (∀ (s u : State) (d : Nat), u = s.atCmd d → u.power.on = true → u.rd F.KINDLE_STATUS_PHASE ≠ 0 → u.smb.gate ≠ [] →
        exec (.smbStatus d) s = .next (s.closeCmd d ((u.inc F.SMB_T_CNT_WAKE_NACKS).emit .smbNack)))
  ∧ (∀ (s u : State) (d : Nat), u = s.atCmd d → u.smbOpen →
        exec (.smbIdent d) s = .next (s.closeCmd d (u.smbData 2 (le 1 16 ++ le 8 (u.busRead 0 8) ++ le 8 (u.busRead 8 8)))))
  ∧ (∀ (s u : State) (d : Nat), u = s.atCmd d → u.smbOpen →
        exec (.smbTemp d) s = .next (s.closeCmd d (u.smbData 3 (le 2 (uOf 16 u.tMax)))))
  ∧ (∀ (s u : State) (d : Nat), u = s.atCmd d → u.smbOpen →
        exec (.smbPower d) s = .next (s.closeCmd d (u.smbData 4 (le 2 (u.rd F.BLW_POWER_P_AVG)))))
  ∧ (∀ (s u : State) (d : Nat), u = s.atCmd d → u.smbOpen →
        exec (.smbAlertSrc d) s = .next (s.closeCmd d (u.smbData 6 (le 1 (u.rd F.SMB_ALERT_SRC)))))
  ∧ (∀ (u : State) (code : Nat) (bs : Bytes), u.smbData code bs = u.emit (.smbData bs (crc8 (le 1 (2 * (0x58 + u.power.straps))
      ++ le 1 code ++ le 1 (2 * (0x58 + u.power.straps) + 1) ++ bs))))
  ∧ (∀ (u : State) (code b : Nat) (data : Bytes), (u.pecOk .none (u.smbSent code data) = !u.on F.SMB_T_CFG_PEC_REQ)
      ∧ (b < 256 → (u.pecOk (.byte b) (u.smbSent code data)
          = decide (b = crc8 (le 1 (2 * (0x58 + u.power.straps)) ++ le 1 code ++ data)))))
  ∧ (∀ (s u : State) (d v : Nat) (pec : Pec), u = s.atCmd d → u.smbOpen → v < 256 → u.pecOk pec (u.smbSent 7 (le 1 v)) = true →
        exec (.smbAlertClr d v pec) s = .next (s.closeCmd d (u.setFld F.SMB_ALERT_SRC 0 0 v)))
  ∧ (∀ (s u : State) (d v b : Nat), u = s.atCmd d → u.smbOpen → u.pecOk (.byte b) (u.smbSent 7 (le 1 v)) = false →
        exec (.smbAlertClr d v (.byte b)) s = .next (s.closeCmd d (((u.flag F.SMB_T_STATUS_PEC_ERR).inc F.SMB_T_CNT_PEC_ERRS).emit .smbNack)))
  ∧ (∀ (s u : State) (d v : Nat), u = s.atCmd d → u.smbOpen → u.on F.SMB_T_CFG_PEC_REQ = true →
        exec (.smbAlertClr d v .none) s = .next (s.closeCmd d ((u.flag F.SMB_T_STATUS_PEC_ERR).inc F.SMB_T_CNT_PEC_ERRS)))
  ∧ (∀ (s u : State) (d v : Nat), u = s.atCmd d → u.smbOpen →
        exec (.smbAlertClr d v .short) s = .next (s.closeCmd d (u.inc F.SMB_T_CNT_PROTO_ERRS)))
  ∧ (∀ (s u : State) (d : Nat) (won : Bool), u = s.atCmd d → u.smbOpen → u.alertLow = true →
        ∃ t, exec (.alertResponse d won) s = .next (s.closeCmd d t)
          ∧ t.out = u.out ++ [.smbData (le 1 (2 * (0x58 + u.power.straps))) (crc8 (le 1 (2 * 0x0C + 1) ++ le 1 (2 * (0x58 + u.power.straps))))]
          ∧ t.smb.covered = (if won then u.smb.covered ||| (u.rd F.SMB_ALERT_SRC &&& u.rd F.SMB_ALERT_EN) else u.smb.covered)
          ∧ t.regs = u.regs)
  ∧ (∀ (s u : State) (d : Nat) (won : Bool), u = s.atCmd d → u.smbOpen → u.alertLow = false →
        exec (.alertResponse d won) s = .next (s.closeCmd d (u.emit .smbNack)))
  ∧ (∀ (s u : State) (d : Nat), u = s.atCmd d → u.power.on = true →
        exec (.smbTargetTimeout d) s = .next (s.closeCmd d ((u.flag F.SMB_T_STATUS_TIMEOUT).inc F.SMB_T_CNT_PROTO_ERRS)))
  ∧ (∀ (s u : State) (d : Nat), u = s.atCmd d → u.power.on = true →
        exec (.smbProtocolError d) s = .next (s.closeCmd d ((u.flag F.SMB_T_STATUS_PROTO_ERR).inc F.SMB_T_CNT_PROTO_ERRS)))
  ∧ (∀ (s u : State) (d code : Nat), u = s.atCmd d → u.smbOpen → code < 256 → (code ∉ smbCodes ∨ (0x4C ≤ code ∧ u.on F.SMB_T_STATUS_PRIV = false)) →
        exec (.smbBadCommand d code) s = .next (s.closeCmd d (u.badCmd)))
  ∧ (∀ u : State, u.badCmd = ((u.flag F.SMB_T_STATUS_BAD_CMD).inc F.SMB_T_CNT_PROTO_ERRS).emit .smbNack)
  ∧ (∀ (s u : State) (d : Nat), u = s.atCmd d → u.hostOpen (F.SMB_T_CFG_CLEAR_COUNTS.addr) →
        exec (.smbTClearCounts d) s = .next (s.closeCmd d (u.smbClear)))
  ∧ (∀ (s u : State) (d key : Nat) (pec : Pec), u = s.atCmd d → u.smbOpen → key < 65536 → u.on F.SMB_T_STATUS_LOCKOUT = false → u.pecOk pec (u.smbSent 0x10 (le 2 key)) = true → key = u.rd F.SMB_T_KEY_KEY → key ≠ 0 →
        exec (.smbUnlock d key pec) s = .next (s.closeCmd d ((u.wr F.SMB_T_STATUS_PRIV 1).setSmb { u.smb with lastPriv := u.clk })))
  ∧ (∀ (s u : State) (d key : Nat) (pec : Pec), u = s.atCmd d → u.smbOpen → key < 65536 → u.on F.SMB_T_STATUS_LOCKOUT = false → u.pecOk pec (u.smbSent 0x10 (le 2 key)) = true → (key ≠ u.rd F.SMB_T_KEY_KEY ∨ key = 0) →
        ∃ t, exec (.smbUnlock d key pec) s = .next (s.closeCmd d t) ∧ t.rd F.SMB_T_STATUS_KEY_FAIL = 1
          ∧ t.rd F.SMB_T_STATUS_LOCKOUT = 1 ∧ t.rd F.SMB_T_STATUS_PRIV = u.rd F.SMB_T_STATUS_PRIV ∧ t.smb = { u.smb with lockAt := u.clk })
  ∧ (∀ (s u : State) (d key : Nat) (pec : Pec), u = s.atCmd d → u.smbOpen → u.on F.SMB_T_STATUS_LOCKOUT = true →
        exec (.smbUnlock d key pec) s = .next (s.closeCmd d (u.emit .smbNack)))
  ∧ (∀ (s u : State) (d : Nat) (pec : Pec), u = s.atCmd d → u.smbOpen → u.pecOk pec (u.smbSent 0x11 []) = true →
        exec (.smbLock d pec) s = .next (s.closeCmd d (u.wr F.SMB_T_STATUS_PRIV 0)))
  ∧ (∀ (s u : State) (d : Nat), u = s.atCmd d → u.power.on = true → u.on F.SMB_T_STATUS_PRIV = true → u.smb.lastPriv + 1000000000 * u.rd F.SMB_T_TIMING_SESSION_S ≤ u.clk →
        exec (.sessionTimeout d) s = .next (s.closeCmd d (u.wr F.SMB_T_STATUS_PRIV 0)))
  ∧ (∀ (s u : State) (d : Nat), u = s.atCmd d → u.power.on = true → u.on F.SMB_T_STATUS_PRIV = true → u.clk < u.smb.lastPriv + 1000000000 * u.rd F.SMB_T_TIMING_SESSION_S →
        exec (.sessionTimeout d) s = .next (s.closeCmd d (u)))
  ∧ (∀ (s u : State) (d : Nat), u = s.atCmd d → u.power.on = true → u.on F.SMB_T_STATUS_LOCKOUT = true → u.smb.lockAt + 1000000000 ≤ u.clk →
        exec (.unlockLockoutEnd d) s = .next (s.closeCmd d (u.wr F.SMB_T_STATUS_LOCKOUT 0)))

/-- Page, pointer and length, and the transfers of the SMBus target. Rules: R466, R469, R471, R472, R474, R475, as far as its
clauses go. Rests on the model's choices of log 20, 21, 22, 23. -/
def Obligations.TargetTransfers : Prop :=
  (∀ (s u : State) (d k x : Nat) (pec : Pec), u = s.atCmd d → u.smbOpen → k < 2 → x < 65536 → u.pecOk pec (u.smbSent (0x40 + k) (le 2 x)) = true →
        exec (.smbPage d k (some x) pec) s = .next (s.closeCmd d (u.setSmb { u.smb with page := u.smb.page.put k x 0 })))
  ∧ (∀ (s u : State) (d k : Nat) (pec : Pec), u = s.atCmd d → u.smbOpen → k < 2 →
        exec (.smbPage d k none pec) s = .next (s.closeCmd d (u.smbData (0x40 + k) (le 2 (u.smb.page.getD k 0)))))
  ∧ (∀ (s u : State) (d k x : Nat) (pec : Pec), u = s.atCmd d → u.smbOpen → k < 2 → x < 65536 → u.pecOk pec (u.smbSent (0x44 + k) (le 2 x)) = true →
        exec (.smbPtr d k (some x) pec) s = .next (s.closeCmd d (u.setSmb { u.smb with ptr := u.smb.ptr.put k x 0 })))
  ∧ (∀ (s u : State) (d k : Nat) (pec : Pec), u = s.atCmd d → u.smbOpen → k < 2 →
        exec (.smbPtr d k none pec) s = .next (s.closeCmd d (u.smbData (0x44 + k) (le 2 (u.smb.ptr.getD k 0)))))
  ∧ (∀ (s u : State) (d k x : Nat) (pec : Pec), u = s.atCmd d → u.smbOpen → k < 2 → x < 256 → u.pecOk pec (u.smbSent (0x48 + k) (le 1 x)) = true →
        exec (.smbLen d k (some x) pec) s = .next (s.closeCmd d (u.setSmb { u.smb with len := u.smb.len.put k x 0 })))
  ∧ (∀ (s u : State) (d k : Nat) (pec : Pec), u = s.atCmd d → u.smbOpen → k < 2 →
        exec (.smbLen d k none pec) s = .next (s.closeCmd d (u.smbData (0x48 + k) (le 1 (u.smb.len.getD k 0)))))
  ∧ (∀ (s u : State) (d k x : Nat) (pec : Pec), u = s.atCmd d → u.smbOpen → k < 2 → pec ≠ .short → u.pecOk pec (u.smbSent (0x44 + k) (le 2 x)) = false →
        ∃ t, exec (.smbPtr d k (some x) pec) s = .next (s.closeCmd d t) ∧ t.smb = u.smb ∧ t.rd F.SMB_T_STATUS_PEC_ERR = 1)
  ∧ (∀ (s u : State) (d k : Nat) (late : Bool) (h : SmbHeld) (dat : Bytes), u = s.atCmd d → u.smbOpen → k < 2 → u.smbOk k (u.smb.len.getD k 0) false false = true →
      u.smb.held = some h → h.code = 0x4C + k → h.unit = k → h.page = u.smb.page.getD k 0 → h.ptr = u.smb.ptr.getD k 0 →
      h.len = u.smb.len.getD k 0 → h.data = some dat → u.clk < h.at_ + 1000000 * u.rd F.SMB_T_TIMING_HOLD_MS →
        ∃ t, exec (.smbDataRead d k late) s = .next (s.closeCmd d t) ∧ t.out = (u.smbData (0x4C + k) (le 1 dat.length ++ dat)).out
          ∧ t.smb.ptr.getD k 0 = (u.smb.ptr.getD k 0 + u.smb.len.getD k 0) % 65536 ∧ t.regs = u.regs)
  ∧ (∀ (s u : State) (d k : Nat) (late : Bool), u = s.atCmd d → u.smbOpen → k < 2 → u.smbOk k (u.smb.len.getD k 0) false false = false →
        exec (.smbDataRead d k late) s = .next (s.closeCmd d (u.badCmd)))
  ∧ (∀ (s u : State) (d a : Nat), u = s.atCmd d → u.smbOpen → u.smbOk 0 8 false true = true → u.smb.held = none → a = u.smbAddr 0 → u.bankedAt a = none →
        ∃ t, exec (.smbData8Read d 0 false) s = .next (s.closeCmd d t) ∧ t.out = (u.smbData 0x50 (u.regsRead8 a)).out
          ∧ t.smb.ptr.getD 0 0 = (u.smb.ptr.getD 0 0 + 8) % 65536 ∧ t.regs = u.regs)
  ∧ (∀ (s u : State) (d : Nat), u = s.atCmd d → u.smbOpen → u.smbOk 0 8 false true = true → u.smb.held = none →
        ∃ t, exec (.smbData8Read d 0 true) s = .next (s.closeCmd d t)
          ∧ (t.smb.held.map fun (h : SmbHeld) => (h.code, h.unit, h.page, h.ptr, h.len, h.data))
              = some (0x50, 0, u.smb.page.getD 0 0, u.smb.ptr.getD 0 0, 8, none)
          ∧ t.rd F.SMB_T_CNT_WAKE_NACKS = min (u.rd F.SMB_T_CNT_WAKE_NACKS + 1) (2 ^ F.SMB_T_CNT_WAKE_NACKS.w - 1)
          ∧ Out.smbNack ∈ t.out)
  ∧ (∀ (s u : State) (d count : Nat) (data : Bytes) (pec : Pec), u = s.atCmd d → u.smbOpen → data.length = count → u.on F.SMB_T_STATUS_PRIV = true → u.smbOk 0 count true false = true →
      u.pecOk pec (u.smbSent 0x4C (le 1 count ++ data)) = true →
        exec (.smbDataWrite d 0 count data pec) s = .next (s.closeCmd d (((u.smbPriv).smbAdvance 0 count).smbWrites (words4 (u.smbAddr 0) (count / 4) data))))
  ∧ (∀ (s u : State) (d count : Nat) (data : Bytes) (pec : Pec), u = s.atCmd d → u.smbOpen → data.length < count → u.on F.SMB_T_STATUS_PRIV = true → u.smbOk 0 count true false = true →
        exec (.smbDataWrite d 0 count data pec) s = .next (s.closeCmd d (u.inc F.SMB_T_CNT_PROTO_ERRS)))
  ∧ (∀ (s u : State) (d count : Nat) (data : Bytes) (pec : Pec), u = s.atCmd d → u.smbOpen → u.on F.SMB_T_STATUS_PRIV = false →
        exec (.smbDataWrite d 0 count data pec) s = .next (s.closeCmd d (u.badCmd)))
  ∧ (∀ (s u : State) (d v : Nat) (pec : Pec), u = s.atCmd d → u.smbOpen → v < 2 ^ 64 → u.smbOk 0 8 true true = true → u.pecOk pec (u.smbSent 0x50 (le 8 v)) = true →
        exec (.smbData8Write d 0 v pec) s = .next (s.closeCmd d (((u.smbPriv).smbAdvance 0 8).smbWrites [⟨u.smbAddr 0, 8, v⟩])))
  ∧ (∀ (s u : State) (d : Nat) (h : SmbHeld), u = s.atCmd d → u.power.on = true → u.smb.held = some h → h.data = none → h.unit = 0 →
      u.bankedAt (65536 * h.page + h.ptr) = none →
        exec (.smbFetchComplete d) s = .next (s.closeCmd d (u.fetchDone h)))
  ∧ (∀ (s u : State) (d : Nat) (h : SmbHeld), u = s.atCmd d → u.power.on = true → u.smb.held = some h → h.data = none → h.unit = 1 →
      u.flash.busy = some (.smbRead (65536 * h.page + h.ptr) h.len) →
        ∃ t, exec (.smbFetchComplete d) s = .next (s.closeCmd d t) ∧ t.flash.busy = none
          ∧ t.smb.held = some { h with data := some (u.flashRead (65536 * h.page + h.ptr) h.len), at_ := u.clk })
  ∧ (∀ (s u : State) (d : Nat) (h : SmbHeld), u = s.atCmd d → u.power.on = true → u.smb.held = some h → h.data.isSome = true →
      h.at_ + 1000000 * u.rd F.SMB_T_TIMING_HOLD_MS ≤ u.clk →
        exec (.smbHeldDataExpiry d) s = .next (s.closeCmd d (u.setSmb { u.smb with held := none })))
  ∧ (∀ (s u : State) (d : Nat) (w : HeldWrite) (ws : List HeldWrite), u = s.atCmd d → u.power.on = true → u.smb.gate = w :: ws → u.bankedAt w.addr = none →
        exec (.regsWriteApplied d) s = .next (s.closeCmd d ((u.setSmb { u.smb with gate := [] }).smbWrites (w :: ws))))

/-- Faults of Hearths and tiles, their spares, tests and shadow runs. Rules: R491, R492, R495, R496, R497, R498, R499, R500, R501,
R503, R507, as far as its clauses go. Rests on the model's choices of log 77. -/
def Obligations.SpareUnits : Prop :=
  (∀ (s u : State) (d : Nat) (cls : Nat) (n : Nat) (err : Nat), u = s.atCmd d → clsOk cls = true → n < unitCount cls → err < 64
      → u.pressOn → u.on (servingF cls) n = true →
          exec (.unitFault d cls n err) s = .next (s.closeCmd d (((u.affected cls n).2.err 0x1B (srcNo 0x12 0) (detail [6 + cls,
            n, (u.affected cls n).1])).trigger cls n 1 err false)))
  ∧ (∀ (s u : State) (d : Nat) (cls : Nat) (l : Nat) (n : Nat), u = s.atCmd d → clsOk cls = true → l < 8 * perCluster cls →
      u.hostOpen (F.WELD_CTL_OP.addr) → u.pressOn → u.unitOf cls l = some n →
          exec (.weldSubstitute d cls l) s = .next (s.closeCmd d (u.trigger cls n 3 0 false)))
  ∧ (∀ (s u : State) (d : Nat) (cls : Nat) (l : Nat) (n : Nat), u = s.atCmd d → clsOk cls = true → l < 8 * perCluster cls →
      u.hostOpen (F.WELD_CTL_OP.addr) → u.pressOn → u.unitOf cls l = some n →
          exec (.weldForce d cls l) s = .next (s.closeCmd d (u.trigger cls n 3 0 true)))
  ∧ (∀ (s u : State) (d : Nat) (cls : Nat) (l : Nat) (n : Nat), u = s.atCmd d → clsOk cls = true → l < 8 * perCluster cls →
      u.hostOpen (F.WELD_CTL_OP.addr) → u.pressOn → u.unitOf cls l = some n → u.subAt cls (unitPlace cls n).1 = none → u.rd
      (spareF cls) (unitPlace cls n).1 ≠ 0xFF →
          ∃ t, exec (.weldForce d cls l) s = .next (s.closeCmd d t) ∧ t.weld.testing.find (unKey cls (unitPlace cls n).1 (u.rd
            (spareF cls) (unitPlace cls n).1)) = some 3 ∧ ((t.subAt cls (unitPlace cls n).1).map fun (x : SubS) => (x.fromK,
            x.spareK, x.force, x.stage)) = some ((unitPlace cls n).2, u.rd (spareF cls) (unitPlace cls n).1, true, 1))
  ∧ (∀ (s u : State) (d : Nat) (cls : Nat) (l : Nat) (n : Nat), u = s.atCmd d → clsOk cls = true → l < 8 * perCluster cls →
      u.hostOpen (F.WELD_CTL_OP.addr) → u.pressOn → u.unitOf cls l = some n →
          exec (.weldClearSuspect d cls l) s = .next (s.closeCmd d (u.suspectEnd cls (unitPlace cls n).1 (unitPlace cls n).2 l 3
            0xFF)))
  ∧ (∀ (s u : State) (d : Nat) (cls : Nat) (n : Nat), u = s.atCmd d → clsOk cls = true → n < unitCount cls → u.hostOpen
      (F.WELD_CTL_OP.addr) → u.pressOn → u.rd (spareF cls) (unitPlace cls n).1 = (unitPlace cls n).2 → u.subAt cls (unitPlace
      cls n).1 = none →
          exec (.weldTestSpare d cls n) s = .next (s.closeCmd d (u.startTest cls (unitPlace cls n).1 (unitPlace cls n).2 3)))
  ∧ (∀ (s u : State) (d : Nat) (cls : Nat) (n : Nat), u = s.atCmd d → clsOk cls = true → n < unitCount cls → u.hostOpen
      (F.WELD_CTL_OP.addr) → u.pressOn → bit (u.rd (failedF cls) (unitPlace cls n).1) (unitPlace cls n).2 = 1 →
          exec (.weldReturn d cls n) s = .next (s.closeCmd d (u.startTest cls (unitPlace cls n).1 (unitPlace cls n).2 3)))
  ∧ (∀ (s u : State) (d : Nat) (n : Nat), u = s.atCmd d → n < 544 → u.hostOpen (F.WELD_CTL_OP.addr) → u.pressOn → u.sliceState (n
      / 17) (n % 17) = 3 → (u.lgrp (n / 17)).test = none →
          exec (.weldReturn d 3 n) s = .next (s.closeCmd d (u.setLgrp (n / 17)
            { u.lgrp (n / 17) with test := some (n, u.clk) })))
  ∧ (∀ (s u : State) (d : Nat) (cls : Nat) (c : Nat) (k : Nat) (x : SubS) (cause : Nat), u = s.atCmd d → clsOk cls = true → c < 8
      → k ≤ perCluster cls → u.pressOn → u.weld.testing.find (unKey cls c k) = some cause → u.rd (spareF cls) c = k → u.subAt
      cls c = some x → x.stage = 1 →
          ∃ t, exec (.spareTestDone d cls c k true false) s = .next (s.closeCmd d t) ∧ t.subAt cls c = some
            { x with stage := 2 } ∧ t.weld.testing.find (unKey cls c k) = none)
  ∧ (∀ (s u : State) (d : Nat) (cls : Nat) (c : Nat) (k : Nat) (pass : Bool) (repaired : Bool), u = s.atCmd d → clsOk cls = true
      → c < 8 → k ≤ perCluster cls → u.pressOn → u.weld.testing.find (unKey cls c k) = none →
          exec (.spareTestDone d cls c k pass repaired) s = .next (s.closeCmd d (u)))
  ∧ (∀ (s u : State) (d : Nat), u = s.atCmd d → u.pressOn → u.clk < u.weld.lastSpareTest + 60000000000 * u.rd
      F.WELD_LIMITS_SPARE_TEST_MIN →
          exec (.spareTestPeriodic d) s = .next (s.closeCmd d (u)))
  ∧ (∀ (s u : State) (d : Nat), u = s.atCmd d → u.pressOn → u.weld.lastSpareTest + 60000000000 * u.rd
      F.WELD_LIMITS_SPARE_TEST_MIN ≤ u.clk → u.rd F.WELD_ACL_SPARE_K 7 ≠ 0xFF → u.subAt 2 7 = none → u.weld.testing = [] →
          ∃ t, exec (.spareTestPeriodic d) s = .next (s.closeCmd d t) ∧ t.weld.lastSpareTest = u.clk ∧ t.weld.testing.find
            (unKey 2 7 (u.rd F.WELD_ACL_SPARE_K 7)) = some 6 ∧ t.regs = u.regs)
  ∧ (∀ (s u : State) (d : Nat) (cls : Nat) (c : Nat) (x : SubS), u = s.atCmd d → clsOk cls = true → c < 8 → u.pressOn → u.subAt
      cls c = some x → x.stage = 3 → x.ran = true → x.cause = 3 →
          exec (.shadowCompare d cls c true) s = .next (s.closeCmd d ((u.subRecord (unitSrc cls x.logical) (subBody 3 x.cause
            x.fromK x.spareK x.logical x.attempt x.first 0 x.err)).switchReady cls c x 0)))
  ∧ (∀ (s u : State) (d : Nat) (cls : Nat) (c : Nat) (pass : Bool) (x : SubS), u = s.atCmd d → clsOk cls = true → c < 8 →
      u.pressOn → u.subAt cls c = some x → (x.stage ≠ 3 ∨ x.ran = false) →
          exec (.shadowCompare d cls c pass) s = .next (s.closeCmd d (u)))

/-- Internal errors are counted and logged; Ingots and host records are written and found. Rules: R507, R508, R510, R511, R515,
R516, R518, R521, R522, as far as its clauses go. Rests on the model's choices of log 34, 42, 43. -/
def Obligations.ErrorsAndJournal : Prop :=
  (∀ (s u : State) (d : Nat) (e : ErrArg), u = s.atCmd d → errArgOk e = true → u.power.on = true → e.src < 2 ^ 32 → e.items.length ≤ 5 →
          exec (.internalError d e) s = .next (s.closeCmd d ((u.err e.code e.src (detail e.items)).errEffect e)))
  ∧ (∀ (s u : State) (d : Nat) (e : ErrArg), u = s.atCmd d → errArgOk e = true → u.power.on = true → e.code = 0x06 →
          ∃ t, exec (.internalError d e) s = .next (s.closeCmd d t) ∧ t.rd F.WELD_ERR_CNT_COUNT 0x06 = min (u.rd
            F.WELD_ERR_CNT_COUNT 0x06 + 1) (2 ^ F.WELD_ERR_CNT_COUNT.w - 1) ∧ t.rd F.WELD_LOG_PTR_WR = (u.rd F.WELD_LOG_PTR_WR +
            1) % 2 ^ F.WELD_LOG_PTR_WR.w ∧ t.hep.aer = u.hep.aer)
  ∧ (∀ (s u : State) (d : Nat) (eraseOk : Bool), u = s.atCmd d → u.power.on = true → u.flash.busy = some .ingot →
          exec (.ingotWrite d true eraseOk) s = .next (s.closeCmd d (({ u with flash := { u.flash with busy := none } } :
            State).ingotWrite true eraseOk)))
  ∧ (∀ (s u : State) (d : Nat) (ok : Bool) (eraseOk : Bool), u = s.atCmd d → u.power.on = true → u.flash.busy = some .ingot →
      u.weld.ingots = [] →
          exec (.ingotWrite d ok eraseOk) s = .next (s.closeCmd d ({ u with flash := { u.flash with busy := none } })))
  ∧ (∀ (s u : State) (d : Nat), u = s.atCmd d → u.pressOn → u.weld.wearClk + 60000000000 * u.rd F.WELD_LIMITS_WEAR_MIN ≤ u.clk →
          ∃ t, exec (.wearPeriodic d) s = .next (s.closeCmd d t) ∧ t.weld.wearClk = u.clk ∧ t.weld.ingots.length =
            u.weld.ingots.length + 1 ∧ (t.weld.ingots.getLast?.map fun (x : IngotReq) => x.kind) = some 3)
  ∧ (∀ (s u : State) (d : Nat) (tag : Nat) (len : Nat), u = s.atCmd d → tag < 256 → 1 ≤ len → len ≤ 1024 → u.hostOpen
      (F.WELD_HOST_CTL_WRITE.addr) → u.on F.WELD_HOST_CTL_BUSY = false → u.on F.WELD_STATUS_READ_ONLY = false →
          ∃ t, exec (.hostRecordWrite d tag len) s = .next (s.closeCmd d t) ∧ t.rd F.WELD_HOST_CTL_BUSY = 1 ∧ t.rd
            F.WELD_HOST_CTL_TAG = tag ∧ t.rd F.WELD_HOST_CTL_LEN = len ∧ t.weld.ingots = u.weld.ingots ++ [IngotReq.mk 6 (le 2
            tag ++ le 2 len ++ zeros 60 ++ u.bufRead 0x31000 len) tag])
  ∧ (∀ (s u : State) (d : Nat) (tag : Nat) (len : Nat), u = s.atCmd d → tag < 256 → len < 2048 → (len = 0 ∨ 1024 < len) →
      u.hostOpen (F.WELD_HOST_CTL_WRITE.addr) →
          exec (.hostRecordWrite d tag len) s = .next (s.closeCmd d (u)))
  ∧ (∀ (s u : State) (d : Nat) (tag : Nat), u = s.atCmd d → tag < 256 → u.hostOpen (F.WELD_HOST_FIND_TAG.addr) → newest u.ingots
      (fun x => decide (x.kind = 6 ∧ leAt x.payload 0 2 = tag)) = none →
          ∃ t, exec (.hostRecordFind d tag) s = .next (s.closeCmd d t) ∧ t.rd F.WELD_HOST_FIND_TAG = tag ∧ t.rd
            F.WELD_HOST_FIND_ADDR = 0xFFFFFFFF ∧ t.weld = u.weld)
end

