-- ==== Sys2Proof/Laws/Assoc.lean ====
section
/-!
SUPPORT. The laws of the sparse stores: a read after a write, and the canonical form that every write keeps.
-/

namespace Sys2Proof.Machine

namespace Assoc

variable {α : Type}

@[simp] theorem find_nil (k : Nat) : find k ([] : Assoc α) = none := rfl

theorem find_del_self (k : Nat) (m : Assoc α) : find k (del k m) = none := by
  induction m with
  | nil => rfl
  | cons e m ih =>
    obtain ⟨k', v⟩ := e
    by_cases h : k = k'
    · simp [del, h]; rw [← h]; exact ih
    · simp [del, find, h, ih]

theorem find_del_ne {k l : Nat} (h : l ≠ k) (m : Assoc α) : find l (del k m) = find l m := by
  induction m with
  | nil => rfl
  | cons e m ih =>
    obtain ⟨k', v⟩ := e
    by_cases hk : k = k'
    · subst hk; simp [del, find, h, ih]
    · by_cases hl : l = k'
      · simp [del, find, hk, hl]
      · simp [del, find, hk, hl, ih]

theorem find_ins_self (k : Nat) (v : α) (m : Assoc α) : find k (ins k v m) = some v := by
  induction m with
  | nil => simp [ins, find]
  | cons e m ih =>
    obtain ⟨k', w⟩ := e
    by_cases h : k ≤ k'
    · simp [ins, find, h]
    · have : k ≠ k' := by omega
      simp [ins, find, h, this, ih]

theorem find_ins_ne {k l : Nat} (h : l ≠ k) (v : α) (m : Assoc α) : find l (ins k v m) = find l m := by
  induction m with
  | nil => simp [ins, find, h]
  | cons e m ih =>
    obtain ⟨k', w⟩ := e
    by_cases hk : k ≤ k'
    · simp only [ins, hk, if_true]
      rw [find, if_neg h, find_del_ne h]
    · simp only [ins, hk, if_false]
      by_cases hl : l = k'
      · simp [find, hl]
      · simp [find, hl, ih]

@[simp] theorem getD_put_self [DecidableEq α] (m : Assoc α) (k : Nat) (v d : α) : (m.put k v d).getD k d = v := by
  unfold put getD
  split
  · next h => simp [find_del_self, h]
  · simp [find_ins_self]

theorem getD_put_ne [DecidableEq α] {k l : Nat} (h : l ≠ k) (m : Assoc α) (v d e : α) :
    (m.put k v d).getD l e = m.getD l e := by
  unfold put getD
  split
  · rw [find_del_ne h]
  · rw [find_ins_ne h]

/-! ### The canonical form -/

theorem sortedFrom_mono {a b : Nat} (h : a ≤ b) : ∀ m : Assoc α, sortedFrom b m = true → sortedFrom a m = true
  | [], _ => rfl
  | (k, v) :: m, hm => by
    simp only [sortedFrom, Bool.and_eq_true, decide_eq_true_eq] at hm ⊢
    exact ⟨by omega, hm.2⟩

theorem sortedFrom_del (k : Nat) : ∀ (m : Assoc α) (lo : Nat), sortedFrom lo m = true → sortedFrom lo (del k m) = true
  | [], _, _ => rfl
  | (k', v) :: m, lo, h => by
    simp only [sortedFrom, Bool.and_eq_true, decide_eq_true_eq] at h
    by_cases hk : k = k'
    · simp only [del, hk, if_true]
      rw [← hk] at h ⊢
      exact sortedFrom_del k m lo (sortedFrom_mono (by omega) m h.2)
    · simp only [del, hk, if_false, sortedFrom, Bool.and_eq_true, decide_eq_true_eq]
      exact ⟨h.1, sortedFrom_del k m _ h.2⟩

theorem del_of_above {k : Nat} : ∀ (m : Assoc α) (lo : Nat), k < lo → sortedFrom lo m = true → del k m = m
  | [], _, _, _ => rfl
  | (k', v) :: m, lo, hk, h => by
    simp only [sortedFrom, Bool.and_eq_true, decide_eq_true_eq] at h
    have : k ≠ k' := by omega
    simp only [del, this, if_false]
    rw [del_of_above m (k' + 1) (by omega) h.2]

theorem sortedFrom_ins (k : Nat) (v : α) : ∀ (m : Assoc α) (lo : Nat), lo ≤ k → sortedFrom lo m = true →
    sortedFrom lo (ins k v m) = true
  | [], lo, hk, _ => by simp [ins, sortedFrom, hk]
  | (k', w) :: m, lo, hk, h => by
    have h' := h
    simp only [sortedFrom, Bool.and_eq_true, decide_eq_true_eq] at h
    by_cases hc : k ≤ k'
    · simp only [ins, hc, if_true, sortedFrom, Bool.and_eq_true, decide_eq_true_eq]
      refine ⟨hk, ?_⟩
      by_cases he : k = k'
      · subst he
        simp only [del, if_true]
        rw [del_of_above m (k + 1) (by omega) h.2]
        exact h.2
      · apply sortedFrom_del
        simp only [sortedFrom, Bool.and_eq_true, decide_eq_true_eq]
        exact ⟨by omega, h.2⟩
    · simp only [ins, hc, if_false, sortedFrom, Bool.and_eq_true, decide_eq_true_eq]
      exact ⟨h.1, sortedFrom_ins k v m _ (by omega) h.2⟩

theorem mem_del {k : Nat} {m : Assoc α} {e : Nat × α} (h : e ∈ del k m) : e ∈ m := by
  induction m with
  | nil => exact h
  | cons x m ih =>
    obtain ⟨k', v⟩ := x
    by_cases hk : k = k'
    · simp only [del, hk, if_true] at h
      rw [← hk] at h
      exact List.mem_cons_of_mem _ (ih h)
    · simp only [del, hk, if_false, List.mem_cons] at h
      rcases h with h | h
      · simp [h]
      · exact List.mem_cons_of_mem _ (ih h)

theorem mem_ins {k : Nat} {v : α} {m : Assoc α} {e : Nat × α} (h : e ∈ ins k v m) : e = (k, v) ∨ e ∈ m := by
  induction m with
  | nil => simpa [ins] using h
  | cons x m ih =>
    obtain ⟨k', w⟩ := x
    by_cases hk : k ≤ k'
    · simp only [ins, hk, if_true, List.mem_cons] at h
      rcases h with h | h
      · exact .inl h
      · exact .inr (mem_del h)
    · simp only [ins, hk, if_false, List.mem_cons] at h
      rcases h with h | h
      · exact .inr (by simp [h])
      · rcases ih h with h | h
        · exact .inl h
        · exact .inr (List.mem_cons_of_mem _ h)

/-- A write keeps the canonical form. -/
theorem wf_put [DecidableEq α] {d : α} {m : Assoc α} (h : wf d m = true) (k : Nat) (v : α) : wf d (m.put k v d) = true := by
  simp only [wf, Bool.and_eq_true, List.all_eq_true, decide_eq_true_eq] at h ⊢
  unfold put
  split
  · exact ⟨sortedFrom_del k m 0 h.1, fun e he => h.2 e (mem_del he)⟩
  · next hv =>
    refine ⟨sortedFrom_ins k v m 0 (Nat.zero_le _) h.1, fun e he => ?_⟩
    rcases mem_ins he with rfl | he
    · exact hv
    · exact h.2 e he

theorem sortedFrom_filter (p : Nat × α → Bool) : ∀ (m : Assoc α) (lo : Nat), sortedFrom lo m = true →
    sortedFrom lo (m.filter p) = true
  | [], _, _ => rfl
  | (k, v) :: m, lo, h => by
    simp only [sortedFrom, Bool.and_eq_true, decide_eq_true_eq] at h
    by_cases hp : p (k, v) = true
    · simp only [List.filter_cons, hp, if_true, sortedFrom, Bool.and_eq_true, decide_eq_true_eq]
      exact ⟨h.1, sortedFrom_filter p m _ h.2⟩
    · simp only [List.filter_cons, hp, Bool.false_eq_true, if_false]
      exact sortedFrom_filter p m lo (sortedFrom_mono (by omega) m h.2)

/-- Removing a range keeps the canonical form. -/
theorem wf_delRange [DecidableEq α] {d : α} {m : Assoc α} (h : wf d m = true) (a b : Nat) : wf d (m.delRange a b) = true := by
  simp only [wf, Bool.and_eq_true, List.all_eq_true, decide_eq_true_eq] at h ⊢
  exact ⟨sortedFrom_filter _ m 0 h.1, fun e he => h.2 e (List.mem_filter.1 he).1⟩

end Assoc

namespace Mem

/-- Writing bytes keeps the canonical form. -/
theorem wf_write {d : Byte} : ∀ (bs : Bytes) {m : Mem} (a : Nat), Assoc.wf d m = true → Assoc.wf d (m.write d a bs) = true
  | [], _, _, h => h
  | _ :: bs, _, a, h => wf_write bs (a + 1) (Assoc.wf_put h a _)

theorem getD_write_below {d : Byte} : ∀ (bs : Bytes) (m : Mem) (a b : Nat), b < a →
    Assoc.getD (m.write d a bs) b d = Assoc.getD m b d
  | [], _, _, _, _ => rfl
  | x :: bs, m, a, b, h => by
    rw [write, getD_write_below bs _ (a + 1) b (by omega), Assoc.getD_put_ne (by omega)]

/-- Bytes outside a written range read as before. -/
theorem getD_write_out {d : Byte} : ∀ (bs : Bytes) (m : Mem) (a b : Nat), b < a ∨ a + bs.length ≤ b →
    Assoc.getD (m.write d a bs) b d = Assoc.getD m b d
  | [], _, _, _, _ => rfl
  | x :: bs, m, a, b, h => by
    simp only [List.length_cons] at h
    rw [write, getD_write_out bs _ (a + 1) b (by omega), Assoc.getD_put_ne (by omega)]

/-- The written bytes read back. -/
theorem read_write {d : Byte} : ∀ (bs : Bytes) (m : Mem) (a : Nat), (m.write d a bs).read d a bs.length = bs
  | [], _, _ => rfl
  | x :: bs, m, a => by
    simp only [List.length_cons, read, write]
    rw [read_write bs _ (a + 1), getD_write_below bs _ (a + 1) a (by omega), Assoc.getD_put_self]

end Mem

end Sys2Proof.Machine
end

