-- ==== Sys2Proof/Laws/Bits.lean ====
section
/-!
SUPPORT. Byte order and fields: what little-endian byte strings spell.
-/

namespace Sys2Proof.Machine

@[simp] theorem length_le (n v : Nat) : (le n v).length = n := by
  induction n generalizing v with
  | zero => rfl
  | succ n ih => simp [le, ih]

/-- A little-endian byte string spells its number, cut to its bytes. -/
theorem fromLe_le (n v : Nat) : fromLe (le n v) = v % 256 ^ n := by
  induction n generalizing v with
  | zero => simp [le, fromLe, Nat.mod_one]
  | succ n ih =>
    have h : v % 256 ^ (n + 1) = v % 256 + 256 * (v / 256 % 256 ^ n) := by rw [Nat.pow_succ, Nat.mul_comm, Nat.mod_mul]
    simp only [le, fromLe, ih, BitVec.toNat_ofNat, h]

theorem drop_le (o n v : Nat) : (le n v).drop o = le (n - o) (v / 256 ^ o) := by
  induction o generalizing n v with
  | zero => simp
  | succ o ih =>
    cases n with
    | zero => simp [le]
    | succ n =>
      simp only [le, List.drop_succ_cons, ih, Nat.div_div_eq_div_mul]
      rw [Nat.pow_succ, Nat.mul_comm 256, Nat.add_sub_add_right]

theorem take_le (k n v : Nat) : (le n v).take k = le (min k n) v := by
  induction k generalizing n v with
  | zero => simp [le]
  | succ k ih =>
    cases n with
    | zero => simp [le]
    | succ n => simp [le, ih, Nat.succ_min_succ]

/-- k bytes from byte `o` of a little-endian number. -/
theorem leAt_le (n v o k : Nat) (h : o + k ≤ n) : leAt (le n v) o k = v / 256 ^ o % 256 ^ k := by
  rw [leAt, drop_le, take_le, fromLe_le, Nat.min_eq_left (by omega)]

end Sys2Proof.Machine
end

