-- ==== Sys2Proof/Laws/Dispatch.lean ====
section
/-!
SUPPORT. What `exec` calls for each command.
-/

namespace Sys2Proof.Machine

theorem exec_registerWrite (d : Nat) (a : Nat) (size : Nat) (x : Nat) (s : State) :
    exec (.registerWrite d a size x) s = execRegisterWrite d a size x s := rfl
theorem exec_decideReplyWrite (d : Nat) (off : Nat) (size : Nat) (v : Nat) (s : State) :
    exec (.decideReplyWrite d off size v) s = execDecideReplyWrite d off size v s := rfl
theorem exec_decideTimeout (d : Nat) (id : Nat) (s : State) :
    exec (.decideTimeout d id) s = execDecideTimeout d id s := rfl
theorem exec_heldRequestPost (d : Nat) (s : State) :
    exec (.heldRequestPost d) s = execHeldRequestPost d s := rfl
theorem exec_funcModeWrite (d : Nat) (f : Nat) (v : Nat) (s : State) :
    exec (.funcModeWrite d f v) s = execFuncModeWrite d f v s := rfl
theorem exec_funcModeSafePoint (d : Nat) (f : Nat) (u : Nat) (s : State) :
    exec (.funcModeSafePoint d f u) s = execFuncModeSafePoint d f u s := rfl
theorem exec_powerOn (d : Nat) (straps : Nat) (cfgHoldN : Nat) (s : State) :
    exec (.powerOn d straps cfgHoldN) s = execPowerOn d straps cfgHoldN s := rfl
theorem exec_supplyOkFall (d : Nat) (s : State) :
    exec (.supplyOkFall d) s = execSupplyOkFall d s := rfl
theorem exec_perstNAssert (d : Nat) (s : State) :
    exec (.perstNAssert d) s = execPerstNAssert d s := rfl
theorem exec_perstNRelease (d : Nat) (cfgHoldN : Nat) (s : State) :
    exec (.perstNRelease d cfgHoldN) s = execPerstNRelease d cfgHoldN s := rfl
theorem exec_timebaseLock (d : Nat) (s : State) :
    exec (.timebaseLock d) s = execTimebaseLock d s := rfl
theorem exec_flashInitDone (d : Nat) (sfdpOk : Bool) (sectors : Nat) (uniform : Bool) (ddrOk : Bool) (s : State) :
    exec (.flashInitDone d sfdpOk sectors uniform ddrOk) s = execFlashInitDone d sfdpOk sectors uniform ddrOk s := rfl
theorem exec_slotSelect (d : Nat) (s : State) :
    exec (.slotSelect d) s = execSlotSelect d s := rfl
theorem exec_candidateVerify (d : Nat) (s : State) :
    exec (.candidateVerify d) s = execCandidateVerify d s := rfl
theorem exec_hbmTrainingDone (d : Nat) (failed : Option Nat) (s : State) :
    exec (.hbmTrainingDone d failed) s = execHbmTrainingDone d failed s := rfl
theorem exec_hostLinkUp (d : Nat) (speed : Nat) (width : Nat) (flit : Bool) (s : State) :
    exec (.hostLinkUp d speed width flit) s = execHostLinkUp d speed width flit s := rfl
theorem exec_kindleApplyDone (d : Nat) (s : State) :
    exec (.kindleApplyDone d) s = execKindleApplyDone d s := rfl
theorem exec_journalRestore (d : Nat) (s : State) :
    exec (.journalRestore d) s = execJournalRestore d s := rfl
theorem exec_kindleReady (d : Nat) (s : State) :
    exec (.kindleReady d) s = execKindleReady d s := rfl
theorem exec_kindleHold (d : Nat) (s : State) :
    exec (.kindleHold d) s = execKindleHold d s := rfl
theorem exec_rekindle (d : Nat) (key : Nat) (s : State) :
    exec (.rekindle d key) s = execRekindle d key s := rfl
theorem exec_finish (d : Nat) (key : Nat) (s : State) :
    exec (.finish d key) s = execFinish d key s := rfl
theorem exec_resourceClaim (d : Nat) (cls : Nat) (idx : Nat) (owner : Nat) (s : State) :
    exec (.resourceClaim d cls idx owner) s = execResourceClaim d cls idx owner s := rfl
theorem exec_resourceRelease (d : Nat) (cls : Nat) (idx : Nat) (owner : Nat) (s : State) :
    exec (.resourceRelease d cls idx owner) s = execResourceRelease d cls idx owner s := rfl
theorem exec_flashRead (d : Nat) (len : Nat) (s : State) :
    exec (.flashRead d len) s = execFlashRead d len s := rfl
theorem exec_flashProgram (d : Nat) (len : Nat) (s : State) :
    exec (.flashProgram d len) s = execFlashProgram d len s := rfl
theorem exec_flashErase (d : Nat) (s : State) :
    exec (.flashErase d) s = execFlashErase d s := rfl
theorem exec_flashArbiterServe (d : Nat) (s : State) :
    exec (.flashArbiterServe d) s = execFlashArbiterServe d s := rfl
theorem exec_flashOpDone (d : Nat) (ok : Bool) (s : State) :
    exec (.flashOpDone d ok) s = execFlashOpDone d ok s := rfl
theorem exec_refLost (d : Nat) (s : State) :
    exec (.refLost d) s = execRefLost d s := rfl
theorem exec_refFrequencyLock (d : Nat) (s : State) :
    exec (.refFrequencyLock d) s = execRefFrequencyLock d s := rfl
theorem exec_refPhaseLock (d : Nat) (s : State) :
    exec (.refPhaseLock d) s = execRefPhaseLock d s := rfl
theorem exec_encoderEdge (d : Nat) (smp : List (Nat × Nat × Nat)) (s : State) :
    exec (.encoderEdge d smp) s = execEncoderEdge d smp s := rfl
theorem exec_encoderIndex (d : Nat) (smp : List (Nat × Nat)) (s : State) :
    exec (.encoderIndex d smp) s = execEncoderIndex d smp s := rfl
theorem exec_axisStall (d : Nat) (a : Nat) (s : State) :
    exec (.axisStall d a) s = execAxisStall d a s := rfl
theorem exec_axisResume (d : Nat) (a : Nat) (s : State) :
    exec (.axisResume d a) s = execAxisResume d a s := rfl
theorem exec_useRedundant (d : Nat) (a : Nat) (s : State) :
    exec (.useRedundant d a) s = execUseRedundant d a s := rfl
theorem exec_usePrimary (d : Nat) (a : Nat) (s : State) :
    exec (.usePrimary d a) s = execUsePrimary d a s := rfl
theorem exec_generatorArm (d : Nat) (k : GenKind) (g : Nat) (s : State) :
    exec (.generatorArm d k g) s = execGeneratorArm d k g s := rfl
theorem exec_generatorDisarm (d : Nat) (k : GenKind) (g : Nat) (s : State) :
    exec (.generatorDisarm d k g) s = execGeneratorDisarm d k g s := rfl
theorem exec_generatorFlush (d : Nat) (k : GenKind) (g : Nat) (s : State) :
    exec (.generatorFlush d k g) s = execGeneratorFlush d k g s := rfl
theorem exec_targetCrossing (d : Nat) (k : GenKind) (g : Nat) (s : State) :
    exec (.targetCrossing d k g) s = execTargetCrossing d k g s := rfl
theorem exec_triggerIssue (d : Nat) (g : Nat) (wait : Nat) (s : State) :
    exec (.triggerIssue d g wait) s = execTriggerIssue d g wait s := rfl
theorem exec_pinPulseIssue (d : Nat) (p : Nat) (s : State) :
    exec (.pinPulseIssue d p) s = execPinPulseIssue d p s := rfl
theorem exec_pinPulseEnd (d : Nat) (p : Nat) (s : State) :
    exec (.pinPulseEnd d p) s = execPinPulseEnd d p s := rfl
theorem exec_firePointIssue (d : Nat) (c : Nat) (s : State) :
    exec (.firePointIssue d c) s = execFirePointIssue d c s := rfl
theorem exec_ledgerFirstBlockNotice (d : Nat) (idx : Nat) (s : State) :
    exec (.ledgerFirstBlockNotice d idx) s = execLedgerFirstBlockNotice d idx s := rfl
theorem exec_ledgerFrameTagNotice (d : Nat) (idx : Nat) (s : State) :
    exec (.ledgerFrameTagNotice d idx) s = execLedgerFrameTagNotice d idx s := rfl
theorem exec_firstBlockTimeout (d : Nat) (idx : Nat) (s : State) :
    exec (.firstBlockTimeout d idx) s = execFirstBlockTimeout d idx s := rfl
theorem exec_frameTimeout (d : Nat) (idx : Nat) (s : State) :
    exec (.frameTimeout d idx) s = execFrameTimeout d idx s := rfl
theorem exec_ledgerSelWrite (d : Nat) (index : Nat) (s : State) :
    exec (.ledgerSelWrite d index) s = execLedgerSelWrite d index s := rfl
theorem exec_exposeAckApply (d : Nat) (h : Nat) (s : State) :
    exec (.exposeAckApply d h) s = execExposeAckApply d h s := rfl
theorem exec_laneEnable (d : Nat) (k : Nat) (s : State) :
    exec (.laneEnable d k) s = execLaneEnable d k s := rfl
theorem exec_signalDetect (d : Nat) (k : Nat) (s : State) :
    exec (.signalDetect d k) s = execSignalDetect d k s := rfl
theorem exec_cdrLock (d : Nat) (k : Nat) (s : State) :
    exec (.cdrLock d k) s = execCdrLock d k s := rfl
theorem exec_blockLock (d : Nat) (k : Nat) (s : State) :
    exec (.blockLock d k) s = execBlockLock d k s := rfl
theorem exec_laneBlockReceive (d : Nat) (k : Nat) (hdr : Nat) (payload : Nat) (s : State) :
    exec (.laneBlockReceive d k hdr payload) s = execLaneBlockReceive d k hdr payload s := rfl
theorem exec_lockWindowLoss (d : Nat) (k : Nat) (s : State) :
    exec (.lockWindowLoss d k) s = execLockWindowLoss d k s := rfl
theorem exec_lossOfSignal (d : Nat) (k : Nat) (s : State) :
    exec (.lossOfSignal d k) s = execLossOfSignal d k s := rfl
theorem exec_trainTimeout (d : Nat) (k : Nat) (s : State) :
    exec (.trainTimeout d k) s = execTrainTimeout d k s := rfl
theorem exec_lockTimeout (d : Nat) (k : Nat) (s : State) :
    exec (.lockTimeout d k) s = execLockTimeout d k s := rfl
theorem exec_capsTimeout (d : Nat) (k : Nat) (s : State) :
    exec (.capsTimeout d k) s = execCapsTimeout d k s := rfl
theorem exec_relockTimeout (d : Nat) (k : Nat) (s : State) :
    exec (.relockTimeout d k) s = execRelockTimeout d k s := rfl
theorem exec_exitDetect (d : Nat) (k : Nat) (s : State) :
    exec (.exitDetect d k) s = execExitDetect d k s := rfl
theorem exec_exitFail (d : Nat) (k : Nat) (s : State) :
    exec (.exitFail d k) s = execExitFail d k s := rfl
theorem exec_txExit (d : Nat) (k : Nat) (s : State) :
    exec (.txExit d k) s = execTxExit d k s := rfl
theorem exec_fomMeasure (d : Nat) (k : Nat) (v : Nat) (h : Nat) (s : State) :
    exec (.fomMeasure d k v h) s = execFomMeasure d k v h s := rfl
theorem exec_trimDecision (d : Nat) (k : Nat) (ctle : Nat) (dfe : Nat) (s : State) :
    exec (.trimDecision d k ctle dfe) s = execTrimDecision d k ctle dfe s := rfl
theorem exec_trimFreeze (d : Nat) (k : Nat) (s : State) :
    exec (.trimFreeze d k) s = execTrimFreeze d k s := rfl
theorem exec_retrain (d : Nat) (k : Nat) (s : State) :
    exec (.retrain d k) s = execRetrain d k s := rfl
theorem exec_laneClearCounts (d : Nat) (k : Nat) (s : State) :
    exec (.laneClearCounts d k) s = execLaneClearCounts d k s := rfl
theorem exec_testEnter (d : Nat) (k : Nat) (v : Nat) (s : State) :
    exec (.testEnter d k v) s = execTestEnter d k v s := rfl
theorem exec_testExit (d : Nat) (k : Nat) (v : Nat) (s : State) :
    exec (.testExit d k v) s = execTestExit d k v s := rfl
theorem exec_injectFire (d : Nat) (k : Nat) (v : Nat) (s : State) :
    exec (.injectFire d k v) s = execInjectFire d k v s := rfl
theorem exec_injectRepeat (d : Nat) (k : Nat) (s : State) :
    exec (.injectRepeat d k) s = execInjectRepeat d k s := rfl
theorem exec_spareListenStart (d : Nat) (g : Nat) (s : State) :
    exec (.spareListenStart d g) s = execSpareListenStart d g s := rfl
theorem exec_spareSwitch (d : Nat) (g : Nat) (s : State) :
    exec (.spareSwitch d g) s = execSpareSwitch d g s := rfl
theorem exec_spareLossTakeover (d : Nat) (g : Nat) (s : State) :
    exec (.spareLossTakeover d g) s = execSpareLossTakeover d g s := rfl
theorem exec_suspectTestDone (d : Nat) (g : Nat) (errs : Nat) (s : State) :
    exec (.suspectTestDone d g errs) s = execSuspectTestDone d g errs s := rfl
theorem exec_lgrpSubstitute (d : Nat) (g : Nat) (pad : Nat) (s : State) :
    exec (.lgrpSubstitute d g pad) s = execLgrpSubstitute d g pad s := rfl
theorem exec_lgrpAbandon (d : Nat) (g : Nat) (s : State) :
    exec (.lgrpAbandon d g) s = execLgrpAbandon d g s := rfl
theorem exec_markerSetReceive (d : Nat) (p : Nat) (s : State) :
    exec (.markerSetReceive d p) s = execMarkerSetReceive d p s := rfl
theorem exec_alignTimeout (d : Nat) (p : Nat) (s : State) :
    exec (.alignTimeout d p) s = execAlignTimeout d p s := rfl
theorem exec_linkResetDeferred (d : Nat) (p : Nat) (s : State) :
    exec (.linkResetDeferred d p) s = execLinkResetDeferred d p s := rfl
theorem exec_capsReqSend (d : Nat) (l : Nat) (s : State) :
    exec (.capsReqSend d l) s = execCapsReqSend d l s := rfl
theorem exec_capsReceive (d : Nat) (q : Nat) (s : State) :
    exec (.capsReceive d q) s = execCapsReceive d q s := rfl
theorem exec_frameStart (d : Nat) (p : Nat) (bad : Nat) (s : State) :
    exec (.frameStart d p bad) s = execFrameStart d p bad s := rfl
theorem exec_frameEnd (d : Nat) (p : Nat) (power : Nat) (bad : Nat) (s : State) :
    exec (.frameEnd d p power bad) s = execFrameEnd d p power bad s := rfl
theorem exec_imagePacket (d : Nat) (p : Nat) (bad : Nat) (s : State) :
    exec (.imagePacket d p bad) s = execImagePacket d p bad s := rfl
theorem exec_billetIdleTimeout (d : Nat) (h : Nat) (s : State) :
    exec (.billetIdleTimeout d h) s = execBilletIdleTimeout d h s := rfl
theorem exec_rspReceive (d : Nat) (p : Nat) (s : State) :
    exec (.rspReceive d p) s = execRspReceive d p s := rfl
theorem exec_cmdTimeout (d : Nat) (p : Nat) (tag : Nat) (s : State) :
    exec (.cmdTimeout d p tag) s = execCmdTimeout d p tag s := rfl
theorem exec_eventReceive (d : Nat) (p : Nat) (s : State) :
    exec (.eventReceive d p) s = execEventReceive d p s := rfl
theorem exec_heartbeatReceive (d : Nat) (p : Nat) (s : State) :
    exec (.heartbeatReceive d p) s = execHeartbeatReceive d p s := rfl
theorem exec_heartbeatTimeout (d : Nat) (p : Nat) (s : State) :
    exec (.heartbeatTimeout d p) s = execHeartbeatTimeout d p s := rfl
theorem exec_heartbeatSend (d : Nat) (p : Nat) (s : State) :
    exec (.heartbeatSend d p) s = execHeartbeatSend d p s := rfl
theorem exec_cmdRead (d : Nat) (p : Nat) (len : Nat) (addr : Nat) (s : State) :
    exec (.cmdRead d p len addr) s = execCmdRead d p len addr s := rfl
theorem exec_cmdWrite (d : Nat) (p : Nat) (len : Nat) (addr : Nat) (s : State) :
    exec (.cmdWrite d p len addr) s = execCmdWrite d p len addr s := rfl
theorem exec_cmdEidleDown (d : Nat) (p : Nat) (s : State) :
    exec (.cmdEidleDown d p) s = execCmdEidleDown d p s := rfl
theorem exec_cmdWakeDown (d : Nat) (p : Nat) (s : State) :
    exec (.cmdWakeDown d p) s = execCmdWakeDown d p s := rfl
theorem exec_cmdCapsRead (d : Nat) (p : Nat) (s : State) :
    exec (.cmdCapsRead d p) s = execCmdCapsRead d p s := rfl
theorem exec_cmdLinkReset (d : Nat) (p : Nat) (s : State) :
    exec (.cmdLinkReset d p) s = execCmdLinkReset d p s := rfl
theorem exec_cmdCameraPrivate (d : Nat) (p : Nat) (op : Nat) (len : Nat) (addr : Nat) (s : State) :
    exec (.cmdCameraPrivate d p op len addr) s = execCmdCameraPrivate d p op len addr s := rfl
theorem exec_cobexLinkReset (d : Nat) (p : Nat) (s : State) :
    exec (.cobexLinkReset d p) s = execCobexLinkReset d p s := rfl
theorem exec_cobexClearCounts (d : Nat) (p : Nat) (s : State) :
    exec (.cobexClearCounts d p) s = execCobexClearCounts d p s := rfl
theorem exec_tableSwap (d : Nat) (n : Nat) (s : State) :
    exec (.tableSwap d n) s = execTableSwap d n s := rfl
theorem exec_markSetNow (d : Nat) (n : Nat) (m : Nat) (st : Nat) (s : State) :
    exec (.markSetNow d n m st) s = execMarkSetNow d n m st s := rfl
theorem exec_markSetNextFrame (d : Nat) (n : Nat) (m : Nat) (st : Nat) (s : State) :
    exec (.markSetNextFrame d n m st) s = execMarkSetNextFrame d n m st s := rfl
theorem exec_markClear (d : Nat) (n : Nat) (m : Nat) (s : State) :
    exec (.markClear d n m) s = execMarkClear d n m s := rfl
theorem exec_rewind (d : Nat) (n : Nat) (m : Nat) (s : State) :
    exec (.rewind d n m) s = execRewind d n m s := rfl
theorem exec_hearthClearCounts (d : Nat) (n : Nat) (s : State) :
    exec (.hearthClearCounts d n) s = execHearthClearCounts d n s := rfl
theorem exec_exposureOrder (d : Nat) (n : Nat) (value : Nat) (s : State) :
    exec (.exposureOrder d n value) s = execExposureOrder d n value s := rfl
theorem exec_billetStart (d : Nat) (s : State) :
    exec (.billetStart d) s = execBilletStart d s := rfl
theorem exec_billetCompareEnd (d : Nat) (t : Nat) (s : State) :
    exec (.billetCompareEnd d t) s = execBilletCompareEnd d t s := rfl
theorem exec_evidenceMessage (d : Nat) (c : Nat) (i : Nat) (s : State) :
    exec (.evidenceMessage d c i) s = execEvidenceMessage d c i s := rfl
theorem exec_billetAbandon (d : Nat) (i : Nat) (s : State) :
    exec (.billetAbandon d i) s = execBilletAbandon d i s := rfl
theorem exec_modelCommit (d : Nat) (p : Nat) (s : State) :
    exec (.modelCommit d p) s = execModelCommit d p s := rfl
theorem exec_compareDisable (d : Nat) (h : Nat) (s : State) :
    exec (.compareDisable d h) s = execCompareDisable d h s := rfl
theorem exec_anvilClearCounts (d : Nat) (s : State) :
    exec (.anvilClearCounts d) s = execAnvilClearCounts d s := rfl
theorem exec_latchLoadBegin (d : Nat) (c : Nat) (bad : List Nat) (s : State) :
    exec (.latchLoadBegin d c bad) s = execLatchLoadBegin d c bad s := rfl
theorem exec_latchPulseEnd (d : Nat) (c : Nat) (s : State) :
    exec (.latchPulseEnd d c) s = execLatchPulseEnd d c s := rfl
theorem exec_dotLineCommit (d : Nat) (c : Nat) (s : State) :
    exec (.dotLineCommit d c) s = execDotLineCommit d c s := rfl
theorem exec_headHotAccept (d : Nat) (c : Nat) (s : State) :
    exec (.headHotAccept d c) s = execHeadHotAccept d c s := rfl
theorem exec_headCoolAccept (d : Nat) (c : Nat) (s : State) :
    exec (.headCoolAccept d c) s = execHeadCoolAccept d c s := rfl
theorem exec_resumeDelayExpiry (d : Nat) (g : Nat) (s : State) :
    exec (.resumeDelayExpiry d g) s = execResumeDelayExpiry d g s := rfl
theorem exec_hgrpResume (d : Nat) (g : Nat) (s : State) :
    exec (.hgrpResume d g) s = execHgrpResume d g s := rfl
theorem exec_hammerFlush (d : Nat) (c : Nat) (s : State) :
    exec (.hammerFlush d c) s = execHammerFlush d c s := rfl
theorem exec_hammerClearCounts (d : Nat) (c : Nat) (s : State) :
    exec (.hammerClearCounts d c) s = execHammerClearCounts d c s := rfl
theorem exec_contextWrite (d : Nat) (c : Nat) (n : Nat) (size : Nat) (v : Nat) (s : State) :
    exec (.contextWrite d c n size v) s = execContextWrite d c n size v s := rfl
theorem exec_holdSweep (d : Nat) (c : Nat) (n : Nat) (s : State) :
    exec (.holdSweep d c n) s = execHoldSweep d c n s := rfl
theorem exec_headReset (d : Nat) (c : Nat) (tag : Nat) (s : State) :
    exec (.headReset d c tag) s = execHeadReset d c tag s := rfl
theorem exec_snapshot (d : Nat) (c : Nat) (s : State) :
    exec (.snapshot d c) s = execSnapshot d c s := rfl
theorem exec_snapshotPeriodic (d : Nat) (s : State) :
    exec (.snapshotPeriodic d) s = execSnapshotPeriodic d s := rfl
theorem exec_nctxClearCounts (d : Nat) (c : Nat) (s : State) :
    exec (.nctxClearCounts d c) s = execNctxClearCounts d c s := rfl
theorem exec_tempSample (d : Nat) (readings : List Nat) (s : State) :
    exec (.tempSample d readings) s = execTempSample d readings s := rfl
theorem exec_budgetGuard (d : Nat) (act : Nat) (pTile : Nat) (toks : List Nat) (s : State) :
    exec (.budgetGuard d act pTile toks) s = execBudgetGuard d act pTile toks s := rfl
theorem exec_telemetryRead (d : Nat) (s : State) :
    exec (.telemetryRead d) s = execTelemetryRead d s := rfl
theorem exec_bellowsEpoch (d : Nat) (toks : List Nat) (s : State) :
    exec (.bellowsEpoch d toks) s = execBellowsEpoch d toks s := rfl
theorem exec_railWrite (d : Nat) (k : Nat) (x : Nat) (s : State) :
    exec (.railWrite d k x) s = execRailWrite d k x s := rfl
theorem exec_bankEntry (d : Nat) (dom : Nat) (s : State) :
    exec (.bankEntry d dom) s = execBankEntry d dom s := rfl
theorem exec_bankExit (d : Nat) (dom : Nat) (s : State) :
    exec (.bankExit d dom) s = execBankExit d dom s := rfl
theorem exec_bankExitDone (d : Nat) (dom : Nat) (s : State) :
    exec (.bankExitDone d dom) s = execBankExitDone d dom s := rfl
theorem exec_wakeNsWrite (d : Nat) (k : Nat) (v : Nat) (s : State) :
    exec (.wakeNsWrite d k v) s = execWakeNsWrite d k v s := rfl
theorem exec_bondIdleEntry (d : Nat) (p : Nat) (s : State) :
    exec (.bondIdleEntry d p) s = execBondIdleEntry d p s := rfl
theorem exec_blwClearPeaks (d : Nat) (s : State) :
    exec (.blwClearPeaks d) s = execBlwClearPeaks d s := rfl
theorem exec_blwClearCounts (d : Nat) (s : State) :
    exec (.blwClearCounts d) s = execBlwClearCounts d s := rfl
theorem exec_recordPush (d : Nat) (t : Nat) (source : Nat) (data : Bytes) (s : State) :
    exec (.recordPush d t source data) s = execRecordPush d t source data s := rfl
theorem exec_recordCommit (d : Nat) (t : Nat) (i : Nat) (s : State) :
    exec (.recordCommit d t i) s = execRecordCommit d t i s := rfl
theorem exec_unitPop (d : Nat) (ch : Nat) (bad : Option Nat) (tagBad : Bool) (s : State) :
    exec (.unitPop d ch bad tagBad) s = execUnitPop d ch bad tagBad s := rfl
theorem exec_troughFlush (d : Nat) (t : Nat) (s : State) :
    exec (.troughFlush d t) s = execTroughFlush d t s := rfl
theorem exec_troughMark (d : Nat) (t : Nat) (s : State) :
    exec (.troughMark d t) s = execTroughMark d t s := rfl
theorem exec_troughInject (d : Nat) (t : Nat) (s : State) :
    exec (.troughInject d t) s = execTroughInject d t s := rfl
theorem exec_troughClearCounts (d : Nat) (t : Nat) (s : State) :
    exec (.troughClearCounts d t) s = execTroughClearCounts d t s := rfl
theorem exec_watermarkWrite (d : Nat) (t : Nat) (v : Nat) (s : State) :
    exec (.watermarkWrite d t v) s = execWatermarkWrite d t v s := rfl
theorem exec_channelEnable (d : Nat) (ch : Nat) (s : State) :
    exec (.channelEnable d ch) s = execChannelEnable d ch s := rfl
theorem exec_channelDisable (d : Nat) (ch : Nat) (s : State) :
    exec (.channelDisable d ch) s = execChannelDisable d ch s := rfl
theorem exec_drainComplete (d : Nat) (ch : Nat) (s : State) :
    exec (.drainComplete d ch) s = execDrainComplete d ch s := rfl
theorem exec_doorbell (d : Nat) (ch : Nat) (s : State) :
    exec (.doorbell d ch) s = execDoorbell d ch s := rfl
theorem exec_descriptorFetch (d : Nat) (ch : Nat) (s : State) :
    exec (.descriptorFetch d ch) s = execDescriptorFetch d ch s := rfl
theorem exec_linkRefetch (d : Nat) (ch : Nat) (s : State) :
    exec (.linkRefetch d ch) s = execLinkRefetch d ch s := rfl
theorem exec_tagGrant (d : Nat) (s : State) :
    exec (.tagGrant d) s = execTagGrant d s := rfl
theorem exec_streamLineDeliver (d : Nat) (ch : Nat) (s : State) :
    exec (.streamLineDeliver d ch) s = execStreamLineDeliver d ch s := rfl
theorem exec_troughRecordDeliver (d : Nat) (ch : Nat) (s : State) :
    exec (.troughRecordDeliver d ch) s = execTroughRecordDeliver d ch s := rfl
theorem exec_bufferCloseTimeout (d : Nat) (ch : Nat) (s : State) :
    exec (.bufferCloseTimeout d ch) s = execBufferCloseTimeout d ch s := rfl
theorem exec_pacingHoldExpiry (d : Nat) (t : Nat) (s : State) :
    exec (.pacingHoldExpiry d t) s = execPacingHoldExpiry d t s := rfl
theorem exec_dotSlotWaitEnd (d : Nat) (ch : Nat) (s : State) :
    exec (.dotSlotWaitEnd d ch) s = execDotSlotWaitEnd d ch s := rfl
theorem exec_cqReturn (d : Nat) (ch : Nat) (rd : Nat) (s : State) :
    exec (.cqReturn d ch rd) s = execCqReturn d ch rd s := rfl
theorem exec_cqCfgWrite (d : Nat) (ch : Nat) (v : Nat) (s : State) :
    exec (.cqCfgWrite d ch v) s = execCqCfgWrite d ch v s := rfl
theorem exec_tongsClearCounts (d : Nat) (ch : Nat) (s : State) :
    exec (.tongsClearCounts d ch) s = execTongsClearCounts d ch s := rfl
theorem exec_completionReceive (d : Nat) (tag : Nat) (data : Bytes) (status : Nat) (poisoned : Bool) (last : Bool) (s : State) :
    exec (.completionReceive d tag data status poisoned last) s = execCompletionReceive d tag data status poisoned last s := rfl
theorem exec_completionTimeout (d : Nat) (tag : Nat) (s : State) :
    exec (.completionTimeout d tag) s = execCompletionTimeout d tag s := rfl
theorem exec_quarantineExpiry (d : Nat) (tag : Nat) (s : State) :
    exec (.quarantineExpiry d tag) s = execQuarantineExpiry d tag s := rfl
theorem exec_bar0BadRequest (d : Nat) (isRead : Bool) (addr : Nat) (size : Nat) (whole : Bool) (s : State) :
    exec (.bar0BadRequest d isRead addr size whole) s = execBar0BadRequest d isRead addr size whole s := rfl
theorem exec_bar2Request (d : Nat) (isRead : Bool) (off : Nat) (len : Nat) (data : Bytes) (poisoned : Bool) (ns : Nat) (s : State) :
    exec (.bar2Request d isRead off len data poisoned ns) s = execBar2Request d isRead off len data poisoned ns s := rfl
theorem exec_bar4Request (d : Nat) (isRead : Bool) (off : Nat) (size : Nat) (v : Nat) (whole : Bool) (s : State) :
    exec (.bar4Request d isRead off size v whole) s = execBar4Request d isRead off size v whole s := rfl
theorem exec_unsupportedRequestReceive (d : Nat) (posted : Bool) (s : State) :
    exec (.unsupportedRequestReceive d posted) s = execUnsupportedRequestReceive d posted s := rfl
theorem exec_hostPortError (d : Nat) (kind : Nat) (hdr : Bytes) (s : State) :
    exec (.hostPortError d kind hdr) s = execHostPortError d kind hdr s := rfl
theorem exec_apertureCommit (d : Nat) (a : Nat) (s : State) :
    exec (.apertureCommit d a) s = execApertureCommit d a s := rfl
theorem exec_hotReset (d : Nat) (s : State) :
    exec (.hotReset d) s = execHotReset d s := rfl
theorem exec_linkDown (d : Nat) (s : State) :
    exec (.linkDown d) s = execLinkDown d s := rfl
theorem exec_functionLevelReset (d : Nat) (s : State) :
    exec (.functionLevelReset d) s = execFunctionLevelReset d s := rfl
theorem exec_d3hotEntry (d : Nat) (s : State) :
    exec (.d3hotEntry d) s = execD3hotEntry d s := rfl
theorem exec_d0Return (d : Nat) (s : State) :
    exec (.d0Return d) s = execD0Return d s := rfl
theorem exec_l0pEntry (d : Nat) (width : Nat) (s : State) :
    exec (.l0pEntry d width) s = execL0pEntry d width s := rfl
theorem exec_l1Entry (d : Nat) (s : State) :
    exec (.l1Entry d) s = execL1Entry d s := rfl
theorem exec_linkPmExit (d : Nat) (s : State) :
    exec (.linkPmExit d) s = execLinkPmExit d s := rfl
theorem exec_ltrUsWrite (d : Nat) (us : Nat) (s : State) :
    exec (.ltrUsWrite d us) s = execLtrUsWrite d us s := rfl
theorem exec_quenchEnter (d : Nat) (s : State) :
    exec (.quenchEnter d) s = execQuenchEnter d s := rfl
theorem exec_quenchClearHost (d : Nat) (s : State) :
    exec (.quenchClearHost d) s = execQuenchClearHost d s := rfl
theorem exec_quenchClearCto (d : Nat) (s : State) :
    exec (.quenchClearCto d) s = execQuenchClearCto d s := rfl
theorem exec_quenchAsk (d : Nat) (s : State) :
    exec (.quenchAsk d) s = execQuenchAsk d s := rfl
theorem exec_aerStatusClear (d : Nat) (unc : Nat) (cor : Nat) (s : State) :
    exec (.aerStatusClear d unc cor) s = execAerStatusClear d unc cor s := rfl
theorem exec_quenchRelease (d : Nat) (s : State) :
    exec (.quenchRelease d) s = execQuenchRelease d s := rfl
theorem exec_quenchReleaseDelayExpiry (d : Nat) (s : State) :
    exec (.quenchReleaseDelayExpiry d) s = execQuenchReleaseDelayExpiry d s := rfl
theorem exec_hepClearCounts (d : Nat) (s : State) :
    exec (.hepClearCounts d) s = execHepClearCounts d s := rfl
theorem exec_msixSrcWrite (d : Nat) (v : Nat) (x : Nat) (s : State) :
    exec (.msixSrcWrite d v x) s = execMsixSrcWrite d v x s := rfl
theorem exec_vectorUnmask (d : Nat) (v : Option Nat) (s : State) :
    exec (.vectorUnmask d v) s = execVectorUnmask d v s := rfl
theorem exec_moderationExpiry (d : Nat) (v : Nat) (s : State) :
    exec (.moderationExpiry d v) s = execModerationExpiry d v s := rfl
theorem exec_channelEvent (d : Nat) (ch : Nat) (s : State) :
    exec (.channelEvent d ch) s = execChannelEvent d ch s := rfl
theorem exec_loopWindowEnd (d : Nat) (s : State) :
    exec (.loopWindowEnd d) s = execLoopWindowEnd d s := rfl
theorem exec_loopClear (d : Nat) (ch : Nat) (s : State) :
    exec (.loopClear d ch) s = execLoopClear d ch s := rfl
theorem exec_cellFilterExpiry (d : Nat) (k : Nat) (s : State) :
    exec (.cellFilterExpiry d k) s = execCellFilterExpiry d k s := rfl
theorem exec_gpioInputEdge (d : Nat) (n : Nat) (level : Nat) (s : State) :
    exec (.gpioInputEdge d n level) s = execGpioInputEdge d n level s := rfl
theorem exec_gpioPulseEnd (d : Nat) (n : Nat) (s : State) :
    exec (.gpioPulseEnd d n) s = execGpioPulseEnd d n s := rfl
theorem exec_softwareEvent (d : Nat) (ch : Nat) (s : State) :
    exec (.softwareEvent d ch) s = execSoftwareEvent d ch s := rfl
theorem exec_softwareTask (d : Nat) (k : Nat) (s : State) :
    exec (.softwareTask d k) s = execSoftwareTask d k s := rfl
theorem exec_cellConfigWrite (d : Nat) (isCell : Bool) (i : Nat) (v : Nat) (s : State) :
    exec (.cellConfigWrite d isCell i v) s = execCellConfigWrite d isCell i v s := rfl
theorem exec_stkClearCounts (d : Nat) (s : State) :
    exec (.stkClearCounts d) s = execStkClearCounts d s := rfl
theorem exec_smbStatus (d : Nat) (s : State) :
    exec (.smbStatus d) s = execSmbStatus d s := rfl
theorem exec_smbIdent (d : Nat) (s : State) :
    exec (.smbIdent d) s = execSmbIdent d s := rfl
theorem exec_smbTemp (d : Nat) (s : State) :
    exec (.smbTemp d) s = execSmbTemp d s := rfl
theorem exec_smbPower (d : Nat) (s : State) :
    exec (.smbPower d) s = execSmbPower d s := rfl
theorem exec_smbAlertSrc (d : Nat) (s : State) :
    exec (.smbAlertSrc d) s = execSmbAlertSrc d s := rfl
theorem exec_smbAlertClr (d : Nat) (v : Nat) (pec : Pec) (s : State) :
    exec (.smbAlertClr d v pec) s = execSmbAlertClr d v pec s := rfl
theorem exec_smbUnlock (d : Nat) (key : Nat) (pec : Pec) (s : State) :
    exec (.smbUnlock d key pec) s = execSmbUnlock d key pec s := rfl
theorem exec_smbLock (d : Nat) (pec : Pec) (s : State) :
    exec (.smbLock d pec) s = execSmbLock d pec s := rfl
theorem exec_smbPage (d : Nat) (u : Nat) (v : Option Nat) (pec : Pec) (s : State) :
    exec (.smbPage d u v pec) s = execSmbPage d u v pec s := rfl
theorem exec_smbPtr (d : Nat) (u : Nat) (v : Option Nat) (pec : Pec) (s : State) :
    exec (.smbPtr d u v pec) s = execSmbPtr d u v pec s := rfl
theorem exec_smbLen (d : Nat) (u : Nat) (v : Option Nat) (pec : Pec) (s : State) :
    exec (.smbLen d u v pec) s = execSmbLen d u v pec s := rfl
theorem exec_smbDataRead (d : Nat) (u : Nat) (late : Bool) (s : State) :
    exec (.smbDataRead d u late) s = execSmbDataRead d u late s := rfl
theorem exec_smbDataWrite (d : Nat) (u : Nat) (count : Nat) (data : Bytes) (pec : Pec) (s : State) :
    exec (.smbDataWrite d u count data pec) s = execSmbDataWrite d u count data pec s := rfl
theorem exec_smbData8Read (d : Nat) (u : Nat) (late : Bool) (s : State) :
    exec (.smbData8Read d u late) s = execSmbData8Read d u late s := rfl
theorem exec_smbData8Write (d : Nat) (u : Nat) (v : Nat) (pec : Pec) (s : State) :
    exec (.smbData8Write d u v pec) s = execSmbData8Write d u v pec s := rfl
theorem exec_smbFetchComplete (d : Nat) (s : State) :
    exec (.smbFetchComplete d) s = execSmbFetchComplete d s := rfl
theorem exec_smbHeldDataExpiry (d : Nat) (s : State) :
    exec (.smbHeldDataExpiry d) s = execSmbHeldDataExpiry d s := rfl
theorem exec_regsWriteApplied (d : Nat) (s : State) :
    exec (.regsWriteApplied d) s = execRegsWriteApplied d s := rfl
theorem exec_alertResponse (d : Nat) (won : Bool) (s : State) :
    exec (.alertResponse d won) s = execAlertResponse d won s := rfl
theorem exec_sessionTimeout (d : Nat) (s : State) :
    exec (.sessionTimeout d) s = execSessionTimeout d s := rfl
theorem exec_unlockLockoutEnd (d : Nat) (s : State) :
    exec (.unlockLockoutEnd d) s = execUnlockLockoutEnd d s := rfl
theorem exec_smbTargetTimeout (d : Nat) (s : State) :
    exec (.smbTargetTimeout d) s = execSmbTargetTimeout d s := rfl
theorem exec_smbProtocolError (d : Nat) (s : State) :
    exec (.smbProtocolError d) s = execSmbProtocolError d s := rfl
theorem exec_smbcSendByte (d : Nat) (p : Nat) (x : SmbcArg) (s : State) :
    exec (.smbcSendByte d p x) s = execSmbcSendByte d p x s := rfl
theorem exec_smbcWriteByte (d : Nat) (p : Nat) (x : SmbcArg) (s : State) :
    exec (.smbcWriteByte d p x) s = execSmbcWriteByte d p x s := rfl
theorem exec_smbcWriteWord (d : Nat) (p : Nat) (x : SmbcArg) (s : State) :
    exec (.smbcWriteWord d p x) s = execSmbcWriteWord d p x s := rfl
theorem exec_smbcReadByte (d : Nat) (p : Nat) (x : SmbcArg) (s : State) :
    exec (.smbcReadByte d p x) s = execSmbcReadByte d p x s := rfl
theorem exec_smbcReadWord (d : Nat) (p : Nat) (x : SmbcArg) (s : State) :
    exec (.smbcReadWord d p x) s = execSmbcReadWord d p x s := rfl
theorem exec_smbcBlockWrite (d : Nat) (p : Nat) (x : SmbcArg) (s : State) :
    exec (.smbcBlockWrite d p x) s = execSmbcBlockWrite d p x s := rfl
theorem exec_smbcBlockRead (d : Nat) (p : Nat) (x : SmbcArg) (s : State) :
    exec (.smbcBlockRead d p x) s = execSmbcBlockRead d p x s := rfl
theorem exec_smbcFixedWrite (d : Nat) (p : Nat) (x : SmbcArg) (s : State) :
    exec (.smbcFixedWrite d p x) s = execSmbcFixedWrite d p x s := rfl
theorem exec_smbcFixedRead (d : Nat) (p : Nat) (x : SmbcArg) (s : State) :
    exec (.smbcFixedRead d p x) s = execSmbcFixedRead d p x s := rfl
theorem exec_smbcComplete (d : Nat) (p : Nat) (status : Nat) (data : Bytes) (s : State) :
    exec (.smbcComplete d p status data) s = execSmbcComplete d p status data s := rfl
theorem exec_smbcArbRetry (d : Nat) (p : Nat) (s : State) :
    exec (.smbcArbRetry d p) s = execSmbcArbRetry d p s := rfl
theorem exec_smbcAddrRetry (d : Nat) (p : Nat) (s : State) :
    exec (.smbcAddrRetry d p) s = execSmbcAddrRetry d p s := rfl
theorem exec_smbcTimeout (d : Nat) (p : Nat) (s : State) :
    exec (.smbcTimeout d p) s = execSmbcTimeout d p s := rfl
theorem exec_smbcProtocolStop (d : Nat) (p : Nat) (s : State) :
    exec (.smbcProtocolStop d p) s = execSmbcProtocolStop d p s := rfl
theorem exec_smbcClearCounts (d : Nat) (p : Nat) (s : State) :
    exec (.smbcClearCounts d p) s = execSmbcClearCounts d p s := rfl
theorem exec_smbTClearCounts (d : Nat) (s : State) :
    exec (.smbTClearCounts d) s = execSmbTClearCounts d s := rfl
theorem exec_unitFault (d : Nat) (cls : Nat) (n : Nat) (err : Nat) (s : State) :
    exec (.unitFault d cls n err) s = execUnitFault d cls n err s := rfl
theorem exec_weldSubstitute (d : Nat) (cls : Nat) (l : Nat) (s : State) :
    exec (.weldSubstitute d cls l) s = execWeldSubstitute d cls l s := rfl
theorem exec_weldForce (d : Nat) (cls : Nat) (l : Nat) (s : State) :
    exec (.weldForce d cls l) s = execWeldForce d cls l s := rfl
theorem exec_weldReturn (d : Nat) (cls : Nat) (n : Nat) (s : State) :
    exec (.weldReturn d cls n) s = execWeldReturn d cls n s := rfl
theorem exec_weldClearSuspect (d : Nat) (cls : Nat) (l : Nat) (s : State) :
    exec (.weldClearSuspect d cls l) s = execWeldClearSuspect d cls l s := rfl
theorem exec_weldTestSpare (d : Nat) (cls : Nat) (n : Nat) (s : State) :
    exec (.weldTestSpare d cls n) s = execWeldTestSpare d cls n s := rfl
theorem exec_spareTestDone (d : Nat) (cls : Nat) (c : Nat) (k : Nat) (pass : Bool) (repaired : Bool) (s : State) :
    exec (.spareTestDone d cls c k pass repaired) s = execSpareTestDone d cls c k pass repaired s := rfl
theorem exec_spareTestPeriodic (d : Nat) (s : State) :
    exec (.spareTestPeriodic d) s = execSpareTestPeriodic d s := rfl
theorem exec_shadowCompare (d : Nat) (cls : Nat) (c : Nat) (pass : Bool) (s : State) :
    exec (.shadowCompare d cls c pass) s = execShadowCompare d cls c pass s := rfl
theorem exec_internalError (d : Nat) (e : ErrArg) (s : State) :
    exec (.internalError d e) s = execInternalError d e s := rfl
theorem exec_ingotWrite (d : Nat) (ok : Bool) (eraseOk : Bool) (s : State) :
    exec (.ingotWrite d ok eraseOk) s = execIngotWrite d ok eraseOk s := rfl
theorem exec_wearPeriodic (d : Nat) (s : State) :
    exec (.wearPeriodic d) s = execWearPeriodic d s := rfl
theorem exec_hostRecordWrite (d : Nat) (tag : Nat) (len : Nat) (s : State) :
    exec (.hostRecordWrite d tag len) s = execHostRecordWrite d tag len s := rfl
theorem exec_hostRecordFind (d : Nat) (tag : Nat) (s : State) :
    exec (.hostRecordFind d tag) s = execHostRecordFind d tag s := rfl
theorem exec_semaphoreClaim (d : Nat) (i : Nat) (token : Nat) (s : State) :
    exec (.semaphoreClaim d i token) s = execSemaphoreClaim d i token s := rfl
theorem exec_semaphoreRelease (d : Nat) (i : Nat) (token : Nat) (s : State) :
    exec (.semaphoreRelease d i token) s = execSemaphoreRelease d i token s := rfl
theorem exec_jtagInstructionUpdate (d : Nat) (opcode : Nat) (scans : List (List Bool)) (s : State) :
    exec (.jtagInstructionUpdate d opcode scans) s = execJtagInstructionUpdate d opcode scans s := rfl
theorem exec_configurationWrite (d : Nat) (x : CfgReq) (s : State) :
    exec (.configurationWrite d x) s = execConfigurationWrite d x s := rfl
theorem exec_lowerHalfRead (d : Nat) (a : Nat) (s : State) :
    exec (.lowerHalfRead d a) s = execLowerHalfRead d a s := rfl
theorem exec_smbBadCommand (d : Nat) (code : Nat) (s : State) :
    exec (.smbBadCommand d code) s = execSmbBadCommand d code s := rfl
theorem exec_functionLevelResetComplete (d : Nat) (s : State) :
    exec (.functionLevelResetComplete d) s = execFunctionLevelResetComplete d s := rfl

end Sys2Proof.Machine
end

