-- ==== Sys2Proof/Laws/State.lean ====
section
/-!
SUPPORT. What each update of the state leaves as it is: one lemma per field and update.
-/

namespace Sys2Proof.Machine

@[simp] theorem State.wr_buf (s : State) (f : Fld) (v i j : Nat) : (s.wr f v i j).buf = s.buf := rfl
@[simp] theorem State.wr_held (s : State) (f : Fld) (v i j : Nat) : (s.wr f v i j).held = s.held := rfl
@[simp] theorem State.wr_upper (s : State) (f : Fld) (v i j : Nat) : (s.wr f v i j).upper = s.upper := rfl
@[simp] theorem State.wr_hbm (s : State) (f : Fld) (v i j : Nat) : (s.wr f v i j).hbm = s.hbm := rfl
@[simp] theorem State.wr_poison (s : State) (f : Fld) (v i j : Nat) : (s.wr f v i j).poison = s.poison := rfl
@[simp] theorem State.wr_owners (s : State) (f : Fld) (v i j : Nat) : (s.wr f v i j).owners = s.owners := rfl
@[simp] theorem State.wr_clk (s : State) (f : Fld) (v i j : Nat) : (s.wr f v i j).clk = s.clk := rfl
@[simp] theorem State.wr_dt (s : State) (f : Fld) (v i j : Nat) : (s.wr f v i j).dt = s.dt := rfl
@[simp] theorem State.wr_running (s : State) (f : Fld) (v i j : Nat) : (s.wr f v i j).running = s.running := rfl
@[simp] theorem State.wr_free (s : State) (f : Fld) (v i j : Nat) : (s.wr f v i j).free = s.free := rfl
@[simp] theorem State.wr_out (s : State) (f : Fld) (v i j : Nat) : (s.wr f v i j).out = s.out := rfl
@[simp] theorem State.wr_power (s : State) (f : Fld) (v i j : Nat) : (s.wr f v i j).power = s.power := rfl
@[simp] theorem State.wr_dcs (s : State) (f : Fld) (v i j : Nat) : (s.wr f v i j).dcs = s.dcs := rfl
@[simp] theorem State.wr_modes (s : State) (f : Fld) (v i j : Nat) : (s.wr f v i j).modes = s.modes := rfl
@[simp] theorem State.wr_flash (s : State) (f : Fld) (v i j : Nat) : (s.wr f v i j).flash = s.flash := rfl
@[simp] theorem State.wr_kindle (s : State) (f : Fld) (v i j : Nat) : (s.wr f v i j).kindle = s.kindle := rfl
@[simp] theorem State.wr_pos (s : State) (f : Fld) (v i j : Nat) : (s.wr f v i j).pos = s.pos := rfl
@[simp] theorem State.wr_stk (s : State) (f : Fld) (v i j : Nat) : (s.wr f v i j).stk = s.stk := rfl
@[simp] theorem State.wr_trough (s : State) (f : Fld) (v i j : Nat) : (s.wr f v i j).trough = s.trough := rfl
@[simp] theorem State.wr_weld (s : State) (f : Fld) (v i j : Nat) : (s.wr f v i j).weld = s.weld := rfl
@[simp] theorem State.wr_smb (s : State) (f : Fld) (v i j : Nat) : (s.wr f v i j).smb = s.smb := rfl
@[simp] theorem State.wr_hep (s : State) (f : Fld) (v i j : Nat) : (s.wr f v i j).hep = s.hep := rfl
@[simp] theorem State.wr_hammer (s : State) (f : Fld) (v i j : Nat) : (s.wr f v i j).hammer = s.hammer := rfl
@[simp] theorem State.wr_hgrp (s : State) (f : Fld) (v i j : Nat) : (s.wr f v i j).hgrp = s.hgrp := rfl
@[simp] theorem State.wr_nozzle (s : State) (f : Fld) (v i j : Nat) : (s.wr f v i j).nozzle = s.nozzle := rfl
@[simp] theorem State.wr_snapClk (s : State) (f : Fld) (v i j : Nat) : (s.wr f v i j).snapClk = s.snapClk := rfl
@[simp] theorem State.wr_sets (s : State) (f : Fld) (v i j : Nat) : (s.wr f v i j).sets = s.sets := rfl
@[simp] theorem State.wr_lanes (s : State) (f : Fld) (v i j : Nat) : (s.wr f v i j).lanes = s.lanes := rfl
@[simp] theorem State.wr_groups (s : State) (f : Fld) (v i j : Nat) : (s.wr f v i j).groups = s.groups := rfl
@[simp] theorem State.wr_ports (s : State) (f : Fld) (v i j : Nat) : (s.wr f v i j).ports = s.ports := rfl
@[simp] theorem State.wr_eqTable (s : State) (f : Fld) (v i j : Nat) : (s.wr f v i j).eqTable = s.eqTable := rfl
@[simp] theorem State.wr_hearths (s : State) (f : Fld) (v i j : Nat) : (s.wr f v i j).hearths = s.hearths := rfl
@[simp] theorem State.wr_anvil (s : State) (f : Fld) (v i j : Nat) : (s.wr f v i j).anvil = s.anvil := rfl
@[simp] theorem State.wr_blw (s : State) (f : Fld) (v i j : Nat) : (s.wr f v i j).blw = s.blw := rfl
@[simp] theorem State.wr_readers (s : State) (f : Fld) (v i j : Nat) : (s.wr f v i j).readers = s.readers := rfl
@[simp] theorem State.wr_tongs (s : State) (f : Fld) (v i j : Nat) : (s.wr f v i j).tongs = s.tongs := rfl
@[simp] theorem State.wr_pending (s : State) (f : Fld) (v i j : Nat) : (s.wr f v i j).pending = s.pending := rfl
@[simp] theorem State.flag_buf (s : State) (f : Fld) (i j : Nat) : (s.flag f i j).buf = s.buf := rfl
@[simp] theorem State.flag_held (s : State) (f : Fld) (i j : Nat) : (s.flag f i j).held = s.held := rfl
@[simp] theorem State.flag_upper (s : State) (f : Fld) (i j : Nat) : (s.flag f i j).upper = s.upper := rfl
@[simp] theorem State.flag_hbm (s : State) (f : Fld) (i j : Nat) : (s.flag f i j).hbm = s.hbm := rfl
@[simp] theorem State.flag_poison (s : State) (f : Fld) (i j : Nat) : (s.flag f i j).poison = s.poison := rfl
@[simp] theorem State.flag_owners (s : State) (f : Fld) (i j : Nat) : (s.flag f i j).owners = s.owners := rfl
@[simp] theorem State.flag_clk (s : State) (f : Fld) (i j : Nat) : (s.flag f i j).clk = s.clk := rfl
@[simp] theorem State.flag_dt (s : State) (f : Fld) (i j : Nat) : (s.flag f i j).dt = s.dt := rfl
@[simp] theorem State.flag_running (s : State) (f : Fld) (i j : Nat) : (s.flag f i j).running = s.running := rfl
@[simp] theorem State.flag_free (s : State) (f : Fld) (i j : Nat) : (s.flag f i j).free = s.free := rfl
@[simp] theorem State.flag_out (s : State) (f : Fld) (i j : Nat) : (s.flag f i j).out = s.out := rfl
@[simp] theorem State.flag_power (s : State) (f : Fld) (i j : Nat) : (s.flag f i j).power = s.power := rfl
@[simp] theorem State.flag_dcs (s : State) (f : Fld) (i j : Nat) : (s.flag f i j).dcs = s.dcs := rfl
@[simp] theorem State.flag_modes (s : State) (f : Fld) (i j : Nat) : (s.flag f i j).modes = s.modes := rfl
@[simp] theorem State.flag_flash (s : State) (f : Fld) (i j : Nat) : (s.flag f i j).flash = s.flash := rfl
@[simp] theorem State.flag_kindle (s : State) (f : Fld) (i j : Nat) : (s.flag f i j).kindle = s.kindle := rfl
@[simp] theorem State.flag_pos (s : State) (f : Fld) (i j : Nat) : (s.flag f i j).pos = s.pos := rfl
@[simp] theorem State.flag_stk (s : State) (f : Fld) (i j : Nat) : (s.flag f i j).stk = s.stk := rfl
@[simp] theorem State.flag_trough (s : State) (f : Fld) (i j : Nat) : (s.flag f i j).trough = s.trough := rfl
@[simp] theorem State.flag_weld (s : State) (f : Fld) (i j : Nat) : (s.flag f i j).weld = s.weld := rfl
@[simp] theorem State.flag_smb (s : State) (f : Fld) (i j : Nat) : (s.flag f i j).smb = s.smb := rfl
@[simp] theorem State.flag_hep (s : State) (f : Fld) (i j : Nat) : (s.flag f i j).hep = s.hep := rfl
@[simp] theorem State.flag_hammer (s : State) (f : Fld) (i j : Nat) : (s.flag f i j).hammer = s.hammer := rfl
@[simp] theorem State.flag_hgrp (s : State) (f : Fld) (i j : Nat) : (s.flag f i j).hgrp = s.hgrp := rfl
@[simp] theorem State.flag_nozzle (s : State) (f : Fld) (i j : Nat) : (s.flag f i j).nozzle = s.nozzle := rfl
@[simp] theorem State.flag_snapClk (s : State) (f : Fld) (i j : Nat) : (s.flag f i j).snapClk = s.snapClk := rfl
@[simp] theorem State.flag_lanes (s : State) (f : Fld) (i j : Nat) : (s.flag f i j).lanes = s.lanes := rfl
@[simp] theorem State.flag_groups (s : State) (f : Fld) (i j : Nat) : (s.flag f i j).groups = s.groups := rfl
@[simp] theorem State.flag_ports (s : State) (f : Fld) (i j : Nat) : (s.flag f i j).ports = s.ports := rfl
@[simp] theorem State.flag_eqTable (s : State) (f : Fld) (i j : Nat) : (s.flag f i j).eqTable = s.eqTable := rfl
@[simp] theorem State.flag_hearths (s : State) (f : Fld) (i j : Nat) : (s.flag f i j).hearths = s.hearths := rfl
@[simp] theorem State.flag_anvil (s : State) (f : Fld) (i j : Nat) : (s.flag f i j).anvil = s.anvil := rfl
@[simp] theorem State.flag_blw (s : State) (f : Fld) (i j : Nat) : (s.flag f i j).blw = s.blw := rfl
@[simp] theorem State.flag_readers (s : State) (f : Fld) (i j : Nat) : (s.flag f i j).readers = s.readers := rfl
@[simp] theorem State.flag_tongs (s : State) (f : Fld) (i j : Nat) : (s.flag f i j).tongs = s.tongs := rfl
@[simp] theorem State.flag_pending (s : State) (f : Fld) (i j : Nat) : (s.flag f i j).pending = s.pending := rfl
@[simp] theorem State.flag_rd (s : State) (f : Fld) (i j : Nat) (g : Fld) (k l : Nat) : (s.flag f i j).rd g k l = (s.wr f 1 i j).rd g k l := rfl
@[simp] theorem State.setOwner_regs (s : State) (c i o : Nat) : (s.setOwner c i o).regs = s.regs := rfl
@[simp] theorem State.setOwner_buf (s : State) (c i o : Nat) : (s.setOwner c i o).buf = s.buf := rfl
@[simp] theorem State.setOwner_held (s : State) (c i o : Nat) : (s.setOwner c i o).held = s.held := rfl
@[simp] theorem State.setOwner_upper (s : State) (c i o : Nat) : (s.setOwner c i o).upper = s.upper := rfl
@[simp] theorem State.setOwner_hbm (s : State) (c i o : Nat) : (s.setOwner c i o).hbm = s.hbm := rfl
@[simp] theorem State.setOwner_poison (s : State) (c i o : Nat) : (s.setOwner c i o).poison = s.poison := rfl
@[simp] theorem State.setOwner_clk (s : State) (c i o : Nat) : (s.setOwner c i o).clk = s.clk := rfl
@[simp] theorem State.setOwner_dt (s : State) (c i o : Nat) : (s.setOwner c i o).dt = s.dt := rfl
@[simp] theorem State.setOwner_running (s : State) (c i o : Nat) : (s.setOwner c i o).running = s.running := rfl
@[simp] theorem State.setOwner_free (s : State) (c i o : Nat) : (s.setOwner c i o).free = s.free := rfl
@[simp] theorem State.setOwner_out (s : State) (c i o : Nat) : (s.setOwner c i o).out = s.out := rfl
@[simp] theorem State.setOwner_power (s : State) (c i o : Nat) : (s.setOwner c i o).power = s.power := rfl
@[simp] theorem State.setOwner_dcs (s : State) (c i o : Nat) : (s.setOwner c i o).dcs = s.dcs := rfl
@[simp] theorem State.setOwner_modes (s : State) (c i o : Nat) : (s.setOwner c i o).modes = s.modes := rfl
@[simp] theorem State.setOwner_flash (s : State) (c i o : Nat) : (s.setOwner c i o).flash = s.flash := rfl
@[simp] theorem State.setOwner_kindle (s : State) (c i o : Nat) : (s.setOwner c i o).kindle = s.kindle := rfl
@[simp] theorem State.setOwner_pos (s : State) (c i o : Nat) : (s.setOwner c i o).pos = s.pos := rfl
@[simp] theorem State.setOwner_stk (s : State) (c i o : Nat) : (s.setOwner c i o).stk = s.stk := rfl
@[simp] theorem State.setOwner_trough (s : State) (c i o : Nat) : (s.setOwner c i o).trough = s.trough := rfl
@[simp] theorem State.setOwner_weld (s : State) (c i o : Nat) : (s.setOwner c i o).weld = s.weld := rfl
@[simp] theorem State.setOwner_smb (s : State) (c i o : Nat) : (s.setOwner c i o).smb = s.smb := rfl
@[simp] theorem State.setOwner_hep (s : State) (c i o : Nat) : (s.setOwner c i o).hep = s.hep := rfl
@[simp] theorem State.setOwner_hammer (s : State) (c i o : Nat) : (s.setOwner c i o).hammer = s.hammer := rfl
@[simp] theorem State.setOwner_hgrp (s : State) (c i o : Nat) : (s.setOwner c i o).hgrp = s.hgrp := rfl
@[simp] theorem State.setOwner_nozzle (s : State) (c i o : Nat) : (s.setOwner c i o).nozzle = s.nozzle := rfl
@[simp] theorem State.setOwner_snapClk (s : State) (c i o : Nat) : (s.setOwner c i o).snapClk = s.snapClk := rfl
@[simp] theorem State.setOwner_sets (s : State) (c i o : Nat) : (s.setOwner c i o).sets = s.sets := rfl
@[simp] theorem State.setOwner_lanes (s : State) (c i o : Nat) : (s.setOwner c i o).lanes = s.lanes := rfl
@[simp] theorem State.setOwner_groups (s : State) (c i o : Nat) : (s.setOwner c i o).groups = s.groups := rfl
@[simp] theorem State.setOwner_ports (s : State) (c i o : Nat) : (s.setOwner c i o).ports = s.ports := rfl
@[simp] theorem State.setOwner_eqTable (s : State) (c i o : Nat) : (s.setOwner c i o).eqTable = s.eqTable := rfl
@[simp] theorem State.setOwner_hearths (s : State) (c i o : Nat) : (s.setOwner c i o).hearths = s.hearths := rfl
@[simp] theorem State.setOwner_anvil (s : State) (c i o : Nat) : (s.setOwner c i o).anvil = s.anvil := rfl
@[simp] theorem State.setOwner_blw (s : State) (c i o : Nat) : (s.setOwner c i o).blw = s.blw := rfl
@[simp] theorem State.setOwner_readers (s : State) (c i o : Nat) : (s.setOwner c i o).readers = s.readers := rfl
@[simp] theorem State.setOwner_tongs (s : State) (c i o : Nat) : (s.setOwner c i o).tongs = s.tongs := rfl
@[simp] theorem State.setOwner_pending (s : State) (c i o : Nat) : (s.setOwner c i o).pending = s.pending := rfl
@[simp] theorem State.bufWrite_regs (s : State) (a : Nat) (bs : Bytes) : (s.bufWrite a bs).regs = s.regs := rfl
@[simp] theorem State.bufWrite_held (s : State) (a : Nat) (bs : Bytes) : (s.bufWrite a bs).held = s.held := rfl
@[simp] theorem State.bufWrite_upper (s : State) (a : Nat) (bs : Bytes) : (s.bufWrite a bs).upper = s.upper := rfl
@[simp] theorem State.bufWrite_hbm (s : State) (a : Nat) (bs : Bytes) : (s.bufWrite a bs).hbm = s.hbm := rfl
@[simp] theorem State.bufWrite_poison (s : State) (a : Nat) (bs : Bytes) : (s.bufWrite a bs).poison = s.poison := rfl
@[simp] theorem State.bufWrite_owners (s : State) (a : Nat) (bs : Bytes) : (s.bufWrite a bs).owners = s.owners := rfl
@[simp] theorem State.bufWrite_clk (s : State) (a : Nat) (bs : Bytes) : (s.bufWrite a bs).clk = s.clk := rfl
@[simp] theorem State.bufWrite_dt (s : State) (a : Nat) (bs : Bytes) : (s.bufWrite a bs).dt = s.dt := rfl
@[simp] theorem State.bufWrite_running (s : State) (a : Nat) (bs : Bytes) : (s.bufWrite a bs).running = s.running := rfl
@[simp] theorem State.bufWrite_free (s : State) (a : Nat) (bs : Bytes) : (s.bufWrite a bs).free = s.free := rfl
@[simp] theorem State.bufWrite_out (s : State) (a : Nat) (bs : Bytes) : (s.bufWrite a bs).out = s.out := rfl
@[simp] theorem State.bufWrite_power (s : State) (a : Nat) (bs : Bytes) : (s.bufWrite a bs).power = s.power := rfl
@[simp] theorem State.bufWrite_dcs (s : State) (a : Nat) (bs : Bytes) : (s.bufWrite a bs).dcs = s.dcs := rfl
@[simp] theorem State.bufWrite_modes (s : State) (a : Nat) (bs : Bytes) : (s.bufWrite a bs).modes = s.modes := rfl
@[simp] theorem State.bufWrite_flash (s : State) (a : Nat) (bs : Bytes) : (s.bufWrite a bs).flash = s.flash := rfl
@[simp] theorem State.bufWrite_kindle (s : State) (a : Nat) (bs : Bytes) : (s.bufWrite a bs).kindle = s.kindle := rfl
@[simp] theorem State.bufWrite_pos (s : State) (a : Nat) (bs : Bytes) : (s.bufWrite a bs).pos = s.pos := rfl
@[simp] theorem State.bufWrite_stk (s : State) (a : Nat) (bs : Bytes) : (s.bufWrite a bs).stk = s.stk := rfl
@[simp] theorem State.bufWrite_trough (s : State) (a : Nat) (bs : Bytes) : (s.bufWrite a bs).trough = s.trough := rfl
@[simp] theorem State.bufWrite_weld (s : State) (a : Nat) (bs : Bytes) : (s.bufWrite a bs).weld = s.weld := rfl
@[simp] theorem State.bufWrite_smb (s : State) (a : Nat) (bs : Bytes) : (s.bufWrite a bs).smb = s.smb := rfl
@[simp] theorem State.bufWrite_hep (s : State) (a : Nat) (bs : Bytes) : (s.bufWrite a bs).hep = s.hep := rfl
@[simp] theorem State.bufWrite_hammer (s : State) (a : Nat) (bs : Bytes) : (s.bufWrite a bs).hammer = s.hammer := rfl
@[simp] theorem State.bufWrite_hgrp (s : State) (a : Nat) (bs : Bytes) : (s.bufWrite a bs).hgrp = s.hgrp := rfl
@[simp] theorem State.bufWrite_nozzle (s : State) (a : Nat) (bs : Bytes) : (s.bufWrite a bs).nozzle = s.nozzle := rfl
@[simp] theorem State.bufWrite_snapClk (s : State) (a : Nat) (bs : Bytes) : (s.bufWrite a bs).snapClk = s.snapClk := rfl
@[simp] theorem State.bufWrite_sets (s : State) (a : Nat) (bs : Bytes) : (s.bufWrite a bs).sets = s.sets := rfl
@[simp] theorem State.bufWrite_lanes (s : State) (a : Nat) (bs : Bytes) : (s.bufWrite a bs).lanes = s.lanes := rfl
@[simp] theorem State.bufWrite_groups (s : State) (a : Nat) (bs : Bytes) : (s.bufWrite a bs).groups = s.groups := rfl
@[simp] theorem State.bufWrite_ports (s : State) (a : Nat) (bs : Bytes) : (s.bufWrite a bs).ports = s.ports := rfl
@[simp] theorem State.bufWrite_eqTable (s : State) (a : Nat) (bs : Bytes) : (s.bufWrite a bs).eqTable = s.eqTable := rfl
@[simp] theorem State.bufWrite_hearths (s : State) (a : Nat) (bs : Bytes) : (s.bufWrite a bs).hearths = s.hearths := rfl
@[simp] theorem State.bufWrite_anvil (s : State) (a : Nat) (bs : Bytes) : (s.bufWrite a bs).anvil = s.anvil := rfl
@[simp] theorem State.bufWrite_blw (s : State) (a : Nat) (bs : Bytes) : (s.bufWrite a bs).blw = s.blw := rfl
@[simp] theorem State.bufWrite_readers (s : State) (a : Nat) (bs : Bytes) : (s.bufWrite a bs).readers = s.readers := rfl
@[simp] theorem State.bufWrite_tongs (s : State) (a : Nat) (bs : Bytes) : (s.bufWrite a bs).tongs = s.tongs := rfl
@[simp] theorem State.bufWrite_pending (s : State) (a : Nat) (bs : Bytes) : (s.bufWrite a bs).pending = s.pending := rfl
@[simp] theorem State.hbmWrite_regs (s : State) (a : Nat) (bs : Bytes) : (s.hbmWrite a bs).regs = s.regs := rfl
@[simp] theorem State.hbmWrite_buf (s : State) (a : Nat) (bs : Bytes) : (s.hbmWrite a bs).buf = s.buf := rfl
@[simp] theorem State.hbmWrite_held (s : State) (a : Nat) (bs : Bytes) : (s.hbmWrite a bs).held = s.held := rfl
@[simp] theorem State.hbmWrite_upper (s : State) (a : Nat) (bs : Bytes) : (s.hbmWrite a bs).upper = s.upper := rfl
@[simp] theorem State.hbmWrite_owners (s : State) (a : Nat) (bs : Bytes) : (s.hbmWrite a bs).owners = s.owners := rfl
@[simp] theorem State.hbmWrite_clk (s : State) (a : Nat) (bs : Bytes) : (s.hbmWrite a bs).clk = s.clk := rfl
@[simp] theorem State.hbmWrite_dt (s : State) (a : Nat) (bs : Bytes) : (s.hbmWrite a bs).dt = s.dt := rfl
@[simp] theorem State.hbmWrite_running (s : State) (a : Nat) (bs : Bytes) : (s.hbmWrite a bs).running = s.running := rfl
@[simp] theorem State.hbmWrite_free (s : State) (a : Nat) (bs : Bytes) : (s.hbmWrite a bs).free = s.free := rfl
@[simp] theorem State.hbmWrite_out (s : State) (a : Nat) (bs : Bytes) : (s.hbmWrite a bs).out = s.out := rfl
@[simp] theorem State.hbmWrite_power (s : State) (a : Nat) (bs : Bytes) : (s.hbmWrite a bs).power = s.power := rfl
@[simp] theorem State.hbmWrite_dcs (s : State) (a : Nat) (bs : Bytes) : (s.hbmWrite a bs).dcs = s.dcs := rfl
@[simp] theorem State.hbmWrite_modes (s : State) (a : Nat) (bs : Bytes) : (s.hbmWrite a bs).modes = s.modes := rfl
@[simp] theorem State.hbmWrite_flash (s : State) (a : Nat) (bs : Bytes) : (s.hbmWrite a bs).flash = s.flash := rfl
@[simp] theorem State.hbmWrite_kindle (s : State) (a : Nat) (bs : Bytes) : (s.hbmWrite a bs).kindle = s.kindle := rfl
@[simp] theorem State.hbmWrite_pos (s : State) (a : Nat) (bs : Bytes) : (s.hbmWrite a bs).pos = s.pos := rfl
@[simp] theorem State.hbmWrite_stk (s : State) (a : Nat) (bs : Bytes) : (s.hbmWrite a bs).stk = s.stk := rfl
@[simp] theorem State.hbmWrite_trough (s : State) (a : Nat) (bs : Bytes) : (s.hbmWrite a bs).trough = s.trough := rfl
@[simp] theorem State.hbmWrite_weld (s : State) (a : Nat) (bs : Bytes) : (s.hbmWrite a bs).weld = s.weld := rfl
@[simp] theorem State.hbmWrite_smb (s : State) (a : Nat) (bs : Bytes) : (s.hbmWrite a bs).smb = s.smb := rfl
@[simp] theorem State.hbmWrite_hep (s : State) (a : Nat) (bs : Bytes) : (s.hbmWrite a bs).hep = s.hep := rfl
@[simp] theorem State.hbmWrite_hammer (s : State) (a : Nat) (bs : Bytes) : (s.hbmWrite a bs).hammer = s.hammer := rfl
@[simp] theorem State.hbmWrite_hgrp (s : State) (a : Nat) (bs : Bytes) : (s.hbmWrite a bs).hgrp = s.hgrp := rfl
@[simp] theorem State.hbmWrite_nozzle (s : State) (a : Nat) (bs : Bytes) : (s.hbmWrite a bs).nozzle = s.nozzle := rfl
@[simp] theorem State.hbmWrite_snapClk (s : State) (a : Nat) (bs : Bytes) : (s.hbmWrite a bs).snapClk = s.snapClk := rfl
@[simp] theorem State.hbmWrite_sets (s : State) (a : Nat) (bs : Bytes) : (s.hbmWrite a bs).sets = s.sets := rfl
@[simp] theorem State.hbmWrite_lanes (s : State) (a : Nat) (bs : Bytes) : (s.hbmWrite a bs).lanes = s.lanes := rfl
@[simp] theorem State.hbmWrite_groups (s : State) (a : Nat) (bs : Bytes) : (s.hbmWrite a bs).groups = s.groups := rfl
@[simp] theorem State.hbmWrite_ports (s : State) (a : Nat) (bs : Bytes) : (s.hbmWrite a bs).ports = s.ports := rfl
@[simp] theorem State.hbmWrite_eqTable (s : State) (a : Nat) (bs : Bytes) : (s.hbmWrite a bs).eqTable = s.eqTable := rfl
@[simp] theorem State.hbmWrite_hearths (s : State) (a : Nat) (bs : Bytes) : (s.hbmWrite a bs).hearths = s.hearths := rfl
@[simp] theorem State.hbmWrite_anvil (s : State) (a : Nat) (bs : Bytes) : (s.hbmWrite a bs).anvil = s.anvil := rfl
@[simp] theorem State.hbmWrite_blw (s : State) (a : Nat) (bs : Bytes) : (s.hbmWrite a bs).blw = s.blw := rfl
@[simp] theorem State.hbmWrite_readers (s : State) (a : Nat) (bs : Bytes) : (s.hbmWrite a bs).readers = s.readers := rfl
@[simp] theorem State.hbmWrite_tongs (s : State) (a : Nat) (bs : Bytes) : (s.hbmWrite a bs).tongs = s.tongs := rfl
@[simp] theorem State.hbmWrite_pending (s : State) (a : Nat) (bs : Bytes) : (s.hbmWrite a bs).pending = s.pending := rfl
@[simp] theorem State.flashProgram_regs (s : State) (a : Nat) (bs : Bytes) : (s.flashProgram a bs).regs = s.regs := rfl
@[simp] theorem State.flashProgram_buf (s : State) (a : Nat) (bs : Bytes) : (s.flashProgram a bs).buf = s.buf := rfl
@[simp] theorem State.flashProgram_held (s : State) (a : Nat) (bs : Bytes) : (s.flashProgram a bs).held = s.held := rfl
@[simp] theorem State.flashProgram_upper (s : State) (a : Nat) (bs : Bytes) : (s.flashProgram a bs).upper = s.upper := rfl
@[simp] theorem State.flashProgram_hbm (s : State) (a : Nat) (bs : Bytes) : (s.flashProgram a bs).hbm = s.hbm := rfl
@[simp] theorem State.flashProgram_poison (s : State) (a : Nat) (bs : Bytes) : (s.flashProgram a bs).poison = s.poison := rfl
@[simp] theorem State.flashProgram_owners (s : State) (a : Nat) (bs : Bytes) : (s.flashProgram a bs).owners = s.owners := rfl
@[simp] theorem State.flashProgram_clk (s : State) (a : Nat) (bs : Bytes) : (s.flashProgram a bs).clk = s.clk := rfl
@[simp] theorem State.flashProgram_dt (s : State) (a : Nat) (bs : Bytes) : (s.flashProgram a bs).dt = s.dt := rfl
@[simp] theorem State.flashProgram_running (s : State) (a : Nat) (bs : Bytes) : (s.flashProgram a bs).running = s.running := rfl
@[simp] theorem State.flashProgram_free (s : State) (a : Nat) (bs : Bytes) : (s.flashProgram a bs).free = s.free := rfl
@[simp] theorem State.flashProgram_out (s : State) (a : Nat) (bs : Bytes) : (s.flashProgram a bs).out = s.out := rfl
@[simp] theorem State.flashProgram_power (s : State) (a : Nat) (bs : Bytes) : (s.flashProgram a bs).power = s.power := rfl
@[simp] theorem State.flashProgram_dcs (s : State) (a : Nat) (bs : Bytes) : (s.flashProgram a bs).dcs = s.dcs := rfl
@[simp] theorem State.flashProgram_modes (s : State) (a : Nat) (bs : Bytes) : (s.flashProgram a bs).modes = s.modes := rfl
@[simp] theorem State.flashProgram_kindle (s : State) (a : Nat) (bs : Bytes) : (s.flashProgram a bs).kindle = s.kindle := rfl
@[simp] theorem State.flashProgram_pos (s : State) (a : Nat) (bs : Bytes) : (s.flashProgram a bs).pos = s.pos := rfl
@[simp] theorem State.flashProgram_stk (s : State) (a : Nat) (bs : Bytes) : (s.flashProgram a bs).stk = s.stk := rfl
@[simp] theorem State.flashProgram_trough (s : State) (a : Nat) (bs : Bytes) : (s.flashProgram a bs).trough = s.trough := rfl
@[simp] theorem State.flashProgram_weld (s : State) (a : Nat) (bs : Bytes) : (s.flashProgram a bs).weld = s.weld := rfl
@[simp] theorem State.flashProgram_smb (s : State) (a : Nat) (bs : Bytes) : (s.flashProgram a bs).smb = s.smb := rfl
@[simp] theorem State.flashProgram_hep (s : State) (a : Nat) (bs : Bytes) : (s.flashProgram a bs).hep = s.hep := rfl
@[simp] theorem State.flashProgram_hammer (s : State) (a : Nat) (bs : Bytes) : (s.flashProgram a bs).hammer = s.hammer := rfl
@[simp] theorem State.flashProgram_hgrp (s : State) (a : Nat) (bs : Bytes) : (s.flashProgram a bs).hgrp = s.hgrp := rfl
@[simp] theorem State.flashProgram_nozzle (s : State) (a : Nat) (bs : Bytes) : (s.flashProgram a bs).nozzle = s.nozzle := rfl
@[simp] theorem State.flashProgram_snapClk (s : State) (a : Nat) (bs : Bytes) : (s.flashProgram a bs).snapClk = s.snapClk := rfl
@[simp] theorem State.flashProgram_sets (s : State) (a : Nat) (bs : Bytes) : (s.flashProgram a bs).sets = s.sets := rfl
@[simp] theorem State.flashProgram_lanes (s : State) (a : Nat) (bs : Bytes) : (s.flashProgram a bs).lanes = s.lanes := rfl
@[simp] theorem State.flashProgram_groups (s : State) (a : Nat) (bs : Bytes) : (s.flashProgram a bs).groups = s.groups := rfl
@[simp] theorem State.flashProgram_ports (s : State) (a : Nat) (bs : Bytes) : (s.flashProgram a bs).ports = s.ports := rfl
@[simp] theorem State.flashProgram_eqTable (s : State) (a : Nat) (bs : Bytes) : (s.flashProgram a bs).eqTable = s.eqTable := rfl
@[simp] theorem State.flashProgram_hearths (s : State) (a : Nat) (bs : Bytes) : (s.flashProgram a bs).hearths = s.hearths := rfl
@[simp] theorem State.flashProgram_anvil (s : State) (a : Nat) (bs : Bytes) : (s.flashProgram a bs).anvil = s.anvil := rfl
@[simp] theorem State.flashProgram_blw (s : State) (a : Nat) (bs : Bytes) : (s.flashProgram a bs).blw = s.blw := rfl
@[simp] theorem State.flashProgram_readers (s : State) (a : Nat) (bs : Bytes) : (s.flashProgram a bs).readers = s.readers := rfl
@[simp] theorem State.flashProgram_tongs (s : State) (a : Nat) (bs : Bytes) : (s.flashProgram a bs).tongs = s.tongs := rfl
@[simp] theorem State.flashProgram_pending (s : State) (a : Nat) (bs : Bytes) : (s.flashProgram a bs).pending = s.pending := rfl
@[simp] theorem State.flashErase_regs (s : State) (k : Nat) : (s.flashErase k).regs = s.regs := rfl
@[simp] theorem State.flashErase_buf (s : State) (k : Nat) : (s.flashErase k).buf = s.buf := rfl
@[simp] theorem State.flashErase_held (s : State) (k : Nat) : (s.flashErase k).held = s.held := rfl
@[simp] theorem State.flashErase_upper (s : State) (k : Nat) : (s.flashErase k).upper = s.upper := rfl
@[simp] theorem State.flashErase_hbm (s : State) (k : Nat) : (s.flashErase k).hbm = s.hbm := rfl
@[simp] theorem State.flashErase_poison (s : State) (k : Nat) : (s.flashErase k).poison = s.poison := rfl
@[simp] theorem State.flashErase_owners (s : State) (k : Nat) : (s.flashErase k).owners = s.owners := rfl
@[simp] theorem State.flashErase_clk (s : State) (k : Nat) : (s.flashErase k).clk = s.clk := rfl
@[simp] theorem State.flashErase_dt (s : State) (k : Nat) : (s.flashErase k).dt = s.dt := rfl
@[simp] theorem State.flashErase_running (s : State) (k : Nat) : (s.flashErase k).running = s.running := rfl
@[simp] theorem State.flashErase_free (s : State) (k : Nat) : (s.flashErase k).free = s.free := rfl
@[simp] theorem State.flashErase_out (s : State) (k : Nat) : (s.flashErase k).out = s.out := rfl
@[simp] theorem State.flashErase_power (s : State) (k : Nat) : (s.flashErase k).power = s.power := rfl
@[simp] theorem State.flashErase_dcs (s : State) (k : Nat) : (s.flashErase k).dcs = s.dcs := rfl
@[simp] theorem State.flashErase_modes (s : State) (k : Nat) : (s.flashErase k).modes = s.modes := rfl
@[simp] theorem State.flashErase_kindle (s : State) (k : Nat) : (s.flashErase k).kindle = s.kindle := rfl
@[simp] theorem State.flashErase_pos (s : State) (k : Nat) : (s.flashErase k).pos = s.pos := rfl
@[simp] theorem State.flashErase_stk (s : State) (k : Nat) : (s.flashErase k).stk = s.stk := rfl
@[simp] theorem State.flashErase_trough (s : State) (k : Nat) : (s.flashErase k).trough = s.trough := rfl
@[simp] theorem State.flashErase_weld (s : State) (k : Nat) : (s.flashErase k).weld = s.weld := rfl
@[simp] theorem State.flashErase_smb (s : State) (k : Nat) : (s.flashErase k).smb = s.smb := rfl
@[simp] theorem State.flashErase_hep (s : State) (k : Nat) : (s.flashErase k).hep = s.hep := rfl
@[simp] theorem State.flashErase_hammer (s : State) (k : Nat) : (s.flashErase k).hammer = s.hammer := rfl
@[simp] theorem State.flashErase_hgrp (s : State) (k : Nat) : (s.flashErase k).hgrp = s.hgrp := rfl
@[simp] theorem State.flashErase_nozzle (s : State) (k : Nat) : (s.flashErase k).nozzle = s.nozzle := rfl
@[simp] theorem State.flashErase_snapClk (s : State) (k : Nat) : (s.flashErase k).snapClk = s.snapClk := rfl
@[simp] theorem State.flashErase_sets (s : State) (k : Nat) : (s.flashErase k).sets = s.sets := rfl
@[simp] theorem State.flashErase_lanes (s : State) (k : Nat) : (s.flashErase k).lanes = s.lanes := rfl
@[simp] theorem State.flashErase_groups (s : State) (k : Nat) : (s.flashErase k).groups = s.groups := rfl
@[simp] theorem State.flashErase_ports (s : State) (k : Nat) : (s.flashErase k).ports = s.ports := rfl
@[simp] theorem State.flashErase_eqTable (s : State) (k : Nat) : (s.flashErase k).eqTable = s.eqTable := rfl
@[simp] theorem State.flashErase_hearths (s : State) (k : Nat) : (s.flashErase k).hearths = s.hearths := rfl
@[simp] theorem State.flashErase_anvil (s : State) (k : Nat) : (s.flashErase k).anvil = s.anvil := rfl
@[simp] theorem State.flashErase_blw (s : State) (k : Nat) : (s.flashErase k).blw = s.blw := rfl
@[simp] theorem State.flashErase_readers (s : State) (k : Nat) : (s.flashErase k).readers = s.readers := rfl
@[simp] theorem State.flashErase_tongs (s : State) (k : Nat) : (s.flashErase k).tongs = s.tongs := rfl
@[simp] theorem State.flashErase_pending (s : State) (k : Nat) : (s.flashErase k).pending = s.pending := rfl
@[simp] theorem State.setFlash_regs (s : State) (x : FlashS) : (s.setFlash x).regs = s.regs := rfl
@[simp] theorem State.setFlash_buf (s : State) (x : FlashS) : (s.setFlash x).buf = s.buf := rfl
@[simp] theorem State.setFlash_held (s : State) (x : FlashS) : (s.setFlash x).held = s.held := rfl
@[simp] theorem State.setFlash_upper (s : State) (x : FlashS) : (s.setFlash x).upper = s.upper := rfl
@[simp] theorem State.setFlash_hbm (s : State) (x : FlashS) : (s.setFlash x).hbm = s.hbm := rfl
@[simp] theorem State.setFlash_poison (s : State) (x : FlashS) : (s.setFlash x).poison = s.poison := rfl
@[simp] theorem State.setFlash_owners (s : State) (x : FlashS) : (s.setFlash x).owners = s.owners := rfl
@[simp] theorem State.setFlash_clk (s : State) (x : FlashS) : (s.setFlash x).clk = s.clk := rfl
@[simp] theorem State.setFlash_dt (s : State) (x : FlashS) : (s.setFlash x).dt = s.dt := rfl
@[simp] theorem State.setFlash_running (s : State) (x : FlashS) : (s.setFlash x).running = s.running := rfl
@[simp] theorem State.setFlash_free (s : State) (x : FlashS) : (s.setFlash x).free = s.free := rfl
@[simp] theorem State.setFlash_out (s : State) (x : FlashS) : (s.setFlash x).out = s.out := rfl
@[simp] theorem State.setFlash_power (s : State) (x : FlashS) : (s.setFlash x).power = s.power := rfl
@[simp] theorem State.setFlash_dcs (s : State) (x : FlashS) : (s.setFlash x).dcs = s.dcs := rfl
@[simp] theorem State.setFlash_modes (s : State) (x : FlashS) : (s.setFlash x).modes = s.modes := rfl
@[simp] theorem State.setFlash_kindle (s : State) (x : FlashS) : (s.setFlash x).kindle = s.kindle := rfl
@[simp] theorem State.setFlash_pos (s : State) (x : FlashS) : (s.setFlash x).pos = s.pos := rfl
@[simp] theorem State.setFlash_stk (s : State) (x : FlashS) : (s.setFlash x).stk = s.stk := rfl
@[simp] theorem State.setFlash_trough (s : State) (x : FlashS) : (s.setFlash x).trough = s.trough := rfl
@[simp] theorem State.setFlash_weld (s : State) (x : FlashS) : (s.setFlash x).weld = s.weld := rfl
@[simp] theorem State.setFlash_smb (s : State) (x : FlashS) : (s.setFlash x).smb = s.smb := rfl
@[simp] theorem State.setFlash_hep (s : State) (x : FlashS) : (s.setFlash x).hep = s.hep := rfl
@[simp] theorem State.setFlash_hammer (s : State) (x : FlashS) : (s.setFlash x).hammer = s.hammer := rfl
@[simp] theorem State.setFlash_hgrp (s : State) (x : FlashS) : (s.setFlash x).hgrp = s.hgrp := rfl
@[simp] theorem State.setFlash_nozzle (s : State) (x : FlashS) : (s.setFlash x).nozzle = s.nozzle := rfl
@[simp] theorem State.setFlash_snapClk (s : State) (x : FlashS) : (s.setFlash x).snapClk = s.snapClk := rfl
@[simp] theorem State.setFlash_sets (s : State) (x : FlashS) : (s.setFlash x).sets = s.sets := rfl
@[simp] theorem State.setFlash_lanes (s : State) (x : FlashS) : (s.setFlash x).lanes = s.lanes := rfl
@[simp] theorem State.setFlash_groups (s : State) (x : FlashS) : (s.setFlash x).groups = s.groups := rfl
@[simp] theorem State.setFlash_ports (s : State) (x : FlashS) : (s.setFlash x).ports = s.ports := rfl
@[simp] theorem State.setFlash_eqTable (s : State) (x : FlashS) : (s.setFlash x).eqTable = s.eqTable := rfl
@[simp] theorem State.setFlash_hearths (s : State) (x : FlashS) : (s.setFlash x).hearths = s.hearths := rfl
@[simp] theorem State.setFlash_anvil (s : State) (x : FlashS) : (s.setFlash x).anvil = s.anvil := rfl
@[simp] theorem State.setFlash_blw (s : State) (x : FlashS) : (s.setFlash x).blw = s.blw := rfl
@[simp] theorem State.setFlash_readers (s : State) (x : FlashS) : (s.setFlash x).readers = s.readers := rfl
@[simp] theorem State.setFlash_tongs (s : State) (x : FlashS) : (s.setFlash x).tongs = s.tongs := rfl
@[simp] theorem State.setFlash_pending (s : State) (x : FlashS) : (s.setFlash x).pending = s.pending := rfl
@[simp] theorem State.setKindle_regs (s : State) (x : KindleS) : (s.setKindle x).regs = s.regs := rfl
@[simp] theorem State.setKindle_buf (s : State) (x : KindleS) : (s.setKindle x).buf = s.buf := rfl
@[simp] theorem State.setKindle_held (s : State) (x : KindleS) : (s.setKindle x).held = s.held := rfl
@[simp] theorem State.setKindle_upper (s : State) (x : KindleS) : (s.setKindle x).upper = s.upper := rfl
@[simp] theorem State.setKindle_hbm (s : State) (x : KindleS) : (s.setKindle x).hbm = s.hbm := rfl
@[simp] theorem State.setKindle_poison (s : State) (x : KindleS) : (s.setKindle x).poison = s.poison := rfl
@[simp] theorem State.setKindle_owners (s : State) (x : KindleS) : (s.setKindle x).owners = s.owners := rfl
@[simp] theorem State.setKindle_clk (s : State) (x : KindleS) : (s.setKindle x).clk = s.clk := rfl
@[simp] theorem State.setKindle_dt (s : State) (x : KindleS) : (s.setKindle x).dt = s.dt := rfl
@[simp] theorem State.setKindle_running (s : State) (x : KindleS) : (s.setKindle x).running = s.running := rfl
@[simp] theorem State.setKindle_free (s : State) (x : KindleS) : (s.setKindle x).free = s.free := rfl
@[simp] theorem State.setKindle_out (s : State) (x : KindleS) : (s.setKindle x).out = s.out := rfl
@[simp] theorem State.setKindle_power (s : State) (x : KindleS) : (s.setKindle x).power = s.power := rfl
@[simp] theorem State.setKindle_dcs (s : State) (x : KindleS) : (s.setKindle x).dcs = s.dcs := rfl
@[simp] theorem State.setKindle_modes (s : State) (x : KindleS) : (s.setKindle x).modes = s.modes := rfl
@[simp] theorem State.setKindle_flash (s : State) (x : KindleS) : (s.setKindle x).flash = s.flash := rfl
@[simp] theorem State.setKindle_pos (s : State) (x : KindleS) : (s.setKindle x).pos = s.pos := rfl
@[simp] theorem State.setKindle_stk (s : State) (x : KindleS) : (s.setKindle x).stk = s.stk := rfl
@[simp] theorem State.setKindle_trough (s : State) (x : KindleS) : (s.setKindle x).trough = s.trough := rfl
@[simp] theorem State.setKindle_weld (s : State) (x : KindleS) : (s.setKindle x).weld = s.weld := rfl
@[simp] theorem State.setKindle_smb (s : State) (x : KindleS) : (s.setKindle x).smb = s.smb := rfl
@[simp] theorem State.setKindle_hep (s : State) (x : KindleS) : (s.setKindle x).hep = s.hep := rfl
@[simp] theorem State.setKindle_hammer (s : State) (x : KindleS) : (s.setKindle x).hammer = s.hammer := rfl
@[simp] theorem State.setKindle_hgrp (s : State) (x : KindleS) : (s.setKindle x).hgrp = s.hgrp := rfl
@[simp] theorem State.setKindle_nozzle (s : State) (x : KindleS) : (s.setKindle x).nozzle = s.nozzle := rfl
@[simp] theorem State.setKindle_snapClk (s : State) (x : KindleS) : (s.setKindle x).snapClk = s.snapClk := rfl
@[simp] theorem State.setKindle_sets (s : State) (x : KindleS) : (s.setKindle x).sets = s.sets := rfl
@[simp] theorem State.setKindle_lanes (s : State) (x : KindleS) : (s.setKindle x).lanes = s.lanes := rfl
@[simp] theorem State.setKindle_groups (s : State) (x : KindleS) : (s.setKindle x).groups = s.groups := rfl
@[simp] theorem State.setKindle_ports (s : State) (x : KindleS) : (s.setKindle x).ports = s.ports := rfl
@[simp] theorem State.setKindle_eqTable (s : State) (x : KindleS) : (s.setKindle x).eqTable = s.eqTable := rfl
@[simp] theorem State.setKindle_hearths (s : State) (x : KindleS) : (s.setKindle x).hearths = s.hearths := rfl
@[simp] theorem State.setKindle_anvil (s : State) (x : KindleS) : (s.setKindle x).anvil = s.anvil := rfl
@[simp] theorem State.setKindle_blw (s : State) (x : KindleS) : (s.setKindle x).blw = s.blw := rfl
@[simp] theorem State.setKindle_readers (s : State) (x : KindleS) : (s.setKindle x).readers = s.readers := rfl
@[simp] theorem State.setKindle_tongs (s : State) (x : KindleS) : (s.setKindle x).tongs = s.tongs := rfl
@[simp] theorem State.setKindle_pending (s : State) (x : KindleS) : (s.setKindle x).pending = s.pending := rfl
@[simp] theorem State.setStk_regs (s : State) (x : StrikerS) : (s.setStk x).regs = s.regs := rfl
@[simp] theorem State.setStk_buf (s : State) (x : StrikerS) : (s.setStk x).buf = s.buf := rfl
@[simp] theorem State.setStk_held (s : State) (x : StrikerS) : (s.setStk x).held = s.held := rfl
@[simp] theorem State.setStk_upper (s : State) (x : StrikerS) : (s.setStk x).upper = s.upper := rfl
@[simp] theorem State.setStk_hbm (s : State) (x : StrikerS) : (s.setStk x).hbm = s.hbm := rfl
@[simp] theorem State.setStk_poison (s : State) (x : StrikerS) : (s.setStk x).poison = s.poison := rfl
@[simp] theorem State.setStk_owners (s : State) (x : StrikerS) : (s.setStk x).owners = s.owners := rfl
@[simp] theorem State.setStk_clk (s : State) (x : StrikerS) : (s.setStk x).clk = s.clk := rfl
@[simp] theorem State.setStk_dt (s : State) (x : StrikerS) : (s.setStk x).dt = s.dt := rfl
@[simp] theorem State.setStk_running (s : State) (x : StrikerS) : (s.setStk x).running = s.running := rfl
@[simp] theorem State.setStk_free (s : State) (x : StrikerS) : (s.setStk x).free = s.free := rfl
@[simp] theorem State.setStk_out (s : State) (x : StrikerS) : (s.setStk x).out = s.out := rfl
@[simp] theorem State.setStk_power (s : State) (x : StrikerS) : (s.setStk x).power = s.power := rfl
@[simp] theorem State.setStk_dcs (s : State) (x : StrikerS) : (s.setStk x).dcs = s.dcs := rfl
@[simp] theorem State.setStk_modes (s : State) (x : StrikerS) : (s.setStk x).modes = s.modes := rfl
@[simp] theorem State.setStk_flash (s : State) (x : StrikerS) : (s.setStk x).flash = s.flash := rfl
@[simp] theorem State.setStk_kindle (s : State) (x : StrikerS) : (s.setStk x).kindle = s.kindle := rfl
@[simp] theorem State.setStk_pos (s : State) (x : StrikerS) : (s.setStk x).pos = s.pos := rfl
@[simp] theorem State.setStk_trough (s : State) (x : StrikerS) : (s.setStk x).trough = s.trough := rfl
@[simp] theorem State.setStk_weld (s : State) (x : StrikerS) : (s.setStk x).weld = s.weld := rfl
@[simp] theorem State.setStk_smb (s : State) (x : StrikerS) : (s.setStk x).smb = s.smb := rfl
@[simp] theorem State.setStk_hep (s : State) (x : StrikerS) : (s.setStk x).hep = s.hep := rfl
@[simp] theorem State.setStk_hammer (s : State) (x : StrikerS) : (s.setStk x).hammer = s.hammer := rfl
@[simp] theorem State.setStk_hgrp (s : State) (x : StrikerS) : (s.setStk x).hgrp = s.hgrp := rfl
@[simp] theorem State.setStk_nozzle (s : State) (x : StrikerS) : (s.setStk x).nozzle = s.nozzle := rfl
@[simp] theorem State.setStk_snapClk (s : State) (x : StrikerS) : (s.setStk x).snapClk = s.snapClk := rfl
@[simp] theorem State.setStk_sets (s : State) (x : StrikerS) : (s.setStk x).sets = s.sets := rfl
@[simp] theorem State.setStk_lanes (s : State) (x : StrikerS) : (s.setStk x).lanes = s.lanes := rfl
@[simp] theorem State.setStk_groups (s : State) (x : StrikerS) : (s.setStk x).groups = s.groups := rfl
@[simp] theorem State.setStk_ports (s : State) (x : StrikerS) : (s.setStk x).ports = s.ports := rfl
@[simp] theorem State.setStk_eqTable (s : State) (x : StrikerS) : (s.setStk x).eqTable = s.eqTable := rfl
@[simp] theorem State.setStk_hearths (s : State) (x : StrikerS) : (s.setStk x).hearths = s.hearths := rfl
@[simp] theorem State.setStk_anvil (s : State) (x : StrikerS) : (s.setStk x).anvil = s.anvil := rfl
@[simp] theorem State.setStk_blw (s : State) (x : StrikerS) : (s.setStk x).blw = s.blw := rfl
@[simp] theorem State.setStk_readers (s : State) (x : StrikerS) : (s.setStk x).readers = s.readers := rfl
@[simp] theorem State.setStk_tongs (s : State) (x : StrikerS) : (s.setStk x).tongs = s.tongs := rfl
@[simp] theorem State.setStk_pending (s : State) (x : StrikerS) : (s.setStk x).pending = s.pending := rfl
@[simp] theorem State.setTr_regs (s : State) (t : Nat) (x : TroughS) : (s.setTr t x).regs = s.regs := rfl
@[simp] theorem State.setTr_buf (s : State) (t : Nat) (x : TroughS) : (s.setTr t x).buf = s.buf := rfl
@[simp] theorem State.setTr_held (s : State) (t : Nat) (x : TroughS) : (s.setTr t x).held = s.held := rfl
@[simp] theorem State.setTr_upper (s : State) (t : Nat) (x : TroughS) : (s.setTr t x).upper = s.upper := rfl
@[simp] theorem State.setTr_hbm (s : State) (t : Nat) (x : TroughS) : (s.setTr t x).hbm = s.hbm := rfl
@[simp] theorem State.setTr_poison (s : State) (t : Nat) (x : TroughS) : (s.setTr t x).poison = s.poison := rfl
@[simp] theorem State.setTr_owners (s : State) (t : Nat) (x : TroughS) : (s.setTr t x).owners = s.owners := rfl
@[simp] theorem State.setTr_clk (s : State) (t : Nat) (x : TroughS) : (s.setTr t x).clk = s.clk := rfl
@[simp] theorem State.setTr_dt (s : State) (t : Nat) (x : TroughS) : (s.setTr t x).dt = s.dt := rfl
@[simp] theorem State.setTr_running (s : State) (t : Nat) (x : TroughS) : (s.setTr t x).running = s.running := rfl
@[simp] theorem State.setTr_free (s : State) (t : Nat) (x : TroughS) : (s.setTr t x).free = s.free := rfl
@[simp] theorem State.setTr_out (s : State) (t : Nat) (x : TroughS) : (s.setTr t x).out = s.out := rfl
@[simp] theorem State.setTr_power (s : State) (t : Nat) (x : TroughS) : (s.setTr t x).power = s.power := rfl
@[simp] theorem State.setTr_dcs (s : State) (t : Nat) (x : TroughS) : (s.setTr t x).dcs = s.dcs := rfl
@[simp] theorem State.setTr_modes (s : State) (t : Nat) (x : TroughS) : (s.setTr t x).modes = s.modes := rfl
@[simp] theorem State.setTr_flash (s : State) (t : Nat) (x : TroughS) : (s.setTr t x).flash = s.flash := rfl
@[simp] theorem State.setTr_kindle (s : State) (t : Nat) (x : TroughS) : (s.setTr t x).kindle = s.kindle := rfl
@[simp] theorem State.setTr_pos (s : State) (t : Nat) (x : TroughS) : (s.setTr t x).pos = s.pos := rfl
@[simp] theorem State.setTr_stk (s : State) (t : Nat) (x : TroughS) : (s.setTr t x).stk = s.stk := rfl
@[simp] theorem State.setTr_weld (s : State) (t : Nat) (x : TroughS) : (s.setTr t x).weld = s.weld := rfl
@[simp] theorem State.setTr_smb (s : State) (t : Nat) (x : TroughS) : (s.setTr t x).smb = s.smb := rfl
@[simp] theorem State.setTr_hep (s : State) (t : Nat) (x : TroughS) : (s.setTr t x).hep = s.hep := rfl
@[simp] theorem State.setTr_hammer (s : State) (t : Nat) (x : TroughS) : (s.setTr t x).hammer = s.hammer := rfl
@[simp] theorem State.setTr_hgrp (s : State) (t : Nat) (x : TroughS) : (s.setTr t x).hgrp = s.hgrp := rfl
@[simp] theorem State.setTr_nozzle (s : State) (t : Nat) (x : TroughS) : (s.setTr t x).nozzle = s.nozzle := rfl
@[simp] theorem State.setTr_snapClk (s : State) (t : Nat) (x : TroughS) : (s.setTr t x).snapClk = s.snapClk := rfl
@[simp] theorem State.setTr_sets (s : State) (t : Nat) (x : TroughS) : (s.setTr t x).sets = s.sets := rfl
@[simp] theorem State.setTr_lanes (s : State) (t : Nat) (x : TroughS) : (s.setTr t x).lanes = s.lanes := rfl
@[simp] theorem State.setTr_groups (s : State) (t : Nat) (x : TroughS) : (s.setTr t x).groups = s.groups := rfl
@[simp] theorem State.setTr_ports (s : State) (t : Nat) (x : TroughS) : (s.setTr t x).ports = s.ports := rfl
@[simp] theorem State.setTr_eqTable (s : State) (t : Nat) (x : TroughS) : (s.setTr t x).eqTable = s.eqTable := rfl
@[simp] theorem State.setTr_hearths (s : State) (t : Nat) (x : TroughS) : (s.setTr t x).hearths = s.hearths := rfl
@[simp] theorem State.setTr_anvil (s : State) (t : Nat) (x : TroughS) : (s.setTr t x).anvil = s.anvil := rfl
@[simp] theorem State.setTr_blw (s : State) (t : Nat) (x : TroughS) : (s.setTr t x).blw = s.blw := rfl
@[simp] theorem State.setTr_readers (s : State) (t : Nat) (x : TroughS) : (s.setTr t x).readers = s.readers := rfl
@[simp] theorem State.setTr_tongs (s : State) (t : Nat) (x : TroughS) : (s.setTr t x).tongs = s.tongs := rfl
@[simp] theorem State.setTr_pending (s : State) (t : Nat) (x : TroughS) : (s.setTr t x).pending = s.pending := rfl
@[simp] theorem State.setHep_regs (s : State) (x : HepS) : (s.setHep x).regs = s.regs := rfl
@[simp] theorem State.setHep_buf (s : State) (x : HepS) : (s.setHep x).buf = s.buf := rfl
@[simp] theorem State.setHep_held (s : State) (x : HepS) : (s.setHep x).held = s.held := rfl
@[simp] theorem State.setHep_upper (s : State) (x : HepS) : (s.setHep x).upper = s.upper := rfl
@[simp] theorem State.setHep_hbm (s : State) (x : HepS) : (s.setHep x).hbm = s.hbm := rfl
@[simp] theorem State.setHep_poison (s : State) (x : HepS) : (s.setHep x).poison = s.poison := rfl
@[simp] theorem State.setHep_owners (s : State) (x : HepS) : (s.setHep x).owners = s.owners := rfl
@[simp] theorem State.setHep_clk (s : State) (x : HepS) : (s.setHep x).clk = s.clk := rfl
@[simp] theorem State.setHep_dt (s : State) (x : HepS) : (s.setHep x).dt = s.dt := rfl
@[simp] theorem State.setHep_running (s : State) (x : HepS) : (s.setHep x).running = s.running := rfl
@[simp] theorem State.setHep_free (s : State) (x : HepS) : (s.setHep x).free = s.free := rfl
@[simp] theorem State.setHep_out (s : State) (x : HepS) : (s.setHep x).out = s.out := rfl
@[simp] theorem State.setHep_power (s : State) (x : HepS) : (s.setHep x).power = s.power := rfl
@[simp] theorem State.setHep_dcs (s : State) (x : HepS) : (s.setHep x).dcs = s.dcs := rfl
@[simp] theorem State.setHep_modes (s : State) (x : HepS) : (s.setHep x).modes = s.modes := rfl
@[simp] theorem State.setHep_flash (s : State) (x : HepS) : (s.setHep x).flash = s.flash := rfl
@[simp] theorem State.setHep_kindle (s : State) (x : HepS) : (s.setHep x).kindle = s.kindle := rfl
@[simp] theorem State.setHep_pos (s : State) (x : HepS) : (s.setHep x).pos = s.pos := rfl
@[simp] theorem State.setHep_stk (s : State) (x : HepS) : (s.setHep x).stk = s.stk := rfl
@[simp] theorem State.setHep_trough (s : State) (x : HepS) : (s.setHep x).trough = s.trough := rfl
@[simp] theorem State.setHep_weld (s : State) (x : HepS) : (s.setHep x).weld = s.weld := rfl
@[simp] theorem State.setHep_smb (s : State) (x : HepS) : (s.setHep x).smb = s.smb := rfl
@[simp] theorem State.setHep_hammer (s : State) (x : HepS) : (s.setHep x).hammer = s.hammer := rfl
@[simp] theorem State.setHep_hgrp (s : State) (x : HepS) : (s.setHep x).hgrp = s.hgrp := rfl
@[simp] theorem State.setHep_nozzle (s : State) (x : HepS) : (s.setHep x).nozzle = s.nozzle := rfl
@[simp] theorem State.setHep_snapClk (s : State) (x : HepS) : (s.setHep x).snapClk = s.snapClk := rfl
@[simp] theorem State.setHep_sets (s : State) (x : HepS) : (s.setHep x).sets = s.sets := rfl
@[simp] theorem State.setHep_lanes (s : State) (x : HepS) : (s.setHep x).lanes = s.lanes := rfl
@[simp] theorem State.setHep_groups (s : State) (x : HepS) : (s.setHep x).groups = s.groups := rfl
@[simp] theorem State.setHep_ports (s : State) (x : HepS) : (s.setHep x).ports = s.ports := rfl
@[simp] theorem State.setHep_eqTable (s : State) (x : HepS) : (s.setHep x).eqTable = s.eqTable := rfl
@[simp] theorem State.setHep_hearths (s : State) (x : HepS) : (s.setHep x).hearths = s.hearths := rfl
@[simp] theorem State.setHep_anvil (s : State) (x : HepS) : (s.setHep x).anvil = s.anvil := rfl
@[simp] theorem State.setHep_blw (s : State) (x : HepS) : (s.setHep x).blw = s.blw := rfl
@[simp] theorem State.setHep_readers (s : State) (x : HepS) : (s.setHep x).readers = s.readers := rfl
@[simp] theorem State.setHep_tongs (s : State) (x : HepS) : (s.setHep x).tongs = s.tongs := rfl
@[simp] theorem State.setHep_pending (s : State) (x : HepS) : (s.setHep x).pending = s.pending := rfl
@[simp] theorem State.setWeld_regs (s : State) (x : WeldS) : (s.setWeld x).regs = s.regs := rfl
@[simp] theorem State.setWeld_buf (s : State) (x : WeldS) : (s.setWeld x).buf = s.buf := rfl
@[simp] theorem State.setWeld_held (s : State) (x : WeldS) : (s.setWeld x).held = s.held := rfl
@[simp] theorem State.setWeld_upper (s : State) (x : WeldS) : (s.setWeld x).upper = s.upper := rfl
@[simp] theorem State.setWeld_hbm (s : State) (x : WeldS) : (s.setWeld x).hbm = s.hbm := rfl
@[simp] theorem State.setWeld_poison (s : State) (x : WeldS) : (s.setWeld x).poison = s.poison := rfl
@[simp] theorem State.setWeld_owners (s : State) (x : WeldS) : (s.setWeld x).owners = s.owners := rfl
@[simp] theorem State.setWeld_clk (s : State) (x : WeldS) : (s.setWeld x).clk = s.clk := rfl
@[simp] theorem State.setWeld_dt (s : State) (x : WeldS) : (s.setWeld x).dt = s.dt := rfl
@[simp] theorem State.setWeld_running (s : State) (x : WeldS) : (s.setWeld x).running = s.running := rfl
@[simp] theorem State.setWeld_free (s : State) (x : WeldS) : (s.setWeld x).free = s.free := rfl
@[simp] theorem State.setWeld_out (s : State) (x : WeldS) : (s.setWeld x).out = s.out := rfl
@[simp] theorem State.setWeld_power (s : State) (x : WeldS) : (s.setWeld x).power = s.power := rfl
@[simp] theorem State.setWeld_dcs (s : State) (x : WeldS) : (s.setWeld x).dcs = s.dcs := rfl
@[simp] theorem State.setWeld_modes (s : State) (x : WeldS) : (s.setWeld x).modes = s.modes := rfl
@[simp] theorem State.setWeld_flash (s : State) (x : WeldS) : (s.setWeld x).flash = s.flash := rfl
@[simp] theorem State.setWeld_kindle (s : State) (x : WeldS) : (s.setWeld x).kindle = s.kindle := rfl
@[simp] theorem State.setWeld_pos (s : State) (x : WeldS) : (s.setWeld x).pos = s.pos := rfl
@[simp] theorem State.setWeld_stk (s : State) (x : WeldS) : (s.setWeld x).stk = s.stk := rfl
@[simp] theorem State.setWeld_trough (s : State) (x : WeldS) : (s.setWeld x).trough = s.trough := rfl
@[simp] theorem State.setWeld_smb (s : State) (x : WeldS) : (s.setWeld x).smb = s.smb := rfl
@[simp] theorem State.setWeld_hep (s : State) (x : WeldS) : (s.setWeld x).hep = s.hep := rfl
@[simp] theorem State.setWeld_hammer (s : State) (x : WeldS) : (s.setWeld x).hammer = s.hammer := rfl
@[simp] theorem State.setWeld_hgrp (s : State) (x : WeldS) : (s.setWeld x).hgrp = s.hgrp := rfl
@[simp] theorem State.setWeld_nozzle (s : State) (x : WeldS) : (s.setWeld x).nozzle = s.nozzle := rfl
@[simp] theorem State.setWeld_snapClk (s : State) (x : WeldS) : (s.setWeld x).snapClk = s.snapClk := rfl
@[simp] theorem State.setWeld_sets (s : State) (x : WeldS) : (s.setWeld x).sets = s.sets := rfl
@[simp] theorem State.setWeld_lanes (s : State) (x : WeldS) : (s.setWeld x).lanes = s.lanes := rfl
@[simp] theorem State.setWeld_groups (s : State) (x : WeldS) : (s.setWeld x).groups = s.groups := rfl
@[simp] theorem State.setWeld_ports (s : State) (x : WeldS) : (s.setWeld x).ports = s.ports := rfl
@[simp] theorem State.setWeld_eqTable (s : State) (x : WeldS) : (s.setWeld x).eqTable = s.eqTable := rfl
@[simp] theorem State.setWeld_hearths (s : State) (x : WeldS) : (s.setWeld x).hearths = s.hearths := rfl
@[simp] theorem State.setWeld_anvil (s : State) (x : WeldS) : (s.setWeld x).anvil = s.anvil := rfl
@[simp] theorem State.setWeld_blw (s : State) (x : WeldS) : (s.setWeld x).blw = s.blw := rfl
@[simp] theorem State.setWeld_readers (s : State) (x : WeldS) : (s.setWeld x).readers = s.readers := rfl
@[simp] theorem State.setWeld_tongs (s : State) (x : WeldS) : (s.setWeld x).tongs = s.tongs := rfl
@[simp] theorem State.setWeld_pending (s : State) (x : WeldS) : (s.setWeld x).pending = s.pending := rfl
@[simp] theorem State.setSmb_regs (s : State) (x : SmbS) : (s.setSmb x).regs = s.regs := rfl
@[simp] theorem State.setSmb_buf (s : State) (x : SmbS) : (s.setSmb x).buf = s.buf := rfl
@[simp] theorem State.setSmb_held (s : State) (x : SmbS) : (s.setSmb x).held = s.held := rfl
@[simp] theorem State.setSmb_upper (s : State) (x : SmbS) : (s.setSmb x).upper = s.upper := rfl
@[simp] theorem State.setSmb_hbm (s : State) (x : SmbS) : (s.setSmb x).hbm = s.hbm := rfl
@[simp] theorem State.setSmb_poison (s : State) (x : SmbS) : (s.setSmb x).poison = s.poison := rfl
@[simp] theorem State.setSmb_owners (s : State) (x : SmbS) : (s.setSmb x).owners = s.owners := rfl
@[simp] theorem State.setSmb_clk (s : State) (x : SmbS) : (s.setSmb x).clk = s.clk := rfl
@[simp] theorem State.setSmb_dt (s : State) (x : SmbS) : (s.setSmb x).dt = s.dt := rfl
@[simp] theorem State.setSmb_running (s : State) (x : SmbS) : (s.setSmb x).running = s.running := rfl
@[simp] theorem State.setSmb_free (s : State) (x : SmbS) : (s.setSmb x).free = s.free := rfl
@[simp] theorem State.setSmb_out (s : State) (x : SmbS) : (s.setSmb x).out = s.out := rfl
@[simp] theorem State.setSmb_power (s : State) (x : SmbS) : (s.setSmb x).power = s.power := rfl
@[simp] theorem State.setSmb_dcs (s : State) (x : SmbS) : (s.setSmb x).dcs = s.dcs := rfl
@[simp] theorem State.setSmb_modes (s : State) (x : SmbS) : (s.setSmb x).modes = s.modes := rfl
@[simp] theorem State.setSmb_flash (s : State) (x : SmbS) : (s.setSmb x).flash = s.flash := rfl
@[simp] theorem State.setSmb_kindle (s : State) (x : SmbS) : (s.setSmb x).kindle = s.kindle := rfl
@[simp] theorem State.setSmb_pos (s : State) (x : SmbS) : (s.setSmb x).pos = s.pos := rfl
@[simp] theorem State.setSmb_stk (s : State) (x : SmbS) : (s.setSmb x).stk = s.stk := rfl
@[simp] theorem State.setSmb_trough (s : State) (x : SmbS) : (s.setSmb x).trough = s.trough := rfl
@[simp] theorem State.setSmb_weld (s : State) (x : SmbS) : (s.setSmb x).weld = s.weld := rfl
@[simp] theorem State.setSmb_hep (s : State) (x : SmbS) : (s.setSmb x).hep = s.hep := rfl
@[simp] theorem State.setSmb_hammer (s : State) (x : SmbS) : (s.setSmb x).hammer = s.hammer := rfl
@[simp] theorem State.setSmb_hgrp (s : State) (x : SmbS) : (s.setSmb x).hgrp = s.hgrp := rfl
@[simp] theorem State.setSmb_nozzle (s : State) (x : SmbS) : (s.setSmb x).nozzle = s.nozzle := rfl
@[simp] theorem State.setSmb_snapClk (s : State) (x : SmbS) : (s.setSmb x).snapClk = s.snapClk := rfl
@[simp] theorem State.setSmb_sets (s : State) (x : SmbS) : (s.setSmb x).sets = s.sets := rfl
@[simp] theorem State.setSmb_lanes (s : State) (x : SmbS) : (s.setSmb x).lanes = s.lanes := rfl
@[simp] theorem State.setSmb_groups (s : State) (x : SmbS) : (s.setSmb x).groups = s.groups := rfl
@[simp] theorem State.setSmb_ports (s : State) (x : SmbS) : (s.setSmb x).ports = s.ports := rfl
@[simp] theorem State.setSmb_eqTable (s : State) (x : SmbS) : (s.setSmb x).eqTable = s.eqTable := rfl
@[simp] theorem State.setSmb_hearths (s : State) (x : SmbS) : (s.setSmb x).hearths = s.hearths := rfl
@[simp] theorem State.setSmb_anvil (s : State) (x : SmbS) : (s.setSmb x).anvil = s.anvil := rfl
@[simp] theorem State.setSmb_blw (s : State) (x : SmbS) : (s.setSmb x).blw = s.blw := rfl
@[simp] theorem State.setSmb_readers (s : State) (x : SmbS) : (s.setSmb x).readers = s.readers := rfl
@[simp] theorem State.setSmb_tongs (s : State) (x : SmbS) : (s.setSmb x).tongs = s.tongs := rfl
@[simp] theorem State.setSmb_pending (s : State) (x : SmbS) : (s.setSmb x).pending = s.pending := rfl
@[simp] theorem State.setBlw_regs (s : State) (x : BlwS) : (s.setBlw x).regs = s.regs := rfl
@[simp] theorem State.setBlw_buf (s : State) (x : BlwS) : (s.setBlw x).buf = s.buf := rfl
@[simp] theorem State.setBlw_held (s : State) (x : BlwS) : (s.setBlw x).held = s.held := rfl
@[simp] theorem State.setBlw_upper (s : State) (x : BlwS) : (s.setBlw x).upper = s.upper := rfl
@[simp] theorem State.setBlw_hbm (s : State) (x : BlwS) : (s.setBlw x).hbm = s.hbm := rfl
@[simp] theorem State.setBlw_poison (s : State) (x : BlwS) : (s.setBlw x).poison = s.poison := rfl
@[simp] theorem State.setBlw_owners (s : State) (x : BlwS) : (s.setBlw x).owners = s.owners := rfl
@[simp] theorem State.setBlw_clk (s : State) (x : BlwS) : (s.setBlw x).clk = s.clk := rfl
@[simp] theorem State.setBlw_dt (s : State) (x : BlwS) : (s.setBlw x).dt = s.dt := rfl
@[simp] theorem State.setBlw_running (s : State) (x : BlwS) : (s.setBlw x).running = s.running := rfl
@[simp] theorem State.setBlw_free (s : State) (x : BlwS) : (s.setBlw x).free = s.free := rfl
@[simp] theorem State.setBlw_out (s : State) (x : BlwS) : (s.setBlw x).out = s.out := rfl
@[simp] theorem State.setBlw_power (s : State) (x : BlwS) : (s.setBlw x).power = s.power := rfl
@[simp] theorem State.setBlw_dcs (s : State) (x : BlwS) : (s.setBlw x).dcs = s.dcs := rfl
@[simp] theorem State.setBlw_modes (s : State) (x : BlwS) : (s.setBlw x).modes = s.modes := rfl
@[simp] theorem State.setBlw_flash (s : State) (x : BlwS) : (s.setBlw x).flash = s.flash := rfl
@[simp] theorem State.setBlw_kindle (s : State) (x : BlwS) : (s.setBlw x).kindle = s.kindle := rfl
@[simp] theorem State.setBlw_pos (s : State) (x : BlwS) : (s.setBlw x).pos = s.pos := rfl
@[simp] theorem State.setBlw_stk (s : State) (x : BlwS) : (s.setBlw x).stk = s.stk := rfl
@[simp] theorem State.setBlw_trough (s : State) (x : BlwS) : (s.setBlw x).trough = s.trough := rfl
@[simp] theorem State.setBlw_weld (s : State) (x : BlwS) : (s.setBlw x).weld = s.weld := rfl
@[simp] theorem State.setBlw_smb (s : State) (x : BlwS) : (s.setBlw x).smb = s.smb := rfl
@[simp] theorem State.setBlw_hep (s : State) (x : BlwS) : (s.setBlw x).hep = s.hep := rfl
@[simp] theorem State.setBlw_hammer (s : State) (x : BlwS) : (s.setBlw x).hammer = s.hammer := rfl
@[simp] theorem State.setBlw_hgrp (s : State) (x : BlwS) : (s.setBlw x).hgrp = s.hgrp := rfl
@[simp] theorem State.setBlw_nozzle (s : State) (x : BlwS) : (s.setBlw x).nozzle = s.nozzle := rfl
@[simp] theorem State.setBlw_snapClk (s : State) (x : BlwS) : (s.setBlw x).snapClk = s.snapClk := rfl
@[simp] theorem State.setBlw_sets (s : State) (x : BlwS) : (s.setBlw x).sets = s.sets := rfl
@[simp] theorem State.setBlw_lanes (s : State) (x : BlwS) : (s.setBlw x).lanes = s.lanes := rfl
@[simp] theorem State.setBlw_groups (s : State) (x : BlwS) : (s.setBlw x).groups = s.groups := rfl
@[simp] theorem State.setBlw_ports (s : State) (x : BlwS) : (s.setBlw x).ports = s.ports := rfl
@[simp] theorem State.setBlw_eqTable (s : State) (x : BlwS) : (s.setBlw x).eqTable = s.eqTable := rfl
@[simp] theorem State.setBlw_hearths (s : State) (x : BlwS) : (s.setBlw x).hearths = s.hearths := rfl
@[simp] theorem State.setBlw_anvil (s : State) (x : BlwS) : (s.setBlw x).anvil = s.anvil := rfl
@[simp] theorem State.setBlw_readers (s : State) (x : BlwS) : (s.setBlw x).readers = s.readers := rfl
@[simp] theorem State.setBlw_tongs (s : State) (x : BlwS) : (s.setBlw x).tongs = s.tongs := rfl
@[simp] theorem State.setBlw_pending (s : State) (x : BlwS) : (s.setBlw x).pending = s.pending := rfl
@[simp] theorem State.setTg_regs (s : State) (ch : Nat) (x : TongsS) : (s.setTg ch x).regs = s.regs := rfl
@[simp] theorem State.setTg_buf (s : State) (ch : Nat) (x : TongsS) : (s.setTg ch x).buf = s.buf := rfl
@[simp] theorem State.setTg_held (s : State) (ch : Nat) (x : TongsS) : (s.setTg ch x).held = s.held := rfl
@[simp] theorem State.setTg_upper (s : State) (ch : Nat) (x : TongsS) : (s.setTg ch x).upper = s.upper := rfl
@[simp] theorem State.setTg_hbm (s : State) (ch : Nat) (x : TongsS) : (s.setTg ch x).hbm = s.hbm := rfl
@[simp] theorem State.setTg_poison (s : State) (ch : Nat) (x : TongsS) : (s.setTg ch x).poison = s.poison := rfl
@[simp] theorem State.setTg_owners (s : State) (ch : Nat) (x : TongsS) : (s.setTg ch x).owners = s.owners := rfl
@[simp] theorem State.setTg_clk (s : State) (ch : Nat) (x : TongsS) : (s.setTg ch x).clk = s.clk := rfl
@[simp] theorem State.setTg_dt (s : State) (ch : Nat) (x : TongsS) : (s.setTg ch x).dt = s.dt := rfl
@[simp] theorem State.setTg_running (s : State) (ch : Nat) (x : TongsS) : (s.setTg ch x).running = s.running := rfl
@[simp] theorem State.setTg_free (s : State) (ch : Nat) (x : TongsS) : (s.setTg ch x).free = s.free := rfl
@[simp] theorem State.setTg_out (s : State) (ch : Nat) (x : TongsS) : (s.setTg ch x).out = s.out := rfl
@[simp] theorem State.setTg_power (s : State) (ch : Nat) (x : TongsS) : (s.setTg ch x).power = s.power := rfl
@[simp] theorem State.setTg_dcs (s : State) (ch : Nat) (x : TongsS) : (s.setTg ch x).dcs = s.dcs := rfl
@[simp] theorem State.setTg_modes (s : State) (ch : Nat) (x : TongsS) : (s.setTg ch x).modes = s.modes := rfl
@[simp] theorem State.setTg_flash (s : State) (ch : Nat) (x : TongsS) : (s.setTg ch x).flash = s.flash := rfl
@[simp] theorem State.setTg_kindle (s : State) (ch : Nat) (x : TongsS) : (s.setTg ch x).kindle = s.kindle := rfl
@[simp] theorem State.setTg_pos (s : State) (ch : Nat) (x : TongsS) : (s.setTg ch x).pos = s.pos := rfl
@[simp] theorem State.setTg_stk (s : State) (ch : Nat) (x : TongsS) : (s.setTg ch x).stk = s.stk := rfl
@[simp] theorem State.setTg_trough (s : State) (ch : Nat) (x : TongsS) : (s.setTg ch x).trough = s.trough := rfl
@[simp] theorem State.setTg_weld (s : State) (ch : Nat) (x : TongsS) : (s.setTg ch x).weld = s.weld := rfl
@[simp] theorem State.setTg_smb (s : State) (ch : Nat) (x : TongsS) : (s.setTg ch x).smb = s.smb := rfl
@[simp] theorem State.setTg_hep (s : State) (ch : Nat) (x : TongsS) : (s.setTg ch x).hep = s.hep := rfl
@[simp] theorem State.setTg_hammer (s : State) (ch : Nat) (x : TongsS) : (s.setTg ch x).hammer = s.hammer := rfl
@[simp] theorem State.setTg_hgrp (s : State) (ch : Nat) (x : TongsS) : (s.setTg ch x).hgrp = s.hgrp := rfl
@[simp] theorem State.setTg_nozzle (s : State) (ch : Nat) (x : TongsS) : (s.setTg ch x).nozzle = s.nozzle := rfl
@[simp] theorem State.setTg_snapClk (s : State) (ch : Nat) (x : TongsS) : (s.setTg ch x).snapClk = s.snapClk := rfl
@[simp] theorem State.setTg_sets (s : State) (ch : Nat) (x : TongsS) : (s.setTg ch x).sets = s.sets := rfl
@[simp] theorem State.setTg_lanes (s : State) (ch : Nat) (x : TongsS) : (s.setTg ch x).lanes = s.lanes := rfl
@[simp] theorem State.setTg_groups (s : State) (ch : Nat) (x : TongsS) : (s.setTg ch x).groups = s.groups := rfl
@[simp] theorem State.setTg_ports (s : State) (ch : Nat) (x : TongsS) : (s.setTg ch x).ports = s.ports := rfl
@[simp] theorem State.setTg_eqTable (s : State) (ch : Nat) (x : TongsS) : (s.setTg ch x).eqTable = s.eqTable := rfl
@[simp] theorem State.setTg_hearths (s : State) (ch : Nat) (x : TongsS) : (s.setTg ch x).hearths = s.hearths := rfl
@[simp] theorem State.setTg_anvil (s : State) (ch : Nat) (x : TongsS) : (s.setTg ch x).anvil = s.anvil := rfl
@[simp] theorem State.setTg_blw (s : State) (ch : Nat) (x : TongsS) : (s.setTg ch x).blw = s.blw := rfl
@[simp] theorem State.setTg_readers (s : State) (ch : Nat) (x : TongsS) : (s.setTg ch x).readers = s.readers := rfl
@[simp] theorem State.setTg_pending (s : State) (ch : Nat) (x : TongsS) : (s.setTg ch x).pending = s.pending := rfl
@[simp] theorem State.setPort_regs (s : State) (p : Nat) (x : PortS) : (s.setPort p x).regs = s.regs := rfl
@[simp] theorem State.setPort_buf (s : State) (p : Nat) (x : PortS) : (s.setPort p x).buf = s.buf := rfl
@[simp] theorem State.setPort_held (s : State) (p : Nat) (x : PortS) : (s.setPort p x).held = s.held := rfl
@[simp] theorem State.setPort_upper (s : State) (p : Nat) (x : PortS) : (s.setPort p x).upper = s.upper := rfl
@[simp] theorem State.setPort_hbm (s : State) (p : Nat) (x : PortS) : (s.setPort p x).hbm = s.hbm := rfl
@[simp] theorem State.setPort_poison (s : State) (p : Nat) (x : PortS) : (s.setPort p x).poison = s.poison := rfl
@[simp] theorem State.setPort_owners (s : State) (p : Nat) (x : PortS) : (s.setPort p x).owners = s.owners := rfl
@[simp] theorem State.setPort_clk (s : State) (p : Nat) (x : PortS) : (s.setPort p x).clk = s.clk := rfl
@[simp] theorem State.setPort_dt (s : State) (p : Nat) (x : PortS) : (s.setPort p x).dt = s.dt := rfl
@[simp] theorem State.setPort_running (s : State) (p : Nat) (x : PortS) : (s.setPort p x).running = s.running := rfl
@[simp] theorem State.setPort_free (s : State) (p : Nat) (x : PortS) : (s.setPort p x).free = s.free := rfl
@[simp] theorem State.setPort_out (s : State) (p : Nat) (x : PortS) : (s.setPort p x).out = s.out := rfl
@[simp] theorem State.setPort_power (s : State) (p : Nat) (x : PortS) : (s.setPort p x).power = s.power := rfl
@[simp] theorem State.setPort_dcs (s : State) (p : Nat) (x : PortS) : (s.setPort p x).dcs = s.dcs := rfl
@[simp] theorem State.setPort_modes (s : State) (p : Nat) (x : PortS) : (s.setPort p x).modes = s.modes := rfl
@[simp] theorem State.setPort_flash (s : State) (p : Nat) (x : PortS) : (s.setPort p x).flash = s.flash := rfl
@[simp] theorem State.setPort_kindle (s : State) (p : Nat) (x : PortS) : (s.setPort p x).kindle = s.kindle := rfl
@[simp] theorem State.setPort_pos (s : State) (p : Nat) (x : PortS) : (s.setPort p x).pos = s.pos := rfl
@[simp] theorem State.setPort_stk (s : State) (p : Nat) (x : PortS) : (s.setPort p x).stk = s.stk := rfl
@[simp] theorem State.setPort_trough (s : State) (p : Nat) (x : PortS) : (s.setPort p x).trough = s.trough := rfl
@[simp] theorem State.setPort_weld (s : State) (p : Nat) (x : PortS) : (s.setPort p x).weld = s.weld := rfl
@[simp] theorem State.setPort_smb (s : State) (p : Nat) (x : PortS) : (s.setPort p x).smb = s.smb := rfl
@[simp] theorem State.setPort_hep (s : State) (p : Nat) (x : PortS) : (s.setPort p x).hep = s.hep := rfl
@[simp] theorem State.setPort_hammer (s : State) (p : Nat) (x : PortS) : (s.setPort p x).hammer = s.hammer := rfl
@[simp] theorem State.setPort_hgrp (s : State) (p : Nat) (x : PortS) : (s.setPort p x).hgrp = s.hgrp := rfl
@[simp] theorem State.setPort_nozzle (s : State) (p : Nat) (x : PortS) : (s.setPort p x).nozzle = s.nozzle := rfl
@[simp] theorem State.setPort_snapClk (s : State) (p : Nat) (x : PortS) : (s.setPort p x).snapClk = s.snapClk := rfl
@[simp] theorem State.setPort_sets (s : State) (p : Nat) (x : PortS) : (s.setPort p x).sets = s.sets := rfl
@[simp] theorem State.setPort_lanes (s : State) (p : Nat) (x : PortS) : (s.setPort p x).lanes = s.lanes := rfl
@[simp] theorem State.setPort_groups (s : State) (p : Nat) (x : PortS) : (s.setPort p x).groups = s.groups := rfl
@[simp] theorem State.setPort_eqTable (s : State) (p : Nat) (x : PortS) : (s.setPort p x).eqTable = s.eqTable := rfl
@[simp] theorem State.setPort_hearths (s : State) (p : Nat) (x : PortS) : (s.setPort p x).hearths = s.hearths := rfl
@[simp] theorem State.setPort_anvil (s : State) (p : Nat) (x : PortS) : (s.setPort p x).anvil = s.anvil := rfl
@[simp] theorem State.setPort_blw (s : State) (p : Nat) (x : PortS) : (s.setPort p x).blw = s.blw := rfl
@[simp] theorem State.setPort_readers (s : State) (p : Nat) (x : PortS) : (s.setPort p x).readers = s.readers := rfl
@[simp] theorem State.setPort_tongs (s : State) (p : Nat) (x : PortS) : (s.setPort p x).tongs = s.tongs := rfl
@[simp] theorem State.setPort_pending (s : State) (p : Nat) (x : PortS) : (s.setPort p x).pending = s.pending := rfl
@[simp] theorem State.setLane_regs (s : State) (k : Nat) (x : LaneS) : (s.setLane k x).regs = s.regs := rfl
@[simp] theorem State.setLane_buf (s : State) (k : Nat) (x : LaneS) : (s.setLane k x).buf = s.buf := rfl
@[simp] theorem State.setLane_held (s : State) (k : Nat) (x : LaneS) : (s.setLane k x).held = s.held := rfl
@[simp] theorem State.setLane_upper (s : State) (k : Nat) (x : LaneS) : (s.setLane k x).upper = s.upper := rfl
@[simp] theorem State.setLane_hbm (s : State) (k : Nat) (x : LaneS) : (s.setLane k x).hbm = s.hbm := rfl
@[simp] theorem State.setLane_poison (s : State) (k : Nat) (x : LaneS) : (s.setLane k x).poison = s.poison := rfl
@[simp] theorem State.setLane_owners (s : State) (k : Nat) (x : LaneS) : (s.setLane k x).owners = s.owners := rfl
@[simp] theorem State.setLane_clk (s : State) (k : Nat) (x : LaneS) : (s.setLane k x).clk = s.clk := rfl
@[simp] theorem State.setLane_dt (s : State) (k : Nat) (x : LaneS) : (s.setLane k x).dt = s.dt := rfl
@[simp] theorem State.setLane_running (s : State) (k : Nat) (x : LaneS) : (s.setLane k x).running = s.running := rfl
@[simp] theorem State.setLane_free (s : State) (k : Nat) (x : LaneS) : (s.setLane k x).free = s.free := rfl
@[simp] theorem State.setLane_out (s : State) (k : Nat) (x : LaneS) : (s.setLane k x).out = s.out := rfl
@[simp] theorem State.setLane_power (s : State) (k : Nat) (x : LaneS) : (s.setLane k x).power = s.power := rfl
@[simp] theorem State.setLane_dcs (s : State) (k : Nat) (x : LaneS) : (s.setLane k x).dcs = s.dcs := rfl
@[simp] theorem State.setLane_modes (s : State) (k : Nat) (x : LaneS) : (s.setLane k x).modes = s.modes := rfl
@[simp] theorem State.setLane_flash (s : State) (k : Nat) (x : LaneS) : (s.setLane k x).flash = s.flash := rfl
@[simp] theorem State.setLane_kindle (s : State) (k : Nat) (x : LaneS) : (s.setLane k x).kindle = s.kindle := rfl
@[simp] theorem State.setLane_pos (s : State) (k : Nat) (x : LaneS) : (s.setLane k x).pos = s.pos := rfl
@[simp] theorem State.setLane_stk (s : State) (k : Nat) (x : LaneS) : (s.setLane k x).stk = s.stk := rfl
@[simp] theorem State.setLane_trough (s : State) (k : Nat) (x : LaneS) : (s.setLane k x).trough = s.trough := rfl
@[simp] theorem State.setLane_weld (s : State) (k : Nat) (x : LaneS) : (s.setLane k x).weld = s.weld := rfl
@[simp] theorem State.setLane_smb (s : State) (k : Nat) (x : LaneS) : (s.setLane k x).smb = s.smb := rfl
@[simp] theorem State.setLane_hep (s : State) (k : Nat) (x : LaneS) : (s.setLane k x).hep = s.hep := rfl
@[simp] theorem State.setLane_hammer (s : State) (k : Nat) (x : LaneS) : (s.setLane k x).hammer = s.hammer := rfl
@[simp] theorem State.setLane_hgrp (s : State) (k : Nat) (x : LaneS) : (s.setLane k x).hgrp = s.hgrp := rfl
@[simp] theorem State.setLane_nozzle (s : State) (k : Nat) (x : LaneS) : (s.setLane k x).nozzle = s.nozzle := rfl
@[simp] theorem State.setLane_snapClk (s : State) (k : Nat) (x : LaneS) : (s.setLane k x).snapClk = s.snapClk := rfl
@[simp] theorem State.setLane_sets (s : State) (k : Nat) (x : LaneS) : (s.setLane k x).sets = s.sets := rfl
@[simp] theorem State.setLane_groups (s : State) (k : Nat) (x : LaneS) : (s.setLane k x).groups = s.groups := rfl
@[simp] theorem State.setLane_ports (s : State) (k : Nat) (x : LaneS) : (s.setLane k x).ports = s.ports := rfl
@[simp] theorem State.setLane_eqTable (s : State) (k : Nat) (x : LaneS) : (s.setLane k x).eqTable = s.eqTable := rfl
@[simp] theorem State.setLane_hearths (s : State) (k : Nat) (x : LaneS) : (s.setLane k x).hearths = s.hearths := rfl
@[simp] theorem State.setLane_anvil (s : State) (k : Nat) (x : LaneS) : (s.setLane k x).anvil = s.anvil := rfl
@[simp] theorem State.setLane_blw (s : State) (k : Nat) (x : LaneS) : (s.setLane k x).blw = s.blw := rfl
@[simp] theorem State.setLane_readers (s : State) (k : Nat) (x : LaneS) : (s.setLane k x).readers = s.readers := rfl
@[simp] theorem State.setLane_tongs (s : State) (k : Nat) (x : LaneS) : (s.setLane k x).tongs = s.tongs := rfl
@[simp] theorem State.setLane_pending (s : State) (k : Nat) (x : LaneS) : (s.setLane k x).pending = s.pending := rfl
@[simp] theorem State.setLgrp_regs (s : State) (g : Nat) (x : GroupS) : (s.setLgrp g x).regs = s.regs := rfl
@[simp] theorem State.setLgrp_buf (s : State) (g : Nat) (x : GroupS) : (s.setLgrp g x).buf = s.buf := rfl
@[simp] theorem State.setLgrp_held (s : State) (g : Nat) (x : GroupS) : (s.setLgrp g x).held = s.held := rfl
@[simp] theorem State.setLgrp_upper (s : State) (g : Nat) (x : GroupS) : (s.setLgrp g x).upper = s.upper := rfl
@[simp] theorem State.setLgrp_hbm (s : State) (g : Nat) (x : GroupS) : (s.setLgrp g x).hbm = s.hbm := rfl
@[simp] theorem State.setLgrp_poison (s : State) (g : Nat) (x : GroupS) : (s.setLgrp g x).poison = s.poison := rfl
@[simp] theorem State.setLgrp_owners (s : State) (g : Nat) (x : GroupS) : (s.setLgrp g x).owners = s.owners := rfl
@[simp] theorem State.setLgrp_clk (s : State) (g : Nat) (x : GroupS) : (s.setLgrp g x).clk = s.clk := rfl
@[simp] theorem State.setLgrp_dt (s : State) (g : Nat) (x : GroupS) : (s.setLgrp g x).dt = s.dt := rfl
@[simp] theorem State.setLgrp_running (s : State) (g : Nat) (x : GroupS) : (s.setLgrp g x).running = s.running := rfl
@[simp] theorem State.setLgrp_free (s : State) (g : Nat) (x : GroupS) : (s.setLgrp g x).free = s.free := rfl
@[simp] theorem State.setLgrp_out (s : State) (g : Nat) (x : GroupS) : (s.setLgrp g x).out = s.out := rfl
@[simp] theorem State.setLgrp_power (s : State) (g : Nat) (x : GroupS) : (s.setLgrp g x).power = s.power := rfl
@[simp] theorem State.setLgrp_dcs (s : State) (g : Nat) (x : GroupS) : (s.setLgrp g x).dcs = s.dcs := rfl
@[simp] theorem State.setLgrp_modes (s : State) (g : Nat) (x : GroupS) : (s.setLgrp g x).modes = s.modes := rfl
@[simp] theorem State.setLgrp_flash (s : State) (g : Nat) (x : GroupS) : (s.setLgrp g x).flash = s.flash := rfl
@[simp] theorem State.setLgrp_kindle (s : State) (g : Nat) (x : GroupS) : (s.setLgrp g x).kindle = s.kindle := rfl
@[simp] theorem State.setLgrp_pos (s : State) (g : Nat) (x : GroupS) : (s.setLgrp g x).pos = s.pos := rfl
@[simp] theorem State.setLgrp_stk (s : State) (g : Nat) (x : GroupS) : (s.setLgrp g x).stk = s.stk := rfl
@[simp] theorem State.setLgrp_trough (s : State) (g : Nat) (x : GroupS) : (s.setLgrp g x).trough = s.trough := rfl
@[simp] theorem State.setLgrp_weld (s : State) (g : Nat) (x : GroupS) : (s.setLgrp g x).weld = s.weld := rfl
@[simp] theorem State.setLgrp_smb (s : State) (g : Nat) (x : GroupS) : (s.setLgrp g x).smb = s.smb := rfl
@[simp] theorem State.setLgrp_hep (s : State) (g : Nat) (x : GroupS) : (s.setLgrp g x).hep = s.hep := rfl
@[simp] theorem State.setLgrp_hammer (s : State) (g : Nat) (x : GroupS) : (s.setLgrp g x).hammer = s.hammer := rfl
@[simp] theorem State.setLgrp_hgrp (s : State) (g : Nat) (x : GroupS) : (s.setLgrp g x).hgrp = s.hgrp := rfl
@[simp] theorem State.setLgrp_nozzle (s : State) (g : Nat) (x : GroupS) : (s.setLgrp g x).nozzle = s.nozzle := rfl
@[simp] theorem State.setLgrp_snapClk (s : State) (g : Nat) (x : GroupS) : (s.setLgrp g x).snapClk = s.snapClk := rfl
@[simp] theorem State.setLgrp_sets (s : State) (g : Nat) (x : GroupS) : (s.setLgrp g x).sets = s.sets := rfl
@[simp] theorem State.setLgrp_lanes (s : State) (g : Nat) (x : GroupS) : (s.setLgrp g x).lanes = s.lanes := rfl
@[simp] theorem State.setLgrp_ports (s : State) (g : Nat) (x : GroupS) : (s.setLgrp g x).ports = s.ports := rfl
@[simp] theorem State.setLgrp_eqTable (s : State) (g : Nat) (x : GroupS) : (s.setLgrp g x).eqTable = s.eqTable := rfl
@[simp] theorem State.setLgrp_hearths (s : State) (g : Nat) (x : GroupS) : (s.setLgrp g x).hearths = s.hearths := rfl
@[simp] theorem State.setLgrp_anvil (s : State) (g : Nat) (x : GroupS) : (s.setLgrp g x).anvil = s.anvil := rfl
@[simp] theorem State.setLgrp_blw (s : State) (g : Nat) (x : GroupS) : (s.setLgrp g x).blw = s.blw := rfl
@[simp] theorem State.setLgrp_readers (s : State) (g : Nat) (x : GroupS) : (s.setLgrp g x).readers = s.readers := rfl
@[simp] theorem State.setLgrp_tongs (s : State) (g : Nat) (x : GroupS) : (s.setLgrp g x).tongs = s.tongs := rfl
@[simp] theorem State.setLgrp_pending (s : State) (g : Nat) (x : GroupS) : (s.setLgrp g x).pending = s.pending := rfl
@[simp] theorem State.setHth_regs (s : State) (n : Nat) (x : HearthS) : (s.setHth n x).regs = s.regs := rfl
@[simp] theorem State.setHth_buf (s : State) (n : Nat) (x : HearthS) : (s.setHth n x).buf = s.buf := rfl
@[simp] theorem State.setHth_held (s : State) (n : Nat) (x : HearthS) : (s.setHth n x).held = s.held := rfl
@[simp] theorem State.setHth_upper (s : State) (n : Nat) (x : HearthS) : (s.setHth n x).upper = s.upper := rfl
@[simp] theorem State.setHth_hbm (s : State) (n : Nat) (x : HearthS) : (s.setHth n x).hbm = s.hbm := rfl
@[simp] theorem State.setHth_poison (s : State) (n : Nat) (x : HearthS) : (s.setHth n x).poison = s.poison := rfl
@[simp] theorem State.setHth_owners (s : State) (n : Nat) (x : HearthS) : (s.setHth n x).owners = s.owners := rfl
@[simp] theorem State.setHth_clk (s : State) (n : Nat) (x : HearthS) : (s.setHth n x).clk = s.clk := rfl
@[simp] theorem State.setHth_dt (s : State) (n : Nat) (x : HearthS) : (s.setHth n x).dt = s.dt := rfl
@[simp] theorem State.setHth_running (s : State) (n : Nat) (x : HearthS) : (s.setHth n x).running = s.running := rfl
@[simp] theorem State.setHth_free (s : State) (n : Nat) (x : HearthS) : (s.setHth n x).free = s.free := rfl
@[simp] theorem State.setHth_out (s : State) (n : Nat) (x : HearthS) : (s.setHth n x).out = s.out := rfl
@[simp] theorem State.setHth_power (s : State) (n : Nat) (x : HearthS) : (s.setHth n x).power = s.power := rfl
@[simp] theorem State.setHth_dcs (s : State) (n : Nat) (x : HearthS) : (s.setHth n x).dcs = s.dcs := rfl
@[simp] theorem State.setHth_modes (s : State) (n : Nat) (x : HearthS) : (s.setHth n x).modes = s.modes := rfl
@[simp] theorem State.setHth_flash (s : State) (n : Nat) (x : HearthS) : (s.setHth n x).flash = s.flash := rfl
@[simp] theorem State.setHth_kindle (s : State) (n : Nat) (x : HearthS) : (s.setHth n x).kindle = s.kindle := rfl
@[simp] theorem State.setHth_pos (s : State) (n : Nat) (x : HearthS) : (s.setHth n x).pos = s.pos := rfl
@[simp] theorem State.setHth_stk (s : State) (n : Nat) (x : HearthS) : (s.setHth n x).stk = s.stk := rfl
@[simp] theorem State.setHth_trough (s : State) (n : Nat) (x : HearthS) : (s.setHth n x).trough = s.trough := rfl
@[simp] theorem State.setHth_weld (s : State) (n : Nat) (x : HearthS) : (s.setHth n x).weld = s.weld := rfl
@[simp] theorem State.setHth_smb (s : State) (n : Nat) (x : HearthS) : (s.setHth n x).smb = s.smb := rfl
@[simp] theorem State.setHth_hep (s : State) (n : Nat) (x : HearthS) : (s.setHth n x).hep = s.hep := rfl
@[simp] theorem State.setHth_hammer (s : State) (n : Nat) (x : HearthS) : (s.setHth n x).hammer = s.hammer := rfl
@[simp] theorem State.setHth_hgrp (s : State) (n : Nat) (x : HearthS) : (s.setHth n x).hgrp = s.hgrp := rfl
@[simp] theorem State.setHth_nozzle (s : State) (n : Nat) (x : HearthS) : (s.setHth n x).nozzle = s.nozzle := rfl
@[simp] theorem State.setHth_snapClk (s : State) (n : Nat) (x : HearthS) : (s.setHth n x).snapClk = s.snapClk := rfl
@[simp] theorem State.setHth_sets (s : State) (n : Nat) (x : HearthS) : (s.setHth n x).sets = s.sets := rfl
@[simp] theorem State.setHth_lanes (s : State) (n : Nat) (x : HearthS) : (s.setHth n x).lanes = s.lanes := rfl
@[simp] theorem State.setHth_groups (s : State) (n : Nat) (x : HearthS) : (s.setHth n x).groups = s.groups := rfl
@[simp] theorem State.setHth_ports (s : State) (n : Nat) (x : HearthS) : (s.setHth n x).ports = s.ports := rfl
@[simp] theorem State.setHth_eqTable (s : State) (n : Nat) (x : HearthS) : (s.setHth n x).eqTable = s.eqTable := rfl
@[simp] theorem State.setHth_anvil (s : State) (n : Nat) (x : HearthS) : (s.setHth n x).anvil = s.anvil := rfl
@[simp] theorem State.setHth_blw (s : State) (n : Nat) (x : HearthS) : (s.setHth n x).blw = s.blw := rfl
@[simp] theorem State.setHth_readers (s : State) (n : Nat) (x : HearthS) : (s.setHth n x).readers = s.readers := rfl
@[simp] theorem State.setHth_tongs (s : State) (n : Nat) (x : HearthS) : (s.setHth n x).tongs = s.tongs := rfl
@[simp] theorem State.setHth_pending (s : State) (n : Nat) (x : HearthS) : (s.setHth n x).pending = s.pending := rfl
@[simp] theorem State.setHm_regs (s : State) (c : Nat) (x : HammerS) : (s.setHm c x).regs = s.regs := rfl
@[simp] theorem State.setHm_buf (s : State) (c : Nat) (x : HammerS) : (s.setHm c x).buf = s.buf := rfl
@[simp] theorem State.setHm_held (s : State) (c : Nat) (x : HammerS) : (s.setHm c x).held = s.held := rfl
@[simp] theorem State.setHm_upper (s : State) (c : Nat) (x : HammerS) : (s.setHm c x).upper = s.upper := rfl
@[simp] theorem State.setHm_hbm (s : State) (c : Nat) (x : HammerS) : (s.setHm c x).hbm = s.hbm := rfl
@[simp] theorem State.setHm_poison (s : State) (c : Nat) (x : HammerS) : (s.setHm c x).poison = s.poison := rfl
@[simp] theorem State.setHm_owners (s : State) (c : Nat) (x : HammerS) : (s.setHm c x).owners = s.owners := rfl
@[simp] theorem State.setHm_clk (s : State) (c : Nat) (x : HammerS) : (s.setHm c x).clk = s.clk := rfl
@[simp] theorem State.setHm_dt (s : State) (c : Nat) (x : HammerS) : (s.setHm c x).dt = s.dt := rfl
@[simp] theorem State.setHm_running (s : State) (c : Nat) (x : HammerS) : (s.setHm c x).running = s.running := rfl
@[simp] theorem State.setHm_free (s : State) (c : Nat) (x : HammerS) : (s.setHm c x).free = s.free := rfl
@[simp] theorem State.setHm_out (s : State) (c : Nat) (x : HammerS) : (s.setHm c x).out = s.out := rfl
@[simp] theorem State.setHm_power (s : State) (c : Nat) (x : HammerS) : (s.setHm c x).power = s.power := rfl
@[simp] theorem State.setHm_dcs (s : State) (c : Nat) (x : HammerS) : (s.setHm c x).dcs = s.dcs := rfl
@[simp] theorem State.setHm_modes (s : State) (c : Nat) (x : HammerS) : (s.setHm c x).modes = s.modes := rfl
@[simp] theorem State.setHm_flash (s : State) (c : Nat) (x : HammerS) : (s.setHm c x).flash = s.flash := rfl
@[simp] theorem State.setHm_kindle (s : State) (c : Nat) (x : HammerS) : (s.setHm c x).kindle = s.kindle := rfl
@[simp] theorem State.setHm_pos (s : State) (c : Nat) (x : HammerS) : (s.setHm c x).pos = s.pos := rfl
@[simp] theorem State.setHm_stk (s : State) (c : Nat) (x : HammerS) : (s.setHm c x).stk = s.stk := rfl
@[simp] theorem State.setHm_trough (s : State) (c : Nat) (x : HammerS) : (s.setHm c x).trough = s.trough := rfl
@[simp] theorem State.setHm_weld (s : State) (c : Nat) (x : HammerS) : (s.setHm c x).weld = s.weld := rfl
@[simp] theorem State.setHm_smb (s : State) (c : Nat) (x : HammerS) : (s.setHm c x).smb = s.smb := rfl
@[simp] theorem State.setHm_hep (s : State) (c : Nat) (x : HammerS) : (s.setHm c x).hep = s.hep := rfl
@[simp] theorem State.setHm_hgrp (s : State) (c : Nat) (x : HammerS) : (s.setHm c x).hgrp = s.hgrp := rfl
@[simp] theorem State.setHm_nozzle (s : State) (c : Nat) (x : HammerS) : (s.setHm c x).nozzle = s.nozzle := rfl
@[simp] theorem State.setHm_snapClk (s : State) (c : Nat) (x : HammerS) : (s.setHm c x).snapClk = s.snapClk := rfl
@[simp] theorem State.setHm_sets (s : State) (c : Nat) (x : HammerS) : (s.setHm c x).sets = s.sets := rfl
@[simp] theorem State.setHm_lanes (s : State) (c : Nat) (x : HammerS) : (s.setHm c x).lanes = s.lanes := rfl
@[simp] theorem State.setHm_groups (s : State) (c : Nat) (x : HammerS) : (s.setHm c x).groups = s.groups := rfl
@[simp] theorem State.setHm_ports (s : State) (c : Nat) (x : HammerS) : (s.setHm c x).ports = s.ports := rfl
@[simp] theorem State.setHm_eqTable (s : State) (c : Nat) (x : HammerS) : (s.setHm c x).eqTable = s.eqTable := rfl
@[simp] theorem State.setHm_hearths (s : State) (c : Nat) (x : HammerS) : (s.setHm c x).hearths = s.hearths := rfl
@[simp] theorem State.setHm_anvil (s : State) (c : Nat) (x : HammerS) : (s.setHm c x).anvil = s.anvil := rfl
@[simp] theorem State.setHm_blw (s : State) (c : Nat) (x : HammerS) : (s.setHm c x).blw = s.blw := rfl
@[simp] theorem State.setHm_readers (s : State) (c : Nat) (x : HammerS) : (s.setHm c x).readers = s.readers := rfl
@[simp] theorem State.setHm_tongs (s : State) (c : Nat) (x : HammerS) : (s.setHm c x).tongs = s.tongs := rfl
@[simp] theorem State.setHm_pending (s : State) (c : Nat) (x : HammerS) : (s.setHm c x).pending = s.pending := rfl
@[simp] theorem State.setGrp_regs (s : State) (g : Nat) (x : HgrpS) : (s.setGrp g x).regs = s.regs := rfl
@[simp] theorem State.setGrp_buf (s : State) (g : Nat) (x : HgrpS) : (s.setGrp g x).buf = s.buf := rfl
@[simp] theorem State.setGrp_held (s : State) (g : Nat) (x : HgrpS) : (s.setGrp g x).held = s.held := rfl
@[simp] theorem State.setGrp_upper (s : State) (g : Nat) (x : HgrpS) : (s.setGrp g x).upper = s.upper := rfl
@[simp] theorem State.setGrp_hbm (s : State) (g : Nat) (x : HgrpS) : (s.setGrp g x).hbm = s.hbm := rfl
@[simp] theorem State.setGrp_poison (s : State) (g : Nat) (x : HgrpS) : (s.setGrp g x).poison = s.poison := rfl
@[simp] theorem State.setGrp_owners (s : State) (g : Nat) (x : HgrpS) : (s.setGrp g x).owners = s.owners := rfl
@[simp] theorem State.setGrp_clk (s : State) (g : Nat) (x : HgrpS) : (s.setGrp g x).clk = s.clk := rfl
@[simp] theorem State.setGrp_dt (s : State) (g : Nat) (x : HgrpS) : (s.setGrp g x).dt = s.dt := rfl
@[simp] theorem State.setGrp_running (s : State) (g : Nat) (x : HgrpS) : (s.setGrp g x).running = s.running := rfl
@[simp] theorem State.setGrp_free (s : State) (g : Nat) (x : HgrpS) : (s.setGrp g x).free = s.free := rfl
@[simp] theorem State.setGrp_out (s : State) (g : Nat) (x : HgrpS) : (s.setGrp g x).out = s.out := rfl
@[simp] theorem State.setGrp_power (s : State) (g : Nat) (x : HgrpS) : (s.setGrp g x).power = s.power := rfl
@[simp] theorem State.setGrp_dcs (s : State) (g : Nat) (x : HgrpS) : (s.setGrp g x).dcs = s.dcs := rfl
@[simp] theorem State.setGrp_modes (s : State) (g : Nat) (x : HgrpS) : (s.setGrp g x).modes = s.modes := rfl
@[simp] theorem State.setGrp_flash (s : State) (g : Nat) (x : HgrpS) : (s.setGrp g x).flash = s.flash := rfl
@[simp] theorem State.setGrp_kindle (s : State) (g : Nat) (x : HgrpS) : (s.setGrp g x).kindle = s.kindle := rfl
@[simp] theorem State.setGrp_pos (s : State) (g : Nat) (x : HgrpS) : (s.setGrp g x).pos = s.pos := rfl
@[simp] theorem State.setGrp_stk (s : State) (g : Nat) (x : HgrpS) : (s.setGrp g x).stk = s.stk := rfl
@[simp] theorem State.setGrp_trough (s : State) (g : Nat) (x : HgrpS) : (s.setGrp g x).trough = s.trough := rfl
@[simp] theorem State.setGrp_weld (s : State) (g : Nat) (x : HgrpS) : (s.setGrp g x).weld = s.weld := rfl
@[simp] theorem State.setGrp_smb (s : State) (g : Nat) (x : HgrpS) : (s.setGrp g x).smb = s.smb := rfl
@[simp] theorem State.setGrp_hep (s : State) (g : Nat) (x : HgrpS) : (s.setGrp g x).hep = s.hep := rfl
@[simp] theorem State.setGrp_hammer (s : State) (g : Nat) (x : HgrpS) : (s.setGrp g x).hammer = s.hammer := rfl
@[simp] theorem State.setGrp_nozzle (s : State) (g : Nat) (x : HgrpS) : (s.setGrp g x).nozzle = s.nozzle := rfl
@[simp] theorem State.setGrp_snapClk (s : State) (g : Nat) (x : HgrpS) : (s.setGrp g x).snapClk = s.snapClk := rfl
@[simp] theorem State.setGrp_sets (s : State) (g : Nat) (x : HgrpS) : (s.setGrp g x).sets = s.sets := rfl
@[simp] theorem State.setGrp_lanes (s : State) (g : Nat) (x : HgrpS) : (s.setGrp g x).lanes = s.lanes := rfl
@[simp] theorem State.setGrp_groups (s : State) (g : Nat) (x : HgrpS) : (s.setGrp g x).groups = s.groups := rfl
@[simp] theorem State.setGrp_ports (s : State) (g : Nat) (x : HgrpS) : (s.setGrp g x).ports = s.ports := rfl
@[simp] theorem State.setGrp_eqTable (s : State) (g : Nat) (x : HgrpS) : (s.setGrp g x).eqTable = s.eqTable := rfl
@[simp] theorem State.setGrp_hearths (s : State) (g : Nat) (x : HgrpS) : (s.setGrp g x).hearths = s.hearths := rfl
@[simp] theorem State.setGrp_anvil (s : State) (g : Nat) (x : HgrpS) : (s.setGrp g x).anvil = s.anvil := rfl
@[simp] theorem State.setGrp_blw (s : State) (g : Nat) (x : HgrpS) : (s.setGrp g x).blw = s.blw := rfl
@[simp] theorem State.setGrp_readers (s : State) (g : Nat) (x : HgrpS) : (s.setGrp g x).readers = s.readers := rfl
@[simp] theorem State.setGrp_tongs (s : State) (g : Nat) (x : HgrpS) : (s.setGrp g x).tongs = s.tongs := rfl
@[simp] theorem State.setGrp_pending (s : State) (g : Nat) (x : HgrpS) : (s.setGrp g x).pending = s.pending := rfl
@[simp] theorem State.setNoz_regs (s : State) (c : Nat) (x : NozzleS) : (s.setNoz c x).regs = s.regs := rfl
@[simp] theorem State.setNoz_buf (s : State) (c : Nat) (x : NozzleS) : (s.setNoz c x).buf = s.buf := rfl
@[simp] theorem State.setNoz_held (s : State) (c : Nat) (x : NozzleS) : (s.setNoz c x).held = s.held := rfl
@[simp] theorem State.setNoz_upper (s : State) (c : Nat) (x : NozzleS) : (s.setNoz c x).upper = s.upper := rfl
@[simp] theorem State.setNoz_hbm (s : State) (c : Nat) (x : NozzleS) : (s.setNoz c x).hbm = s.hbm := rfl
@[simp] theorem State.setNoz_poison (s : State) (c : Nat) (x : NozzleS) : (s.setNoz c x).poison = s.poison := rfl
@[simp] theorem State.setNoz_owners (s : State) (c : Nat) (x : NozzleS) : (s.setNoz c x).owners = s.owners := rfl
@[simp] theorem State.setNoz_clk (s : State) (c : Nat) (x : NozzleS) : (s.setNoz c x).clk = s.clk := rfl
@[simp] theorem State.setNoz_dt (s : State) (c : Nat) (x : NozzleS) : (s.setNoz c x).dt = s.dt := rfl
@[simp] theorem State.setNoz_running (s : State) (c : Nat) (x : NozzleS) : (s.setNoz c x).running = s.running := rfl
@[simp] theorem State.setNoz_free (s : State) (c : Nat) (x : NozzleS) : (s.setNoz c x).free = s.free := rfl
@[simp] theorem State.setNoz_out (s : State) (c : Nat) (x : NozzleS) : (s.setNoz c x).out = s.out := rfl
@[simp] theorem State.setNoz_power (s : State) (c : Nat) (x : NozzleS) : (s.setNoz c x).power = s.power := rfl
@[simp] theorem State.setNoz_dcs (s : State) (c : Nat) (x : NozzleS) : (s.setNoz c x).dcs = s.dcs := rfl
@[simp] theorem State.setNoz_modes (s : State) (c : Nat) (x : NozzleS) : (s.setNoz c x).modes = s.modes := rfl
@[simp] theorem State.setNoz_flash (s : State) (c : Nat) (x : NozzleS) : (s.setNoz c x).flash = s.flash := rfl
@[simp] theorem State.setNoz_kindle (s : State) (c : Nat) (x : NozzleS) : (s.setNoz c x).kindle = s.kindle := rfl
@[simp] theorem State.setNoz_pos (s : State) (c : Nat) (x : NozzleS) : (s.setNoz c x).pos = s.pos := rfl
@[simp] theorem State.setNoz_stk (s : State) (c : Nat) (x : NozzleS) : (s.setNoz c x).stk = s.stk := rfl
@[simp] theorem State.setNoz_trough (s : State) (c : Nat) (x : NozzleS) : (s.setNoz c x).trough = s.trough := rfl
@[simp] theorem State.setNoz_weld (s : State) (c : Nat) (x : NozzleS) : (s.setNoz c x).weld = s.weld := rfl
@[simp] theorem State.setNoz_smb (s : State) (c : Nat) (x : NozzleS) : (s.setNoz c x).smb = s.smb := rfl
@[simp] theorem State.setNoz_hep (s : State) (c : Nat) (x : NozzleS) : (s.setNoz c x).hep = s.hep := rfl
@[simp] theorem State.setNoz_hammer (s : State) (c : Nat) (x : NozzleS) : (s.setNoz c x).hammer = s.hammer := rfl
@[simp] theorem State.setNoz_hgrp (s : State) (c : Nat) (x : NozzleS) : (s.setNoz c x).hgrp = s.hgrp := rfl
@[simp] theorem State.setNoz_snapClk (s : State) (c : Nat) (x : NozzleS) : (s.setNoz c x).snapClk = s.snapClk := rfl
@[simp] theorem State.setNoz_sets (s : State) (c : Nat) (x : NozzleS) : (s.setNoz c x).sets = s.sets := rfl
@[simp] theorem State.setNoz_lanes (s : State) (c : Nat) (x : NozzleS) : (s.setNoz c x).lanes = s.lanes := rfl
@[simp] theorem State.setNoz_groups (s : State) (c : Nat) (x : NozzleS) : (s.setNoz c x).groups = s.groups := rfl
@[simp] theorem State.setNoz_ports (s : State) (c : Nat) (x : NozzleS) : (s.setNoz c x).ports = s.ports := rfl
@[simp] theorem State.setNoz_eqTable (s : State) (c : Nat) (x : NozzleS) : (s.setNoz c x).eqTable = s.eqTable := rfl
@[simp] theorem State.setNoz_hearths (s : State) (c : Nat) (x : NozzleS) : (s.setNoz c x).hearths = s.hearths := rfl
@[simp] theorem State.setNoz_anvil (s : State) (c : Nat) (x : NozzleS) : (s.setNoz c x).anvil = s.anvil := rfl
@[simp] theorem State.setNoz_blw (s : State) (c : Nat) (x : NozzleS) : (s.setNoz c x).blw = s.blw := rfl
@[simp] theorem State.setNoz_readers (s : State) (c : Nat) (x : NozzleS) : (s.setNoz c x).readers = s.readers := rfl
@[simp] theorem State.setNoz_tongs (s : State) (c : Nat) (x : NozzleS) : (s.setNoz c x).tongs = s.tongs := rfl
@[simp] theorem State.setNoz_pending (s : State) (c : Nat) (x : NozzleS) : (s.setNoz c x).pending = s.pending := rfl
@[simp] theorem State.setCmp_regs (s : State) (h : Nat) (x : CmpS) : (s.setCmp h x).regs = s.regs := rfl
@[simp] theorem State.setCmp_buf (s : State) (h : Nat) (x : CmpS) : (s.setCmp h x).buf = s.buf := rfl
@[simp] theorem State.setCmp_held (s : State) (h : Nat) (x : CmpS) : (s.setCmp h x).held = s.held := rfl
@[simp] theorem State.setCmp_upper (s : State) (h : Nat) (x : CmpS) : (s.setCmp h x).upper = s.upper := rfl
@[simp] theorem State.setCmp_hbm (s : State) (h : Nat) (x : CmpS) : (s.setCmp h x).hbm = s.hbm := rfl
@[simp] theorem State.setCmp_poison (s : State) (h : Nat) (x : CmpS) : (s.setCmp h x).poison = s.poison := rfl
@[simp] theorem State.setCmp_owners (s : State) (h : Nat) (x : CmpS) : (s.setCmp h x).owners = s.owners := rfl
@[simp] theorem State.setCmp_clk (s : State) (h : Nat) (x : CmpS) : (s.setCmp h x).clk = s.clk := rfl
@[simp] theorem State.setCmp_dt (s : State) (h : Nat) (x : CmpS) : (s.setCmp h x).dt = s.dt := rfl
@[simp] theorem State.setCmp_running (s : State) (h : Nat) (x : CmpS) : (s.setCmp h x).running = s.running := rfl
@[simp] theorem State.setCmp_free (s : State) (h : Nat) (x : CmpS) : (s.setCmp h x).free = s.free := rfl
@[simp] theorem State.setCmp_out (s : State) (h : Nat) (x : CmpS) : (s.setCmp h x).out = s.out := rfl
@[simp] theorem State.setCmp_power (s : State) (h : Nat) (x : CmpS) : (s.setCmp h x).power = s.power := rfl
@[simp] theorem State.setCmp_dcs (s : State) (h : Nat) (x : CmpS) : (s.setCmp h x).dcs = s.dcs := rfl
@[simp] theorem State.setCmp_modes (s : State) (h : Nat) (x : CmpS) : (s.setCmp h x).modes = s.modes := rfl
@[simp] theorem State.setCmp_flash (s : State) (h : Nat) (x : CmpS) : (s.setCmp h x).flash = s.flash := rfl
@[simp] theorem State.setCmp_kindle (s : State) (h : Nat) (x : CmpS) : (s.setCmp h x).kindle = s.kindle := rfl
@[simp] theorem State.setCmp_pos (s : State) (h : Nat) (x : CmpS) : (s.setCmp h x).pos = s.pos := rfl
@[simp] theorem State.setCmp_stk (s : State) (h : Nat) (x : CmpS) : (s.setCmp h x).stk = s.stk := rfl
@[simp] theorem State.setCmp_trough (s : State) (h : Nat) (x : CmpS) : (s.setCmp h x).trough = s.trough := rfl
@[simp] theorem State.setCmp_weld (s : State) (h : Nat) (x : CmpS) : (s.setCmp h x).weld = s.weld := rfl
@[simp] theorem State.setCmp_smb (s : State) (h : Nat) (x : CmpS) : (s.setCmp h x).smb = s.smb := rfl
@[simp] theorem State.setCmp_hep (s : State) (h : Nat) (x : CmpS) : (s.setCmp h x).hep = s.hep := rfl
@[simp] theorem State.setCmp_hammer (s : State) (h : Nat) (x : CmpS) : (s.setCmp h x).hammer = s.hammer := rfl
@[simp] theorem State.setCmp_hgrp (s : State) (h : Nat) (x : CmpS) : (s.setCmp h x).hgrp = s.hgrp := rfl
@[simp] theorem State.setCmp_nozzle (s : State) (h : Nat) (x : CmpS) : (s.setCmp h x).nozzle = s.nozzle := rfl
@[simp] theorem State.setCmp_snapClk (s : State) (h : Nat) (x : CmpS) : (s.setCmp h x).snapClk = s.snapClk := rfl
@[simp] theorem State.setCmp_sets (s : State) (h : Nat) (x : CmpS) : (s.setCmp h x).sets = s.sets := rfl
@[simp] theorem State.setCmp_lanes (s : State) (h : Nat) (x : CmpS) : (s.setCmp h x).lanes = s.lanes := rfl
@[simp] theorem State.setCmp_groups (s : State) (h : Nat) (x : CmpS) : (s.setCmp h x).groups = s.groups := rfl
@[simp] theorem State.setCmp_ports (s : State) (h : Nat) (x : CmpS) : (s.setCmp h x).ports = s.ports := rfl
@[simp] theorem State.setCmp_eqTable (s : State) (h : Nat) (x : CmpS) : (s.setCmp h x).eqTable = s.eqTable := rfl
@[simp] theorem State.setCmp_hearths (s : State) (h : Nat) (x : CmpS) : (s.setCmp h x).hearths = s.hearths := rfl
@[simp] theorem State.setCmp_blw (s : State) (h : Nat) (x : CmpS) : (s.setCmp h x).blw = s.blw := rfl
@[simp] theorem State.setCmp_readers (s : State) (h : Nat) (x : CmpS) : (s.setCmp h x).readers = s.readers := rfl
@[simp] theorem State.setCmp_tongs (s : State) (h : Nat) (x : CmpS) : (s.setCmp h x).tongs = s.tongs := rfl
@[simp] theorem State.setCmp_pending (s : State) (h : Nat) (x : CmpS) : (s.setCmp h x).pending = s.pending := rfl
@[simp] theorem State.setAx_regs (s : State) (a : Nat) (x : AxisS) : (s.setAx a x).regs = s.regs := rfl
@[simp] theorem State.setAx_buf (s : State) (a : Nat) (x : AxisS) : (s.setAx a x).buf = s.buf := rfl
@[simp] theorem State.setAx_held (s : State) (a : Nat) (x : AxisS) : (s.setAx a x).held = s.held := rfl
@[simp] theorem State.setAx_upper (s : State) (a : Nat) (x : AxisS) : (s.setAx a x).upper = s.upper := rfl
@[simp] theorem State.setAx_hbm (s : State) (a : Nat) (x : AxisS) : (s.setAx a x).hbm = s.hbm := rfl
@[simp] theorem State.setAx_poison (s : State) (a : Nat) (x : AxisS) : (s.setAx a x).poison = s.poison := rfl
@[simp] theorem State.setAx_owners (s : State) (a : Nat) (x : AxisS) : (s.setAx a x).owners = s.owners := rfl
@[simp] theorem State.setAx_clk (s : State) (a : Nat) (x : AxisS) : (s.setAx a x).clk = s.clk := rfl
@[simp] theorem State.setAx_dt (s : State) (a : Nat) (x : AxisS) : (s.setAx a x).dt = s.dt := rfl
@[simp] theorem State.setAx_running (s : State) (a : Nat) (x : AxisS) : (s.setAx a x).running = s.running := rfl
@[simp] theorem State.setAx_free (s : State) (a : Nat) (x : AxisS) : (s.setAx a x).free = s.free := rfl
@[simp] theorem State.setAx_out (s : State) (a : Nat) (x : AxisS) : (s.setAx a x).out = s.out := rfl
@[simp] theorem State.setAx_power (s : State) (a : Nat) (x : AxisS) : (s.setAx a x).power = s.power := rfl
@[simp] theorem State.setAx_dcs (s : State) (a : Nat) (x : AxisS) : (s.setAx a x).dcs = s.dcs := rfl
@[simp] theorem State.setAx_modes (s : State) (a : Nat) (x : AxisS) : (s.setAx a x).modes = s.modes := rfl
@[simp] theorem State.setAx_flash (s : State) (a : Nat) (x : AxisS) : (s.setAx a x).flash = s.flash := rfl
@[simp] theorem State.setAx_kindle (s : State) (a : Nat) (x : AxisS) : (s.setAx a x).kindle = s.kindle := rfl
@[simp] theorem State.setAx_stk (s : State) (a : Nat) (x : AxisS) : (s.setAx a x).stk = s.stk := rfl
@[simp] theorem State.setAx_trough (s : State) (a : Nat) (x : AxisS) : (s.setAx a x).trough = s.trough := rfl
@[simp] theorem State.setAx_weld (s : State) (a : Nat) (x : AxisS) : (s.setAx a x).weld = s.weld := rfl
@[simp] theorem State.setAx_smb (s : State) (a : Nat) (x : AxisS) : (s.setAx a x).smb = s.smb := rfl
@[simp] theorem State.setAx_hep (s : State) (a : Nat) (x : AxisS) : (s.setAx a x).hep = s.hep := rfl
@[simp] theorem State.setAx_hammer (s : State) (a : Nat) (x : AxisS) : (s.setAx a x).hammer = s.hammer := rfl
@[simp] theorem State.setAx_hgrp (s : State) (a : Nat) (x : AxisS) : (s.setAx a x).hgrp = s.hgrp := rfl
@[simp] theorem State.setAx_nozzle (s : State) (a : Nat) (x : AxisS) : (s.setAx a x).nozzle = s.nozzle := rfl
@[simp] theorem State.setAx_snapClk (s : State) (a : Nat) (x : AxisS) : (s.setAx a x).snapClk = s.snapClk := rfl
@[simp] theorem State.setAx_sets (s : State) (a : Nat) (x : AxisS) : (s.setAx a x).sets = s.sets := rfl
@[simp] theorem State.setAx_lanes (s : State) (a : Nat) (x : AxisS) : (s.setAx a x).lanes = s.lanes := rfl
@[simp] theorem State.setAx_groups (s : State) (a : Nat) (x : AxisS) : (s.setAx a x).groups = s.groups := rfl
@[simp] theorem State.setAx_ports (s : State) (a : Nat) (x : AxisS) : (s.setAx a x).ports = s.ports := rfl
@[simp] theorem State.setAx_eqTable (s : State) (a : Nat) (x : AxisS) : (s.setAx a x).eqTable = s.eqTable := rfl
@[simp] theorem State.setAx_hearths (s : State) (a : Nat) (x : AxisS) : (s.setAx a x).hearths = s.hearths := rfl
@[simp] theorem State.setAx_anvil (s : State) (a : Nat) (x : AxisS) : (s.setAx a x).anvil = s.anvil := rfl
@[simp] theorem State.setAx_blw (s : State) (a : Nat) (x : AxisS) : (s.setAx a x).blw = s.blw := rfl
@[simp] theorem State.setAx_readers (s : State) (a : Nat) (x : AxisS) : (s.setAx a x).readers = s.readers := rfl
@[simp] theorem State.setAx_tongs (s : State) (a : Nat) (x : AxisS) : (s.setAx a x).tongs = s.tongs := rfl
@[simp] theorem State.setAx_pending (s : State) (a : Nat) (x : AxisS) : (s.setAx a x).pending = s.pending := rfl
@[simp] theorem State.setTx_regs (s : State) (p : Nat) (x : SmbcTx) : (s.setTx p x).regs = s.regs := rfl
@[simp] theorem State.setTx_buf (s : State) (p : Nat) (x : SmbcTx) : (s.setTx p x).buf = s.buf := rfl
@[simp] theorem State.setTx_held (s : State) (p : Nat) (x : SmbcTx) : (s.setTx p x).held = s.held := rfl
@[simp] theorem State.setTx_upper (s : State) (p : Nat) (x : SmbcTx) : (s.setTx p x).upper = s.upper := rfl
@[simp] theorem State.setTx_hbm (s : State) (p : Nat) (x : SmbcTx) : (s.setTx p x).hbm = s.hbm := rfl
@[simp] theorem State.setTx_poison (s : State) (p : Nat) (x : SmbcTx) : (s.setTx p x).poison = s.poison := rfl
@[simp] theorem State.setTx_owners (s : State) (p : Nat) (x : SmbcTx) : (s.setTx p x).owners = s.owners := rfl
@[simp] theorem State.setTx_clk (s : State) (p : Nat) (x : SmbcTx) : (s.setTx p x).clk = s.clk := rfl
@[simp] theorem State.setTx_dt (s : State) (p : Nat) (x : SmbcTx) : (s.setTx p x).dt = s.dt := rfl
@[simp] theorem State.setTx_running (s : State) (p : Nat) (x : SmbcTx) : (s.setTx p x).running = s.running := rfl
@[simp] theorem State.setTx_free (s : State) (p : Nat) (x : SmbcTx) : (s.setTx p x).free = s.free := rfl
@[simp] theorem State.setTx_out (s : State) (p : Nat) (x : SmbcTx) : (s.setTx p x).out = s.out := rfl
@[simp] theorem State.setTx_power (s : State) (p : Nat) (x : SmbcTx) : (s.setTx p x).power = s.power := rfl
@[simp] theorem State.setTx_dcs (s : State) (p : Nat) (x : SmbcTx) : (s.setTx p x).dcs = s.dcs := rfl
@[simp] theorem State.setTx_modes (s : State) (p : Nat) (x : SmbcTx) : (s.setTx p x).modes = s.modes := rfl
@[simp] theorem State.setTx_flash (s : State) (p : Nat) (x : SmbcTx) : (s.setTx p x).flash = s.flash := rfl
@[simp] theorem State.setTx_kindle (s : State) (p : Nat) (x : SmbcTx) : (s.setTx p x).kindle = s.kindle := rfl
@[simp] theorem State.setTx_pos (s : State) (p : Nat) (x : SmbcTx) : (s.setTx p x).pos = s.pos := rfl
@[simp] theorem State.setTx_stk (s : State) (p : Nat) (x : SmbcTx) : (s.setTx p x).stk = s.stk := rfl
@[simp] theorem State.setTx_trough (s : State) (p : Nat) (x : SmbcTx) : (s.setTx p x).trough = s.trough := rfl
@[simp] theorem State.setTx_weld (s : State) (p : Nat) (x : SmbcTx) : (s.setTx p x).weld = s.weld := rfl
@[simp] theorem State.setTx_hep (s : State) (p : Nat) (x : SmbcTx) : (s.setTx p x).hep = s.hep := rfl
@[simp] theorem State.setTx_hammer (s : State) (p : Nat) (x : SmbcTx) : (s.setTx p x).hammer = s.hammer := rfl
@[simp] theorem State.setTx_hgrp (s : State) (p : Nat) (x : SmbcTx) : (s.setTx p x).hgrp = s.hgrp := rfl
@[simp] theorem State.setTx_nozzle (s : State) (p : Nat) (x : SmbcTx) : (s.setTx p x).nozzle = s.nozzle := rfl
@[simp] theorem State.setTx_snapClk (s : State) (p : Nat) (x : SmbcTx) : (s.setTx p x).snapClk = s.snapClk := rfl
@[simp] theorem State.setTx_sets (s : State) (p : Nat) (x : SmbcTx) : (s.setTx p x).sets = s.sets := rfl
@[simp] theorem State.setTx_lanes (s : State) (p : Nat) (x : SmbcTx) : (s.setTx p x).lanes = s.lanes := rfl
@[simp] theorem State.setTx_groups (s : State) (p : Nat) (x : SmbcTx) : (s.setTx p x).groups = s.groups := rfl
@[simp] theorem State.setTx_ports (s : State) (p : Nat) (x : SmbcTx) : (s.setTx p x).ports = s.ports := rfl
@[simp] theorem State.setTx_eqTable (s : State) (p : Nat) (x : SmbcTx) : (s.setTx p x).eqTable = s.eqTable := rfl
@[simp] theorem State.setTx_hearths (s : State) (p : Nat) (x : SmbcTx) : (s.setTx p x).hearths = s.hearths := rfl
@[simp] theorem State.setTx_anvil (s : State) (p : Nat) (x : SmbcTx) : (s.setTx p x).anvil = s.anvil := rfl
@[simp] theorem State.setTx_blw (s : State) (p : Nat) (x : SmbcTx) : (s.setTx p x).blw = s.blw := rfl
@[simp] theorem State.setTx_readers (s : State) (p : Nat) (x : SmbcTx) : (s.setTx p x).readers = s.readers := rfl
@[simp] theorem State.setTx_tongs (s : State) (p : Nat) (x : SmbcTx) : (s.setTx p x).tongs = s.tongs := rfl
@[simp] theorem State.setTx_pending (s : State) (p : Nat) (x : SmbcTx) : (s.setTx p x).pending = s.pending := rfl
@[simp] theorem State.setFlash_flash (s : State) (x : FlashS) : (s.setFlash x).flash = x := rfl
@[simp] theorem State.setKindle_kindle (s : State) (x : KindleS) : (s.setKindle x).kindle = x := rfl
@[simp] theorem State.setStk_stk (s : State) (x : StrikerS) : (s.setStk x).stk = x := rfl
@[simp] theorem State.setHep_hep (s : State) (x : HepS) : (s.setHep x).hep = x := rfl
@[simp] theorem State.setWeld_weld (s : State) (x : WeldS) : (s.setWeld x).weld = x := rfl
@[simp] theorem State.setSmb_smb (s : State) (x : SmbS) : (s.setSmb x).smb = x := rfl
@[simp] theorem State.setBlw_blw (s : State) (x : BlwS) : (s.setBlw x).blw = x := rfl
@[simp] theorem State.closeCmd_regs (s : State) (d : Nat) (t : State) : (s.closeCmd d t).regs = t.regs := rfl
@[simp] theorem State.closeCmd_buf (s : State) (d : Nat) (t : State) : (s.closeCmd d t).buf = t.buf := rfl
@[simp] theorem State.closeCmd_held (s : State) (d : Nat) (t : State) : (s.closeCmd d t).held = t.held := rfl
@[simp] theorem State.closeCmd_upper (s : State) (d : Nat) (t : State) : (s.closeCmd d t).upper = t.upper := rfl
@[simp] theorem State.closeCmd_hbm (s : State) (d : Nat) (t : State) : (s.closeCmd d t).hbm = t.hbm := rfl
@[simp] theorem State.closeCmd_poison (s : State) (d : Nat) (t : State) : (s.closeCmd d t).poison = t.poison := rfl
@[simp] theorem State.closeCmd_owners (s : State) (d : Nat) (t : State) : (s.closeCmd d t).owners = t.owners := rfl
@[simp] theorem State.closeCmd_dt (s : State) (d : Nat) (t : State) : (s.closeCmd d t).dt = t.dt := rfl
@[simp] theorem State.closeCmd_running (s : State) (d : Nat) (t : State) : (s.closeCmd d t).running = t.running := rfl
@[simp] theorem State.closeCmd_free (s : State) (d : Nat) (t : State) : (s.closeCmd d t).free = t.free := rfl
@[simp] theorem State.closeCmd_power (s : State) (d : Nat) (t : State) : (s.closeCmd d t).power = t.power := rfl
@[simp] theorem State.closeCmd_dcs (s : State) (d : Nat) (t : State) : (s.closeCmd d t).dcs = t.dcs := rfl
@[simp] theorem State.closeCmd_modes (s : State) (d : Nat) (t : State) : (s.closeCmd d t).modes = t.modes := rfl
@[simp] theorem State.closeCmd_flash (s : State) (d : Nat) (t : State) : (s.closeCmd d t).flash = t.flash := rfl
@[simp] theorem State.closeCmd_kindle (s : State) (d : Nat) (t : State) : (s.closeCmd d t).kindle = t.kindle := rfl
@[simp] theorem State.closeCmd_pos (s : State) (d : Nat) (t : State) : (s.closeCmd d t).pos = t.pos := rfl
@[simp] theorem State.closeCmd_stk (s : State) (d : Nat) (t : State) : (s.closeCmd d t).stk = t.stk := rfl
@[simp] theorem State.closeCmd_trough (s : State) (d : Nat) (t : State) : (s.closeCmd d t).trough = t.trough := rfl
@[simp] theorem State.closeCmd_weld (s : State) (d : Nat) (t : State) : (s.closeCmd d t).weld = t.weld := rfl
@[simp] theorem State.closeCmd_smb (s : State) (d : Nat) (t : State) : (s.closeCmd d t).smb = t.smb := rfl
@[simp] theorem State.closeCmd_hep (s : State) (d : Nat) (t : State) : (s.closeCmd d t).hep = t.hep := rfl
@[simp] theorem State.closeCmd_hammer (s : State) (d : Nat) (t : State) : (s.closeCmd d t).hammer = t.hammer := rfl
@[simp] theorem State.closeCmd_hgrp (s : State) (d : Nat) (t : State) : (s.closeCmd d t).hgrp = t.hgrp := rfl
@[simp] theorem State.closeCmd_nozzle (s : State) (d : Nat) (t : State) : (s.closeCmd d t).nozzle = t.nozzle := rfl
@[simp] theorem State.closeCmd_snapClk (s : State) (d : Nat) (t : State) : (s.closeCmd d t).snapClk = t.snapClk := rfl
@[simp] theorem State.closeCmd_sets (s : State) (d : Nat) (t : State) : (s.closeCmd d t).sets = t.sets := rfl
@[simp] theorem State.closeCmd_lanes (s : State) (d : Nat) (t : State) : (s.closeCmd d t).lanes = t.lanes := rfl
@[simp] theorem State.closeCmd_groups (s : State) (d : Nat) (t : State) : (s.closeCmd d t).groups = t.groups := rfl
@[simp] theorem State.closeCmd_ports (s : State) (d : Nat) (t : State) : (s.closeCmd d t).ports = t.ports := rfl
@[simp] theorem State.closeCmd_eqTable (s : State) (d : Nat) (t : State) : (s.closeCmd d t).eqTable = t.eqTable := rfl
@[simp] theorem State.closeCmd_hearths (s : State) (d : Nat) (t : State) : (s.closeCmd d t).hearths = t.hearths := rfl
@[simp] theorem State.closeCmd_anvil (s : State) (d : Nat) (t : State) : (s.closeCmd d t).anvil = t.anvil := rfl
@[simp] theorem State.closeCmd_blw (s : State) (d : Nat) (t : State) : (s.closeCmd d t).blw = t.blw := rfl
@[simp] theorem State.closeCmd_readers (s : State) (d : Nat) (t : State) : (s.closeCmd d t).readers = t.readers := rfl
@[simp] theorem State.closeCmd_tongs (s : State) (d : Nat) (t : State) : (s.closeCmd d t).tongs = t.tongs := rfl
@[simp] theorem State.closeCmd_pending (s : State) (d : Nat) (t : State) : (s.closeCmd d t).pending = s.pending := rfl
@[simp] theorem State.closeCmd_clk (s : State) (d : Nat) (t : State) : (s.closeCmd d t).clk = s.clk + d := rfl
@[simp] theorem State.closeCmd_out (s : State) (d : Nat) (t : State) : (s.closeCmd d t).out = s.out ++ t.out := rfl
@[simp] theorem State.closeCmd_rd (s : State) (d : Nat) (t : State) (f : Fld) (i j : Nat) : (s.closeCmd d t).rd f i j = t.rd f i j := rfl
@[simp] theorem State.setOwner_rd (s : State) (c i o : Nat) (g : Fld) (k l : Nat) : (s.setOwner c i o).rd g k l = s.rd g k l := rfl
@[simp] theorem State.bufWrite_rd (s : State) (a : Nat) (bs : Bytes) (g : Fld) (k l : Nat) : (s.bufWrite a bs).rd g k l = s.rd g k l := rfl
@[simp] theorem State.hbmWrite_rd (s : State) (a : Nat) (bs : Bytes) (g : Fld) (k l : Nat) : (s.hbmWrite a bs).rd g k l = s.rd g k l := rfl
@[simp] theorem State.flashProgram_rd (s : State) (a : Nat) (bs : Bytes) (g : Fld) (k l : Nat) : (s.flashProgram a bs).rd g k l = s.rd g k l := rfl
@[simp] theorem State.flashErase_rd (s : State) (k : Nat) (g : Fld) (k l : Nat) : (s.flashErase k0).rd g k l = s.rd g k l := rfl
@[simp] theorem State.setFlash_rd (s : State) (x : FlashS) (g : Fld) (k l : Nat) : (s.setFlash x).rd g k l = s.rd g k l := rfl
@[simp] theorem State.setKindle_rd (s : State) (x : KindleS) (g : Fld) (k l : Nat) : (s.setKindle x).rd g k l = s.rd g k l := rfl
@[simp] theorem State.setStk_rd (s : State) (x : StrikerS) (g : Fld) (k l : Nat) : (s.setStk x).rd g k l = s.rd g k l := rfl
@[simp] theorem State.setTr_rd (s : State) (t : Nat) (x : TroughS) (g : Fld) (k l : Nat) : (s.setTr t x).rd g k l = s.rd g k l := rfl
@[simp] theorem State.setHep_rd (s : State) (x : HepS) (g : Fld) (k l : Nat) : (s.setHep x).rd g k l = s.rd g k l := rfl
@[simp] theorem State.setWeld_rd (s : State) (x : WeldS) (g : Fld) (k l : Nat) : (s.setWeld x).rd g k l = s.rd g k l := rfl
@[simp] theorem State.setSmb_rd (s : State) (x : SmbS) (g : Fld) (k l : Nat) : (s.setSmb x).rd g k l = s.rd g k l := rfl
@[simp] theorem State.setBlw_rd (s : State) (x : BlwS) (g : Fld) (k l : Nat) : (s.setBlw x).rd g k l = s.rd g k l := rfl
@[simp] theorem State.setTg_rd (s : State) (ch : Nat) (x : TongsS) (g : Fld) (k l : Nat) : (s.setTg ch x).rd g k l = s.rd g k l := rfl
@[simp] theorem State.setPort_rd (s : State) (p : Nat) (x : PortS) (g : Fld) (k l : Nat) : (s.setPort p x).rd g k l = s.rd g k l := rfl
@[simp] theorem State.setLane_rd (s : State) (k : Nat) (x : LaneS) (g : Fld) (k l : Nat) : (s.setLane k0 x).rd g k l = s.rd g k l := rfl
@[simp] theorem State.setLgrp_rd (s : State) (g0 : Nat) (x : GroupS) (g : Fld) (k l : Nat) : (s.setLgrp g0 x).rd g k l = s.rd g k l := rfl
@[simp] theorem State.setHth_rd (s : State) (n : Nat) (x : HearthS) (g : Fld) (k l : Nat) : (s.setHth n x).rd g k l = s.rd g k l := rfl
@[simp] theorem State.setHm_rd (s : State) (c : Nat) (x : HammerS) (g : Fld) (k l : Nat) : (s.setHm c x).rd g k l = s.rd g k l := rfl
@[simp] theorem State.setGrp_rd (s : State) (g0 : Nat) (x : HgrpS) (g : Fld) (k l : Nat) : (s.setGrp g0 x).rd g k l = s.rd g k l := rfl
@[simp] theorem State.setNoz_rd (s : State) (c : Nat) (x : NozzleS) (g : Fld) (k l : Nat) : (s.setNoz c x).rd g k l = s.rd g k l := rfl
@[simp] theorem State.setCmp_rd (s : State) (h : Nat) (x : CmpS) (g : Fld) (k l : Nat) : (s.setCmp h x).rd g k l = s.rd g k l := rfl
@[simp] theorem State.setAx_rd (s : State) (a : Nat) (x : AxisS) (g : Fld) (k l : Nat) : (s.setAx a x).rd g k l = s.rd g k l := rfl
@[simp] theorem State.setTx_rd (s : State) (p : Nat) (x : SmbcTx) (g : Fld) (k l : Nat) : (s.setTx p x).rd g k l = s.rd g k l := rfl

end Sys2Proof.Machine
end

