-- ==== Sys2Proof/Laws/Ops.lean ====
section
/-!
SUPPORT. What the shared operations do: register fields, the outcome of a command, the gate of host writes, the passing of time and
the raising of events.
-/

namespace Sys2Proof.Machine

/-! ### Register fields -/

/-- A field reads what was written, cut to its width. -/
@[simp] theorem State.rd_wr_self (s : State) (f : Fld) (v i j : Nat) : (s.wr f v i j).rd f i j = v % 2 ^ f.w := by
  simp [State.rd, State.wr]

/-- A field at another bit address reads as before. -/
theorem State.rd_wr_ne (s : State) {f g : Fld} {i j k l : Nat} (h : g.key k l ≠ f.key i j) (v : Nat) :
    (s.wr f v i j).rd g k l = s.rd g k l := by
  simp only [State.rd, State.wr]
  rw [Assoc.getD_put_ne h]

/-- A field reads by the register store alone. -/
theorem State.rd_of_regs {s t : State} (h : t.regs = s.regs) (f : Fld) (i j : Nat) : t.rd f i j = s.rd f i j := by
  simp [State.rd, h]

/-! ### The outcome of a command -/

/-- A command whose operands exist goes on. -/
theorem cmd_true {ok : Bool} (h : ok = true) (d : Nat) (s : State) (f : State → State) :
    cmd ok d s f = .next (s.closeCmd d (f (s.atCmd d))) := by simp [cmd, h]

/-- A command that names what does not exist stops. -/
theorem cmd_false {ok : Bool} (h : ok = false) (d : Nat) (s : State) (f : State → State) :
    cmd ok d s f = .fault .noSuchUnit := by simp [cmd, h]

/-- Everything an answered command says of the queue, the clock and the trace. -/
theorem cmd_next {ok : Bool} {d : Nat} {s t : State} {f : State → State} (h : cmd ok d s f = .next t) :
    ok = true ∧ t.pending = s.pending ∧ t.clk = s.clk + d ∧ s.out <+: t.out := by
  cases ok with
  | false => simp [cmd] at h
  | true =>
    simp only [cmd, if_true, Host.Outcome.next.injEq] at h
    subst h
    exact ⟨rfl, rfl, rfl, by simp⟩

/-! ### The gate of host writes -/

theorem State.beginExit_awake (s : State) {dom : Nat} (h : s.rd F.BLW_DOM_LEVEL dom = 0) : s.beginExit dom = s := by
  simp [State.beginExit, h]

/-- A write that finds its block open acts. -/
theorem State.hostHold_open {s : State} {a : Nat} (h : s.hostOpen a) (size value : Nat) (f : State → State) :
    s.hostHold a size value f = f s := by
  obtain ⟨h1, h2, h3, h4, h5, h6⟩ := h
  have e3 : (s.kindle.running && !earlyBlock a) = false := by rcases h3 with h | h <;> simp [h]
  have e4 : ¬(s.on F.HEP_QUENCH_QUENCHED = true ∧ quenchBlock a = false) := by rcases h4 with h | h <;> simp [h]
  unfold State.hostHold State.gate
  simp only [h1, h2, h5, e3]
  simp only [Bool.not_true, Bool.false_eq_true, if_false, and_false, true_and, reduceCtorEq, Bool.not_eq_true']
  rw [if_neg e4]
  unfold State.wakeGate
  cases hd : regDomain a with
  | none => rfl
  | some dom =>
    have h0 := h6 dom (by simp [hd])
    simp [s.beginExit_awake h0, h0]

theorem State.hostWrite_open {s : State} {a : Nat} (h : s.hostOpen a) (f : State → State) : s.hostWrite a f = f s :=
  State.hostHold_open h 4 0 f

/-! ### Events and time -/

/-- A change of Striker alone: its registers, and what it holds beside them. -/
def OnlyStriker (s t : State) : Prop := t = { s with regs := t.regs, stk := t.stk }

theorem OnlyStriker.refl (s : State) : OnlyStriker s s := rfl

theorem OnlyStriker.trans {s t u : State} (h : OnlyStriker s t) (k : OnlyStriker t u) : OnlyStriker s u := by
  unfold OnlyStriker at *; rw [k, h]

theorem OnlyStriker.foldl {α : Type} (f : State → α → State) (h : ∀ s a, OnlyStriker s (f s a)) :
    ∀ (l : List α) (s : State), OnlyStriker s (l.foldl f s)
  | [], s => .refl s
  | a :: l, s => (h s a).trans (OnlyStriker.foldl f h l (f s a))

theorem State.wr_only (s : State) (f : Fld) (v i j : Nat) : OnlyStriker s (s.wr f v i j) := rfl

theorem State.setStk_only (s : State) (x : StrikerS) : OnlyStriker s (s.setStk x) := rfl

theorem State.latch_only (s : State) (ch cycle : Nat) : OnlyStriker s (s.latch ch cycle) := by
  unfold State.latch; split <;> rfl

theorem State.raiseAt_only (s : State) (e cycle : Nat) : OnlyStriker s (s.raiseAt e cycle) :=
  OnlyStriker.foldl _ (fun s ch => s.latch_only ch cycle) _ _

theorem State.raise_only (s : State) (e : Nat) : OnlyStriker s (s.raise e) := s.raiseAt_only e _
theorem State.raiseT_only (s : State) (e : Nat) : OnlyStriker s (s.raiseT e) := s.raiseAt_only e _

theorem State.rd_inc_ne (s : State) {f g : Fld} {i j k l : Nat} (h : g.key k l ≠ f.key i j) (n : Nat) :
    (s.inc f i j n).rd g k l = s.rd g k l := State.rd_wr_ne s h _

theorem State.instances_lt {s : State} {f : Fld} {n v i : Nat} (h : i ∈ s.instances f n v) : i < n := by
  simp only [State.instances, List.mem_filterMap] at h
  obtain ⟨e, -, h⟩ := h
  split at h
  · next hc => simp only [Option.some.injEq] at h; omega
  · simp at h

/-- A field outside Striker's block reads the same after an event has been raised. -/
theorem State.raiseAt_rd (s : State) (e cycle : Nat) (f : Fld) (i j : Nat)
    (h : f.key i j < 8 * 0x80000 ∨ 8 * 0x90000 ≤ f.key i j) : (s.raiseAt e cycle).rd f i j = s.rd f i j := by
  have go : ∀ (l : List Nat) (t : State), (∀ ch ∈ l, ch < 512) →
      (l.foldl (fun s ch => s.latch ch cycle) t).rd f i j = t.rd f i j := by
    intro l
    induction l with
    | nil => intro t _; rfl
    | cons ch l ih =>
      intro t hl
      rw [List.foldl_cons, ih _ (fun c hc => hl c (List.mem_cons_of_mem _ hc))]
      have hch := hl ch List.mem_cons_self
      unfold State.latch
      split
      · refine State.rd_inc_ne t ?_ 1
        simp only [Fld.key, F.STK_CH_STAT_MERGED] at h ⊢
        omega
      · rfl
  refine go _ s fun ch hc => ?_
  unfold State.listeners at hc
  split at hc
  · simp at hc
  · exact State.instances_lt (List.mem_filter.1 hc).1

theorem State.raise_rd (s : State) (e : Nat) (f : Fld) (i j : Nat)
    (h : f.key i j < 8 * 0x80000 ∨ 8 * 0x90000 ≤ f.key i j) : (s.raise e).rd f i j = s.rd f i j := s.raiseAt_rd e _ f i j h

theorem State.raiseT_rd (s : State) (e : Nat) (f : Fld) (i j : Nat)
    (h : f.key i j < 8 * 0x80000 ∨ 8 * 0x90000 ≤ f.key i j) : (s.raiseT e).rd f i j = s.rd f i j := s.raiseAt_rd e _ f i j h

theorem State.setLevelAt_only (s : State) (e v cycle : Nat) : OnlyStriker s (s.setLevelAt e v cycle) := by
  unfold State.setLevelAt
  split
  · rfl
  · exact (State.setStk_only s _).trans (OnlyStriker.foldl _ (fun s ch => s.setStk_only _) _ _)

theorem State.evalCell_only (s : State) (k cycle : Nat) : OnlyStriker s (s.evalCell k cycle) := by
  unfold State.evalCell
  refine OnlyStriker.trans ?_ (State.setLevelAt_only _ _ _ _)
  rfl

theorem State.runCells_only (before : Nat) : ∀ (fuel : Nat) (s : State), OnlyStriker s (s.runCells before fuel)
  | 0, s => .refl s
  | fuel + 1, s => by
    unfold State.runCells
    split
    · rfl
    · exact (s.evalCell_only _ _).trans (State.runCells_only before fuel _)

theorem State.cellDue_only (s : State) (cycle k : Nat) : OnlyStriker s (s.cellDue cycle k) := rfl

theorem State.refreshChan_only (s : State) (ch : Nat) : OnlyStriker s (s.refreshChan ch) := by
  unfold State.refreshChan State.readersDue
  refine OnlyStriker.trans ?_ (OnlyStriker.foldl _ (fun s k => s.cellDue_only _ k) _ _)
  rfl

theorem State.setGroups_only (s : State) (v : Nat) : OnlyStriker s (s.setGroups v) := by
  unfold State.setGroups
  refine OnlyStriker.trans (State.wr_only s F.STK_GROUP_ON v 0 0) (OnlyStriker.foldl _ (fun s ch => ?_) _ _)
  simp only []
  split
  · rfl
  · exact s.refreshChan_only ch

theorem State.runSwitches_only (s : State) (before : Nat) : OnlyStriker s (s.runSwitches before) := by
  unfold State.runSwitches
  simp only []
  split
  · rfl
  · exact (State.setStk_only s _).trans (State.setGroups_only _ _)

theorem State.gpioAccept_only (s : State) (n level cycle : Nat) : OnlyStriker s (s.gpioAccept n level cycle) :=
  (s.wr_only _ _ _ _).trans (State.setLevelAt_only _ _ _ _)

theorem State.runPins_only (s : State) : OnlyStriker s s.runPins := by
  unfold State.runPins
  refine OnlyStriker.foldl _ (fun s e => ?_) _ _
  split
  · exact .refl s
  · split
    · exact .refl s
    · exact (s.setStk_only _).trans (State.gpioAccept_only _ _ _ _)

/-- What the passing of time changes: the clocks and Striker. -/
theorem State.after_eq (s : State) (d : Nat) :
    s.after d = { s.tick d with regs := (s.after d).regs, stk := (s.after d).stk } := by
  have h : OnlyStriker (s.tick d) (s.after d) := by
    unfold State.after
    exact (State.runPins_only _).trans ((State.runCells_only _ _ _).trans (State.runSwitches_only _ _))
  exact h

@[simp] theorem State.raise_buf (s : State) (e : Nat) : (s.raise e).buf = s.buf := by rw [s.raise_only e]
@[simp] theorem State.raiseT_buf (s : State) (e : Nat) : (s.raiseT e).buf = s.buf := by rw [s.raiseT_only e]
@[simp] theorem State.atCmd_buf (s : State) (d : Nat) : (s.atCmd d).buf = s.buf := by
  rw [State.atCmd, State.after_eq]; rfl
@[simp] theorem State.raise_held (s : State) (e : Nat) : (s.raise e).held = s.held := by rw [s.raise_only e]
@[simp] theorem State.raiseT_held (s : State) (e : Nat) : (s.raiseT e).held = s.held := by rw [s.raiseT_only e]
@[simp] theorem State.atCmd_held (s : State) (d : Nat) : (s.atCmd d).held = s.held := by
  rw [State.atCmd, State.after_eq]; rfl
@[simp] theorem State.raise_upper (s : State) (e : Nat) : (s.raise e).upper = s.upper := by rw [s.raise_only e]
@[simp] theorem State.raiseT_upper (s : State) (e : Nat) : (s.raiseT e).upper = s.upper := by rw [s.raiseT_only e]
@[simp] theorem State.atCmd_upper (s : State) (d : Nat) : (s.atCmd d).upper = s.upper := by
  rw [State.atCmd, State.after_eq]; rfl
@[simp] theorem State.raise_hbm (s : State) (e : Nat) : (s.raise e).hbm = s.hbm := by rw [s.raise_only e]
@[simp] theorem State.raiseT_hbm (s : State) (e : Nat) : (s.raiseT e).hbm = s.hbm := by rw [s.raiseT_only e]
@[simp] theorem State.atCmd_hbm (s : State) (d : Nat) : (s.atCmd d).hbm = s.hbm := by
  rw [State.atCmd, State.after_eq]; rfl
@[simp] theorem State.raise_poison (s : State) (e : Nat) : (s.raise e).poison = s.poison := by rw [s.raise_only e]
@[simp] theorem State.raiseT_poison (s : State) (e : Nat) : (s.raiseT e).poison = s.poison := by rw [s.raiseT_only e]
@[simp] theorem State.atCmd_poison (s : State) (d : Nat) : (s.atCmd d).poison = s.poison := by
  rw [State.atCmd, State.after_eq]; rfl
@[simp] theorem State.raise_owners (s : State) (e : Nat) : (s.raise e).owners = s.owners := by rw [s.raise_only e]
@[simp] theorem State.raiseT_owners (s : State) (e : Nat) : (s.raiseT e).owners = s.owners := by rw [s.raiseT_only e]
@[simp] theorem State.atCmd_owners (s : State) (d : Nat) : (s.atCmd d).owners = s.owners := by
  rw [State.atCmd, State.after_eq]; rfl
@[simp] theorem State.raise_clk (s : State) (e : Nat) : (s.raise e).clk = s.clk := by rw [s.raise_only e]
@[simp] theorem State.raiseT_clk (s : State) (e : Nat) : (s.raiseT e).clk = s.clk := by rw [s.raiseT_only e]
@[simp] theorem State.raise_dt (s : State) (e : Nat) : (s.raise e).dt = s.dt := by rw [s.raise_only e]
@[simp] theorem State.raiseT_dt (s : State) (e : Nat) : (s.raiseT e).dt = s.dt := by rw [s.raiseT_only e]
@[simp] theorem State.raise_running (s : State) (e : Nat) : (s.raise e).running = s.running := by rw [s.raise_only e]
@[simp] theorem State.raiseT_running (s : State) (e : Nat) : (s.raiseT e).running = s.running := by rw [s.raiseT_only e]
@[simp] theorem State.atCmd_running (s : State) (d : Nat) : (s.atCmd d).running = s.running := by
  rw [State.atCmd, State.after_eq]; rfl
@[simp] theorem State.raise_free (s : State) (e : Nat) : (s.raise e).free = s.free := by rw [s.raise_only e]
@[simp] theorem State.raiseT_free (s : State) (e : Nat) : (s.raiseT e).free = s.free := by rw [s.raiseT_only e]
@[simp] theorem State.atCmd_free (s : State) (d : Nat) : (s.atCmd d).free = s.free := by
  rw [State.atCmd, State.after_eq]; rfl
@[simp] theorem State.raise_out (s : State) (e : Nat) : (s.raise e).out = s.out := by rw [s.raise_only e]
@[simp] theorem State.raiseT_out (s : State) (e : Nat) : (s.raiseT e).out = s.out := by rw [s.raiseT_only e]
@[simp] theorem State.raise_power (s : State) (e : Nat) : (s.raise e).power = s.power := by rw [s.raise_only e]
@[simp] theorem State.raiseT_power (s : State) (e : Nat) : (s.raiseT e).power = s.power := by rw [s.raiseT_only e]
@[simp] theorem State.atCmd_power (s : State) (d : Nat) : (s.atCmd d).power = s.power := by
  rw [State.atCmd, State.after_eq]; rfl
@[simp] theorem State.raise_dcs (s : State) (e : Nat) : (s.raise e).dcs = s.dcs := by rw [s.raise_only e]
@[simp] theorem State.raiseT_dcs (s : State) (e : Nat) : (s.raiseT e).dcs = s.dcs := by rw [s.raiseT_only e]
@[simp] theorem State.atCmd_dcs (s : State) (d : Nat) : (s.atCmd d).dcs = s.dcs := by
  rw [State.atCmd, State.after_eq]; rfl
@[simp] theorem State.raise_modes (s : State) (e : Nat) : (s.raise e).modes = s.modes := by rw [s.raise_only e]
@[simp] theorem State.raiseT_modes (s : State) (e : Nat) : (s.raiseT e).modes = s.modes := by rw [s.raiseT_only e]
@[simp] theorem State.atCmd_modes (s : State) (d : Nat) : (s.atCmd d).modes = s.modes := by
  rw [State.atCmd, State.after_eq]; rfl
@[simp] theorem State.raise_flash (s : State) (e : Nat) : (s.raise e).flash = s.flash := by rw [s.raise_only e]
@[simp] theorem State.raiseT_flash (s : State) (e : Nat) : (s.raiseT e).flash = s.flash := by rw [s.raiseT_only e]
@[simp] theorem State.atCmd_flash (s : State) (d : Nat) : (s.atCmd d).flash = s.flash := by
  rw [State.atCmd, State.after_eq]; rfl
@[simp] theorem State.raise_kindle (s : State) (e : Nat) : (s.raise e).kindle = s.kindle := by rw [s.raise_only e]
@[simp] theorem State.raiseT_kindle (s : State) (e : Nat) : (s.raiseT e).kindle = s.kindle := by rw [s.raiseT_only e]
@[simp] theorem State.atCmd_kindle (s : State) (d : Nat) : (s.atCmd d).kindle = s.kindle := by
  rw [State.atCmd, State.after_eq]; rfl
@[simp] theorem State.raise_pos (s : State) (e : Nat) : (s.raise e).pos = s.pos := by rw [s.raise_only e]
@[simp] theorem State.raiseT_pos (s : State) (e : Nat) : (s.raiseT e).pos = s.pos := by rw [s.raiseT_only e]
@[simp] theorem State.atCmd_pos (s : State) (d : Nat) : (s.atCmd d).pos = s.pos := by
  rw [State.atCmd, State.after_eq]; rfl
@[simp] theorem State.raise_trough (s : State) (e : Nat) : (s.raise e).trough = s.trough := by rw [s.raise_only e]
@[simp] theorem State.raiseT_trough (s : State) (e : Nat) : (s.raiseT e).trough = s.trough := by rw [s.raiseT_only e]
@[simp] theorem State.atCmd_trough (s : State) (d : Nat) : (s.atCmd d).trough = s.trough := by
  rw [State.atCmd, State.after_eq]; rfl
@[simp] theorem State.raise_weld (s : State) (e : Nat) : (s.raise e).weld = s.weld := by rw [s.raise_only e]
@[simp] theorem State.raiseT_weld (s : State) (e : Nat) : (s.raiseT e).weld = s.weld := by rw [s.raiseT_only e]
@[simp] theorem State.atCmd_weld (s : State) (d : Nat) : (s.atCmd d).weld = s.weld := by
  rw [State.atCmd, State.after_eq]; rfl
@[simp] theorem State.raise_smb (s : State) (e : Nat) : (s.raise e).smb = s.smb := by rw [s.raise_only e]
@[simp] theorem State.raiseT_smb (s : State) (e : Nat) : (s.raiseT e).smb = s.smb := by rw [s.raiseT_only e]
@[simp] theorem State.atCmd_smb (s : State) (d : Nat) : (s.atCmd d).smb = s.smb := by
  rw [State.atCmd, State.after_eq]; rfl
@[simp] theorem State.raise_hep (s : State) (e : Nat) : (s.raise e).hep = s.hep := by rw [s.raise_only e]
@[simp] theorem State.raiseT_hep (s : State) (e : Nat) : (s.raiseT e).hep = s.hep := by rw [s.raiseT_only e]
@[simp] theorem State.atCmd_hep (s : State) (d : Nat) : (s.atCmd d).hep = s.hep := by
  rw [State.atCmd, State.after_eq]; rfl
@[simp] theorem State.raise_hammer (s : State) (e : Nat) : (s.raise e).hammer = s.hammer := by rw [s.raise_only e]
@[simp] theorem State.raiseT_hammer (s : State) (e : Nat) : (s.raiseT e).hammer = s.hammer := by rw [s.raiseT_only e]
@[simp] theorem State.atCmd_hammer (s : State) (d : Nat) : (s.atCmd d).hammer = s.hammer := by
  rw [State.atCmd, State.after_eq]; rfl
@[simp] theorem State.raise_hgrp (s : State) (e : Nat) : (s.raise e).hgrp = s.hgrp := by rw [s.raise_only e]
@[simp] theorem State.raiseT_hgrp (s : State) (e : Nat) : (s.raiseT e).hgrp = s.hgrp := by rw [s.raiseT_only e]
@[simp] theorem State.atCmd_hgrp (s : State) (d : Nat) : (s.atCmd d).hgrp = s.hgrp := by
  rw [State.atCmd, State.after_eq]; rfl
@[simp] theorem State.raise_nozzle (s : State) (e : Nat) : (s.raise e).nozzle = s.nozzle := by rw [s.raise_only e]
@[simp] theorem State.raiseT_nozzle (s : State) (e : Nat) : (s.raiseT e).nozzle = s.nozzle := by rw [s.raiseT_only e]
@[simp] theorem State.atCmd_nozzle (s : State) (d : Nat) : (s.atCmd d).nozzle = s.nozzle := by
  rw [State.atCmd, State.after_eq]; rfl
@[simp] theorem State.raise_snapClk (s : State) (e : Nat) : (s.raise e).snapClk = s.snapClk := by rw [s.raise_only e]
@[simp] theorem State.raise_sets (s : State) (e : Nat) : (s.raise e).sets = s.sets := by rw [s.raise_only e]
@[simp] theorem State.raiseT_snapClk (s : State) (e : Nat) : (s.raiseT e).snapClk = s.snapClk := by rw [s.raiseT_only e]
@[simp] theorem State.raiseT_sets (s : State) (e : Nat) : (s.raiseT e).sets = s.sets := by rw [s.raiseT_only e]
@[simp] theorem State.atCmd_snapClk (s : State) (d : Nat) : (s.atCmd d).snapClk = s.snapClk := by
  rw [State.atCmd, State.after_eq]; rfl
@[simp] theorem State.atCmd_sets (s : State) (d : Nat) : (s.atCmd d).sets = if d = 0 then s.sets else [] := by
  rw [State.atCmd, State.after_eq]; rfl
@[simp] theorem State.raise_lanes (s : State) (e : Nat) : (s.raise e).lanes = s.lanes := by rw [s.raise_only e]
@[simp] theorem State.raiseT_lanes (s : State) (e : Nat) : (s.raiseT e).lanes = s.lanes := by rw [s.raiseT_only e]
@[simp] theorem State.atCmd_lanes (s : State) (d : Nat) : (s.atCmd d).lanes = s.lanes := by
  rw [State.atCmd, State.after_eq]; rfl
@[simp] theorem State.raise_groups (s : State) (e : Nat) : (s.raise e).groups = s.groups := by rw [s.raise_only e]
@[simp] theorem State.raiseT_groups (s : State) (e : Nat) : (s.raiseT e).groups = s.groups := by rw [s.raiseT_only e]
@[simp] theorem State.atCmd_groups (s : State) (d : Nat) : (s.atCmd d).groups = s.groups := by
  rw [State.atCmd, State.after_eq]; rfl
@[simp] theorem State.raise_ports (s : State) (e : Nat) : (s.raise e).ports = s.ports := by rw [s.raise_only e]
@[simp] theorem State.raiseT_ports (s : State) (e : Nat) : (s.raiseT e).ports = s.ports := by rw [s.raiseT_only e]
@[simp] theorem State.atCmd_ports (s : State) (d : Nat) : (s.atCmd d).ports = s.ports := by
  rw [State.atCmd, State.after_eq]; rfl
@[simp] theorem State.raise_eqTable (s : State) (e : Nat) : (s.raise e).eqTable = s.eqTable := by rw [s.raise_only e]
@[simp] theorem State.raiseT_eqTable (s : State) (e : Nat) : (s.raiseT e).eqTable = s.eqTable := by rw [s.raiseT_only e]
@[simp] theorem State.atCmd_eqTable (s : State) (d : Nat) : (s.atCmd d).eqTable = s.eqTable := by
  rw [State.atCmd, State.after_eq]; rfl
@[simp] theorem State.raise_hearths (s : State) (e : Nat) : (s.raise e).hearths = s.hearths := by rw [s.raise_only e]
@[simp] theorem State.raiseT_hearths (s : State) (e : Nat) : (s.raiseT e).hearths = s.hearths := by rw [s.raiseT_only e]
@[simp] theorem State.atCmd_hearths (s : State) (d : Nat) : (s.atCmd d).hearths = s.hearths := by
  rw [State.atCmd, State.after_eq]; rfl
@[simp] theorem State.raise_anvil (s : State) (e : Nat) : (s.raise e).anvil = s.anvil := by rw [s.raise_only e]
@[simp] theorem State.raiseT_anvil (s : State) (e : Nat) : (s.raiseT e).anvil = s.anvil := by rw [s.raiseT_only e]
@[simp] theorem State.atCmd_anvil (s : State) (d : Nat) : (s.atCmd d).anvil = s.anvil := by
  rw [State.atCmd, State.after_eq]; rfl
@[simp] theorem State.raise_blw (s : State) (e : Nat) : (s.raise e).blw = s.blw := by rw [s.raise_only e]
@[simp] theorem State.raiseT_blw (s : State) (e : Nat) : (s.raiseT e).blw = s.blw := by rw [s.raiseT_only e]
@[simp] theorem State.atCmd_blw (s : State) (d : Nat) : (s.atCmd d).blw = s.blw := by
  rw [State.atCmd, State.after_eq]; rfl
@[simp] theorem State.raise_readers (s : State) (e : Nat) : (s.raise e).readers = s.readers := by rw [s.raise_only e]
@[simp] theorem State.raiseT_readers (s : State) (e : Nat) : (s.raiseT e).readers = s.readers := by rw [s.raiseT_only e]
@[simp] theorem State.atCmd_readers (s : State) (d : Nat) : (s.atCmd d).readers = s.readers := by
  rw [State.atCmd, State.after_eq]; rfl
@[simp] theorem State.raise_tongs (s : State) (e : Nat) : (s.raise e).tongs = s.tongs := by rw [s.raise_only e]
@[simp] theorem State.raiseT_tongs (s : State) (e : Nat) : (s.raiseT e).tongs = s.tongs := by rw [s.raiseT_only e]
@[simp] theorem State.atCmd_tongs (s : State) (d : Nat) : (s.atCmd d).tongs = s.tongs := by
  rw [State.atCmd, State.after_eq]; rfl
@[simp] theorem State.raise_pending (s : State) (e : Nat) : (s.raise e).pending = s.pending := by rw [s.raise_only e]
@[simp] theorem State.raiseT_pending (s : State) (e : Nat) : (s.raiseT e).pending = s.pending := by rw [s.raiseT_only e]
@[simp] theorem State.atCmd_pending (s : State) (d : Nat) : (s.atCmd d).pending = s.pending := by
  rw [State.atCmd, State.after_eq]; rfl
@[simp] theorem State.atCmd_out (s : State) (d : Nat) : (s.atCmd d).out = [] := by
  rw [State.atCmd, State.after_eq]; rfl
@[simp] theorem State.atCmd_clk (s : State) (d : Nat) : (s.atCmd d).clk = s.clk + d := by
  rw [State.atCmd, State.after_eq]; rfl
@[simp] theorem State.atCmd_dt (s : State) (d : Nat) :
    (s.atCmd d).dt = if s.running then (s.dt + d) % 2 ^ 64 else s.dt := by
  rw [State.atCmd, State.after_eq]; rfl

end Sys2Proof.Machine
end

