-- ==== Sys2Proof/Laws/Memory.lean ====
section
/-!
SUPPORT. Every operation over the byte memories (HBM, the BAR0 buffers, the configuration memory, the equalisation table) keeps their
canonical form: addresses strictly rising, and no entry equal to what an unlisted byte reads as.
-/

namespace Sys2Proof.Machine

/-- The canonical form, memory by memory. -/
theorem Memory.wf_iff (s : State) : Memory.wf s = true ↔
    Assoc.wf 0 s.hbm = true ∧ Assoc.wf 0 s.buf = true ∧ Assoc.wf 0xFF s.flash.mem = true ∧ Assoc.wf 0 s.eqTable = true := by
  simp [Memory.wf, Bool.and_eq_true, and_assoc]

/-- States with the same memories are canonical together. -/
theorem Memory.wf_of_eq {s t : State} (h : Memory.wf s = true) (hb : t.hbm = s.hbm) (bu : t.buf = s.buf)
    (fl : t.flash.mem = s.flash.mem) (eq : t.eqTable = s.eqTable) : Memory.wf t = true := by
  rw [Memory.wf_iff] at h ⊢
  rw [hb, bu, fl, eq]
  exact h

/-- Writing HBM keeps the form. -/
theorem Memory.wf_hbmWrite {s : State} (h : Memory.wf s = true) (a : Nat) (bs : Bytes) :
    Memory.wf (s.hbmWrite a bs) = true := by
  rw [Memory.wf_iff] at h ⊢
  exact ⟨Mem.wf_write bs a h.1, h.2⟩

/-- Marking HBM blocks keeps the form. -/
theorem Memory.wf_hbmMark {s : State} (h : Memory.wf s = true) (a n : Nat) : Memory.wf (s.hbmMark a n) = true :=
  Memory.wf_of_eq h rfl rfl rfl rfl

/-- Writing a BAR0 buffer keeps the form. -/
theorem Memory.wf_bufWrite {s : State} (h : Memory.wf s = true) (a : Nat) (bs : Bytes) :
    Memory.wf (s.bufWrite a bs) = true := by
  rw [Memory.wf_iff] at h ⊢
  exact ⟨h.1, Mem.wf_write bs a h.2.1, h.2.2⟩

/-- Programming the configuration memory keeps the form. -/
theorem Memory.wf_flashProgram {s : State} (h : Memory.wf s = true) (a : Nat) (bs : Bytes) :
    Memory.wf (s.flashProgram a bs) = true := by
  rw [Memory.wf_iff] at h ⊢
  exact ⟨h.1, h.2.1, Mem.wf_write _ a h.2.2.1, h.2.2.2⟩

/-- Erasing a sector keeps the form. -/
theorem Memory.wf_flashErase {s : State} (h : Memory.wf s = true) (k : Nat) : Memory.wf (s.flashErase k) = true := by
  rw [Memory.wf_iff] at h ⊢
  exact ⟨h.1, h.2.1, Assoc.wf_delRange h.2.2.1 _ _, h.2.2.2⟩

/-- Returning a range of BAR0 to reset keeps the form. -/
theorem Memory.wf_resetRange {s : State} (h : Memory.wf s = true) (a b : Nat) : Memory.wf (s.resetRange a b) = true := by
  rw [Memory.wf_iff] at h ⊢
  exact ⟨h.1, Assoc.wf_delRange h.2.1 _ _, h.2.2⟩

/-- Taking free bytes changes no memory. -/
theorem State.freshBytes_mem (s : State) (n : Nat) :
    (s.freshBytes n).2.hbm = s.hbm ∧ (s.freshBytes n).2.buf = s.buf ∧ (s.freshBytes n).2.flash = s.flash
      ∧ (s.freshBytes n).2.eqTable = s.eqTable := by
  induction n generalizing s with
  | zero => exact ⟨rfl, rfl, rfl, rfl⟩
  | succ n ih => exact ih (s.fresh 8).2

/-- A program that fails keeps the form. -/
theorem Memory.wf_programPart {s : State} (h : Memory.wf s = true) (a : Nat) (bs : Bytes) :
    Memory.wf (s.programPart a bs) = true := by
  obtain ⟨h1, h2, h3, h4⟩ := State.freshBytes_mem s bs.length
  exact Memory.wf_flashProgram (Memory.wf_of_eq h h1 h2 (congrArg FlashS.mem h3) h4) a _

/-- Bytes whose erase did not complete keep the form. -/
theorem Memory.wf_eraseBytes {s : State} (h : Memory.wf s = true) (a n : Nat) : Memory.wf (s.eraseBytes a n) = true := by
  obtain ⟨h1, h2, h3, h4⟩ := State.freshBytes_mem s n
  have h' := Memory.wf_of_eq h h1 h2 (congrArg FlashS.mem h3) h4
  rw [Memory.wf_iff] at h' ⊢
  exact ⟨h'.1, h'.2.1, Mem.wf_write _ a h'.2.2.1, h'.2.2.2⟩

/-- An erase that fails keeps the form. -/
theorem Memory.wf_erasePartly {s : State} (h : Memory.wf s = true) (a : Nat) : Memory.wf (s.erasePartly a) = true :=
  Memory.wf_eraseBytes h a 65536

end Sys2Proof.Machine
end

