-- ==== Sys2Proof/Laws/PerInstr.lean ====
section
/-!
SUPPORT. The form that every command has: its operands are judged by `Instr.check`, its own nanoseconds pass, and it then acts on
the state.
-/

namespace Sys2Proof.Laws.Elapsed

open Sys2Proof.Machine

/-- A command is one use of `cmd` with the command's own check and its own elapsed time. -/
def Statement (i : Instr) : Prop := ∀ s : State, ∃ act, exec i s = cmd i.check i.elapsed s act

theorem registerWrite (d : Nat) (a : Nat) (size : Nat) (x : Nat) : Statement (.registerWrite d a size x) := by
  intro s; show ∃ act, execRegisterWrite d a size x s = cmd _ d s act; delta execRegisterWrite; exact ⟨_, rfl⟩
theorem decideReplyWrite (d : Nat) (off : Nat) (size : Nat) (v : Nat) : Statement (.decideReplyWrite d off size v) := by
  intro s; show ∃ act, execDecideReplyWrite d off size v s = cmd _ d s act; delta execDecideReplyWrite; exact ⟨_, rfl⟩
theorem decideTimeout (d : Nat) (id : Nat) : Statement (.decideTimeout d id) := by
  intro s; show ∃ act, execDecideTimeout d id s = cmd _ d s act; delta execDecideTimeout; exact ⟨_, rfl⟩
theorem heldRequestPost (d : Nat) : Statement (.heldRequestPost d) := by
  intro s; show ∃ act, execHeldRequestPost d s = cmd _ d s act; delta execHeldRequestPost; exact ⟨_, rfl⟩
theorem funcModeWrite (d : Nat) (f : Nat) (v : Nat) : Statement (.funcModeWrite d f v) := by
  intro s; show ∃ act, execFuncModeWrite d f v s = cmd _ d s act; delta execFuncModeWrite; exact ⟨_, rfl⟩
theorem funcModeSafePoint (d : Nat) (f : Nat) (u : Nat) : Statement (.funcModeSafePoint d f u) := by
  intro s; show ∃ act, execFuncModeSafePoint d f u s = cmd _ d s act; delta execFuncModeSafePoint; exact ⟨_, rfl⟩
theorem powerOn (d : Nat) (straps : Nat) (cfgHoldN : Nat) : Statement (.powerOn d straps cfgHoldN) := by
  intro s; show ∃ act, execPowerOn d straps cfgHoldN s = cmd _ d s act; delta execPowerOn; exact ⟨_, rfl⟩
theorem supplyOkFall (d : Nat) : Statement (.supplyOkFall d) := by
  intro s; show ∃ act, execSupplyOkFall d s = cmd _ d s act; delta execSupplyOkFall; exact ⟨_, rfl⟩
theorem perstNAssert (d : Nat) : Statement (.perstNAssert d) := by
  intro s; show ∃ act, execPerstNAssert d s = cmd _ d s act; delta execPerstNAssert; exact ⟨_, rfl⟩
theorem perstNRelease (d : Nat) (cfgHoldN : Nat) : Statement (.perstNRelease d cfgHoldN) := by
  intro s; show ∃ act, execPerstNRelease d cfgHoldN s = cmd _ d s act; delta execPerstNRelease; exact ⟨_, rfl⟩
theorem timebaseLock (d : Nat) : Statement (.timebaseLock d) := by
  intro s; show ∃ act, execTimebaseLock d s = cmd _ d s act; delta execTimebaseLock; exact ⟨_, rfl⟩
theorem flashInitDone (d : Nat) (sfdpOk : Bool) (sectors : Nat) (uniform : Bool) (ddrOk : Bool) : Statement (.flashInitDone d sfdpOk sectors uniform ddrOk) := by
  intro s; show ∃ act, execFlashInitDone d sfdpOk sectors uniform ddrOk s = cmd _ d s act; delta execFlashInitDone; exact ⟨_, rfl⟩
theorem slotSelect (d : Nat) : Statement (.slotSelect d) := by
  intro s; show ∃ act, execSlotSelect d s = cmd _ d s act; delta execSlotSelect; exact ⟨_, rfl⟩
theorem candidateVerify (d : Nat) : Statement (.candidateVerify d) := by
  intro s; show ∃ act, execCandidateVerify d s = cmd _ d s act; delta execCandidateVerify; exact ⟨_, rfl⟩
theorem hbmTrainingDone (d : Nat) (failed : Option Nat) : Statement (.hbmTrainingDone d failed) := by
  intro s; show ∃ act, execHbmTrainingDone d failed s = cmd _ d s act; delta execHbmTrainingDone; exact ⟨_, rfl⟩
theorem hostLinkUp (d : Nat) (speed : Nat) (width : Nat) (flit : Bool) : Statement (.hostLinkUp d speed width flit) := by
  intro s; show ∃ act, execHostLinkUp d speed width flit s = cmd _ d s act; delta execHostLinkUp; exact ⟨_, rfl⟩
theorem kindleApplyDone (d : Nat) : Statement (.kindleApplyDone d) := by
  intro s; show ∃ act, execKindleApplyDone d s = cmd _ d s act; delta execKindleApplyDone; exact ⟨_, rfl⟩
theorem journalRestore (d : Nat) : Statement (.journalRestore d) := by
  intro s; show ∃ act, execJournalRestore d s = cmd _ d s act; delta execJournalRestore; exact ⟨_, rfl⟩
theorem kindleReady (d : Nat) : Statement (.kindleReady d) := by
  intro s; show ∃ act, execKindleReady d s = cmd _ d s act; delta execKindleReady; exact ⟨_, rfl⟩
theorem kindleHold (d : Nat) : Statement (.kindleHold d) := by
  intro s; show ∃ act, execKindleHold d s = cmd _ d s act; delta execKindleHold; exact ⟨_, rfl⟩
theorem rekindle (d : Nat) (key : Nat) : Statement (.rekindle d key) := by
  intro s; show ∃ act, execRekindle d key s = cmd _ d s act; delta execRekindle; exact ⟨_, rfl⟩
theorem finish (d : Nat) (key : Nat) : Statement (.finish d key) := by
  intro s; show ∃ act, execFinish d key s = cmd _ d s act; delta execFinish; exact ⟨_, rfl⟩
theorem resourceClaim (d : Nat) (cls : Nat) (idx : Nat) (owner : Nat) : Statement (.resourceClaim d cls idx owner) := by
  intro s; show ∃ act, execResourceClaim d cls idx owner s = cmd _ d s act; delta execResourceClaim; exact ⟨_, rfl⟩
theorem resourceRelease (d : Nat) (cls : Nat) (idx : Nat) (owner : Nat) : Statement (.resourceRelease d cls idx owner) := by
  intro s; show ∃ act, execResourceRelease d cls idx owner s = cmd _ d s act; delta execResourceRelease; exact ⟨_, rfl⟩
theorem flashRead (d : Nat) (len : Nat) : Statement (.flashRead d len) := by
  intro s; show ∃ act, execFlashRead d len s = cmd _ d s act; delta execFlashRead; exact ⟨_, rfl⟩
theorem flashProgram (d : Nat) (len : Nat) : Statement (.flashProgram d len) := by
  intro s; show ∃ act, execFlashProgram d len s = cmd _ d s act; delta execFlashProgram; exact ⟨_, rfl⟩
theorem flashErase (d : Nat) : Statement (.flashErase d) := by
  intro s; show ∃ act, execFlashErase d s = cmd _ d s act; delta execFlashErase; exact ⟨_, rfl⟩
theorem flashArbiterServe (d : Nat) : Statement (.flashArbiterServe d) := by
  intro s; show ∃ act, execFlashArbiterServe d s = cmd _ d s act; delta execFlashArbiterServe; exact ⟨_, rfl⟩
theorem flashOpDone (d : Nat) (ok : Bool) : Statement (.flashOpDone d ok) := by
  intro s; show ∃ act, execFlashOpDone d ok s = cmd _ d s act; delta execFlashOpDone; exact ⟨_, rfl⟩
theorem refLost (d : Nat) : Statement (.refLost d) := by
  intro s; show ∃ act, execRefLost d s = cmd _ d s act; delta execRefLost; exact ⟨_, rfl⟩
theorem refFrequencyLock (d : Nat) : Statement (.refFrequencyLock d) := by
  intro s; show ∃ act, execRefFrequencyLock d s = cmd _ d s act; delta execRefFrequencyLock; exact ⟨_, rfl⟩
theorem refPhaseLock (d : Nat) : Statement (.refPhaseLock d) := by
  intro s; show ∃ act, execRefPhaseLock d s = cmd _ d s act; delta execRefPhaseLock; exact ⟨_, rfl⟩
theorem encoderEdge (d : Nat) (smp : List (Nat × Nat × Nat)) : Statement (.encoderEdge d smp) := by
  intro s; show ∃ act, execEncoderEdge d smp s = cmd _ d s act; delta execEncoderEdge; exact ⟨_, rfl⟩
theorem encoderIndex (d : Nat) (smp : List (Nat × Nat)) : Statement (.encoderIndex d smp) := by
  intro s; show ∃ act, execEncoderIndex d smp s = cmd _ d s act; delta execEncoderIndex; exact ⟨_, rfl⟩
theorem axisStall (d : Nat) (a : Nat) : Statement (.axisStall d a) := by
  intro s; show ∃ act, execAxisStall d a s = cmd _ d s act; delta execAxisStall; exact ⟨_, rfl⟩
theorem axisResume (d : Nat) (a : Nat) : Statement (.axisResume d a) := by
  intro s; show ∃ act, execAxisResume d a s = cmd _ d s act; delta execAxisResume; exact ⟨_, rfl⟩
theorem useRedundant (d : Nat) (a : Nat) : Statement (.useRedundant d a) := by
  intro s; show ∃ act, execUseRedundant d a s = cmd _ d s act; delta execUseRedundant; exact ⟨_, rfl⟩
theorem usePrimary (d : Nat) (a : Nat) : Statement (.usePrimary d a) := by
  intro s; show ∃ act, execUsePrimary d a s = cmd _ d s act; delta execUsePrimary; exact ⟨_, rfl⟩
theorem generatorArm (d : Nat) (k : GenKind) (g : Nat) : Statement (.generatorArm d k g) := by
  intro s; show ∃ act, execGeneratorArm d k g s = cmd _ d s act; delta execGeneratorArm; exact ⟨_, rfl⟩
theorem generatorDisarm (d : Nat) (k : GenKind) (g : Nat) : Statement (.generatorDisarm d k g) := by
  intro s; show ∃ act, execGeneratorDisarm d k g s = cmd _ d s act; delta execGeneratorDisarm; exact ⟨_, rfl⟩
theorem generatorFlush (d : Nat) (k : GenKind) (g : Nat) : Statement (.generatorFlush d k g) := by
  intro s; show ∃ act, execGeneratorFlush d k g s = cmd _ d s act; delta execGeneratorFlush; exact ⟨_, rfl⟩
theorem targetCrossing (d : Nat) (k : GenKind) (g : Nat) : Statement (.targetCrossing d k g) := by
  intro s; show ∃ act, execTargetCrossing d k g s = cmd _ d s act; delta execTargetCrossing; exact ⟨_, rfl⟩
theorem triggerIssue (d : Nat) (g : Nat) (wait : Nat) : Statement (.triggerIssue d g wait) := by
  intro s; show ∃ act, execTriggerIssue d g wait s = cmd _ d s act; delta execTriggerIssue; exact ⟨_, rfl⟩
theorem pinPulseIssue (d : Nat) (p : Nat) : Statement (.pinPulseIssue d p) := by
  intro s; show ∃ act, execPinPulseIssue d p s = cmd _ d s act; delta execPinPulseIssue; exact ⟨_, rfl⟩
theorem pinPulseEnd (d : Nat) (p : Nat) : Statement (.pinPulseEnd d p) := by
  intro s; show ∃ act, execPinPulseEnd d p s = cmd _ d s act; delta execPinPulseEnd; exact ⟨_, rfl⟩
theorem firePointIssue (d : Nat) (c : Nat) : Statement (.firePointIssue d c) := by
  intro s; show ∃ act, execFirePointIssue d c s = cmd _ d s act; delta execFirePointIssue; exact ⟨_, rfl⟩
theorem ledgerFirstBlockNotice (d : Nat) (idx : Nat) : Statement (.ledgerFirstBlockNotice d idx) := by
  intro s; show ∃ act, execLedgerFirstBlockNotice d idx s = cmd _ d s act; delta execLedgerFirstBlockNotice; exact ⟨_, rfl⟩
theorem ledgerFrameTagNotice (d : Nat) (idx : Nat) : Statement (.ledgerFrameTagNotice d idx) := by
  intro s; show ∃ act, execLedgerFrameTagNotice d idx s = cmd _ d s act; delta execLedgerFrameTagNotice; exact ⟨_, rfl⟩
theorem firstBlockTimeout (d : Nat) (idx : Nat) : Statement (.firstBlockTimeout d idx) := by
  intro s; show ∃ act, execFirstBlockTimeout d idx s = cmd _ d s act; delta execFirstBlockTimeout; exact ⟨_, rfl⟩
theorem frameTimeout (d : Nat) (idx : Nat) : Statement (.frameTimeout d idx) := by
  intro s; show ∃ act, execFrameTimeout d idx s = cmd _ d s act; delta execFrameTimeout; exact ⟨_, rfl⟩
theorem ledgerSelWrite (d : Nat) (index : Nat) : Statement (.ledgerSelWrite d index) := by
  intro s; show ∃ act, execLedgerSelWrite d index s = cmd _ d s act; delta execLedgerSelWrite; exact ⟨_, rfl⟩
theorem exposeAckApply (d : Nat) (h : Nat) : Statement (.exposeAckApply d h) := by
  intro s; show ∃ act, execExposeAckApply d h s = cmd _ d s act; delta execExposeAckApply; exact ⟨_, rfl⟩
theorem laneEnable (d : Nat) (k : Nat) : Statement (.laneEnable d k) := by
  intro s; show ∃ act, execLaneEnable d k s = cmd _ d s act; delta execLaneEnable; exact ⟨_, rfl⟩
theorem signalDetect (d : Nat) (k : Nat) : Statement (.signalDetect d k) := by
  intro s; show ∃ act, execSignalDetect d k s = cmd _ d s act; delta execSignalDetect; exact ⟨_, rfl⟩
theorem cdrLock (d : Nat) (k : Nat) : Statement (.cdrLock d k) := by
  intro s; show ∃ act, execCdrLock d k s = cmd _ d s act; delta execCdrLock; exact ⟨_, rfl⟩
theorem blockLock (d : Nat) (k : Nat) : Statement (.blockLock d k) := by
  intro s; show ∃ act, execBlockLock d k s = cmd _ d s act; delta execBlockLock; exact ⟨_, rfl⟩
theorem laneBlockReceive (d : Nat) (k : Nat) (hdr : Nat) (payload : Nat) : Statement (.laneBlockReceive d k hdr payload) := by
  intro s; show ∃ act, execLaneBlockReceive d k hdr payload s = cmd _ d s act; delta execLaneBlockReceive; exact ⟨_, rfl⟩
theorem lockWindowLoss (d : Nat) (k : Nat) : Statement (.lockWindowLoss d k) := by
  intro s; show ∃ act, execLockWindowLoss d k s = cmd _ d s act; delta execLockWindowLoss; exact ⟨_, rfl⟩
theorem lossOfSignal (d : Nat) (k : Nat) : Statement (.lossOfSignal d k) := by
  intro s; show ∃ act, execLossOfSignal d k s = cmd _ d s act; delta execLossOfSignal; exact ⟨_, rfl⟩
theorem trainTimeout (d : Nat) (k : Nat) : Statement (.trainTimeout d k) := by
  intro s; show ∃ act, execTrainTimeout d k s = cmd _ d s act; delta execTrainTimeout; exact ⟨_, rfl⟩
theorem lockTimeout (d : Nat) (k : Nat) : Statement (.lockTimeout d k) := by
  intro s; show ∃ act, execLockTimeout d k s = cmd _ d s act; delta execLockTimeout; exact ⟨_, rfl⟩
theorem capsTimeout (d : Nat) (k : Nat) : Statement (.capsTimeout d k) := by
  intro s; show ∃ act, execCapsTimeout d k s = cmd _ d s act; delta execCapsTimeout; exact ⟨_, rfl⟩
theorem relockTimeout (d : Nat) (k : Nat) : Statement (.relockTimeout d k) := by
  intro s; show ∃ act, execRelockTimeout d k s = cmd _ d s act; delta execRelockTimeout; exact ⟨_, rfl⟩
theorem exitDetect (d : Nat) (k : Nat) : Statement (.exitDetect d k) := by
  intro s; show ∃ act, execExitDetect d k s = cmd _ d s act; delta execExitDetect; exact ⟨_, rfl⟩
theorem exitFail (d : Nat) (k : Nat) : Statement (.exitFail d k) := by
  intro s; show ∃ act, execExitFail d k s = cmd _ d s act; delta execExitFail; exact ⟨_, rfl⟩
theorem txExit (d : Nat) (k : Nat) : Statement (.txExit d k) := by
  intro s; show ∃ act, execTxExit d k s = cmd _ d s act; delta execTxExit; exact ⟨_, rfl⟩
theorem fomMeasure (d : Nat) (k : Nat) (v : Nat) (h : Nat) : Statement (.fomMeasure d k v h) := by
  intro s; show ∃ act, execFomMeasure d k v h s = cmd _ d s act; delta execFomMeasure; exact ⟨_, rfl⟩
theorem trimDecision (d : Nat) (k : Nat) (ctle : Nat) (dfe : Nat) : Statement (.trimDecision d k ctle dfe) := by
  intro s; show ∃ act, execTrimDecision d k ctle dfe s = cmd _ d s act; delta execTrimDecision; exact ⟨_, rfl⟩
theorem trimFreeze (d : Nat) (k : Nat) : Statement (.trimFreeze d k) := by
  intro s; show ∃ act, execTrimFreeze d k s = cmd _ d s act; delta execTrimFreeze; exact ⟨_, rfl⟩
theorem retrain (d : Nat) (k : Nat) : Statement (.retrain d k) := by
  intro s; show ∃ act, execRetrain d k s = cmd _ d s act; delta execRetrain; exact ⟨_, rfl⟩
theorem laneClearCounts (d : Nat) (k : Nat) : Statement (.laneClearCounts d k) := by
  intro s; show ∃ act, execLaneClearCounts d k s = cmd _ d s act; delta execLaneClearCounts; exact ⟨_, rfl⟩
theorem testEnter (d : Nat) (k : Nat) (v : Nat) : Statement (.testEnter d k v) := by
  intro s; show ∃ act, execTestEnter d k v s = cmd _ d s act; delta execTestEnter; exact ⟨_, rfl⟩
theorem testExit (d : Nat) (k : Nat) (v : Nat) : Statement (.testExit d k v) := by
  intro s; show ∃ act, execTestExit d k v s = cmd _ d s act; delta execTestExit; exact ⟨_, rfl⟩
theorem injectFire (d : Nat) (k : Nat) (v : Nat) : Statement (.injectFire d k v) := by
  intro s; show ∃ act, execInjectFire d k v s = cmd _ d s act; delta execInjectFire; exact ⟨_, rfl⟩
theorem injectRepeat (d : Nat) (k : Nat) : Statement (.injectRepeat d k) := by
  intro s; show ∃ act, execInjectRepeat d k s = cmd _ d s act; delta execInjectRepeat; exact ⟨_, rfl⟩
theorem spareListenStart (d : Nat) (g : Nat) : Statement (.spareListenStart d g) := by
  intro s; show ∃ act, execSpareListenStart d g s = cmd _ d s act; delta execSpareListenStart; exact ⟨_, rfl⟩
theorem spareSwitch (d : Nat) (g : Nat) : Statement (.spareSwitch d g) := by
  intro s; show ∃ act, execSpareSwitch d g s = cmd _ d s act; delta execSpareSwitch; exact ⟨_, rfl⟩
theorem spareLossTakeover (d : Nat) (g : Nat) : Statement (.spareLossTakeover d g) := by
  intro s; show ∃ act, execSpareLossTakeover d g s = cmd _ d s act; delta execSpareLossTakeover; exact ⟨_, rfl⟩
theorem suspectTestDone (d : Nat) (g : Nat) (errs : Nat) : Statement (.suspectTestDone d g errs) := by
  intro s; show ∃ act, execSuspectTestDone d g errs s = cmd _ d s act; delta execSuspectTestDone; exact ⟨_, rfl⟩
theorem lgrpSubstitute (d : Nat) (g : Nat) (pad : Nat) : Statement (.lgrpSubstitute d g pad) := by
  intro s; show ∃ act, execLgrpSubstitute d g pad s = cmd _ d s act; delta execLgrpSubstitute; exact ⟨_, rfl⟩
theorem lgrpAbandon (d : Nat) (g : Nat) : Statement (.lgrpAbandon d g) := by
  intro s; show ∃ act, execLgrpAbandon d g s = cmd _ d s act; delta execLgrpAbandon; exact ⟨_, rfl⟩
theorem markerSetReceive (d : Nat) (p : Nat) : Statement (.markerSetReceive d p) := by
  intro s; show ∃ act, execMarkerSetReceive d p s = cmd _ d s act; delta execMarkerSetReceive; exact ⟨_, rfl⟩
theorem alignTimeout (d : Nat) (p : Nat) : Statement (.alignTimeout d p) := by
  intro s; show ∃ act, execAlignTimeout d p s = cmd _ d s act; delta execAlignTimeout; exact ⟨_, rfl⟩
theorem linkResetDeferred (d : Nat) (p : Nat) : Statement (.linkResetDeferred d p) := by
  intro s; show ∃ act, execLinkResetDeferred d p s = cmd _ d s act; delta execLinkResetDeferred; exact ⟨_, rfl⟩
theorem capsReqSend (d : Nat) (l : Nat) : Statement (.capsReqSend d l) := by
  intro s; show ∃ act, execCapsReqSend d l s = cmd _ d s act; delta execCapsReqSend; exact ⟨_, rfl⟩
theorem capsReceive (d : Nat) (q : Nat) : Statement (.capsReceive d q) := by
  intro s; show ∃ act, execCapsReceive d q s = cmd _ d s act; delta execCapsReceive; exact ⟨_, rfl⟩
theorem frameStart (d : Nat) (p : Nat) (bad : Nat) : Statement (.frameStart d p bad) := by
  intro s; show ∃ act, execFrameStart d p bad s = cmd _ d s act; delta execFrameStart; exact ⟨_, rfl⟩
theorem frameEnd (d : Nat) (p : Nat) (power : Nat) (bad : Nat) : Statement (.frameEnd d p power bad) := by
  intro s; show ∃ act, execFrameEnd d p power bad s = cmd _ d s act; delta execFrameEnd; exact ⟨_, rfl⟩
theorem imagePacket (d : Nat) (p : Nat) (bad : Nat) : Statement (.imagePacket d p bad) := by
  intro s; show ∃ act, execImagePacket d p bad s = cmd _ d s act; delta execImagePacket; exact ⟨_, rfl⟩
theorem billetIdleTimeout (d : Nat) (h : Nat) : Statement (.billetIdleTimeout d h) := by
  intro s; show ∃ act, execBilletIdleTimeout d h s = cmd _ d s act; delta execBilletIdleTimeout; exact ⟨_, rfl⟩
theorem rspReceive (d : Nat) (p : Nat) : Statement (.rspReceive d p) := by
  intro s; show ∃ act, execRspReceive d p s = cmd _ d s act; delta execRspReceive; exact ⟨_, rfl⟩
theorem cmdTimeout (d : Nat) (p : Nat) (tag : Nat) : Statement (.cmdTimeout d p tag) := by
  intro s; show ∃ act, execCmdTimeout d p tag s = cmd _ d s act; delta execCmdTimeout; exact ⟨_, rfl⟩
theorem eventReceive (d : Nat) (p : Nat) : Statement (.eventReceive d p) := by
  intro s; show ∃ act, execEventReceive d p s = cmd _ d s act; delta execEventReceive; exact ⟨_, rfl⟩
theorem heartbeatReceive (d : Nat) (p : Nat) : Statement (.heartbeatReceive d p) := by
  intro s; show ∃ act, execHeartbeatReceive d p s = cmd _ d s act; delta execHeartbeatReceive; exact ⟨_, rfl⟩
theorem heartbeatTimeout (d : Nat) (p : Nat) : Statement (.heartbeatTimeout d p) := by
  intro s; show ∃ act, execHeartbeatTimeout d p s = cmd _ d s act; delta execHeartbeatTimeout; exact ⟨_, rfl⟩
theorem heartbeatSend (d : Nat) (p : Nat) : Statement (.heartbeatSend d p) := by
  intro s; show ∃ act, execHeartbeatSend d p s = cmd _ d s act; delta execHeartbeatSend; exact ⟨_, rfl⟩
theorem cmdRead (d : Nat) (p : Nat) (len : Nat) (addr : Nat) : Statement (.cmdRead d p len addr) := by
  intro s; show ∃ act, execCmdRead d p len addr s = cmd _ d s act; delta execCmdRead; exact ⟨_, rfl⟩
theorem cmdWrite (d : Nat) (p : Nat) (len : Nat) (addr : Nat) : Statement (.cmdWrite d p len addr) := by
  intro s; show ∃ act, execCmdWrite d p len addr s = cmd _ d s act; delta execCmdWrite; exact ⟨_, rfl⟩
theorem cmdEidleDown (d : Nat) (p : Nat) : Statement (.cmdEidleDown d p) := by
  intro s; show ∃ act, execCmdEidleDown d p s = cmd _ d s act; delta execCmdEidleDown; exact ⟨_, rfl⟩
theorem cmdWakeDown (d : Nat) (p : Nat) : Statement (.cmdWakeDown d p) := by
  intro s; show ∃ act, execCmdWakeDown d p s = cmd _ d s act; delta execCmdWakeDown; exact ⟨_, rfl⟩
theorem cmdCapsRead (d : Nat) (p : Nat) : Statement (.cmdCapsRead d p) := by
  intro s; show ∃ act, execCmdCapsRead d p s = cmd _ d s act; delta execCmdCapsRead; exact ⟨_, rfl⟩
theorem cmdLinkReset (d : Nat) (p : Nat) : Statement (.cmdLinkReset d p) := by
  intro s; show ∃ act, execCmdLinkReset d p s = cmd _ d s act; delta execCmdLinkReset; exact ⟨_, rfl⟩
theorem cmdCameraPrivate (d : Nat) (p : Nat) (op : Nat) (len : Nat) (addr : Nat) : Statement (.cmdCameraPrivate d p op len addr) := by
  intro s; show ∃ act, execCmdCameraPrivate d p op len addr s = cmd _ d s act; delta execCmdCameraPrivate; exact ⟨_, rfl⟩
theorem cobexLinkReset (d : Nat) (p : Nat) : Statement (.cobexLinkReset d p) := by
  intro s; show ∃ act, execCobexLinkReset d p s = cmd _ d s act; delta execCobexLinkReset; exact ⟨_, rfl⟩
theorem cobexClearCounts (d : Nat) (p : Nat) : Statement (.cobexClearCounts d p) := by
  intro s; show ∃ act, execCobexClearCounts d p s = cmd _ d s act; delta execCobexClearCounts; exact ⟨_, rfl⟩
theorem tableSwap (d : Nat) (n : Nat) : Statement (.tableSwap d n) := by
  intro s; show ∃ act, execTableSwap d n s = cmd _ d s act; delta execTableSwap; exact ⟨_, rfl⟩
theorem markSetNow (d : Nat) (n : Nat) (m : Nat) (st : Nat) : Statement (.markSetNow d n m st) := by
  intro s; show ∃ act, execMarkSetNow d n m st s = cmd _ d s act; delta execMarkSetNow; exact ⟨_, rfl⟩
theorem markSetNextFrame (d : Nat) (n : Nat) (m : Nat) (st : Nat) : Statement (.markSetNextFrame d n m st) := by
  intro s; show ∃ act, execMarkSetNextFrame d n m st s = cmd _ d s act; delta execMarkSetNextFrame; exact ⟨_, rfl⟩
theorem markClear (d : Nat) (n : Nat) (m : Nat) : Statement (.markClear d n m) := by
  intro s; show ∃ act, execMarkClear d n m s = cmd _ d s act; delta execMarkClear; exact ⟨_, rfl⟩
theorem rewind (d : Nat) (n : Nat) (m : Nat) : Statement (.rewind d n m) := by
  intro s; show ∃ act, execRewind d n m s = cmd _ d s act; delta execRewind; exact ⟨_, rfl⟩
theorem hearthClearCounts (d : Nat) (n : Nat) : Statement (.hearthClearCounts d n) := by
  intro s; show ∃ act, execHearthClearCounts d n s = cmd _ d s act; delta execHearthClearCounts; exact ⟨_, rfl⟩
theorem exposureOrder (d : Nat) (n : Nat) (value : Nat) : Statement (.exposureOrder d n value) := by
  intro s; show ∃ act, execExposureOrder d n value s = cmd _ d s act; delta execExposureOrder; exact ⟨_, rfl⟩
theorem billetStart (d : Nat) : Statement (.billetStart d) := by
  intro s; show ∃ act, execBilletStart d s = cmd _ d s act; delta execBilletStart; exact ⟨_, rfl⟩
theorem billetCompareEnd (d : Nat) (t : Nat) : Statement (.billetCompareEnd d t) := by
  intro s; show ∃ act, execBilletCompareEnd d t s = cmd _ d s act; delta execBilletCompareEnd; exact ⟨_, rfl⟩
theorem evidenceMessage (d : Nat) (c : Nat) (i : Nat) : Statement (.evidenceMessage d c i) := by
  intro s; show ∃ act, execEvidenceMessage d c i s = cmd _ d s act; delta execEvidenceMessage; exact ⟨_, rfl⟩
theorem billetAbandon (d : Nat) (i : Nat) : Statement (.billetAbandon d i) := by
  intro s; show ∃ act, execBilletAbandon d i s = cmd _ d s act; delta execBilletAbandon; exact ⟨_, rfl⟩
theorem modelCommit (d : Nat) (p : Nat) : Statement (.modelCommit d p) := by
  intro s; show ∃ act, execModelCommit d p s = cmd _ d s act; delta execModelCommit; exact ⟨_, rfl⟩
theorem compareDisable (d : Nat) (h : Nat) : Statement (.compareDisable d h) := by
  intro s; show ∃ act, execCompareDisable d h s = cmd _ d s act; delta execCompareDisable; exact ⟨_, rfl⟩
theorem anvilClearCounts (d : Nat) : Statement (.anvilClearCounts d) := by
  intro s; show ∃ act, execAnvilClearCounts d s = cmd _ d s act; delta execAnvilClearCounts; exact ⟨_, rfl⟩
theorem latchLoadBegin (d : Nat) (c : Nat) (bad : List Nat) : Statement (.latchLoadBegin d c bad) := by
  intro s; show ∃ act, execLatchLoadBegin d c bad s = cmd _ d s act; delta execLatchLoadBegin; exact ⟨_, rfl⟩
theorem latchPulseEnd (d : Nat) (c : Nat) : Statement (.latchPulseEnd d c) := by
  intro s; show ∃ act, execLatchPulseEnd d c s = cmd _ d s act; delta execLatchPulseEnd; exact ⟨_, rfl⟩
theorem dotLineCommit (d : Nat) (c : Nat) : Statement (.dotLineCommit d c) := by
  intro s; show ∃ act, execDotLineCommit d c s = cmd _ d s act; delta execDotLineCommit; exact ⟨_, rfl⟩
theorem headHotAccept (d : Nat) (c : Nat) : Statement (.headHotAccept d c) := by
  intro s; show ∃ act, execHeadHotAccept d c s = cmd _ d s act; delta execHeadHotAccept; exact ⟨_, rfl⟩
theorem headCoolAccept (d : Nat) (c : Nat) : Statement (.headCoolAccept d c) := by
  intro s; show ∃ act, execHeadCoolAccept d c s = cmd _ d s act; delta execHeadCoolAccept; exact ⟨_, rfl⟩
theorem resumeDelayExpiry (d : Nat) (g : Nat) : Statement (.resumeDelayExpiry d g) := by
  intro s; show ∃ act, execResumeDelayExpiry d g s = cmd _ d s act; delta execResumeDelayExpiry; exact ⟨_, rfl⟩
theorem hgrpResume (d : Nat) (g : Nat) : Statement (.hgrpResume d g) := by
  intro s; show ∃ act, execHgrpResume d g s = cmd _ d s act; delta execHgrpResume; exact ⟨_, rfl⟩
theorem hammerFlush (d : Nat) (c : Nat) : Statement (.hammerFlush d c) := by
  intro s; show ∃ act, execHammerFlush d c s = cmd _ d s act; delta execHammerFlush; exact ⟨_, rfl⟩
theorem hammerClearCounts (d : Nat) (c : Nat) : Statement (.hammerClearCounts d c) := by
  intro s; show ∃ act, execHammerClearCounts d c s = cmd _ d s act; delta execHammerClearCounts; exact ⟨_, rfl⟩
theorem contextWrite (d : Nat) (c : Nat) (n : Nat) (size : Nat) (v : Nat) : Statement (.contextWrite d c n size v) := by
  intro s; show ∃ act, execContextWrite d c n size v s = cmd _ d s act; delta execContextWrite; exact ⟨_, rfl⟩
theorem holdSweep (d : Nat) (c : Nat) (n : Nat) : Statement (.holdSweep d c n) := by
  intro s; show ∃ act, execHoldSweep d c n s = cmd _ d s act; delta execHoldSweep; exact ⟨_, rfl⟩
theorem headReset (d : Nat) (c : Nat) (tag : Nat) : Statement (.headReset d c tag) := by
  intro s; show ∃ act, execHeadReset d c tag s = cmd _ d s act; delta execHeadReset; exact ⟨_, rfl⟩
theorem snapshot (d : Nat) (c : Nat) : Statement (.snapshot d c) := by
  intro s; show ∃ act, execSnapshot d c s = cmd _ d s act; delta execSnapshot; exact ⟨_, rfl⟩
theorem snapshotPeriodic (d : Nat) : Statement (.snapshotPeriodic d) := by
  intro s; show ∃ act, execSnapshotPeriodic d s = cmd _ d s act; delta execSnapshotPeriodic; exact ⟨_, rfl⟩
theorem nctxClearCounts (d : Nat) (c : Nat) : Statement (.nctxClearCounts d c) := by
  intro s; show ∃ act, execNctxClearCounts d c s = cmd _ d s act; delta execNctxClearCounts; exact ⟨_, rfl⟩
theorem tempSample (d : Nat) (readings : List Nat) : Statement (.tempSample d readings) := by
  intro s; show ∃ act, execTempSample d readings s = cmd _ d s act; delta execTempSample; exact ⟨_, rfl⟩
theorem budgetGuard (d : Nat) (est : Nat) (pTile : Nat) (toks : List Nat) : Statement (.budgetGuard d est pTile toks) := by
  intro s; show ∃ act, execBudgetGuard d est pTile toks s = cmd _ d s act; delta execBudgetGuard; exact ⟨_, rfl⟩
theorem telemetryRead (d : Nat) : Statement (.telemetryRead d) := by
  intro s; show ∃ act, execTelemetryRead d s = cmd _ d s act; delta execTelemetryRead; exact ⟨_, rfl⟩
theorem bellowsEpoch (d : Nat) (toks : List Nat) : Statement (.bellowsEpoch d toks) := by
  intro s; show ∃ act, execBellowsEpoch d toks s = cmd _ d s act; delta execBellowsEpoch; exact ⟨_, rfl⟩
theorem railWrite (d : Nat) (k : Nat) (x : Nat) : Statement (.railWrite d k x) := by
  intro s; show ∃ act, execRailWrite d k x s = cmd _ d s act; delta execRailWrite; exact ⟨_, rfl⟩
theorem bankEntry (d : Nat) (dom : Nat) : Statement (.bankEntry d dom) := by
  intro s; show ∃ act, execBankEntry d dom s = cmd _ d s act; delta execBankEntry; exact ⟨_, rfl⟩
theorem bankExit (d : Nat) (dom : Nat) : Statement (.bankExit d dom) := by
  intro s; show ∃ act, execBankExit d dom s = cmd _ d s act; delta execBankExit; exact ⟨_, rfl⟩
theorem bankExitDone (d : Nat) (dom : Nat) : Statement (.bankExitDone d dom) := by
  intro s; show ∃ act, execBankExitDone d dom s = cmd _ d s act; delta execBankExitDone; exact ⟨_, rfl⟩
theorem wakeNsWrite (d : Nat) (k : Nat) (v : Nat) : Statement (.wakeNsWrite d k v) := by
  intro s; show ∃ act, execWakeNsWrite d k v s = cmd _ d s act; delta execWakeNsWrite; exact ⟨_, rfl⟩
theorem bondIdleEntry (d : Nat) (p : Nat) : Statement (.bondIdleEntry d p) := by
  intro s; show ∃ act, execBondIdleEntry d p s = cmd _ d s act; delta execBondIdleEntry; exact ⟨_, rfl⟩
theorem blwClearPeaks (d : Nat) : Statement (.blwClearPeaks d) := by
  intro s; show ∃ act, execBlwClearPeaks d s = cmd _ d s act; delta execBlwClearPeaks; exact ⟨_, rfl⟩
theorem blwClearCounts (d : Nat) : Statement (.blwClearCounts d) := by
  intro s; show ∃ act, execBlwClearCounts d s = cmd _ d s act; delta execBlwClearCounts; exact ⟨_, rfl⟩
theorem recordPush (d : Nat) (t : Nat) (source : Nat) (data : Bytes) : Statement (.recordPush d t source data) := by
  intro s; show ∃ act, execRecordPush d t source data s = cmd _ d s act; delta execRecordPush; exact ⟨_, rfl⟩
theorem recordCommit (d : Nat) (t : Nat) (i : Nat) : Statement (.recordCommit d t i) := by
  intro s; show ∃ act, execRecordCommit d t i s = cmd _ d s act; delta execRecordCommit; exact ⟨_, rfl⟩
theorem unitPop (d : Nat) (ch : Nat) (bad : Option Nat) (tagBad : Bool) : Statement (.unitPop d ch bad tagBad) := by
  intro s; show ∃ act, execUnitPop d ch bad tagBad s = cmd _ d s act; delta execUnitPop; exact ⟨_, rfl⟩
theorem troughFlush (d : Nat) (t : Nat) : Statement (.troughFlush d t) := by
  intro s; show ∃ act, execTroughFlush d t s = cmd _ d s act; delta execTroughFlush; exact ⟨_, rfl⟩
theorem troughMark (d : Nat) (t : Nat) : Statement (.troughMark d t) := by
  intro s; show ∃ act, execTroughMark d t s = cmd _ d s act; delta execTroughMark; exact ⟨_, rfl⟩
theorem troughInject (d : Nat) (t : Nat) : Statement (.troughInject d t) := by
  intro s; show ∃ act, execTroughInject d t s = cmd _ d s act; delta execTroughInject; exact ⟨_, rfl⟩
theorem troughClearCounts (d : Nat) (t : Nat) : Statement (.troughClearCounts d t) := by
  intro s; show ∃ act, execTroughClearCounts d t s = cmd _ d s act; delta execTroughClearCounts; exact ⟨_, rfl⟩
theorem watermarkWrite (d : Nat) (t : Nat) (v : Nat) : Statement (.watermarkWrite d t v) := by
  intro s; show ∃ act, execWatermarkWrite d t v s = cmd _ d s act; delta execWatermarkWrite; exact ⟨_, rfl⟩
theorem channelEnable (d : Nat) (ch : Nat) : Statement (.channelEnable d ch) := by
  intro s; show ∃ act, execChannelEnable d ch s = cmd _ d s act; delta execChannelEnable; exact ⟨_, rfl⟩
theorem channelDisable (d : Nat) (ch : Nat) : Statement (.channelDisable d ch) := by
  intro s; show ∃ act, execChannelDisable d ch s = cmd _ d s act; delta execChannelDisable; exact ⟨_, rfl⟩
theorem drainComplete (d : Nat) (ch : Nat) : Statement (.drainComplete d ch) := by
  intro s; show ∃ act, execDrainComplete d ch s = cmd _ d s act; delta execDrainComplete; exact ⟨_, rfl⟩
theorem doorbell (d : Nat) (ch : Nat) : Statement (.doorbell d ch) := by
  intro s; show ∃ act, execDoorbell d ch s = cmd _ d s act; delta execDoorbell; exact ⟨_, rfl⟩
theorem descriptorFetch (d : Nat) (ch : Nat) : Statement (.descriptorFetch d ch) := by
  intro s; show ∃ act, execDescriptorFetch d ch s = cmd _ d s act; delta execDescriptorFetch; exact ⟨_, rfl⟩
theorem linkRefetch (d : Nat) (ch : Nat) : Statement (.linkRefetch d ch) := by
  intro s; show ∃ act, execLinkRefetch d ch s = cmd _ d s act; delta execLinkRefetch; exact ⟨_, rfl⟩
theorem tagGrant (d : Nat) : Statement (.tagGrant d) := by
  intro s; show ∃ act, execTagGrant d s = cmd _ d s act; delta execTagGrant; exact ⟨_, rfl⟩
theorem streamLineDeliver (d : Nat) (ch : Nat) : Statement (.streamLineDeliver d ch) := by
  intro s; show ∃ act, execStreamLineDeliver d ch s = cmd _ d s act; delta execStreamLineDeliver; exact ⟨_, rfl⟩
theorem troughRecordDeliver (d : Nat) (ch : Nat) : Statement (.troughRecordDeliver d ch) := by
  intro s; show ∃ act, execTroughRecordDeliver d ch s = cmd _ d s act; delta execTroughRecordDeliver; exact ⟨_, rfl⟩
theorem bufferCloseTimeout (d : Nat) (ch : Nat) : Statement (.bufferCloseTimeout d ch) := by
  intro s; show ∃ act, execBufferCloseTimeout d ch s = cmd _ d s act; delta execBufferCloseTimeout; exact ⟨_, rfl⟩
theorem pacingHoldExpiry (d : Nat) (t : Nat) : Statement (.pacingHoldExpiry d t) := by
  intro s; show ∃ act, execPacingHoldExpiry d t s = cmd _ d s act; delta execPacingHoldExpiry; exact ⟨_, rfl⟩
theorem dotSlotWaitEnd (d : Nat) (ch : Nat) : Statement (.dotSlotWaitEnd d ch) := by
  intro s; show ∃ act, execDotSlotWaitEnd d ch s = cmd _ d s act; delta execDotSlotWaitEnd; exact ⟨_, rfl⟩
theorem cqReturn (d : Nat) (ch : Nat) (rd : Nat) : Statement (.cqReturn d ch rd) := by
  intro s; show ∃ act, execCqReturn d ch rd s = cmd _ d s act; delta execCqReturn; exact ⟨_, rfl⟩
theorem cqCfgWrite (d : Nat) (ch : Nat) (v : Nat) : Statement (.cqCfgWrite d ch v) := by
  intro s; show ∃ act, execCqCfgWrite d ch v s = cmd _ d s act; delta execCqCfgWrite; exact ⟨_, rfl⟩
theorem tongsClearCounts (d : Nat) (ch : Nat) : Statement (.tongsClearCounts d ch) := by
  intro s; show ∃ act, execTongsClearCounts d ch s = cmd _ d s act; delta execTongsClearCounts; exact ⟨_, rfl⟩
theorem completionReceive (d : Nat) (tag : Nat) (data : Bytes) (status : Nat) (poisoned : Bool) (last : Bool) : Statement (.completionReceive d tag data status poisoned last) := by
  intro s; show ∃ act, execCompletionReceive d tag data status poisoned last s = cmd _ d s act; delta execCompletionReceive; exact ⟨_, rfl⟩
theorem completionTimeout (d : Nat) (tag : Nat) : Statement (.completionTimeout d tag) := by
  intro s; show ∃ act, execCompletionTimeout d tag s = cmd _ d s act; delta execCompletionTimeout; exact ⟨_, rfl⟩
theorem quarantineExpiry (d : Nat) (tag : Nat) : Statement (.quarantineExpiry d tag) := by
  intro s; show ∃ act, execQuarantineExpiry d tag s = cmd _ d s act; delta execQuarantineExpiry; exact ⟨_, rfl⟩
theorem bar0BadRequest (d : Nat) (isRead : Bool) (addr : Nat) (size : Nat) (whole : Bool) : Statement (.bar0BadRequest d isRead addr size whole) := by
  intro s; show ∃ act, execBar0BadRequest d isRead addr size whole s = cmd _ d s act; delta execBar0BadRequest; exact ⟨_, rfl⟩
theorem bar2Request (d : Nat) (isRead : Bool) (off : Nat) (len : Nat) (data : Bytes) (poisoned : Bool) (ns : Nat) : Statement (.bar2Request d isRead off len data poisoned ns) := by
  intro s; show ∃ act, execBar2Request d isRead off len data poisoned ns s = cmd _ d s act; delta execBar2Request; exact ⟨_, rfl⟩
theorem bar4Request (d : Nat) (isRead : Bool) (off : Nat) (size : Nat) (v : Nat) (whole : Bool) : Statement (.bar4Request d isRead off size v whole) := by
  intro s; show ∃ act, execBar4Request d isRead off size v whole s = cmd _ d s act; delta execBar4Request; exact ⟨_, rfl⟩
theorem unsupportedRequestReceive (d : Nat) (posted : Bool) : Statement (.unsupportedRequestReceive d posted) := by
  intro s; show ∃ act, execUnsupportedRequestReceive d posted s = cmd _ d s act; delta execUnsupportedRequestReceive; exact ⟨_, rfl⟩
theorem hostPortError (d : Nat) (kind : Nat) (hdr : Bytes) : Statement (.hostPortError d kind hdr) := by
  intro s; show ∃ act, execHostPortError d kind hdr s = cmd _ d s act; delta execHostPortError; exact ⟨_, rfl⟩
theorem apertureCommit (d : Nat) (a : Nat) : Statement (.apertureCommit d a) := by
  intro s; show ∃ act, execApertureCommit d a s = cmd _ d s act; delta execApertureCommit; exact ⟨_, rfl⟩
theorem hotReset (d : Nat) : Statement (.hotReset d) := by
  intro s; show ∃ act, execHotReset d s = cmd _ d s act; delta execHotReset; exact ⟨_, rfl⟩
theorem linkDown (d : Nat) : Statement (.linkDown d) := by
  intro s; show ∃ act, execLinkDown d s = cmd _ d s act; delta execLinkDown; exact ⟨_, rfl⟩
theorem functionLevelReset (d : Nat) : Statement (.functionLevelReset d) := by
  intro s; show ∃ act, execFunctionLevelReset d s = cmd _ d s act; delta execFunctionLevelReset; exact ⟨_, rfl⟩
theorem d3hotEntry (d : Nat) : Statement (.d3hotEntry d) := by
  intro s; show ∃ act, execD3hotEntry d s = cmd _ d s act; delta execD3hotEntry; exact ⟨_, rfl⟩
theorem d0Return (d : Nat) : Statement (.d0Return d) := by
  intro s; show ∃ act, execD0Return d s = cmd _ d s act; delta execD0Return; exact ⟨_, rfl⟩
theorem l0pEntry (d : Nat) (width : Nat) : Statement (.l0pEntry d width) := by
  intro s; show ∃ act, execL0pEntry d width s = cmd _ d s act; delta execL0pEntry; exact ⟨_, rfl⟩
theorem l1Entry (d : Nat) : Statement (.l1Entry d) := by
  intro s; show ∃ act, execL1Entry d s = cmd _ d s act; delta execL1Entry; exact ⟨_, rfl⟩
theorem linkPmExit (d : Nat) : Statement (.linkPmExit d) := by
  intro s; show ∃ act, execLinkPmExit d s = cmd _ d s act; delta execLinkPmExit; exact ⟨_, rfl⟩
theorem ltrUsWrite (d : Nat) (us : Nat) : Statement (.ltrUsWrite d us) := by
  intro s; show ∃ act, execLtrUsWrite d us s = cmd _ d s act; delta execLtrUsWrite; exact ⟨_, rfl⟩
theorem quenchEnter (d : Nat) : Statement (.quenchEnter d) := by
  intro s; show ∃ act, execQuenchEnter d s = cmd _ d s act; delta execQuenchEnter; exact ⟨_, rfl⟩
theorem quenchClearHost (d : Nat) : Statement (.quenchClearHost d) := by
  intro s; show ∃ act, execQuenchClearHost d s = cmd _ d s act; delta execQuenchClearHost; exact ⟨_, rfl⟩
theorem quenchClearCto (d : Nat) : Statement (.quenchClearCto d) := by
  intro s; show ∃ act, execQuenchClearCto d s = cmd _ d s act; delta execQuenchClearCto; exact ⟨_, rfl⟩
theorem quenchAsk (d : Nat) : Statement (.quenchAsk d) := by
  intro s; show ∃ act, execQuenchAsk d s = cmd _ d s act; delta execQuenchAsk; exact ⟨_, rfl⟩
theorem aerStatusClear (d : Nat) (unc : Nat) (cor : Nat) : Statement (.aerStatusClear d unc cor) := by
  intro s; show ∃ act, execAerStatusClear d unc cor s = cmd _ d s act; delta execAerStatusClear; exact ⟨_, rfl⟩
theorem quenchRelease (d : Nat) : Statement (.quenchRelease d) := by
  intro s; show ∃ act, execQuenchRelease d s = cmd _ d s act; delta execQuenchRelease; exact ⟨_, rfl⟩
theorem quenchReleaseDelayExpiry (d : Nat) : Statement (.quenchReleaseDelayExpiry d) := by
  intro s; show ∃ act, execQuenchReleaseDelayExpiry d s = cmd _ d s act; delta execQuenchReleaseDelayExpiry; exact ⟨_, rfl⟩
theorem hepClearCounts (d : Nat) : Statement (.hepClearCounts d) := by
  intro s; show ∃ act, execHepClearCounts d s = cmd _ d s act; delta execHepClearCounts; exact ⟨_, rfl⟩
theorem msixSrcWrite (d : Nat) (v : Nat) (x : Nat) : Statement (.msixSrcWrite d v x) := by
  intro s; show ∃ act, execMsixSrcWrite d v x s = cmd _ d s act; delta execMsixSrcWrite; exact ⟨_, rfl⟩
theorem vectorUnmask (d : Nat) (v : Option Nat) : Statement (.vectorUnmask d v) := by
  intro s; show ∃ act, execVectorUnmask d v s = cmd _ d s act; delta execVectorUnmask; exact ⟨_, rfl⟩
theorem moderationExpiry (d : Nat) (v : Nat) : Statement (.moderationExpiry d v) := by
  intro s; show ∃ act, execModerationExpiry d v s = cmd _ d s act; delta execModerationExpiry; exact ⟨_, rfl⟩
theorem channelEvent (d : Nat) (ch : Nat) : Statement (.channelEvent d ch) := by
  intro s; show ∃ act, execChannelEvent d ch s = cmd _ d s act; delta execChannelEvent; exact ⟨_, rfl⟩
theorem loopWindowEnd (d : Nat) : Statement (.loopWindowEnd d) := by
  intro s; show ∃ act, execLoopWindowEnd d s = cmd _ d s act; delta execLoopWindowEnd; exact ⟨_, rfl⟩
theorem loopClear (d : Nat) (ch : Nat) : Statement (.loopClear d ch) := by
  intro s; show ∃ act, execLoopClear d ch s = cmd _ d s act; delta execLoopClear; exact ⟨_, rfl⟩
theorem cellFilterExpiry (d : Nat) (k : Nat) : Statement (.cellFilterExpiry d k) := by
  intro s; show ∃ act, execCellFilterExpiry d k s = cmd _ d s act; delta execCellFilterExpiry; exact ⟨_, rfl⟩
theorem gpioInputEdge (d : Nat) (n : Nat) (level : Nat) : Statement (.gpioInputEdge d n level) := by
  intro s; show ∃ act, execGpioInputEdge d n level s = cmd _ d s act; delta execGpioInputEdge; exact ⟨_, rfl⟩
theorem gpioPulseEnd (d : Nat) (n : Nat) : Statement (.gpioPulseEnd d n) := by
  intro s; show ∃ act, execGpioPulseEnd d n s = cmd _ d s act; delta execGpioPulseEnd; exact ⟨_, rfl⟩
theorem softwareEvent (d : Nat) (ch : Nat) : Statement (.softwareEvent d ch) := by
  intro s; show ∃ act, execSoftwareEvent d ch s = cmd _ d s act; delta execSoftwareEvent; exact ⟨_, rfl⟩
theorem softwareTask (d : Nat) (k : Nat) : Statement (.softwareTask d k) := by
  intro s; show ∃ act, execSoftwareTask d k s = cmd _ d s act; delta execSoftwareTask; exact ⟨_, rfl⟩
theorem cellConfigWrite (d : Nat) (isCell : Bool) (i : Nat) (v : Nat) : Statement (.cellConfigWrite d isCell i v) := by
  intro s; show ∃ act, execCellConfigWrite d isCell i v s = cmd _ d s act; delta execCellConfigWrite; exact ⟨_, rfl⟩
theorem stkClearCounts (d : Nat) : Statement (.stkClearCounts d) := by
  intro s; show ∃ act, execStkClearCounts d s = cmd _ d s act; delta execStkClearCounts; exact ⟨_, rfl⟩
theorem smbStatus (d : Nat) : Statement (.smbStatus d) := by
  intro s; show ∃ act, execSmbStatus d s = cmd _ d s act; delta execSmbStatus; exact ⟨_, rfl⟩
theorem smbIdent (d : Nat) : Statement (.smbIdent d) := by
  intro s; show ∃ act, execSmbIdent d s = cmd _ d s act; delta execSmbIdent; exact ⟨_, rfl⟩
theorem smbTemp (d : Nat) : Statement (.smbTemp d) := by
  intro s; show ∃ act, execSmbTemp d s = cmd _ d s act; delta execSmbTemp; exact ⟨_, rfl⟩
theorem smbPower (d : Nat) : Statement (.smbPower d) := by
  intro s; show ∃ act, execSmbPower d s = cmd _ d s act; delta execSmbPower; exact ⟨_, rfl⟩
theorem smbAlertSrc (d : Nat) : Statement (.smbAlertSrc d) := by
  intro s; show ∃ act, execSmbAlertSrc d s = cmd _ d s act; delta execSmbAlertSrc; exact ⟨_, rfl⟩
theorem smbAlertClr (d : Nat) (v : Nat) (pec : Pec) : Statement (.smbAlertClr d v pec) := by
  intro s; show ∃ act, execSmbAlertClr d v pec s = cmd _ d s act; delta execSmbAlertClr; exact ⟨_, rfl⟩
theorem smbUnlock (d : Nat) (key : Nat) (pec : Pec) : Statement (.smbUnlock d key pec) := by
  intro s; show ∃ act, execSmbUnlock d key pec s = cmd _ d s act; delta execSmbUnlock; exact ⟨_, rfl⟩
theorem smbLock (d : Nat) (pec : Pec) : Statement (.smbLock d pec) := by
  intro s; show ∃ act, execSmbLock d pec s = cmd _ d s act; delta execSmbLock; exact ⟨_, rfl⟩
theorem smbPage (d : Nat) (u : Nat) (v : Option Nat) (pec : Pec) : Statement (.smbPage d u v pec) := by
  intro s; show ∃ act, execSmbPage d u v pec s = cmd _ d s act; delta execSmbPage; exact ⟨_, rfl⟩
theorem smbPtr (d : Nat) (u : Nat) (v : Option Nat) (pec : Pec) : Statement (.smbPtr d u v pec) := by
  intro s; show ∃ act, execSmbPtr d u v pec s = cmd _ d s act; delta execSmbPtr; exact ⟨_, rfl⟩
theorem smbLen (d : Nat) (u : Nat) (v : Option Nat) (pec : Pec) : Statement (.smbLen d u v pec) := by
  intro s; show ∃ act, execSmbLen d u v pec s = cmd _ d s act; delta execSmbLen; exact ⟨_, rfl⟩
theorem smbDataRead (d : Nat) (u : Nat) (late : Bool) : Statement (.smbDataRead d u late) := by
  intro s; show ∃ act, execSmbDataRead d u late s = cmd _ d s act; delta execSmbDataRead; exact ⟨_, rfl⟩
theorem smbDataWrite (d : Nat) (u : Nat) (count : Nat) (data : Bytes) (pec : Pec) : Statement (.smbDataWrite d u count data pec) := by
  intro s; show ∃ act, execSmbDataWrite d u count data pec s = cmd _ d s act; delta execSmbDataWrite; exact ⟨_, rfl⟩
theorem smbData8Read (d : Nat) (u : Nat) (late : Bool) : Statement (.smbData8Read d u late) := by
  intro s; show ∃ act, execSmbData8Read d u late s = cmd _ d s act; delta execSmbData8Read; exact ⟨_, rfl⟩
theorem smbData8Write (d : Nat) (u : Nat) (v : Nat) (pec : Pec) : Statement (.smbData8Write d u v pec) := by
  intro s; show ∃ act, execSmbData8Write d u v pec s = cmd _ d s act; delta execSmbData8Write; exact ⟨_, rfl⟩
theorem smbFetchComplete (d : Nat) : Statement (.smbFetchComplete d) := by
  intro s; show ∃ act, execSmbFetchComplete d s = cmd _ d s act; delta execSmbFetchComplete; exact ⟨_, rfl⟩
theorem smbHeldDataExpiry (d : Nat) : Statement (.smbHeldDataExpiry d) := by
  intro s; show ∃ act, execSmbHeldDataExpiry d s = cmd _ d s act; delta execSmbHeldDataExpiry; exact ⟨_, rfl⟩
theorem regsWriteApplied (d : Nat) : Statement (.regsWriteApplied d) := by
  intro s; show ∃ act, execRegsWriteApplied d s = cmd _ d s act; delta execRegsWriteApplied; exact ⟨_, rfl⟩
theorem alertResponse (d : Nat) (won : Bool) : Statement (.alertResponse d won) := by
  intro s; show ∃ act, execAlertResponse d won s = cmd _ d s act; delta execAlertResponse; exact ⟨_, rfl⟩
theorem sessionTimeout (d : Nat) : Statement (.sessionTimeout d) := by
  intro s; show ∃ act, execSessionTimeout d s = cmd _ d s act; delta execSessionTimeout; exact ⟨_, rfl⟩
theorem unlockLockoutEnd (d : Nat) : Statement (.unlockLockoutEnd d) := by
  intro s; show ∃ act, execUnlockLockoutEnd d s = cmd _ d s act; delta execUnlockLockoutEnd; exact ⟨_, rfl⟩
theorem smbTargetTimeout (d : Nat) : Statement (.smbTargetTimeout d) := by
  intro s; show ∃ act, execSmbTargetTimeout d s = cmd _ d s act; delta execSmbTargetTimeout; exact ⟨_, rfl⟩
theorem smbProtocolError (d : Nat) : Statement (.smbProtocolError d) := by
  intro s; show ∃ act, execSmbProtocolError d s = cmd _ d s act; delta execSmbProtocolError; exact ⟨_, rfl⟩
theorem smbcSendByte (d : Nat) (p : Nat) (x : SmbcArg) : Statement (.smbcSendByte d p x) := by
  intro s; show ∃ act, execSmbcSendByte d p x s = cmd _ d s act; delta execSmbcSendByte; exact ⟨_, rfl⟩
theorem smbcWriteByte (d : Nat) (p : Nat) (x : SmbcArg) : Statement (.smbcWriteByte d p x) := by
  intro s; show ∃ act, execSmbcWriteByte d p x s = cmd _ d s act; delta execSmbcWriteByte; exact ⟨_, rfl⟩
theorem smbcWriteWord (d : Nat) (p : Nat) (x : SmbcArg) : Statement (.smbcWriteWord d p x) := by
  intro s; show ∃ act, execSmbcWriteWord d p x s = cmd _ d s act; delta execSmbcWriteWord; exact ⟨_, rfl⟩
theorem smbcReadByte (d : Nat) (p : Nat) (x : SmbcArg) : Statement (.smbcReadByte d p x) := by
  intro s; show ∃ act, execSmbcReadByte d p x s = cmd _ d s act; delta execSmbcReadByte; exact ⟨_, rfl⟩
theorem smbcReadWord (d : Nat) (p : Nat) (x : SmbcArg) : Statement (.smbcReadWord d p x) := by
  intro s; show ∃ act, execSmbcReadWord d p x s = cmd _ d s act; delta execSmbcReadWord; exact ⟨_, rfl⟩
theorem smbcBlockWrite (d : Nat) (p : Nat) (x : SmbcArg) : Statement (.smbcBlockWrite d p x) := by
  intro s; show ∃ act, execSmbcBlockWrite d p x s = cmd _ d s act; delta execSmbcBlockWrite; exact ⟨_, rfl⟩
theorem smbcBlockRead (d : Nat) (p : Nat) (x : SmbcArg) : Statement (.smbcBlockRead d p x) := by
  intro s; show ∃ act, execSmbcBlockRead d p x s = cmd _ d s act; delta execSmbcBlockRead; exact ⟨_, rfl⟩
theorem smbcFixedWrite (d : Nat) (p : Nat) (x : SmbcArg) : Statement (.smbcFixedWrite d p x) := by
  intro s; show ∃ act, execSmbcFixedWrite d p x s = cmd _ d s act; delta execSmbcFixedWrite; exact ⟨_, rfl⟩
theorem smbcFixedRead (d : Nat) (p : Nat) (x : SmbcArg) : Statement (.smbcFixedRead d p x) := by
  intro s; show ∃ act, execSmbcFixedRead d p x s = cmd _ d s act; delta execSmbcFixedRead; exact ⟨_, rfl⟩
theorem smbcComplete (d : Nat) (p : Nat) (status : Nat) (data : Bytes) : Statement (.smbcComplete d p status data) := by
  intro s; show ∃ act, execSmbcComplete d p status data s = cmd _ d s act; delta execSmbcComplete; exact ⟨_, rfl⟩
theorem smbcArbRetry (d : Nat) (p : Nat) : Statement (.smbcArbRetry d p) := by
  intro s; show ∃ act, execSmbcArbRetry d p s = cmd _ d s act; delta execSmbcArbRetry; exact ⟨_, rfl⟩
theorem smbcAddrRetry (d : Nat) (p : Nat) : Statement (.smbcAddrRetry d p) := by
  intro s; show ∃ act, execSmbcAddrRetry d p s = cmd _ d s act; delta execSmbcAddrRetry; exact ⟨_, rfl⟩
theorem smbcTimeout (d : Nat) (p : Nat) : Statement (.smbcTimeout d p) := by
  intro s; show ∃ act, execSmbcTimeout d p s = cmd _ d s act; delta execSmbcTimeout; exact ⟨_, rfl⟩
theorem smbcProtocolStop (d : Nat) (p : Nat) : Statement (.smbcProtocolStop d p) := by
  intro s; show ∃ act, execSmbcProtocolStop d p s = cmd _ d s act; delta execSmbcProtocolStop; exact ⟨_, rfl⟩
theorem smbcClearCounts (d : Nat) (p : Nat) : Statement (.smbcClearCounts d p) := by
  intro s; show ∃ act, execSmbcClearCounts d p s = cmd _ d s act; delta execSmbcClearCounts; exact ⟨_, rfl⟩
theorem smbTClearCounts (d : Nat) : Statement (.smbTClearCounts d) := by
  intro s; show ∃ act, execSmbTClearCounts d s = cmd _ d s act; delta execSmbTClearCounts; exact ⟨_, rfl⟩
theorem unitFault (d : Nat) (cls : Nat) (n : Nat) (err : Nat) : Statement (.unitFault d cls n err) := by
  intro s; show ∃ act, execUnitFault d cls n err s = cmd _ d s act; delta execUnitFault; exact ⟨_, rfl⟩
theorem weldSubstitute (d : Nat) (cls : Nat) (l : Nat) : Statement (.weldSubstitute d cls l) := by
  intro s; show ∃ act, execWeldSubstitute d cls l s = cmd _ d s act; delta execWeldSubstitute; exact ⟨_, rfl⟩
theorem weldForce (d : Nat) (cls : Nat) (l : Nat) : Statement (.weldForce d cls l) := by
  intro s; show ∃ act, execWeldForce d cls l s = cmd _ d s act; delta execWeldForce; exact ⟨_, rfl⟩
theorem weldReturn (d : Nat) (cls : Nat) (n : Nat) : Statement (.weldReturn d cls n) := by
  intro s; show ∃ act, execWeldReturn d cls n s = cmd _ d s act; delta execWeldReturn; exact ⟨_, rfl⟩
theorem weldClearSuspect (d : Nat) (cls : Nat) (l : Nat) : Statement (.weldClearSuspect d cls l) := by
  intro s; show ∃ act, execWeldClearSuspect d cls l s = cmd _ d s act; delta execWeldClearSuspect; exact ⟨_, rfl⟩
theorem weldTestSpare (d : Nat) (cls : Nat) (n : Nat) : Statement (.weldTestSpare d cls n) := by
  intro s; show ∃ act, execWeldTestSpare d cls n s = cmd _ d s act; delta execWeldTestSpare; exact ⟨_, rfl⟩
theorem spareTestDone (d : Nat) (cls : Nat) (c : Nat) (k : Nat) (pass : Bool) (repaired : Bool) : Statement (.spareTestDone d cls c k pass repaired) := by
  intro s; show ∃ act, execSpareTestDone d cls c k pass repaired s = cmd _ d s act; delta execSpareTestDone; exact ⟨_, rfl⟩
theorem spareTestPeriodic (d : Nat) : Statement (.spareTestPeriodic d) := by
  intro s; show ∃ act, execSpareTestPeriodic d s = cmd _ d s act; delta execSpareTestPeriodic; exact ⟨_, rfl⟩
theorem shadowCompare (d : Nat) (cls : Nat) (c : Nat) (pass : Bool) : Statement (.shadowCompare d cls c pass) := by
  intro s; show ∃ act, execShadowCompare d cls c pass s = cmd _ d s act; delta execShadowCompare; exact ⟨_, rfl⟩
theorem internalError (d : Nat) (e : ErrArg) : Statement (.internalError d e) := by
  intro s; show ∃ act, execInternalError d e s = cmd _ d s act; delta execInternalError; exact ⟨_, rfl⟩
theorem ingotWrite (d : Nat) (ok : Bool) (eraseOk : Bool) : Statement (.ingotWrite d ok eraseOk) := by
  intro s; show ∃ act, execIngotWrite d ok eraseOk s = cmd _ d s act; delta execIngotWrite; exact ⟨_, rfl⟩
theorem wearPeriodic (d : Nat) : Statement (.wearPeriodic d) := by
  intro s; show ∃ act, execWearPeriodic d s = cmd _ d s act; delta execWearPeriodic; exact ⟨_, rfl⟩
theorem hostRecordWrite (d : Nat) (tag : Nat) (len : Nat) : Statement (.hostRecordWrite d tag len) := by
  intro s; show ∃ act, execHostRecordWrite d tag len s = cmd _ d s act; delta execHostRecordWrite; exact ⟨_, rfl⟩
theorem hostRecordFind (d : Nat) (tag : Nat) : Statement (.hostRecordFind d tag) := by
  intro s; show ∃ act, execHostRecordFind d tag s = cmd _ d s act; delta execHostRecordFind; exact ⟨_, rfl⟩
theorem semaphoreClaim (d : Nat) (i : Nat) (token : Nat) : Statement (.semaphoreClaim d i token) := by
  intro s; show ∃ act, execSemaphoreClaim d i token s = cmd _ d s act; delta execSemaphoreClaim; exact ⟨_, rfl⟩
theorem semaphoreRelease (d : Nat) (i : Nat) (token : Nat) : Statement (.semaphoreRelease d i token) := by
  intro s; show ∃ act, execSemaphoreRelease d i token s = cmd _ d s act; delta execSemaphoreRelease; exact ⟨_, rfl⟩
theorem jtagInstructionUpdate (d : Nat) (opcode : Nat) (scans : List (List Bool)) : Statement (.jtagInstructionUpdate d opcode scans) := by
  intro s; show ∃ act, execJtagInstructionUpdate d opcode scans s = cmd _ d s act; delta execJtagInstructionUpdate; exact ⟨_, rfl⟩
theorem configurationWrite (d : Nat) (x : CfgReq) : Statement (.configurationWrite d x) := by
  intro s; show ∃ act, execConfigurationWrite d x s = cmd _ d s act; delta execConfigurationWrite; exact ⟨_, rfl⟩
theorem lowerHalfRead (d : Nat) (a : Nat) : Statement (.lowerHalfRead d a) := by
  intro s; show ∃ act, execLowerHalfRead d a s = cmd _ d s act; delta execLowerHalfRead; exact ⟨_, rfl⟩
theorem smbBadCommand (d : Nat) (code : Nat) : Statement (.smbBadCommand d code) := by
  intro s; show ∃ act, execSmbBadCommand d code s = cmd _ d s act; delta execSmbBadCommand; exact ⟨_, rfl⟩
theorem functionLevelResetComplete (d : Nat) : Statement (.functionLevelResetComplete d) := by
  intro s; show ∃ act, execFunctionLevelResetComplete d s = cmd _ d s act; delta execFunctionLevelResetComplete; exact ⟨_, rfl⟩

end Sys2Proof.Laws.Elapsed
end

