-- ==== Sys2Proof/Tests/Slice0.lean ====
section
/-!
SUPPORT. Tests: ill-formed commands that the check refuses, single steps against values worked out from the spec, and for every
statement states and operands that meet its hypotheses.
-/

namespace Sys2Proof.Tests.Slice0

-- One test after another: a test that waits for the kernel holds a thread with its whole stack.
set_option Elab.async false

open Sys2Proof Sys2Proof.Machine

/-! ### States to test on -/

/-- A device that is READY. -/
def wit0 : State :=
  ({ power := { on := true, perst := false, everReady := true }, running := true } : State).wr F.KINDLE_STATUS_PHASE 4
/-- Port p is a bond of one lane in a BOND state. -/
def witBond (p b : Nat) : State :=
  (((wit0.wr F.COBEX_CFG_BOUND 1 p).wr F.COBEX_CFG_LANE_COUNT 1 p).wr F.COBEX_CFG_MASTER p p).wr F.COBEX_STATE_BOND b p
/-- A command goes on from a state. -/
def completes (s : State) (c : Instr) : Bool :=
  match exec c s with
  | .next _ => true
  | _ => false
/-- An open frame, and one that has ended. -/
def witFrame : FrameS :=
  { frameNo := 7, idx := 0, trigDt := 0, posWord := 0, expGen := 0, lines := 1, skipped := 0, firstDt := 0 }
def witEnded : EndedS := { frame := witFrame, logical := 0, at_ := 0, skipped := 0, last := 0, flags := 0, sent := none }
/-- A capability block of version 1 for a lane of index 0, at every rate, of a bond of one lane (R152). -/
def witBlock : Bytes := zeros 8 ++ [1, 0, 1, 0xFF] ++ zeros 52
/-- A CAPS packet of version 1, its CRC off by e (R151, R163). -/
def witCaps (block : Bytes) (e : Nat) : List Blk :=
  (2, 0x1C3, 0) :: (List.range 8).map (fun i => (1, leAt block (8 * i) 8, 0))
    ++ [(2, 0xCC + 2 ^ 8 * ((crc32c (headBytes 0x1C3 ++ block) + e) % 2 ^ 32), 0)]

/-! ### Ill-formed commands -/

/-- Each of these commands names a unit that the block does not have. -/
theorem test_ill_formed_1 : ([
    .funcModeWrite 0 0 0, .funcModeWrite 0 10 0, .funcModeSafePoint 0 0 0, .funcModeSafePoint 0 10 0,
    .funcModeSafePoint 0 1 512, .encoderEdge 0 [(16, 0, 0)], .encoderIndex 0 [(16, 0)], .axisStall 0 8, .axisResume 0 8,
    .useRedundant 0 8, .usePrimary 0 8, .generatorArm 0 .ctrig 256, .generatorArm 0 .ptrig 32, .generatorArm 0 .fire 64,
    .generatorDisarm 0 .ctrig 256, .generatorDisarm 0 .ptrig 32, .generatorDisarm 0 .fire 64, .generatorFlush 0 .ctrig 256,
    .generatorFlush 0 .ptrig 32, .generatorFlush 0 .fire 64, .targetCrossing 0 .ctrig 256, .targetCrossing 0 .ptrig 32,
    .targetCrossing 0 .fire 64, .triggerIssue 0 256 0] : List Instr).all (fun c => !c.check) = true := by decide +kernel

/-- Each of these commands names a unit that the block does not have. -/
theorem test_ill_formed_2 : ([
    .pinPulseIssue 0 32, .pinPulseEnd 0 32, .firePointIssue 0 64, .ledgerFirstBlockNotice 0 131072,
    .ledgerFrameTagNotice 0 131072, .firstBlockTimeout 0 131072, .frameTimeout 0 131072, .exposeAckApply 0 256,
    .laneEnable 0 544, .signalDetect 0 544, .cdrLock 0 544, .blockLock 0 544, .laneBlockReceive 0 544 0 0,
    .lockWindowLoss 0 544, .lossOfSignal 0 544, .trainTimeout 0 544, .lockTimeout 0 544, .capsTimeout 0 544,
    .relockTimeout 0 544, .exitDetect 0 544, .exitFail 0 544, .txExit 0 544, .fomMeasure 0 544 0 0, .trimDecision 0 544 0 0] : List Instr).all (fun c => !c.check) = true := by decide +kernel

/-- Each of these commands names a unit that the block does not have. -/
theorem test_ill_formed_3 : ([
    .trimFreeze 0 544, .retrain 0 544, .laneClearCounts 0 544, .testEnter 0 544 0, .testExit 0 544 0, .injectFire 0 544 0,
    .injectRepeat 0 544, .spareListenStart 0 32, .spareSwitch 0 32, .spareLossTakeover 0 32, .suspectTestDone 0 32 0,
    .lgrpSubstitute 0 32 0, .lgrpSubstitute 0 0 16, .lgrpAbandon 0 32, .markerSetReceive 0 512, .alignTimeout 0 512,
    .linkResetDeferred 0 512, .capsReqSend 0 512, .capsReceive 0 512, .frameStart 0 512 0, .frameEnd 0 512 0 0,
    .imagePacket 0 512 0, .billetIdleTimeout 0 256, .rspReceive 0 512] : List Instr).all (fun c => !c.check) = true := by decide +kernel

/-- Each of these commands names a unit that the block does not have. -/
theorem test_ill_formed_4 : ([
    .cmdTimeout 0 512 0, .eventReceive 0 512, .heartbeatReceive 0 512, .heartbeatTimeout 0 512, .heartbeatSend 0 512,
    .cmdRead 0 512 0 0, .cmdWrite 0 512 0 0, .cmdEidleDown 0 512, .cmdWakeDown 0 512, .cmdCapsRead 0 512,
    .cmdLinkReset 0 512, .cmdCameraPrivate 0 512 0 0 0, .cobexLinkReset 0 512, .cobexClearCounts 0 512, .tableSwap 0 264,
    .markSetNow 0 264 0 0, .markSetNow 0 0 4 0, .markSetNow 0 0 0 4, .markSetNextFrame 0 264 0 0, .markSetNextFrame 0 0 4 0,
    .markSetNextFrame 0 0 0 4, .markClear 0 264 0, .markClear 0 0 4, .rewind 0 264 0] : List Instr).all (fun c => !c.check) = true := by decide +kernel

/-- Each of these commands names a unit that the block does not have. -/
theorem test_ill_formed_5 : ([
    .rewind 0 0 4, .hearthClearCounts 0 264, .exposureOrder 0 264 0, .billetCompareEnd 0 128, .evidenceMessage 0 64 0,
    .modelCommit 0 16, .compareDisable 0 256, .latchLoadBegin 0 64 [], .latchPulseEnd 0 64, .dotLineCommit 0 64,
    .headHotAccept 0 64, .headCoolAccept 0 64, .resumeDelayExpiry 0 8, .hgrpResume 0 8, .hammerFlush 0 64,
    .hammerClearCounts 0 64, .contextWrite 0 64 0 0 0, .contextWrite 0 0 16384 0 0, .holdSweep 0 64 0, .holdSweep 0 0 16384,
    .headReset 0 64 0, .snapshot 0 64, .nctxClearCounts 0 64, .railWrite 0 16 0] : List Instr).all (fun c => !c.check) = true := by decide +kernel

/-- Each of these commands names a unit that the block does not have. -/
theorem test_ill_formed_6 : ([
    .bankEntry 0 64, .bankExit 0 64, .bankExitDone 0 64, .wakeNsWrite 0 6 0, .bondIdleEntry 0 512, .recordPush 0 1536 0 [],
    .recordCommit 0 1536 0, .unitPop 0 1087 none false, .unitPop 0 1152 none false, .troughFlush 0 1536, .troughMark 0 1536,
    .troughInject 0 1536, .troughClearCounts 0 1536, .watermarkWrite 0 1536 0, .channelEnable 0 1152,
    .channelDisable 0 1152, .drainComplete 0 1152, .doorbell 0 1152, .descriptorFetch 0 1152, .linkRefetch 0 1152,
    .streamLineDeliver 0 1024, .troughRecordDeliver 0 1087, .troughRecordDeliver 0 1152, .bufferCloseTimeout 0 1152] : List Instr).all (fun c => !c.check) = true := by decide +kernel

/-- Each of these commands names a unit that the block does not have. -/
theorem test_ill_formed_7 : ([
    .pacingHoldExpiry 0 1536, .dotSlotWaitEnd 0 1023, .dotSlotWaitEnd 0 1088, .cqReturn 0 1152 0, .cqCfgWrite 0 1152 0,
    .tongsClearCounts 0 1152, .hostPortError 0 17 [], .apertureCommit 0 16, .msixSrcWrite 0 2048 0,
    .vectorUnmask 0 (some 2048), .moderationExpiry 0 2048, .channelEvent 0 512, .loopClear 0 512, .cellFilterExpiry 0 256,
    .gpioInputEdge 0 32 0, .gpioPulseEnd 0 32, .softwareEvent 0 512, .cellConfigWrite 0 true 256 0,
    .cellConfigWrite 0 false 512 0, .smbPage 0 2 none .none, .smbPtr 0 2 none .none, .smbLen 0 2 none .none,
    .smbDataRead 0 2 false, .smbDataWrite 0 2 0 [] .none] : List Instr).all (fun c => !c.check) = true := by decide +kernel

/-- Each of these commands names a unit that the block does not have. -/
theorem test_ill_formed_8 : ([
    .smbData8Read 0 2 false, .smbData8Write 0 2 0 .none, .smbcSendByte 0 2 ⟨0, 0, 0, 0, false, 0, 0⟩,
    .smbcWriteByte 0 2 ⟨0, 0, 0, 0, false, 0, 0⟩, .smbcWriteWord 0 2 ⟨0, 0, 0, 0, false, 0, 0⟩,
    .smbcReadByte 0 2 ⟨0, 0, 0, 0, false, 0, 0⟩, .smbcReadWord 0 2 ⟨0, 0, 0, 0, false, 0, 0⟩,
    .smbcBlockWrite 0 2 ⟨0, 0, 0, 0, false, 0, 0⟩, .smbcBlockRead 0 2 ⟨0, 0, 0, 0, false, 0, 0⟩,
    .smbcFixedWrite 0 2 ⟨0, 0, 0, 0, false, 0, 0⟩, .smbcFixedRead 0 2 ⟨0, 0, 0, 0, false, 0, 0⟩, .smbcComplete 0 2 0 [],
    .smbcArbRetry 0 2, .smbcAddrRetry 0 2, .smbcTimeout 0 2, .smbcProtocolStop 0 2, .smbcClearCounts 0 2,
    .unitFault 0 0 0 0, .unitFault 0 3 0 0, .unitFault 0 1 264 0, .unitFault 0 2 136 0, .weldSubstitute 0 0 0,
    .weldSubstitute 0 3 0, .weldSubstitute 0 1 256] : List Instr).all (fun c => !c.check) = true := by decide +kernel

/-- Each of these commands names a unit that the block does not have. -/
theorem test_ill_formed_9 : ([
    .weldSubstitute 0 2 128, .weldForce 0 0 0, .weldForce 0 3 0, .weldForce 0 1 256, .weldForce 0 2 128, .weldReturn 0 0 0,
    .weldReturn 0 4 0, .weldReturn 0 1 264, .weldReturn 0 2 136, .weldReturn 0 3 544, .weldClearSuspect 0 0 0,
    .weldClearSuspect 0 3 0, .weldClearSuspect 0 1 256, .weldClearSuspect 0 2 128, .weldTestSpare 0 0 0,
    .weldTestSpare 0 3 0, .weldTestSpare 0 1 264, .weldTestSpare 0 2 136, .spareTestDone 0 0 0 0 false false,
    .spareTestDone 0 3 0 0 false false, .spareTestDone 0 1 8 0 false false, .spareTestDone 0 1 0 33 false false,
    .spareTestDone 0 2 0 17 false false, .shadowCompare 0 0 0 false] : List Instr).all (fun c => !c.check) = true := by decide +kernel

/-- Each of these commands names a unit that the block does not have. -/
theorem test_ill_formed_10 : ([
    .shadowCompare 0 3 0 false, .shadowCompare 0 1 8 false, .internalError 0 ⟨8, 0, [], none, none, none, none⟩,
    .internalError 0 ⟨1, 0, [], some (2, 136), none, none, none⟩,
    .internalError 0 ⟨1, 0, [], some (3, 0), none, none, none⟩, .semaphoreClaim 0 8 0, .semaphoreRelease 0 8 0] : List Instr).all (fun c => !c.check) = true := by decide +kernel

/-! ### Single steps -/

/-- The check value of CRC-32C over "123456789" (R11 names the polynomial; the value is the published check value). -/
theorem test_crc32c : crc32c [0x31, 0x32, 0x33, 0x34, 0x35, 0x36, 0x37, 0x38, 0x39] = 0xE3069283 := by decide +kernel

/-- Rounding to nearest, ties to even (R9): 2.5 gives 2, 3.5 gives 4, -2.5 gives -2. -/
theorem test_rdiv : (rdiv 5 2, rdiv 7 2, rdiv (-5) 2) = (2, 4, -2) := by decide +kernel

/-- A free semaphore takes its token (R559). -/
theorem test_claim : ∃ t, exec (.semaphoreClaim 0 3 0x8001) wit0 = .next t ∧ t.rd F.GLB_SEM_OWNER 3 = 0x8001 :=
  ⟨_, rfl, by decide +kernel⟩

/-- The mark of a held semaphore stays under another token (R559). -/
theorem test_claim_held :
    ∃ t, exec (.semaphoreClaim 0 3 7) (wit0.wr F.GLB_SEM_OWNER 9 3) = .next t ∧ t.rd F.GLB_SEM_OWNER 3 = 9 :=
  ⟨_, rfl, by decide +kernel⟩

/-- The pins of encoder 2 have lain at A 1, B 0 since DT 0, and A has been accepted at 0 so far. -/
def witEdge (c : Nat) : State :=
  { (wit0.wr F.ENC_CFG_ENABLE 1 2).wr F.ENC_COUNT_COUNT c 2 with pos := { enc := [(2, { a := { raw := 1 } })] } }

/-- The first forward transition of R79 counts one up from the last count of 48 bits: it wraps to 0 (R82). -/
theorem test_edge_wraps :
    ∃ t, exec (.encoderEdge 131072 []) (witEdge (2 ^ 48 - 1)) = .next t ∧ t.rd F.ENC_COUNT_COUNT 2 = 0 := ⟨_, rfl, by decide +kernel⟩

/-- A level of 7 ns of filter time is accepted 8 ns after it came, and not before (R79). -/
theorem test_edge_filter :
    (∃ t, exec (.encoderEdge 7 []) ((witEdge 5).wr F.ENC_CFG_FILTER_NS 7 2) = .next t ∧ t.rd F.ENC_COUNT_COUNT 2 = 5)
    ∧ ∃ t, exec (.encoderEdge 8 []) ((witEdge 5).wr F.ENC_CFG_FILTER_NS 7 2) = .next t ∧ t.rd F.ENC_COUNT_COUNT 2 = 6 :=
  ⟨⟨_, rfl, by decide +kernel⟩, ⟨_, rfl, by decide +kernel⟩⟩

/-- Both levels change at once: ILLEGAL, and the count stays (R80). -/
theorem test_edge_illegal :
    ∃ t, exec (.encoderEdge 131072 []) { witEdge 5 with pos := { enc := [(2, { a := { raw := 1 }, b := { raw := 1 } })] } } = .next t
      ∧ t.rd F.ENC_STATUS_ILLEGAL 2 = 1 ∧ t.rd F.ENC_COUNT_COUNT 2 = 5 := ⟨_, rfl, by decide +kernel⟩

/-- A BAR0 write outside the early blocks while Kindle runs sets EARLY_WRITE and does nothing else (R71). -/
theorem test_early_write :
    ∃ t, exec (.registerWrite 0 0x30000 4 1) { State.reset with kindle := { running := true } } = .next t
      ∧ t.rd F.KINDLE_STATUS_EARLY_WRITE = 1 ∧ t.regs.length = 1 := ⟨_, rfl, by decide +kernel⟩

/-- Device time starts at 0 with the first lock and counts the nanoseconds of the next commands (R76). -/
theorem test_time :
    ∃ t, core.run 2 { State.reset with kindle := { running := true }, pending := [.timebaseLock 5, .refPhaseLock 7] } = .next t
      ∧ t.dt = 7 ∧ t.clk = 12 ∧ t.pending = [] := ⟨_, rfl, by decide +kernel⟩

/-- FOM = floor(255 * 100 * 50 / 8001) = 159 (R124). -/
theorem test_fom :
    ∃ t, exec (.fomMeasure 0 4 100 50) ((wit0.wr F.LANE_STATE_STATE 3 4).setLane 4 { fomN := 65536 }) = .next t
      ∧ t.rd F.LANE_FOM_FOM 4 = 159 := ⟨_, rfl, by decide +kernel⟩

/-- The Class Code of the configuration header is 0x118000 (R404). -/
theorem test_class_code :
    ∃ t, exec (.configurationWrite 0 (.read .classCode)) wit0 = .next t ∧ t.out = [.completion 0 [0x00, 0x80, 0x11] false] :=
  ⟨_, rfl, by decide +kernel⟩

/-- BYPASS is one bit long: what comes out is a 0 and then what went in, one bit later (R550). -/
theorem test_bypass :
    ∃ t, exec (.jtagInstructionUpdate 0 0xFF [[true, true, false]]) wit0 = .next t ∧ t.out = [.tdo [false, true, true]] :=
  ⟨_, rfl, by decide +kernel⟩

/-- A software event of a channel whose event of the next cycle is latched merges with it (R450). -/
theorem test_merge :
    ∃ t, exec (.softwareEvent 0 9) (wit0.setStk { latched := [(9, 1, 2)] }) = .next t
      ∧ t.rd F.STK_CH_STAT_MERGED 9 = 1 ∧ t.stk.latched.length = 1 := ⟨_, rfl, by decide +kernel⟩

/-- A program only clears bits: 0xF0 over 0x3C leaves 0x30 (R74). -/
theorem test_flash_program : ((wit0.flashProgram 64 [0x3C]).flashProgram 64 [0xF0]).flashRead 64 1 = [0x30] := by decide +kernel

/-- A step on an empty queue is one nanosecond. -/
theorem test_idle : ∃ t, step wit0 = .next t ∧ t.clk = 1 ∧ t.dt = 1 := ⟨_, rfl, by decide +kernel⟩

/-! ### Hypotheses that are met -/

theorem test_wit_StepRunsFrontCommand : ∃ (c : Instr) (rest : List Instr) (s : State), s.pending = c :: rest :=
  ⟨.hotReset 0, [], { wit0 with pending := [.hotReset 0] }, rfl⟩

theorem test_wit_TimePassing :
    (∃ s : State, s.pending = [] ∧ s.ports ≠ [] ∧ ∀ e ∈ s.ports, e.2.up.size = 0)
    ∧ ∃ s : State, s.pending = [] ∧ s.ports ≠ [] ∧ (∀ e ∈ s.ports, e.1 < 512) ∧ ∃ e ∈ s.ports, e.2.up.size ≠ 0 :=
  ⟨⟨wit0.setPort 511 { nextTag := 1 }, by decide +kernel⟩, ⟨wit0.setPort 511 { up := { beat := true } }, by decide +kernel⟩⟩

theorem test_wit_IllFormedCommandStops : ∃ c : Instr, ¬ c.WellFormed := ⟨.laneEnable 0 544, by decide +kernel⟩

theorem test_wit_WellFormedCommandGoesOn : ∃ c : Instr, c.WellFormed := ⟨.laneEnable 0 543, by decide +kernel⟩

theorem test_wit_StepKeepsInv : ∃ s : State, s.Inv ∧ s.pending ≠ [] :=
  ⟨{ wit0 with pending := [.laneEnable 0 543] }, by simp [State.Inv]; decide +kernel, by decide +kernel⟩

theorem test_wit_ScriptRunsToTheEnd : ∃ s : State, s.Inv ∧ s.pending.length = 2 :=
  ⟨{ wit0 with pending := [.laneEnable 3 543, .hotReset 4] }, by simp [State.Inv]; decide +kernel, rfl⟩

theorem test_wit_RegisterFields :
    (∃ (f g : Fld) (i j k l : Nat), g.key k l ≠ f.key i j)
    ∧ F.LANE_STATE_STATE.acc = .ro ∧ F.LANE_CTL_CLEAR_COUNTS.acc = .wo ∧ F.LANE_CFG_ENABLE.acc = .rw
    ∧ (F.ENC_STATUS_ILLEGAL.acc = .rw1c ∧ wit0.rd F.ENC_STATUS_ILLEGAL < 2 ^ F.ENC_STATUS_ILLEGAL.w ∧ 0 < F.ENC_STATUS_ILLEGAL.w)
    ∧ (F.HEP_RESET_PERST_SCOPE.acc = .rwk ∧ State.reset.ready = false) ∧ wit0.ready = true :=
  ⟨⟨F.LANE_STATE_STATE, F.LANE_CFG_ENABLE, 0, 0, 0, 0, by decide +kernel⟩, rfl, rfl, rfl, by decide +kernel, by decide +kernel,
   by decide +kernel⟩

theorem test_wit_HostWriteGate :
    wit0.hostOpen 0x10FFF8
    ∧ ({ wit0 with power := { on := false } } : State).power.on = false
    ∧ (∃ s : State, s.power.on = true ∧ s.hep.d3hot = true)
    ∧ (∃ s : State, s.power.on = true ∧ s.hep.d3hot = false ∧ s.kindle.running = true)
    ∧ (∃ s : State, s.power.on = true ∧ s.hep.d3hot = false ∧ (s.kindle.running = false ∨ 0x20000 < 0x20000)
      ∧ s.on F.HEP_QUENCH_QUENCHED = true ∧ 0x10000 ≤ 0x40000 ∧ ¬(0x30000 ≤ 0x40000 ∧ 0x40000 ≤ 0x3FFFF)
      ∧ ¬(0xD0000 ≤ 0x40000 ∧ 0x40000 ≤ 0xDFFFF))
    ∧ (∃ s : State, s.power.on = true ∧ s.hep.d3hot = false ∧ s.kindle.running = false ∧ s.on F.HEP_QUENCH_QUENCHED = false
      ∧ s.staleBlock 0x400000 = true)
    ∧ (∃ s : State, s.power.on = true ∧ s.hep.d3hot = false ∧ (s.kindle.running = false ∨ 0x10FFF8 < 0x20000)
      ∧ s.on F.HEP_QUENCH_QUENCHED = false ∧ s.staleBlock 0x10FFF8 = false ∧ regDomain 0x10FFF8 = some 1
      ∧ 2 ≤ s.rd F.BLW_DOM_LEVEL 1) :=
  ⟨by decide +kernel, rfl, ⟨{ wit0 with hep := { d3hot := true } }, by decide +kernel⟩,
   ⟨{ State.reset with kindle := { running := true } }, by decide +kernel⟩,
   ⟨wit0.wr F.HEP_QUENCH_QUENCHED 1, by decide +kernel⟩, ⟨wit0.wr F.HEARTH_ID_SERVING 0 0, by decide +kernel⟩,
   ⟨wit0.wr F.BLW_DOM_LEVEL 2 1, by decide +kernel⟩⟩

theorem test_wit_MemoriesReadBack :
    (∃ (a b : Nat) (bs : Bytes), b < a ∨ a + bs.length ≤ b) ∧ (∃ (a k : Nat) (bs : Bytes), a ≤ 64 * k ∧ 64 * k + 64 ≤ a + bs.length) :=
  ⟨⟨5, 6, [1], by decide⟩, ⟨64, 1, zeros 64, by decide +kernel⟩⟩

theorem test_wit_FlashCommandsKeepForm :
    Memory.wf wit0 = true
    ∧ (([.flashRead 0 64, .flashProgram 0 64, .flashErase 0, .flashArbiterServe 0, .flashOpDone 0 true, .supplyOkFall 0]
        : List Instr).all (completes wit0)) = true :=
  ⟨by decide +kernel, by decide +kernel⟩

theorem test_wit_FlashDoneFrame :
    (∃ (s u : State) (d a n : Nat), u = s.atCmd d ∧ u.power.on = true ∧ u.flash.busy = some (.program a n))
    ∧ (∃ (s u : State) (d a : Nat), u = s.atCmd d ∧ u.power.on = true ∧ u.flash.busy = some (.erase a) ∧ a % 65536 = 0)
    ∧ ∃ (s u : State) (d a n : Nat), u = s.atCmd d ∧ u.power.on = true ∧ u.flash.busy = some (.read a n) :=
  ⟨⟨{ wit0 with flash := { busy := some (.program 0 64) } }, _, 0, 0, 64, rfl, rfl, rfl⟩,
   ⟨{ wit0 with flash := { busy := some (.erase 65536) } }, _, 0, 65536, rfl, rfl, rfl, rfl⟩,
   ⟨{ wit0 with flash := { busy := some (.read 0 64) } }, _, 0, 0, 64, rfl, rfl, rfl⟩⟩

theorem test_wit_ClearCountsFrame :
    ([F.LANE_CTL_CLEAR_COUNTS.at_ 543, F.COBEX_CTL_CLEAR_COUNTS.at_ 511, F.HEARTH_CTL_CLEAR_COUNTS.at_ 0, F.HAMMER_CTL_FLUSH.at_ 63,
      F.NCTX_CTL_SNAPSHOT.at_ 63, F.TRGH_CTL_CLEAR_COUNTS.at_ 1535, F.TONGS_CTL_CLEAR_COUNTS.at_ 1151,
      F.BLW_CTL_CLEAR_COUNTS.addr, F.HEP_CTL_CLEAR_COUNTS.addr].all fun a => decide ((wit0.atCmd 0).hostOpen a)) = true
    ∧ (([
        .laneClearCounts 0 543, .cobexClearCounts 0 511, .hearthClearCounts 0 0, .hammerClearCounts 0 63,
        .nctxClearCounts 0 63, .troughClearCounts 0 1535, .tongsClearCounts 0 1151, .blwClearCounts 0, .hepClearCounts 0]
        : List Instr).all (completes wit0)) = true :=
  ⟨by decide +kernel, by decide +kernel⟩

theorem test_wit_SmallCommandsFrame :
    ((wit0.atCmd 0).hostOpen (F.GLB_SEM_TOKEN.at_ 7) ∧ (wit0.atCmd 0).hostOpen F.STK_SWEVT_CHANNEL.addr)
    ∧ (([.refLost 0, .refFrequencyLock 0, .refPhaseLock 0, .semaphoreClaim 0 7 1, .semaphoreRelease 0 7 1,
        .trimDecision 0 543 2 2, .trimFreeze 0 543, .sessionTimeout 0, .unlockLockoutEnd 0, .gpioPulseEnd 0 31, .softwareEvent 0 511]
        : List Instr).all (completes wit0)) = true :=
  ⟨by decide +kernel, by decide +kernel⟩

theorem test_wit_SemaphoresAtResets :
    (∃ (s u : State) (d : Nat), u = s.atCmd d ∧ u.power.on = true ∧ u.power.perst = false ∧ u.power.scope = 0
      ∧ u.power.everReady = true)
    ∧ (∃ (s u : State) (d : Nat), u = s.atCmd d ∧ u.power.on = true ∧ u.on F.HEP_LINK_DL_ACTIVE = true)
    ∧ (∃ (s u : State) (d : Nat), u = s.atCmd d ∧ u.power.on = false)
    ∧ ∃ (s u : State) (d : Nat), u = s.atCmd d ∧ u.power.on = true ∧ u.power.perst = false
      ∧ (u.power.scope = 1 ∨ u.power.everReady = false) :=
  ⟨⟨{ wit0 with power := { on := true, perst := false, everReady := true, scope := 0 } }, _, 0, rfl, by decide +kernel⟩,
   ⟨wit0.wr F.HEP_LINK_DL_ACTIVE 1, _, 0, rfl, by decide +kernel⟩,
   ⟨{ wit0 with power := { on := false } }, _, 0, rfl, by decide +kernel⟩, ⟨wit0, _, 0, rfl, by decide +kernel⟩⟩

/-- States and operands that meet the hypotheses of each clause of PowerResets. -/
theorem test_wit_PowerResets :
    (∃ (s u : State) (d : Nat) (straps : Nat) (cfgHoldN : Nat), u = s.atCmd d ∧ straps < 4 ∧ cfgHoldN < 2 ∧ u.power.on =
        false ∧ u.power.perst = true)
    ∧ (∃ (s u : State) (d : Nat), u = s.atCmd d ∧ u.power.on = true)
    ∧ (∃ (s u : State) (d : Nat), u = s.atCmd d ∧ u.power.on = true ∧ u.power.perst = false ∧ (u.power.scope = 1 ∨
        u.power.everReady = false))
    ∧ (∃ (s u : State) (d : Nat) (cfgHoldN : Nat), u = s.atCmd d ∧ cfgHoldN < 2 ∧ u.power.on = true ∧ u.power.perst = true ∧
        (u.power.scope = 1 ∨ u.power.everReady = false))
    ∧ (∃ (s u : State) (d : Nat) (cfgHoldN : Nat), u = s.atCmd d ∧ cfgHoldN < 2 ∧ u.power.on = true ∧ u.power.perst = true ∧
        u.power.scope = 0 ∧ u.power.everReady = true) :=
  ⟨⟨{ wit0 with power := { on := false, perst := true } }, _, 0, 3, 1, rfl, by decide +kernel⟩,
   ⟨wit0, _, 0, rfl, by decide +kernel⟩,
   ⟨{ wit0 with power := { on := true, perst := false, everReady := false } }, _, 0, rfl, by decide +kernel⟩,
   ⟨State.reset, _, 0, 1, rfl, by decide +kernel⟩,
   ⟨{ wit0 with power := { on := true, perst := true, scope := 0, everReady := true } }, _, 0, 1, rfl, by decide +kernel⟩⟩

/-- States and operands that meet the hypotheses of each clause of TimebaseReference. -/
theorem test_wit_TimebaseReference :
    (∃ (s u : State) (d : Nat), u = s.atCmd d ∧ u.power.on = true ∧ u.running = false ∧ u.kindle.running = true)
    ∧ (∃ (s u : State) (d : Nat), u = s.atCmd d ∧ u.power.on = true ∧ u.running = true ∧ u.on F.TB_STATUS_HOLDOVER = false)
    ∧ (∃ (s u : State) (d : Nat), u = s.atCmd d ∧ u.power.on = true ∧ u.on F.TB_STATUS_HOLDOVER = true)
    ∧ (∃ (s u : State) (d : Nat), u = s.atCmd d ∧ u.power.on = true ∧ u.on F.TB_STATUS_LOCKED_SLEW = true)
    ∧ (∃ (s u : State) (d : Nat) (opcode : Nat) (scans : List (List Bool)), u = s.atCmd d ∧ opcode < 256 ∧ u.power.on = true)
    ∧ (∃ (s u : State) (d : Nat) (bits : List Bool), u = s.atCmd d ∧ u.power.on = true ∧ bits.length = 32)
    ∧ (∃ (s u : State) (d opcode : Nat) (bits : List Bool), u = s.atCmd d ∧ u.power.on = true ∧ opcode < 256 ∧ bits ≠ [] ∧
        opcode ∉ [0x00, 0x01, 0x02, 0x04, 0x05, 0x0C, 0x0D])
    ∧ (∃ (s u : State) (d opcode : Nat) (bits : List Bool), u = s.atCmd d ∧ u.power.on = true ∧ opcode ∈ [0x00, 0x02, 0x0C,
        0x0D] ∧ bits.length = scanWidth) :=
  ⟨⟨{ wit0 with running := false, kindle := { running := true } }, _, 0, rfl, by decide +kernel⟩,
   ⟨wit0, _, 0, rfl, by decide +kernel⟩,
   ⟨wit0.wr F.TB_STATUS_HOLDOVER 1, _, 0, rfl, by decide +kernel⟩,
   ⟨wit0.wr F.TB_STATUS_LOCKED_SLEW 1, _, 0, rfl, by decide +kernel⟩,
   ⟨wit0, _, 0, 255, [[true]], rfl, by decide +kernel⟩,
   ⟨wit0, _, 0, List.replicate 32 true, rfl, by decide +kernel⟩,
   ⟨wit0, _, 0, 3, [true], rfl, by decide +kernel⟩,
   ⟨wit0, _, 0, 0x0D, List.replicate scanWidth true, rfl, by decide +kernel⟩⟩

/-- States and operands that meet the hypotheses of each clause of KindleCandidates. -/
theorem test_wit_KindleCandidates :
    (∃ (s u : State) (d : Nat) (sfdpOk : Bool) (sectors : Nat) (uniform : Bool) (ddrOk : Bool), u = s.atCmd d ∧ sectors ≤
        65536 ∧ u.power.on = true ∧ u.kindle.running = true ∧ u.rd F.KINDLE_STATUS_PHASE = 0 ∧ u.kindle.flashOk = false ∧
        u.kindle.holdDue = false)
    ∧ (∃ (s u : State) (d : Nat), u = s.atCmd d ∧ u.power.on = true ∧ u.kindle.running = true ∧ u.rd F.KINDLE_STATUS_PHASE =
        1 ∧ u.kindle.holdDue = false)
    ∧ (∃ (s u : State) (d : Nat) (c : Nat) (rest : List Nat), u = s.atCmd d ∧ u.power.on = true ∧ u.kindle.running = true ∧
        u.rd F.KINDLE_STATUS_PHASE = 2 ∧ u.kindle.cands = c :: rest)
    ∧ (∃ (s u : State) (d : Nat), u = s.atCmd d ∧ u.power.on = true ∧ u.kindle.running = true ∧ u.running = true ∧
        u.kindle.hbmTrained = false ∧ u.kindle.hbmFailed = false) :=
  ⟨⟨{ State.reset with kindle := { running := true } }, _, 0, true, 4096, true, false, rfl, by decide +kernel⟩,
   ⟨({ State.reset with kindle := { running := true, flashOk := true } } : State).wr F.KINDLE_STATUS_PHASE 1, _, 0, rfl,
     by decide +kernel⟩,
   ⟨({ State.reset with kindle := { running := true, flashOk := true, cands := [1, 0] }, flash := { mem := [(0x4000006, 0), (0x4000007, 0)] } }
     : State).wr F.KINDLE_STATUS_PHASE 2, _, 0, 1, [0], rfl, by decide +kernel⟩,
   ⟨{ State.reset with running := true, kindle := { running := true } }, _, 0, rfl, by decide +kernel⟩⟩

/-- States and operands that meet the hypotheses of each clause of KindleEnds. -/
theorem test_wit_KindleEnds :
    (∃ (s u : State) (d : Nat) (c : Nat), u = s.atCmd d ∧ u.power.on = true ∧ u.kindle.running = true ∧ u.rd
        F.KINDLE_STATUS_PHASE = 3 ∧ u.kindle.applied = false ∧ u.kindle.hbmTrained = true ∧ u.kindle.passed = some c)
    ∧ (∃ (s u : State) (d : Nat), u = s.atCmd d ∧ u.power.on = true ∧ u.kindle.running = true ∧ u.kindle.applied = true ∧
        u.kindle.journalRead = false)
    ∧ (∃ (s u : State) (d : Nat), u = s.atCmd d ∧ u.power.on = true ∧ u.kindle.running = true ∧ u.kindle.applied = true ∧
        u.kindle.journalRead = true ∧ u.kindle.holdDue = false)
    ∧ (∃ (s u : State) (d : Nat), u = s.atCmd d ∧ u.power.on = true ∧ u.kindle.running = true ∧ (u.kindle.holdDue = true ∨
        (u.kindle.cfgHold = true ∧ u.kindle.flashOk = true)))
    ∧ (∃ (s u : State) (d : Nat), u = s.atCmd d ∧ u.hostOpen (F.KINDLE_CTL_KEY.addr) ∧ (u.rd F.KINDLE_STATUS_PHASE = 4 ∨ u.rd
        F.KINDLE_STATUS_PHASE = 8))
    ∧ (∃ (s u : State) (d : Nat) (v : State), u = s.atCmd d ∧ v = u.setReject 2 ⟨0, 0, 0⟩ ∧ u.hostOpen
        (F.KINDLE_CTL_KEY.addr) ∧ u.rd F.KINDLE_STATUS_PHASE = 8)
    ∧ (∃ (s u : State) (d : Nat) (key : Nat), u = s.atCmd d ∧ key < 256 ∧ key ≠ 0xB5 ∧ u.hostOpen (F.KINDLE_CTL_KEY.addr))
    ∧ (∃ (s u : State) (d : Nat) (key : Nat), u = s.atCmd d ∧ key < 256 ∧ key ≠ 0xB5 ∧ u.hostOpen (F.KINDLE_CTL_KEY.addr)) :=
  ⟨⟨({ State.reset with kindle := { running := true, hbmTrained := true, passed := some 1 }, flash := { mem := [(0x4000006, 0), (0x4000007, 0)] } }
     : State).wr F.KINDLE_STATUS_PHASE 3, _, 0, 1, rfl, by decide +kernel⟩,
   ⟨{ State.reset with kindle := { running := true, applied := true } }, _, 0, rfl, by decide +kernel⟩,
   ⟨{ State.reset with kindle := { running := true, applied := true, journalRead := true } }, _, 0, rfl, by decide +kernel⟩,
   ⟨{ State.reset with kindle := { running := true, holdDue := true } }, _, 0, rfl, by decide +kernel⟩,
   ⟨wit0, _, 0, rfl, by decide +kernel⟩,
   ⟨wit0.wr F.KINDLE_STATUS_PHASE 8, _, 0, _, rfl, rfl, by decide +kernel⟩,
   ⟨wit0, _, 0, 0xB6, rfl, by decide +kernel⟩,
   ⟨wit0, _, 0, 0xB6, rfl, by decide +kernel⟩⟩

/-- States and operands that meet the hypotheses of each clause of FlashOperations. -/
theorem test_wit_FlashOperations :
    (∃ (s u : State) (d : Nat) (len : Nat) (a : Nat), u = s.atCmd d ∧ u.hostOpen (F.FLASH_OP_OP.addr) ∧ u.on
        F.FLASH_STATUS_BUSY = false ∧ a = u.rd F.FLASH_ADDR_ADDR ∧ a % 64 = 0 ∧ len % 64 = 0 ∧ 64 ≤ len ∧ len ≤ 4096 ∧ a +
        len ≤ 65536 * u.flash.sectors)
    ∧ (∃ (s u : State) (d : Nat) (len : Nat) (a : Nat), u = s.atCmd d ∧ u.hostOpen (F.FLASH_OP_OP.addr) ∧ u.on
        F.FLASH_STATUS_BUSY = false ∧ a = u.rd F.FLASH_ADDR_ADDR ∧ a % 64 = 0 ∧ len % 64 = 0 ∧ 64 ≤ len ∧ len ≤ 4096 ∧ a +
        len ≤ 65536 * u.flash.sectors ∧ u.kindle.running = false ∧ a + len ≤ 0x8000000 ∧ (u.rd F.KINDLE_STATUS_SLOT_USED = 1
        → 0x4000000 ≤ a) ∧ (u.rd F.KINDLE_STATUS_SLOT_USED = 2 → a + len ≤ 0x4000000))
    ∧ (∃ (s u : State) (d : Nat) (a : Nat), u = s.atCmd d ∧ u.hostOpen (F.FLASH_OP_OP.addr) ∧ u.on F.FLASH_STATUS_BUSY =
        false ∧ a = u.rd F.FLASH_ADDR_ADDR ∧ a % 65536 = 0 ∧ u.kindle.running = false ∧ a + 65536 ≤ 0x8000000 ∧ (u.rd
        F.KINDLE_STATUS_SLOT_USED = 1 → 0x4000000 ≤ a) ∧ (u.rd F.KINDLE_STATUS_SLOT_USED = 2 → a + 65536 ≤ 0x4000000))
    ∧ (∃ (s u : State) (d : Nat) (len : Nat) (a : Nat), u = s.atCmd d ∧ len < 8192 ∧ u.hostOpen (F.FLASH_OP_OP.addr) ∧ u.on
        F.FLASH_STATUS_BUSY = false ∧ a = u.rd F.FLASH_ADDR_ADDR ∧ (u.kindle.running = true ∨ 0x8000000 < a + len ∨ (u.rd
        F.KINDLE_STATUS_SLOT_USED = 1 ∧ a < 0x4000000) ∨ (u.rd F.KINDLE_STATUS_SLOT_USED = 2 ∧ 0x4000000 < a + len)))
    ∧ (∃ (s u : State) (d : Nat) (o : FlashOp) (rest : List FlashOp), u = s.atCmd d ∧ u.power.on = true ∧ u.flash.busy = none
        ∧ u.weld.ingots = [] ∧ u.flash.waiting = o :: rest)
    ∧ (∃ (s u : State) (d : Nat), u = s.atCmd d ∧ u.power.on = true ∧ u.flash.busy = none ∧ u.weld.ingots ≠ [])
    ∧ (∃ (s u : State) (d : Nat) (ok : Bool) (a n : Nat), u = s.atCmd d ∧ u.power.on = true ∧ u.flash.busy = some (.read a
        n))
    ∧ (∃ (s u : State) (d : Nat) (a n : Nat), u = s.atCmd d ∧ u.power.on = true ∧ u.flash.busy = some (.program a n))
    ∧ (∃ (s u : State) (d : Nat) (a : Nat), u = s.atCmd d ∧ u.power.on = true ∧ u.flash.busy = some (.erase a)) :=
  ⟨⟨wit0.wr F.FLASH_ADDR_ADDR 0xFFFF000, _, 0, 4096, 0xFFFF000, rfl, by decide +kernel⟩,
   ⟨wit0.wr F.FLASH_ADDR_ADDR 0x7FFF000, _, 0, 4096, 0x7FFF000, rfl, by decide +kernel⟩,
   ⟨wit0.wr F.FLASH_ADDR_ADDR 0x7FF0000, _, 0, 0x7FF0000, rfl, by decide +kernel⟩,
   ⟨wit0.wr F.FLASH_ADDR_ADDR 0x7FFFFC0, _, 0, 128, 0x7FFFFC0, rfl, by decide +kernel⟩,
   ⟨{ wit0 with flash := { waiting := [.erase 0] } }, _, 0, .erase 0, [], rfl, by decide +kernel⟩,
   ⟨{ wit0 with weld := { ingots := [⟨6, [], 0⟩] } }, _, 0, rfl, by decide +kernel⟩,
   ⟨{ wit0 with flash := { busy := some (.read 0 64) } }, _, 0, false, 0, 64, rfl, by decide +kernel⟩,
   ⟨{ wit0 with flash := { busy := some (.program 0 64) } }, _, 0, 0, 64, rfl, by decide +kernel⟩,
   ⟨{ wit0 with flash := { busy := some (.erase 65536) } }, _, 0, 65536, rfl, by decide +kernel⟩⟩

/-- States and operands that meet the hypotheses of each clause of Semaphores. -/
theorem test_wit_Semaphores :
    (∃ (s u : State) (d : Nat) (i : Nat) (token : Nat), u = s.atCmd d ∧ i < 8 ∧ token < 65536 ∧ u.hostOpen
        (F.GLB_SEM_TOKEN.at_ i) ∧ token ≠ 0 ∧ u.rd F.GLB_SEM_OWNER i = 0)
    ∧ (∃ (s u : State) (d : Nat) (i : Nat) (token : Nat), u = s.atCmd d ∧ i < 8 ∧ token < 65536 ∧ u.hostOpen
        (F.GLB_SEM_TOKEN.at_ i) ∧ (token = 0 ∨ u.rd F.GLB_SEM_OWNER i ≠ 0))
    ∧ (∃ (s u : State) (d : Nat) (i : Nat) (token : Nat), u = s.atCmd d ∧ i < 8 ∧ token < 65536 ∧ u.hostOpen
        (F.GLB_SEM_TOKEN.at_ i) ∧ token = u.rd F.GLB_SEM_OWNER i)
    ∧ (∃ (s u : State) (d : Nat) (i : Nat) (token : Nat), u = s.atCmd d ∧ i < 8 ∧ token < 65536 ∧ u.hostOpen
        (F.GLB_SEM_TOKEN.at_ i) ∧ token ≠ u.rd F.GLB_SEM_OWNER i) :=
  ⟨⟨wit0, _, 0, 7, 65535, rfl, by decide +kernel⟩,
   ⟨wit0.wr F.GLB_SEM_OWNER 5 7, _, 0, 7, 65535, rfl, by decide +kernel⟩,
   ⟨wit0.wr F.GLB_SEM_OWNER 5 7, _, 0, 7, 5, rfl, by decide +kernel⟩,
   ⟨wit0.wr F.GLB_SEM_OWNER 5 7, _, 0, 7, 6, rfl, by decide +kernel⟩⟩

/-- States and operands that meet the hypotheses of each clause of ResourceOwnership. -/
theorem test_wit_ResourceOwnership :
    (∃ (s u : State) (d : Nat) (cls : Nat) (idx : Nat) (owner : Nat), u = s.atCmd d ∧ cls < 256 ∧ idx < 65536 ∧ owner < 2 ^
        32 ∧ u.hostOpen (F.RESOURCE_CLAIM_OP.addr) ∧ u.kindle.running = false ∧ idx < resCount cls ∧ (owner = hostOwner ∨
        srcExists owner = true) ∧ mayOwn cls idx owner = true ∧ u.owner cls idx = 0)
    ∧ (∃ (s u : State) (d : Nat) (cls : Nat) (idx : Nat) (owner : Nat), u = s.atCmd d ∧ cls < 256 ∧ idx < 65536 ∧ owner < 2 ^
        32 ∧ u.hostOpen (F.RESOURCE_CLAIM_OP.addr) ∧ u.kindle.running = false ∧ idx < resCount cls ∧ (owner = hostOwner ∨
        srcExists owner = true) ∧ mayOwn cls idx owner = true ∧ u.owner cls idx ≠ 0)
    ∧ (∃ (s u : State) (d : Nat) (cls : Nat) (idx : Nat) (owner : Nat), u = s.atCmd d ∧ cls < 256 ∧ idx < 65536 ∧ owner < 2 ^
        32 ∧ u.hostOpen (F.RESOURCE_CLAIM_OP.addr) ∧ u.kindle.running = false ∧ idx < resCount cls ∧ (owner = hostOwner ∨
        srcExists owner = true) ∧ mayOwn cls idx owner = true ∧ u.owner cls idx = owner)
    ∧ (∃ (s u : State) (d : Nat) (cls : Nat) (idx : Nat) (owner : Nat), u = s.atCmd d ∧ cls < 256 ∧ idx < 65536 ∧ owner < 2 ^
        32 ∧ u.hostOpen (F.RESOURCE_CLAIM_OP.addr) ∧ u.kindle.running = false ∧ idx < resCount cls ∧ (owner = hostOwner ∨
        srcExists owner = true) ∧ mayOwn cls idx owner = true ∧ u.owner cls idx ≠ owner)
    ∧ (∃ (s u : State) (d : Nat) (cls : Nat) (idx : Nat) (owner : Nat), u = s.atCmd d ∧ cls < 256 ∧ idx < 65536 ∧ owner < 2 ^
        32 ∧ u.hostOpen (F.RESOURCE_CLAIM_OP.addr) ∧ idx < resCount cls ∧ (u.kindle.running = true ∨ (owner ≠ hostOwner ∧
        srcExists owner = false) ∨ mayOwn cls idx owner = false)) :=
  ⟨⟨wit0, _, 0, 6, 1535, 0xFFFFFFFF, rfl, by decide +kernel⟩,
   ⟨{ wit0 with owners := [(65536 * 6 + 1535, 0xFFFFFFFF)] }, _, 0, 6, 1535, 0xFFFFFFFF, rfl, by decide +kernel⟩,
   ⟨{ wit0 with owners := [(65536 * 6 + 1535, 0xFFFFFFFF)] }, _, 0, 6, 1535, 0xFFFFFFFF, rfl, by decide +kernel⟩,
   ⟨wit0, _, 0, 6, 1535, 0xFFFFFFFF, rfl, by decide +kernel⟩,
   ⟨wit0, _, 0, 6, 1535, 0x99000000, rfl, by decide +kernel⟩⟩

/-- States and operands that meet the hypotheses of each clause of Decisions. -/
theorem test_wit_Decisions :
    (∃ (s u : State) (d : Nat) (v : Nat) (w : State), u = s.atCmd d ∧ w =
        { u with dcs := { u.dcs with seqBytes := [], broken := false } } ∧ u.hostOpen (0x100) ∧ v < 2 ^ 128 ∧ (v % 2 ^ 32 = 0
        ∨ (w.dcs.wrapped = false ∧ w.dcs.nextId ≤ v % 2 ^ 32)))
    ∧ (∃ (s u : State) (d : Nat) (v : Nat) (w : State), u = s.atCmd d ∧ w =
        { u with dcs := { u.dcs with seqBytes := [], broken := false } } ∧ u.hostOpen (0x100) ∧ v < 2 ^ 128 ∧ w.idPosted (v %
        2 ^ 32) = true ∧ w.request (v % 2 ^ 32) = none)
    ∧ (∃ (s u : State) (d : Nat) (v : Nat) (w : State) (r : Request), u = s.atCmd d ∧ w =
        { u with dcs := { u.dcs with seqBytes := [], broken := false } } ∧ u.hostOpen (0x100) ∧ v < 2 ^ 128 ∧ w.idPosted (v %
        2 ^ 32) = true ∧ w.request (v % 2 ^ 32) = some r ∧ (v / 2 ^ 32 % 2 ^ 8 = 0 ∨ 4 ≤ v / 2 ^ 32 % 2 ^ 8))
    ∧ (∃ (s u : State) (d : Nat) (v : Nat) (w : State) (r : Request), u = s.atCmd d ∧ w =
        { u with dcs := { u.dcs with seqBytes := [], broken := false } } ∧ u.hostOpen (0x100) ∧ v < 2 ^ 128 ∧ w.idPosted (v %
        2 ^ 32) = true ∧ w.request (v % 2 ^ 32) = some r ∧ v / 2 ^ 32 % 2 ^ 8 = 3 ∧ w.argOk r (v / 2 ^ 64) = false)
    ∧ (∃ (s u : State) (d : Nat) (v : Nat) (w : State) (r : Request), u = s.atCmd d ∧ w =
        { u with dcs := { u.dcs with seqBytes := [], broken := false } } ∧ u.hostOpen (0x100) ∧ v < 2 ^ 128 ∧ w.idPosted (v %
        2 ^ 32) = true ∧ w.request (v % 2 ^ 32) = some r ∧ (v / 2 ^ 32 % 2 ^ 8 = 1 ∨ v / 2 ^ 32 % 2 ^ 8 = 2 ∨ (v / 2 ^ 32 % 2
        ^ 8 = 3 ∧ w.argOk r (v / 2 ^ 64) = true)))
    ∧ (∃ (s u : State) (d : Nat) (id : Nat) (r : Request), u = s.atCmd d ∧ u.power.on = true ∧ u.request id = some r ∧ r.at_
        + 1000 * r.timeoutUs ≤ u.clk)
    ∧ (∃ (s u : State) (d : Nat) (id : Nat) (r : Request), u = s.atCmd d ∧ u.power.on = true ∧ u.request id = some r ∧ u.clk
        < r.at_ + 1000 * r.timeoutUs)
    ∧ (∃ (s u : State) (d : Nat) (h : HeldReq) (rest : List HeldReq), u = s.atCmd d ∧ u.power.on = true ∧ u.dcs.held = h ::
        rest ∧ u.dcs.open_.length < 4096) :=
  ⟨⟨wit0, _, 0, 1, _, rfl, rfl, by decide +kernel⟩,
   ⟨{ wit0 with dcs := { nextId := 2 } }, _, 0, 1, _, rfl, rfl, by decide +kernel⟩,
   ⟨{ wit0 with dcs := { nextId := 2, open_ := [⟨1, 7, 0x0E000000, 1, [], 0, 1000, false⟩] } }, _, 0, 1, _, ⟨1, 7,
     0x0E000000, 1, [], 0, 1000, false⟩, rfl, rfl, by decide +kernel⟩,
   ⟨{ wit0 with dcs := { nextId := 2, open_ := [⟨1, 7, 0x0E000000, 1, [], 0, 1000, false⟩] } }, _, 0,
     0xFFFFFFFFFFFFFFFF0000000300000001, _, ⟨1, 7, 0x0E000000, 1, [], 0, 1000, false⟩, rfl, rfl, by decide +kernel⟩,
   ⟨{ wit0 with dcs := { nextId := 2, open_ := [⟨1, 7, 0x0E000000, 1, [], 0, 1000, false⟩] } }, _, 0, 0x100000001, _, ⟨1, 7,
     0x0E000000, 1, [], 0, 1000, false⟩, rfl, rfl, by decide +kernel⟩,
   ⟨{ wit0 with dcs := { nextId := 2, open_ := [⟨1, 7, 0x0E000000, 1, [], 0, 0, false⟩] } }, _, 0, 1, ⟨1, 7, 0x0E000000, 1,
     [], 0, 0, false⟩, rfl, by decide +kernel⟩,
   ⟨{ wit0 with dcs := { nextId := 2, open_ := [⟨1, 7, 0x0E000000, 1, [], 0, 1, false⟩] } }, _, 0, 1, ⟨1, 7, 0x0E000000, 1,
     [], 0, 1, false⟩, rfl, by decide +kernel⟩,
   ⟨{ wit0 with dcs := { held := [⟨7, 0x0E000000, 1, [], false⟩] } }, _, 0, ⟨7, 0x0E000000, 1, [], false⟩, [], rfl,
     by decide +kernel⟩⟩

/-- States and operands that meet the hypotheses of each clause of FunctionModes. -/
theorem test_wit_FunctionModes :
    (∃ (s u : State) (d : Nat) (f : Nat) (v : Nat), u = s.atCmd d ∧ 1 ≤ f ∧ f ≤ 9 ∧ v < 2 ∧ u.hostOpen
        (F.FUNC_MODE_REQUESTED.at_ f))
    ∧ (∃ (s u : State) (d : Nat) (f : Nat) (w : Nat), u = s.atCmd d ∧ 1 ≤ f ∧ f ≤ 9 ∧ w < fnUnits f ∧ u.power.on = true ∧
        u.on F.FUNC_MODE_PENDING f = true ∧ (u.inService f w = false ∨ (f = 1 ∧ u.laneState w = 6)))
    ∧ (∃ (s u : State) (d : Nat) (f : Nat) (w : Nat), u = s.atCmd d ∧ 1 ≤ f ∧ f ≤ 9 ∧ w < fnUnits f ∧ u.power.on = true ∧
        u.inService f w = true ∧ ¬ (f = 1 ∧ u.laneState w = 6)) :=
  ⟨⟨wit0, _, 0, 9, 1, rfl, by decide +kernel⟩,
   ⟨wit0.wr F.FUNC_MODE_PENDING 1 9, _, 0, 9, 7, rfl, by decide +kernel⟩,
   ⟨wit0.wr F.HEP_QUENCH_QUENCHED 1, _, 0, 7, 0, rfl, by decide +kernel⟩⟩

/-- States and operands that meet the hypotheses of each clause of RegisterWrites. -/
theorem test_wit_RegisterWrites :
    (∃ (s u : State) (d : Nat) (x : Nat) (i : Nat), u = s.atCmd d ∧ i < 4 ∧ x < 2 ^ 64 ∧ u.hostOpen (0x80 + 8 * i))
    ∧ (∃ (s u : State) (d : Nat) (a : Nat) (x : Nat), u = s.atCmd d ∧ a % 4 = 0 ∧ a + 4 ≤ 0x4000000 ∧ x < 2 ^ 32 ∧ u.hostOpen
        (a) ∧ locate a = none ∧ bufferAt a = none ∧ ¬(0x1800000 ≤ a ∧ a ≤ 0x1FFFFFF) ∧ ¬(0x100 ≤ a ∧ a ≤ 0x10F))
    ∧ (∃ (s u : State) (d : Nat) (i : Nat), u = s.atCmd d ∧ i < 4 ∧ u.power.on = true ∧ u.hep.d3hot = false ∧
        u.power.jtagTest = false)
    ∧ (∃ (s u : State) (d : Nat) (k : Nat) (x : Nat), u = s.atCmd d ∧ k < 16 ∧ x < 2 ^ 64 ∧ u.hostOpen (0x20200 + 16 * k) ∧
        u.railRangeOk k (bits x 15 0) (bits x 31 16) = true ∧ (u.ready = false ∨ k < 14 ∨ bits x 15 0 = u.rd
        F.BLW_RAIL_FLOOR_MV k))
    ∧ (∃ (s u v : State) (d : Nat) (k : Nat) (x : Nat), u = s.atCmd d ∧ v = ({ u with held := u.held.del (0x20200 + 16 * k) }
        : State).setFlds R.BLW_RAIL.desc.flds k 0 x ∧ k < 16 ∧ x < 2 ^ 64 ∧ u.hostOpen (0x20200 + 16 * k) ∧ u.railRangeOk k
        (bits x 15 0) (bits x 31 16) = true ∧ u.ready = true ∧ 14 ≤ k ∧ bits x 15 0 ≠ u.rd F.BLW_RAIL_FLOOR_MV k)
    ∧ (∃ (s u : State) (d : Nat) (k : Nat) (x : Nat), u = s.atCmd d ∧ k < 16 ∧ x < 2 ^ 64 ∧ u.hostOpen (0x20200 + 16 * k) ∧
        u.railRangeOk k (bits x 15 0) (bits x 31 16) = false)
    ∧ (∃ (s u : State) (d : Nat) (dom : Nat), u = s.atCmd d ∧ dom < 64 ∧ u.pressOn ∧ (u.blw.exits.find dom).isSome = true) :=
  ⟨⟨wit0, _, 0, 0xFFFFFFFFFFFFFFFF, 3, rfl, by decide +kernel⟩,
   ⟨wit0, _, 0, 0x3FFFFFC, 7, rfl, by decide +kernel⟩,
   ⟨wit0.wr F.GLB_SCRATCH_VALUE 0x500000004 3, _, 0, 3, rfl, by decide +kernel⟩,
   ⟨wit0, _, 0, 13, 0x352026C, rfl, by decide +kernel⟩,
   ⟨wit0, _, _, 0, 15, 0x2BC02BC, rfl, rfl, by decide +kernel⟩,
   ⟨wit0, _, 0, 15, 0, rfl, by decide +kernel⟩,
   ⟨{ wit0 with blw := { exits := [(63, 1)] } }, _, 0, 63, rfl, by decide +kernel⟩⟩

/-- States and operands that meet the hypotheses of each clause of EncodersAndAxes. -/
theorem test_wit_EncodersAndAxes :
    (∃ (x : EncIn) (v f t0 t : Nat), x.lev = x.raw ∧ x.raw ≠ v % 2)
    ∧ (∃ (s u : State) (c : Instr) (d : Nat) (ab : List (Nat × Nat × Nat)) (z : List (Nat × Nat)), u = s.atCmd d ∧ (c =
        .encoderEdge d ab ∨ c = .encoderIndex d z) ∧ c.WellFormed ∧ u.pressOn ∧ ((List.range 8).all fun ax => !u.on
        F.AXIS_CFG_ENABLE ax) = true)
    ∧ (∃ (s u : State) (d e a b : Nat), u = s.atCmd d ∧ e < 16 ∧ u.pressOn ∧ ((List.range 8).all fun ax => !u.on
        F.AXIS_CFG_ENABLE ax) = true)
    ∧ (∃ (s u : State) (d a : Nat), u = s.atCmd d ∧ a < 8 ∧ u.pressOn ∧ u.on F.AXIS_CFG_ENABLE a = true ∧ (u.ax a).stalled =
        false ∧ (u.ax a).lastUpd + u.rd F.AXIS_STALL_STALL_NS a ≤ u.dt)
    ∧ (∃ (s u : State) (d a : Nat), u = s.atCmd d ∧ a < 8 ∧ u.hostOpen (F.AXIS_CTL_RESUME.at_ a) ∧ u.pressOn ∧ u.rd
        F.AXIS_STATUS_STATE a = 2 ∧ 0 ≤ countDiff (u.axRaw a) (u.rd F.AXIS_HWM_POSITION a / 256))
    ∧ (∃ (s u : State) (d a : Nat), u = s.atCmd d ∧ a < 8 ∧ u.hostOpen (F.AXIS_CTL_RESUME.at_ a) ∧ u.pressOn ∧ u.on
        F.AXIS_CFG_ENABLE a = true ∧ u.on F.AXIS_CFG_RED_EN a = true ∧ u.on F.AXIS_STATUS_ON_REDUNDANT a = false)
    ∧ (∃ (s u : State) (d a : Nat), u = s.atCmd d ∧ a < 8 ∧ u.hostOpen (F.AXIS_CTL_RESUME.at_ a) ∧ u.pressOn ∧ u.on
        F.AXIS_CFG_ENABLE a = true ∧ u.on F.AXIS_STATUS_ON_REDUNDANT a = true) :=
  ⟨⟨{}, 1, 40, 0, 41, by decide +kernel⟩,
   ⟨wit0, _, .encoderEdge 0 [(15, 0, 1)], 0, [(15, 0, 1)], [], rfl, by decide +kernel⟩,
   ⟨wit0, _, 0, 15, 0, 1, rfl, by decide +kernel⟩,
   ⟨({ wit0 with dt := 2 ^ 40 } : State).wr F.AXIS_CFG_ENABLE 1 7, _, 0, 7, rfl, by decide +kernel⟩,
   ⟨wit0.wr F.AXIS_STATUS_STATE 2 7, _, 0, 7, rfl, by decide +kernel⟩,
   ⟨(wit0.wr F.AXIS_CFG_ENABLE 1 7).wr F.AXIS_CFG_RED_EN 1 7, _, 0, 7, rfl, by decide +kernel⟩,
   ⟨(wit0.wr F.AXIS_CFG_ENABLE 1 7).wr F.AXIS_STATUS_ON_REDUNDANT 1 7, _, 0, 7, rfl, by decide +kernel⟩⟩

/-- States and operands that meet the hypotheses of each clause of LaneBringUp. -/
theorem test_wit_LaneBringUp :
    (∃ (s u : State) (d k : Nat), u = s.atCmd d ∧ k < 544 ∧ u.hostOpen (F.LANE_CFG_ENABLE.at_ k))
    ∧ (∃ (s u : State) (d k : Nat), u = s.atCmd d ∧ k < 544 ∧ u.pressOn ∧ u.rd F.LANE_STATE_STATE k = 1)
    ∧ (∃ (s u : State) (d k : Nat), u = s.atCmd d ∧ k < 544 ∧ u.pressOn ∧ u.rd F.LANE_STATE_STATE k = 2)
    ∧ (∃ (s u : State) (d k : Nat), u = s.atCmd d ∧ k < 544 ∧ u.pressOn ∧ u.rd F.LANE_STATE_STATE k ≠ 2)
    ∧ (∃ (s u : State) (d k hdr payload : Nat), u = s.atCmd d ∧ k < 544 ∧ hdr < 4 ∧ payload < 2 ^ 64 ∧ u.pressOn ∧ u.rd
        F.LANE_STATE_STATE k = 3 ∧ u.on F.LANE_STATE_CDR_LOCK k = true ∧ u.on F.LANE_STATE_BLOCK_LOCK k = false ∧ (u.lane
        k).inject = 0 ∧ (u.lane k).bufBits = 0 ∧ (u.lane k).buf = 0 ∧ (u.lane k).skip = false ∧ bit (u.eqByte (u.lane k).rate
        ((u.laneOf k).getD (u.lane k).lastLane) 7) 1 = 0)
    ∧ (∃ (s u : State) (d k : Nat), u = s.atCmd d ∧ k < 544 ∧ u.pressOn ∧ u.rd F.LANE_STATE_STATE k = 3 ∧ u.on
        F.LANE_STATE_BLOCK_LOCK k = false ∧ 64 ≤ (u.lane k).good)
    ∧ (∃ (s u : State) (d k : Nat), u = s.atCmd d ∧ k < 544 ∧ u.pressOn ∧ u.rd F.LANE_STATE_STATE k = 6 ∧ u.on
        F.LANE_STATE_BLOCK_LOCK k = false ∧ 64 ≤ (u.lane k).good)
    ∧ (∃ (s u : State) (d k : Nat), u = s.atCmd d ∧ k < 544 ∧ u.pressOn ∧ u.rd F.LANE_STATE_STATE k = 8 ∧ u.on
        F.LANE_STATE_BLOCK_LOCK k = false ∧ 8 ≤ (u.lane k).good)
    ∧ (∃ (s u : State) (d k : Nat), u = s.atCmd d ∧ k < 544 ∧ u.pressOn ∧ (u.lane k).good < (if u.rd F.LANE_STATE_STATE k = 8
        then 8 else 64))
    ∧ (∃ (s u : State) (d k : Nat), u = s.atCmd d ∧ k < 544 ∧ u.pressOn ∧ u.on F.LANE_STATE_BLOCK_LOCK k = true ∧ (u.lane
        k).winFail = true)
    ∧ (∃ (s u : State) (d k : Nat), u = s.atCmd d ∧ k < 544 ∧ u.pressOn ∧ (u.lane k).winFail = false)
    ∧ (∃ (s u : State) (d k : Nat), u = s.atCmd d ∧ k < 544 ∧ u.pressOn ∧ u.rd F.LANE_STATE_STATE k ≠ 5)
    ∧ (∃ (s u : State) (d k : Nat), u = s.atCmd d ∧ k < 544 ∧ u.pressOn ∧ u.rd F.LANE_STATE_STATE k = 5)
    ∧ (∃ (s u : State) (d k : Nat), u = s.atCmd d ∧ k < 544 ∧ u.pressOn ∧ u.rd F.LANE_STATE_STATE k = 7) :=
  ⟨⟨wit0, _, 0, 543, rfl, by decide +kernel⟩,
   ⟨wit0.wr F.LANE_STATE_STATE 1 543, _, 0, 543, rfl, by decide +kernel⟩,
   ⟨wit0.wr F.LANE_STATE_STATE 2 543, _, 0, 543, rfl, by decide +kernel⟩,
   ⟨wit0.wr F.LANE_STATE_STATE 1 0, _, 0, 0, rfl, by decide +kernel⟩,
   ⟨(wit0.wr F.LANE_STATE_STATE 3 0).wr F.LANE_STATE_CDR_LOCK 1 0, _, 0, 0, 1, 77, rfl, by decide +kernel⟩,
   ⟨(wit0.wr F.LANE_STATE_STATE 3 0).setLane 0 { good := 64 }, _, 0, 0, rfl, by decide +kernel⟩,
   ⟨(wit0.wr F.LANE_STATE_STATE 6 0).setLane 0 { good := 64 }, _, 0, 0, rfl, by decide +kernel⟩,
   ⟨(wit0.wr F.LANE_STATE_STATE 8 0).setLane 0 { good := 8 }, _, 0, 0, rfl, by decide +kernel⟩,
   ⟨(wit0.wr F.LANE_STATE_STATE 8 0).setLane 0 { good := 7 }, _, 0, 0, rfl, by decide +kernel⟩,
   ⟨((wit0.wr F.LANE_STATE_STATE 5 0).wr F.LANE_STATE_BLOCK_LOCK 1 0).setLane 0 { winFail := true }, _, 0, 0, rfl,
     by decide +kernel⟩,
   ⟨wit0, _, 0, 543, rfl, by decide +kernel⟩,
   ⟨wit0.wr F.LANE_STATE_STATE 1 0, _, 0, 0, rfl, by decide +kernel⟩,
   ⟨wit0.wr F.LANE_STATE_STATE 5 0, _, 0, 0, rfl, by decide +kernel⟩,
   ⟨wit0.wr F.LANE_STATE_STATE 7 0, _, 0, 0, rfl, by decide +kernel⟩⟩

/-- States and operands that meet the hypotheses of each clause of LaneTimeouts. -/
theorem test_wit_LaneTimeouts :
    (∃ (s u : State) (d : Nat) (k : Nat) (l : Nat), u = s.atCmd d ∧ k < 544 ∧ u.pressOn ∧ u.rd F.LANE_STATE_STATE k = 2 ∧
        (u.lane k).since + 2000000 ≤ u.clk ∧ u.laneOf k = some l ∧ u.hwMode 1 l = true)
    ∧ (∃ (s u : State) (d : Nat) (k : Nat) (l : Nat), u = s.atCmd d ∧ k < 544 ∧ u.pressOn ∧ u.rd F.LANE_STATE_STATE k = 3 ∧
        (u.lane k).since + 1000000 ≤ u.clk ∧ u.laneOf k = some l ∧ u.hwMode 1 l = true)
    ∧ (∃ (s u : State) (d : Nat) (k : Nat) (l : Nat), u = s.atCmd d ∧ k < 544 ∧ u.pressOn ∧ u.rd F.LANE_STATE_STATE k = 4 ∧
        (u.lane k).since + 100000000 ≤ u.clk ∧ u.laneOf k = some l ∧ u.hwMode 1 l = true)
    ∧ (∃ (s u : State) (d : Nat) (k : Nat) (l : Nat), u = s.atCmd d ∧ k < 544 ∧ u.pressOn ∧ u.rd F.LANE_STATE_STATE k = 6 ∧
        (u.lane k).since + 2000 ≤ u.clk ∧ u.laneOf k = some l ∧ u.hwMode 1 l = true)
    ∧ (∃ (s u : State) (d : Nat) (k : Nat) (l : Nat), u = s.atCmd d ∧ k < 544 ∧ u.pressOn ∧ u.rd F.LANE_STATE_STATE k = 8 ∧
        (u.lane k).since + cdiv (96 * blockTime (u.lane k).rate) 100 ≤ u.clk ∧ u.laneOf k = some l ∧ u.hwMode 1 l = true)
    ∧ (∃ (s u : State) (d : Nat) (k : Nat) (l : Nat), u = s.atCmd d ∧ k < 544 ∧ u.pressOn ∧ u.rd F.LANE_STATE_STATE k = 2 ∧
        (u.lane k).since + 2000000 ≤ u.clk ∧ u.laneOf k = some l ∧ u.hwMode 1 l = false)
    ∧ (∃ (s u : State) (d : Nat) (k : Nat), u = s.atCmd d ∧ k < 544 ∧ u.pressOn ∧ u.rd F.LANE_STATE_STATE k = 3 ∧ u.clk <
        (u.lane k).since + 1000000)
    ∧ (∃ (s u : State) (d : Nat) (k : Nat) (l : Nat), u = s.atCmd d ∧ k < 544 ∧ u.pressOn ∧ u.laneOf k = some l ∧ (u.lane
        k).tx.idle = true ∧ u.power.jtagTest = false)
    ∧ (∃ (s u : State) (d : Nat) (k : Nat), u = s.atCmd d ∧ k < 544 ∧ u.pressOn ∧ (u.lane k).tx.idle = false) :=
  ⟨⟨(({ wit0 with clk := 2000000 } : State).wr F.LANE_STATE_STATE 2 0).wr F.FUNC_MODE_CURRENT 0 1, _, 0, 0, 0, rfl,
     by decide +kernel⟩,
   ⟨(({ wit0 with clk := 1000000 } : State).wr F.LANE_STATE_STATE 3 0).wr F.FUNC_MODE_CURRENT 0 1, _, 0, 0, 0, rfl,
     by decide +kernel⟩,
   ⟨(({ wit0 with clk := 100000000 } : State).wr F.LANE_STATE_STATE 4 0).wr F.FUNC_MODE_CURRENT 0 1, _, 0, 0, 0, rfl,
     by decide +kernel⟩,
   ⟨(({ wit0 with clk := 2000 } : State).wr F.LANE_STATE_STATE 6 0).wr F.FUNC_MODE_CURRENT 0 1, _, 0, 0, 0, rfl,
     by decide +kernel⟩,
   ⟨((({ wit0 with clk := 246 } : State).wr F.LANE_STATE_STATE 8 0).wr F.FUNC_MODE_CURRENT 0 1), _, 0, 0, 0, rfl,
     by decide +kernel⟩,
   ⟨(({ wit0 with clk := 2000000 } : State).wr F.LANE_STATE_STATE 2 0).wr F.FUNC_MODE_CURRENT 1 1, _, 0, 0, 0, rfl,
     by decide +kernel⟩,
   ⟨wit0.wr F.LANE_STATE_STATE 3 0, _, 0, 0, rfl, by decide +kernel⟩,
   ⟨wit0.setLane 0 { tx := { idle := true } }, _, 0, 0, 0, rfl, by decide +kernel⟩,
   ⟨wit0, _, 0, 543, rfl, by decide +kernel⟩⟩

/-- States and operands that meet the hypotheses of each clause of LaneAdaptation. -/
theorem test_wit_LaneAdaptation :
    (∃ (s u : State) (d k v h : Nat), u = s.atCmd d ∧ k < 544 ∧ v < 128 ∧ h < 64 ∧ u.pressOn ∧ 65536 ≤ (u.lane k).fomN ∧ u.rd
        F.LANE_STATE_STATE k ≠ 5)
    ∧ (∃ (s u : State) (d k v h : Nat), u = s.atCmd d ∧ k < 544 ∧ u.pressOn ∧ (u.lane k).fomN < 65536)
    ∧ (∃ (s u : State) (d k v h : Nat), u = s.atCmd d ∧ k < 544 ∧ v < 128 ∧ h < 64 ∧ u.pressOn ∧ 65536 ≤ (u.lane k).fomN ∧
        u.rd F.LANE_STATE_STATE k = 5 ∧ (u.lane k).needRef = true ∧ (u.lane k).snapped = false)
    ∧ (∃ (s u : State) (d k v h : Nat), u = s.atCmd d ∧ k < 544 ∧ v < 128 ∧ h < 64 ∧ u.pressOn ∧ 65536 ≤ (u.lane k).fomN ∧
        u.rd F.LANE_STATE_STATE k = 5 ∧ (u.lane k).needRef = false ∧ (u.lane k).snapped = false ∧ 255 * v * h / 8001 + 24 ≤
        u.rd F.LANE_FOM_FOM_REF k)
    ∧ (∃ (s u : State) (d k ctle dfe : Nat), u = s.atCmd d ∧ k < 544 ∧ ctle < 3 ∧ dfe < 3 ∧ u.pressOn ∧ u.rd
        F.LANE_STATE_STATE k = 5 ∧ 4096 ≤ (u.lane k).trimN ∧ u.on F.LANE_CFG_TRIM_EN k = true ∧ u.on F.LANE_STATE_TRIM_FROZEN
        k = false)
    ∧ (∃ (s u : State) (d k ctle dfe : Nat), u = s.atCmd d ∧ k < 544 ∧ ctle < 3 ∧ dfe < 3 ∧ u.pressOn ∧ ((u.lane k).trimN <
        4096 ∨ u.on F.LANE_CFG_TRIM_EN k = false ∨ u.on F.LANE_STATE_TRIM_FROZEN k = true))
    ∧ (∃ (s u : State) (d k : Nat), u = s.atCmd d ∧ k < 544 ∧ u.pressOn ∧ u.rd F.LANE_STATE_STATE k = 5)
    ∧ (∃ (s u : State) (d k l : Nat), u = s.atCmd d ∧ k < 544 ∧ u.pressOn ∧ u.hostOpen (F.LANE_CTL_RETRAIN.at_ k) ∧ u.rd
        F.LANE_STATE_STATE k ∉ [0, 0xA, 0xB] ∧ u.laneOf k = some l)
    ∧ (∃ (s u : State) (d k : Nat), u = s.atCmd d ∧ k < 544 ∧ u.hostOpen (F.LANE_CTL_CLEAR_COUNTS.at_ k))
    ∧ (∃ (s u : State) (d k hdr payload : Nat), u = s.atCmd d ∧ k < 544 ∧ hdr < 4 ∧ payload < 2 ^ 64 ∧ u.pressOn ∧ u.rd
        F.LANE_STATE_STATE k ≠ 0xA ∧ u.on F.LANE_STATE_CDR_LOCK k = true)
    ∧ (∃ (s u : State) (d k hdr payload l : Nat), u = s.atCmd d ∧ k < 544 ∧ hdr < 4 ∧ payload < 2 ^ 64 ∧ u.pressOn ∧ u.rd
        F.LANE_STATE_STATE k = 0xA ∧ u.rd F.LANE_TEST_LOOP k = 3 ∧ u.rd F.LANE_TEST_RX_CHECK k = 0 ∧ u.laneOf k = some l ∧
        bit (u.eqByte (u.lane k).rate l 7) 1 = 0)
    ∧ (∃ (s u : State) (d k payload : Nat), u = s.atCmd d ∧ k < 544 ∧ payload < 2 ^ 64 ∧ u.pressOn ∧ u.rd F.LANE_STATE_STATE
        k = 5 ∧ u.on F.LANE_STATE_CDR_LOCK k = true ∧ u.on F.LANE_STATE_BLOCK_LOCK k = true ∧ (u.lane k).inject = 0 ∧ (u.lane
        k).bufBits = 0 ∧ (u.lane k).buf = 0 ∧ (u.lane k).skip = false ∧ (u.lane k).winFail = false ∧ bit (u.eqByte (u.lane
        k).rate ((u.laneOf k).getD (u.lane k).lastLane) 7) 1 = 0) :=
  ⟨⟨(wit0.wr F.LANE_STATE_STATE 3 0).setLane 0 { fomN := 65536 }, _, 0, 0, 127, 63, rfl, by decide +kernel⟩,
   ⟨wit0.setLane 0 { fomN := 65535 }, _, 0, 0, 127, 63, rfl, by decide +kernel⟩,
   ⟨(wit0.wr F.LANE_STATE_STATE 5 0).setLane 0 { fomN := 65536, needRef := true }, _, 0, 0, 127, 63, rfl, by decide +kernel⟩,
   ⟨((wit0.wr F.LANE_STATE_STATE 5 0).wr F.LANE_FOM_FOM_REF 24 0).setLane 0 { fomN := 65536 }, _, 0, 0, 0, 63, rfl,
     by decide +kernel⟩,
   ⟨((wit0.wr F.LANE_STATE_STATE 5 0).wr F.LANE_CFG_TRIM_EN 1 0).setLane 0 { trimN := 4096 }, _, 0, 0, 1, 2, rfl,
     by decide +kernel⟩,
   ⟨wit0.setLane 0 { trimN := 4095 }, _, 0, 0, 1, 2, rfl, by decide +kernel⟩,
   ⟨wit0.wr F.LANE_STATE_STATE 5 0, _, 0, 0, rfl, by decide +kernel⟩,
   ⟨wit0.wr F.LANE_STATE_STATE 5 0, _, 0, 0, 0, rfl, by decide +kernel⟩,
   ⟨wit0.wr F.LANE_EVTCNT_EXITS 5 0, _, 0, 0, rfl, by decide +kernel⟩,
   ⟨(wit0.wr F.LANE_STATE_STATE 5 0).wr F.LANE_STATE_CDR_LOCK 1 0, _, 0, 0, 1, 77, rfl, by decide +kernel⟩,
   ⟨(wit0.wr F.LANE_STATE_STATE 0xA 0).wr F.LANE_TEST_LOOP 3 0, _, 0, 0, 1, 77, 0, rfl, by decide +kernel⟩,
   ⟨((wit0.wr F.LANE_STATE_STATE 5 0).wr F.LANE_STATE_CDR_LOCK 1 0).wr F.LANE_STATE_BLOCK_LOCK 1 0, _, 0, 0, 77, rfl,
     by decide +kernel⟩⟩

/-- States and operands that meet the hypotheses of each clause of LaneTestAndInjection. -/
theorem test_wit_LaneTestAndInjection :
    (∃ (s u : State) (d : Nat) (k : Nat) (v : Nat), u = s.atCmd d ∧ k < 544 ∧ v < 2 ^ 32 ∧ bit v 16 = 1 ∧ u.pressOn ∧
        u.hostOpen (F.LANE_TEST_TEST_EN.at_ k) ∧ bits v 10 8 ≠ 7 ∧ bits v 6 4 ≠ 7 ∧ (u.rd F.LANE_STATE_STATE k = 5 ∨ u.rd
        F.LANE_STATE_STATE k = 6 ∨ u.rd F.LANE_STATE_STATE k = 9 ∨ u.on F.LANE_STATE_LISTEN k = true))
    ∧ (∃ (s u : State) (d : Nat) (k : Nat) (v : Nat), u = s.atCmd d ∧ k < 544 ∧ v < 2 ^ 32 ∧ bit v 16 = 1 ∧ u.pressOn ∧
        u.hostOpen (F.LANE_TEST_TEST_EN.at_ k) ∧ bits v 10 8 ≠ 7 ∧ bits v 6 4 ≠ 7 ∧ u.rd F.LANE_STATE_STATE k = 1 ∧ u.on
        F.LANE_STATE_LISTEN k = false)
    ∧ (∃ (s u : State) (d : Nat) (k : Nat) (v : Nat), u = s.atCmd d ∧ k < 544 ∧ v < 2 ^ 32 ∧ bit v 16 = 0 ∧ u.pressOn ∧
        u.hostOpen (F.LANE_TEST_TEST_EN.at_ k) ∧ bits v 10 8 ≠ 7 ∧ bits v 6 4 ≠ 7 ∧ u.rd F.LANE_STATE_STATE k = 0xA)
    ∧ (∃ (s u : State) (d : Nat) (k : Nat) (v : Nat), u = s.atCmd d ∧ (∃ l, u.laneOf k = some l ∧ (u.port l).up.size = 0) ∧ k
        < 544 ∧ v < 2 ^ 32 ∧ bit v 7 = 1 ∧ u.pressOn ∧ u.hostOpen (F.LANE_INJECT_FIRE.at_ k) ∧ bits v 5 3 < 5 ∧ bits v 1 0 =
        1 ∧ 0 < bits v 31 8 ∧ bit v 6 = 0 ∧ u.rd F.LANE_STATE_STATE k ≠ 0 ∧ (u.lane k).tx.fill ≠ 0 ∧ (u.lane k).tx.pads =
        true)
    ∧ (∃ (s u : State) (d : Nat) (k : Nat) (v : Nat), u = s.atCmd d ∧ k < 544 ∧ v < 2 ^ 32 ∧ bit v 7 = 1 ∧ u.pressOn ∧
        u.hostOpen (F.LANE_INJECT_FIRE.at_ k) ∧ bits v 5 3 < 5 ∧ bits v 1 0 = 2 ∧ 0 < bits v 31 8 ∧ bit v 6 = 0 ∧ u.rd
        F.LANE_STATE_STATE k ≠ 0)
    ∧ (∃ (s u : State) (d : Nat) (k : Nat), u = s.atCmd d ∧ k < 544 ∧ u.pressOn ∧ u.on F.LANE_INJECT_REPEAT k = true ∧ u.rd
        F.LANE_STATE_STATE k ≠ 0 ∧ u.rd F.LANE_INJECT_WHERE k = 2 ∧ u.rd F.LANE_INJECT_INTERVAL k ≤ (u.lane k).injN)
    ∧ (∃ (s u : State) (d : Nat) (k : Nat), u = s.atCmd d ∧ k < 544 ∧ u.pressOn ∧ (u.on F.LANE_INJECT_REPEAT k = false ∨
        (u.rd F.LANE_INJECT_WHERE k = 2 ∧ (u.lane k).injN < u.rd F.LANE_INJECT_INTERVAL k))) :=
  ⟨⟨wit0.wr F.LANE_STATE_STATE 6 0, _, 0, 0, 0x10011, rfl, by decide +kernel⟩,
   ⟨(wit0.wr F.LANE_STATE_STATE 1 0).wr F.LANE_CHK_BITS_COUNT 8 0, _, 0, 0, 0x10132, rfl, by decide +kernel⟩,
   ⟨wit0.wr F.LANE_STATE_STATE 0xA 0, _, 0, 0, 0, rfl, by decide +kernel⟩,
   ⟨(wit0.wr F.LANE_STATE_STATE 5 0).setLane 0 { tx := { fill := 1, pads := true } }, _, 0, 0, 0x1A1, rfl, ⟨0,
     by decide +kernel⟩, by decide +kernel⟩,
   ⟨wit0.wr F.LANE_STATE_STATE 5 0, _, 0, 0, 0x1A2, rfl, by decide +kernel⟩,
   ⟨((((wit0.wr F.LANE_STATE_STATE 5 0).wr F.LANE_INJECT_REPEAT 1 0).wr F.LANE_INJECT_WHERE 2 0).wr F.LANE_INJECT_INTERVAL 9
     0).setLane 0 { injN := 9 }, _, 0, 0, rfl, by decide +kernel⟩,
   ⟨((((wit0.wr F.LANE_STATE_STATE 5 0).wr F.LANE_INJECT_REPEAT 1 0).wr F.LANE_INJECT_WHERE 2 0).wr F.LANE_INJECT_INTERVAL 9
     0).setLane 0 { injN := 8 }, _, 0, 0, rfl, by decide +kernel⟩⟩

/-- States and operands that meet the hypotheses of each clause of LaneSpares. -/
theorem test_wit_LaneSpares :
    (∃ (s u : State) (d : Nat) (g : Nat) (pad k l : Nat), u = s.atCmd d ∧ g < 32 ∧ u.pressOn ∧ (u.lgrp g).pad = some pad ∧
        u.rd F.LGRP_SPARE_SPARE_STATE g = 0 ∧ k = 17 * g + u.rd F.LGRP_SPARE_SPARE_SLICE g ∧ l = 16 * g + pad ∧ k < 544)
    ∧ (∃ (s u : State) (d g pad : Nat), u = s.atCmd d ∧ g < 32 ∧ u.pressOn ∧ (u.lgrp g).pad = some pad ∧ u.rd
        F.LGRP_SPARE_SPARE_STATE g = 1 ∧ (u.lgrp g).byLoss = false ∧ 256 ≤ (u.lgrp g).cmpN ∧ (u.lgrp g).cmpBad = false ∧ u.on
        F.LANE_STATE_CDR_LOCK (u.spareSlice g) = true ∧ u.on F.LANE_STATE_BLOCK_LOCK (u.spareSlice g) = true ∧ u.laneState
        (16 * g + pad) = 5)
    ∧ (∃ (s u : State) (d g pad : Nat), u = s.atCmd d ∧ g < 32 ∧ u.pressOn ∧ (u.lgrp g).pad = some pad ∧ u.rd
        F.LGRP_SPARE_SPARE_STATE g = 1 ∧ (u.lgrp g).byLoss = false ∧ 256 ≤ (u.lgrp g).cmpN ∧ (u.lgrp g).cmpBad = true ∧
        (u.lgrp g).restarts < 3)
    ∧ (∃ (s u : State) (d g pad : Nat), u = s.atCmd d ∧ g < 32 ∧ u.pressOn ∧ (u.lgrp g).pad = some pad ∧ u.rd
        F.LGRP_SPARE_SPARE_STATE g = 1 ∧ (u.lgrp g).byLoss = false ∧ 256 ≤ (u.lgrp g).cmpN ∧ (u.lgrp g).cmpBad = true ∧ ¬
        (u.lgrp g).restarts < 3)
    ∧ (∃ (s u : State) (d g pad k : Nat), u = s.atCmd d ∧ g < 32 ∧ u.pressOn ∧ (u.lgrp g).pad = some pad ∧ (u.lgrp g).byLoss
        = true ∧ k = u.sliceOf (16 * g + pad) ∧ u.laneSt k = 6 ∧ u.rd F.LGRP_SPARE_SPARE_STATE g = 1 ∧ u.on
        F.LANE_STATE_BLOCK_LOCK (u.spareSlice g) = true ∧ (u.lane k).good < 64)
    ∧ (∃ (s u : State) (d g pad k : Nat), u = s.atCmd d ∧ g < 32 ∧ u.pressOn ∧ (u.lgrp g).pad = some pad ∧ (u.lgrp g).byLoss
        = true ∧ k = u.sliceOf (16 * g + pad) ∧ u.laneSt k = 6 ∧ u.rd F.LGRP_SPARE_SPARE_STATE g = 1 ∧ u.on
        F.LANE_STATE_BLOCK_LOCK (u.spareSlice g) = true ∧ 64 ≤ (u.lane k).good)
    ∧ (∃ (s u : State) (d g pad k : Nat), u = s.atCmd d ∧ g < 32 ∧ u.pressOn ∧ (u.lgrp g).pad = some pad ∧ (u.lgrp g).byLoss
        = true ∧ k = u.sliceOf (16 * g + pad) ∧ u.laneSt k = 6 ∧ u.rd F.LGRP_SPARE_SPARE_STATE g = 1 ∧ u.on
        F.LANE_STATE_BLOCK_LOCK (u.spareSlice g) = false)
    ∧ (∃ (s u : State) (d : Nat) (g : Nat) (errs : Nat) (k at_ : Nat), u = s.atCmd d ∧ g < 32 ∧ u.pressOn ∧ (u.lgrp g).test =
        some (k, at_) ∧ at_ + 1000000000 ≤ u.clk ∧ k < 544 ∧ errs = 0)
    ∧ (∃ (s u : State) (d : Nat) (g : Nat) (errs : Nat) (k at_ : Nat), u = s.atCmd d ∧ g < 32 ∧ u.pressOn ∧ (u.lgrp g).test =
        some (k, at_) ∧ at_ + 1000000000 ≤ u.clk ∧ k < 544 ∧ errs ≠ 0)
    ∧ (∃ (s u : State) (d : Nat) (g : Nat) (pad : Nat), u = s.atCmd d ∧ g < 32 ∧ pad < 16 ∧ u.pressOn ∧ u.hostOpen
        (F.LGRP_CTL_OP.at_ g) ∧ u.laneState (16 * g + pad) = 5 ∧ (u.lgrp g).pad = none ∧ u.rd F.LGRP_SPARE_SPARE_STATE g = 0
        ∧ u.rd F.LGRP_SPARE_SPARE_SLICE g ≠ 0x1F)
    ∧ (∃ (s u : State) (d : Nat) (g : Nat) (pad : Nat), u = s.atCmd d ∧ g < 32 ∧ pad < 16 ∧ u.pressOn ∧ u.hostOpen
        (F.LGRP_CTL_OP.at_ g) ∧ (u.laneState (16 * g + pad) ≠ 5 ∨ (u.lgrp g).pad.isSome = true))
    ∧ (∃ (s u : State) (d : Nat) (g : Nat) (pad k : Nat), u = s.atCmd d ∧ g < 32 ∧ u.pressOn ∧ u.hostOpen (F.LGRP_CTL_OP.at_
        g) ∧ (u.lgrp g).pad = some pad ∧ k = 17 * g + u.rd F.LGRP_SPARE_SPARE_SLICE g ∧ k < 544) :=
  ⟨⟨wit0.setLgrp 31 { pad := some 3 }, _, 0, 31, 3, 543, 499, rfl, by decide +kernel⟩,
   ⟨(((((wit0.setLgrp 31 { pad := some 3, cmpN := 256 }).wr F.LGRP_SPARE_SPARE_STATE 1 31).wr F.LANE_STATE_CDR_LOCK 1 543).wr
     F.LANE_STATE_BLOCK_LOCK 1 543).wr F.LANE_STATE_STATE 5 530), _, 0, 31, 3, rfl, by decide +kernel⟩,
   ⟨((wit0.setLgrp 31 { pad := some 3, cmpN := 256, cmpBad := true, restarts := 2 }).wr F.LGRP_SPARE_SPARE_STATE 1 31), _, 0,
     31, 3, rfl, by decide +kernel⟩,
   ⟨((wit0.setLgrp 31 { pad := some 3, cmpN := 256, cmpBad := true, restarts := 3 }).wr F.LGRP_SPARE_SPARE_STATE 1 31), _, 0,
     31, 3, rfl, by decide +kernel⟩,
   ⟨((((wit0.setLgrp 31 { pad := some 3, byLoss := true }).wr F.LGRP_SPARE_SPARE_STATE 1 31).wr F.LANE_STATE_BLOCK_LOCK 1
     543).wr F.LANE_STATE_STATE 6 530), _, 0, 31, 3, 530, rfl, by decide +kernel⟩,
   ⟨(((((wit0.setLgrp 31 { pad := some 3, byLoss := true }).wr F.LGRP_SPARE_SPARE_STATE 1 31).wr F.LANE_STATE_BLOCK_LOCK 1
     543).wr F.LANE_STATE_STATE 6 530).setLane 530 { good := 64 }), _, 0, 31, 3, 530, rfl, by decide +kernel⟩,
   ⟨(((wit0.setLgrp 31 { pad := some 3, byLoss := true }).wr F.LGRP_SPARE_SPARE_STATE 1 31).wr F.LANE_STATE_STATE 6 530), _,
     0, 31, 3, 530, rfl, by decide +kernel⟩,
   ⟨({ wit0 with clk := 1000000000 } : State).setLgrp 31 { test := some (530, 0) }, _, 0, 31, 0, 530, 0, rfl,
     by decide +kernel⟩,
   ⟨({ wit0 with clk := 1000000000 } : State).setLgrp 31 { test := some (530, 0) }, _, 0, 31, 1, 530, 0, rfl,
     by decide +kernel⟩,
   ⟨wit0.wr F.LANE_STATE_STATE 5 530, _, 0, 31, 3, rfl, by decide +kernel⟩,
   ⟨wit0, _, 0, 31, 15, rfl, by decide +kernel⟩,
   ⟨(wit0.setLgrp 31 { pad := some 3 }).wr F.LGRP_SPARE_SPARE_STATE 1 31, _, 0, 31, 3, 543, rfl, by decide +kernel⟩⟩

/-- States and operands that meet the hypotheses of each clause of BondAlignment. -/
theorem test_wit_BondAlignment :
    (∃ (s u : State) (d p : Nat) (ms : List (Option Marker)) (v : SetView) (seq : Nat), u = s.atCmd d ∧ ms = u.markersOf p ∧
        v = u.viewSet p ms ∧ p < 512 ∧ u.pressOn ∧ u.setDue p = true ∧ u.bond p = 3 ∧ (u.port p).marker = some seq ∧
        setMisses ms (u.alignLanes p ms) seq = false ∧ (setDelays ms (u.alignLanes p ms)).foldl max 0 ≤ 48)
    ∧ (∃ (s u : State) (d p : Nat) (ms : List (Option Marker)) (v : SetView) (seq : Nat), u = s.atCmd d ∧ ms = u.markersOf p
        ∧ v = u.viewSet p ms ∧ p < 512 ∧ u.pressOn ∧ u.setDue p = true ∧ u.bond p = 3 ∧ (u.port p).marker = some seq ∧
        setMisses ms (u.alignLanes p ms) seq = true ∧ (u.port p).misses = 0)
    ∧ (∃ (s u : State) (d p : Nat) (ms : List (Option Marker)) (v : SetView) (seq : Nat), u = s.atCmd d ∧ ms = u.markersOf p
        ∧ v = u.viewSet p ms ∧ p < 512 ∧ u.pressOn ∧ u.setDue p = true ∧ u.bond p = 3 ∧ (u.port p).marker = some seq ∧
        setMisses ms (u.alignLanes p ms) seq = true ∧ (u.port p).misses = 1)
    ∧ (∃ (s u : State) (d p : Nat) (ms : List (Option Marker)) (v : SetView), u = s.atCmd d ∧ ms = u.markersOf p ∧ v =
        u.viewSet p ms ∧ p < 512 ∧ u.pressOn ∧ u.setDue p = true ∧ u.bond p = 2 ∧ v.equal = true ∧ v.wide = false ∧ v.miss =
        false ∧ (u.port p).lined = 1)
    ∧ (∃ (s u : State) (d p : Nat), u = s.atCmd d ∧ p < 512 ∧ u.pressOn ∧ u.setDue p = false)
    ∧ (∃ (s : State) (p q : Nat) (b : Blk) (rest : List Blk), s.laneCount p ≠ 1 ∧ (s.port p).row ≠ 16383 ∧ s.memberAt p
        (s.port p).turn = some q ∧ (s.port q).rx = b :: rest ∧ isAlign b = true)
    ∧ (∃ (s : State) (p q : Nat) (b : Blk) (rest : List Blk), (s.laneCount p = 1 ∨ (s.port p).row ≠ 16383) ∧ s.memberAt p
        (s.port p).turn = some q ∧ (s.port q).rx = b :: rest ∧ isAlign b = false)
    ∧ (∃ (s u : State) (d p : Nat), u = s.atCmd d ∧ p < 512 ∧ u.pressOn ∧ u.isMaster p = true ∧ u.bond p = 2 ∧ (u.port
        p).alignAt + u.markerPeriod p 16 ≤ u.clk)
    ∧ (∃ (s u : State) (d p t0 : Nat), u = s.atCmd d ∧ p < 512 ∧ u.pressOn ∧ (u.port p).resetWaits = true ∧ (u.port
        p).lastReset = some t0 ∧ t0 + 100000000 ≤ u.clk)
    ∧ (∃ (s u : State) (d p t0 : Nat), u = s.atCmd d ∧ p < 512 ∧ u.pressOn ∧ (u.port p).resetWaits = true ∧ (u.port
        p).lastReset = some t0 ∧ u.clk < t0 + 100000000) :=
  ⟨⟨(witBond 0 3).setPort 0 { marker := some 5, rx := [(2, 0x50066, 0)] }, _, 0, 0, _, _, 5, rfl, rfl, rfl,
     by decide +kernel⟩,
   ⟨(witBond 0 3).setPort 0 { marker := some 6, rx := [(2, 0x50066, 0)] }, _, 0, 0, _, _, 6, rfl, rfl, rfl,
     by decide +kernel⟩,
   ⟨(witBond 0 3).setPort 0 { marker := some 6, misses := 1, rx := [(2, 0x50066, 0)] }, _, 0, 0, _, _, 6, rfl, rfl, rfl,
     by decide +kernel⟩,
   ⟨(witBond 0 2).setPort 0 { marker := some 5, lined := 1, rx := [(2, 0x50066, 0)] }, _, 0, 0, _, _, rfl, rfl, rfl,
     by decide +kernel⟩,
   ⟨witBond 511 3, _, 0, 511, rfl, by decide +kernel⟩,
   ⟨((witBond 0 3).wr F.COBEX_CFG_LANE_COUNT 4 0).setPort 0 { rx := [(2, 0x50066, 0)] }, 0, 0, (2, 0x50066, 0), [],
     by decide +kernel⟩,
   ⟨(witBond 0 3).setPort 0 { rx := [(1, 7, 0)] }, 0, 0, (1, 7, 0), [], by decide +kernel⟩,
   ⟨{ witBond 511 2 with clk := 2000000000 }, _, 0, 511, rfl, by decide +kernel⟩,
   ⟨({ wit0 with clk := 100000000 } : State).setPort 511 { resetWaits := true, lastReset := some 0 }, _, 0, 511, 0, rfl,
     by decide +kernel⟩,
   ⟨({ wit0 with clk := 99999999 } : State).setPort 511 { resetWaits := true, lastReset := some 0 }, _, 0, 511, 0, rfl,
     by decide +kernel⟩⟩

/-- States and operands that meet the hypotheses of each clause of CameraCapabilities. -/
theorem test_wit_CameraCapabilities :
    (∃ (s u : State) (d l : Nat), u = s.atCmd d ∧ l < 512 ∧ u.pressOn ∧ u.laneState l = 4 ∧ (u.port l).capsReqAt ≤ u.clk)
    ∧ (∃ (s u w : State) (d q version : Nat) (block : Bytes) (crcOk : Bool), u = s.atCmd d ∧ w = u.setPort q
        { u.port q with caps := [] } ∧ q < 512 ∧ u.pressOn ∧ u.laneState q = 4 ∧ capsPacket (u.port q).caps = some (version,
        block, crcOk) ∧ w.capsReason q version block crcOk = 0)
    ∧ (∃ (s u w : State) (d q version : Nat) (block : Bytes) (crcOk : Bool), u = s.atCmd d ∧ w = u.setPort q
        { u.port q with caps := [] } ∧ q < 512 ∧ u.pressOn ∧ u.laneState q = 4 ∧ capsPacket (u.port q).caps = some (version,
        block, crcOk) ∧ w.capsReason q version block crcOk ≠ 0)
    ∧ (∃ (s u w : State) (d q version : Nat) (block : Bytes) (crcOk : Bool), u = s.atCmd d ∧ w = u.setPort q
        { u.port q with caps := [] } ∧ q < 512 ∧ u.pressOn ∧ u.laneState q = 4 ∧ capsPacket (u.port q).caps = some (version,
        block, crcOk) ∧ crcOk = false)
    ∧ (∃ (s u : State) (d q : Nat), u = s.atCmd d ∧ q < 512 ∧ u.pressOn ∧ (u.laneState q ≠ 4 ∨ capsPacket (u.port q).caps =
        none)) :=
  ⟨⟨wit0.wr F.LANE_STATE_STATE 4 (wit0.sliceOf 511), _, 0, 511, rfl, by decide +kernel⟩,
   ⟨(wit0.wr F.LANE_STATE_STATE 4 (wit0.sliceOf 511)).setPort 511 { caps := witCaps witBlock 0 }, _, _, 0, 511, 1, witBlock,
     true, rfl, rfl, by decide +kernel⟩,
   ⟨(wit0.wr F.LANE_STATE_STATE 4 (wit0.sliceOf 511)).setPort 511 { caps := witCaps (zeros 64) 0 }, _, _, 0, 511, 1, zeros
     64, true, rfl, rfl, by decide +kernel⟩,
   ⟨(wit0.wr F.LANE_STATE_STATE 4 (wit0.sliceOf 511)).setPort 511 { caps := witCaps witBlock 1 }, _, _, 0, 511, 1, witBlock,
     false, rfl, rfl, by decide +kernel⟩,
   ⟨wit0, _, 0, 511, rfl, by decide +kernel⟩⟩

/-- States and operands that meet the hypotheses of each clause of CameraCommands. -/
theorem test_wit_CameraCommands :
    (∃ (s u : State) (d : Nat) (p : Nat) (len : Nat) (addr : Nat), u = s.atCmd d ∧ p < 512 ∧ len ≤ 32 ∧ addr < 2 ^ 32 ∧
        u.hostOpen (F.COBEX_CMD_OP.at_ p) ∧ u.pressOn ∧ u.on F.COBEX_RSP_BUSY p = false ∧ u.isMaster p = true ∧ u.bond p = 3)
    ∧ (∃ (s u : State) (d : Nat) (p : Nat) (len : Nat) (addr : Nat), u = s.atCmd d ∧ p < 512 ∧ len ≤ 32 ∧ addr < 2 ^ 32 ∧
        u.hostOpen (F.COBEX_CMD_OP.at_ p) ∧ u.pressOn ∧ u.on F.COBEX_RSP_BUSY p = false ∧ u.isMaster p = true ∧ u.bond p = 3)
    ∧ (∃ (s u : State) (d : Nat) (p : Nat), u = s.atCmd d ∧ p < 512 ∧ u.hostOpen (F.COBEX_CMD_OP.at_ p) ∧ u.pressOn ∧ u.on
        F.COBEX_RSP_BUSY p = false ∧ u.isMaster p = true ∧ u.bond p = 3)
    ∧ (∃ (s u : State) (d : Nat) (p : Nat), u = s.atCmd d ∧ p < 512 ∧ u.hostOpen (F.COBEX_CMD_OP.at_ p) ∧ u.pressOn ∧ u.on
        F.COBEX_RSP_BUSY p = false ∧ u.isMaster p = true ∧ (u.bond p = 3 ∨ u.bond p = 4))
    ∧ (∃ (s u : State) (d : Nat) (p : Nat), u = s.atCmd d ∧ p < 512 ∧ u.hostOpen (F.COBEX_CMD_OP.at_ p) ∧ u.pressOn ∧ u.on
        F.COBEX_RSP_BUSY p = false ∧ u.isMaster p = true ∧ u.bond p = 3)
    ∧ (∃ (s u : State) (d : Nat) (p : Nat), u = s.atCmd d ∧ p < 512 ∧ u.hostOpen (F.COBEX_CMD_OP.at_ p) ∧ u.pressOn ∧ u.on
        F.COBEX_RSP_BUSY p = false ∧ u.isMaster p = true ∧ u.bond p = 3)
    ∧ (∃ (s u : State) (d : Nat) (p : Nat) (op : Nat) (len : Nat) (addr : Nat), u = s.atCmd d ∧ p < 512 ∧ 0x80 ≤ op ∧ op <
        256 ∧ len ≤ 32 ∧ addr < 2 ^ 32 ∧ u.hostOpen (F.COBEX_CMD_OP.at_ p) ∧ u.pressOn ∧ u.on F.COBEX_RSP_BUSY p = false ∧
        u.isMaster p = true ∧ u.bond p = 3)
    ∧ (∃ (s u : State) (d : Nat) (p : Nat) (len : Nat) (addr : Nat), u = s.atCmd d ∧ p < 512 ∧ len < 256 ∧ addr < 2 ^ 32 ∧
        u.hostOpen (F.COBEX_CMD_OP.at_ p) ∧ u.pressOn ∧ u.on F.COBEX_RSP_BUSY p = false ∧ u.isMaster p = true ∧ 32 < len)
    ∧ (∃ (s u : State) (d : Nat) (p : Nat) (len : Nat) (addr : Nat), u = s.atCmd d ∧ p < 512 ∧ len < 256 ∧ addr < 2 ^ 32 ∧
        u.hostOpen (F.COBEX_CMD_OP.at_ p) ∧ u.pressOn ∧ u.on F.COBEX_RSP_BUSY p = true)
    ∧ (∃ (s u : State) (d p tag : Nat) (k : RspS) (c : CmdS), u = s.atCmd d ∧ p < 512 ∧ u.pressOn ∧ u.firstOf p = some (.rsp
        k true) ∧ tag = bits k.head 15 8 ∧ u.cmdAt p tag = some c ∧ c.owner = 0)
    ∧ (∃ (s u : State) (d p tag : Nat) (k : RspS), u = s.atCmd d ∧ p < 512 ∧ u.pressOn ∧ u.firstOf p = some (.rsp k true) ∧
        tag = bits k.head 15 8 ∧ u.cmdAt p tag = none ∧ tag ∉ (u.port p).quiet)
    ∧ (∃ (s u : State) (d p : Nat) (k : RspS), u = s.atCmd d ∧ p < 512 ∧ u.pressOn ∧ u.firstOf p = some (.rsp k false))
    ∧ (∃ (s u : State) (d : Nat) (p : Nat) (tag : Nat) (c : CmdS), u = s.atCmd d ∧ p < 512 ∧ tag < 256 ∧ u.pressOn ∧ u.cmdAt
        p tag = some c ∧ c.owner = 0 ∧ c.at_ + 1000 * u.rd F.COBEX_TIMING_CMD_TIMEOUT_US p ≤ u.clk)
    ∧ (∃ (s u : State) (d : Nat) (p : Nat), u = s.atCmd d ∧ p < 512 ∧ u.hostOpen (F.COBEX_CTL_LINK_RESET.at_ p) ∧ u.pressOn ∧
        u.isMaster p = true)
    ∧ (∃ (s u : State) (d : Nat) (p : Nat), u = s.atCmd d ∧ p < 512 ∧ u.hostOpen (F.COBEX_CTL_CLEAR_COUNTS.at_ p)) :=
  ⟨⟨witBond 511 3, _, 0, 511, 32, 0xFFFFFFFF, rfl, by decide +kernel⟩,
   ⟨witBond 511 3, _, 0, 511, 32, 0xFFFFFFFF, rfl, by decide +kernel⟩,
   ⟨witBond 0 3, _, 0, 0, rfl, by decide +kernel⟩,
   ⟨witBond 0 4, _, 0, 0, rfl, by decide +kernel⟩,
   ⟨witBond 0 3, _, 0, 0, rfl, by decide +kernel⟩,
   ⟨witBond 0 3, _, 0, 0, rfl, by decide +kernel⟩,
   ⟨witBond 511 3, _, 0, 511, 255, 32, 1, rfl, by decide +kernel⟩,
   ⟨witBond 511 3, _, 0, 511, 33, 0, rfl, by decide +kernel⟩,
   ⟨(witBond 511 3).wr F.COBEX_RSP_BUSY 1 511, _, 0, 511, 255, 0, rfl, by decide +kernel⟩,
   ⟨(witBond 0 3).setPort 0 { cmds := [⟨255, 1, 0, 0⟩], inbox := [.rsp { head := 0xFF00 } true] }, _, 0, 0, 255,
     { head := 0xFF00 }, ⟨255, 1, 0, 0⟩, rfl, by decide +kernel⟩,
   ⟨(witBond 0 3).setPort 0 { inbox := [.rsp { head := 0xFF00 } true] }, _, 0, 0, 255, { head := 0xFF00 }, rfl,
     by decide +kernel⟩,
   ⟨(witBond 0 3).setPort 0 { inbox := [.rsp { head := 0xFF00 } false] }, _, 0, 0, { head := 0xFF00 }, rfl,
     by decide +kernel⟩,
   ⟨({ witBond 0 3 with clk := 65536000 } : State).setPort 0 { cmds := [⟨255, 1, 0, 0⟩] }, _, 0, 0, 255, ⟨255, 1, 0, 0⟩, rfl,
     by decide +kernel⟩,
   ⟨witBond 511 3, _, 0, 511, rfl, by decide +kernel⟩,
   ⟨(witBond 511 3).wr F.COBEX_ERRCNT_GAPS 9 511, _, 0, 511, rfl, by decide +kernel⟩⟩

/-- States and operands that meet the hypotheses of each clause of CameraEvents. -/
theorem test_wit_CameraEvents :
    (∃ (s u w : State) (d p pay dt : Nat), u = s.atCmd d ∧ w = (u.takeItem p).raise (ev 0x09 (u.rd F.COBEX_CFG_HEARTH p)) ∧ p
        < 512 ∧ u.pressOn ∧ u.firstOf p = some (.event pay dt) ∧ w.on F.COBEX_EVT_EVT_EN p = false)
    ∧ (∃ (s u w : State) (d p pay dt src : Nat), u = s.atCmd d ∧ w = (u.takeItem p).raise (ev 0x09 (u.rd F.COBEX_CFG_HEARTH
        p)) ∧ p < 512 ∧ u.pressOn ∧ u.firstOf p = some (.event pay dt) ∧ w.on F.COBEX_EVT_EVT_EN p = true ∧ bits pay 15 8 ≠ 1
        ∧ src = srcNo 6 (w.rd F.COBEX_CFG_MASTER p))
    ∧ (∃ (s u : State) (d p : Nat), u = s.atCmd d ∧ p < 512 ∧ u.pressOn ∧ u.firstOf p = some .beat)
    ∧ (∃ (s u : State) (d p : Nat), u = s.atCmd d ∧ p < 512 ∧ u.pressOn ∧ u.firstOf p ≠ some .beat)
    ∧ (∃ (s u : State) (d p : Nat), u = s.atCmd d ∧ p < 512 ∧ u.pressOn ∧ u.isMaster p = true ∧ u.bond p = 3 ∧ (u.port
        p).hbAt + 10000 * u.rd F.COBEX_TIMING_HB_TIMEOUT p ≤ u.clk)
    ∧ (∃ (s u : State) (d p : Nat), u = s.atCmd d ∧ p < 512 ∧ u.pressOn ∧ u.isMaster p = true ∧ u.bond p = 3 ∧ (u.port
        p).hbSent + 100000 ≤ u.clk) :=
  ⟨⟨(witBond 511 3).setPort 511 { inbox := [.event 0x100 0] }, _, _, 0, 511, 0x100, 0, rfl, rfl, by decide +kernel⟩,
   ⟨((witBond 511 3).wr F.COBEX_EVT_EVT_EN 1 511).setPort 511 { inbox := [.event 0x200 9] }, _, _, 0, 511, 0x200, 9, srcNo 6
     511, rfl, rfl, by decide +kernel⟩,
   ⟨(witBond 511 3).setPort 511 { inbox := [.beat] }, _, 0, 511, rfl, by decide +kernel⟩,
   ⟨witBond 511 3, _, 0, 511, rfl, by decide +kernel⟩,
   ⟨{ witBond 511 3 with clk := 10000000 }, _, 0, 511, rfl, by decide +kernel⟩,
   ⟨{ witBond 511 3 with clk := 100000 }, _, 0, 511, rfl, by decide +kernel⟩⟩

/-- States and operands that meet the hypotheses of each clause of FramesAndPackets. -/
theorem test_wit_FramesAndPackets :
    (∃ (s u v : State) (d p pay dt bad n idx : Nat) (e : LedgerE), u = s.atCmd d ∧ v = (u.takeItem p).setPort p
        { (u.takeItem p).port p with dropFrame := false } ∧ p < 512 ∧ u.pressOn ∧ u.fedBy p = some n ∧ u.firstOf p = some
        (.frameStart pay dt) ∧ 1 ≤ fsFormat pay ∧ fsFormat pay ≤ 4 ∧ (v.hth n).frame = none ∧ v.entryOf (v.logicalOf n)
        (fsFrameNo pay) = some (idx, e) ∧ e.state = 1 ∧ (v.port p).attachDt < e.dt ∧ fsFormat pay = v.rd F.HEARTH_CFG_FORMAT
        n ∧ fsStreams pay = v.bandsN n)
    ∧ (∃ (s u v : State) (d p pay dt bad n idx : Nat) (e : LedgerE), u = s.atCmd d ∧ v = (u.takeItem p).setPort p
        { (u.takeItem p).port p with dropFrame := false } ∧ p < 512 ∧ u.pressOn ∧ u.fedBy p = some n ∧ u.firstOf p = some
        (.frameStart pay dt) ∧ 1 ≤ fsFormat pay ∧ fsFormat pay ≤ 4 ∧ (v.hth n).frame = none ∧ v.entryOf (v.logicalOf n)
        (fsFrameNo pay) = some (idx, e) ∧ (e.state ≠ 1 ∨ e.dt ≤ (v.port p).attachDt))
    ∧ (∃ (s u v : State) (d p pay dt bad n idx : Nat) (e : LedgerE), u = s.atCmd d ∧ v = (u.takeItem p).setPort p
        { (u.takeItem p).port p with dropFrame := false } ∧ p < 512 ∧ u.pressOn ∧ u.fedBy p = some n ∧ u.firstOf p = some
        (.frameStart pay dt) ∧ 1 ≤ fsFormat pay ∧ fsFormat pay ≤ 4 ∧ (v.hth n).frame = none ∧ v.entryOf (v.logicalOf n)
        (fsFrameNo pay) = some (idx, e) ∧ e.state = 1 ∧ (v.port p).attachDt < e.dt ∧ (fsFormat pay ≠ v.rd F.HEARTH_CFG_FORMAT
        n ∨ fsStreams pay ≠ v.bandsN n))
    ∧ (∃ (s u v : State) (d p pay dt bad n : Nat), u = s.atCmd d ∧ v = (u.takeItem p).setPort p
        { (u.takeItem p).port p with dropFrame := false } ∧ p < 512 ∧ u.pressOn ∧ u.fedBy p = some n ∧ u.firstOf p = some
        (.frameStart pay dt) ∧ 1 ≤ fsFormat pay ∧ fsFormat pay ≤ 4 ∧ (v.hth n).frame = none ∧ v.entryOf (v.logicalOf n)
        (fsFrameNo pay) = none)
    ∧ (∃ (s u w : State) (d p pay dt bad n : Nat), u = s.atCmd d ∧ w = u.takeItem p ∧ p < 512 ∧ u.pressOn ∧ u.fedBy p = some
        n ∧ u.firstOf p = some (.frameStart pay dt) ∧ (fsFormat pay = 0 ∨ 5 ≤ fsFormat pay))
    ∧ (∃ (s u : State) (d p bad : Nat), u = s.atCmd d ∧ (∀ pay dt, u.firstOf p ≠ some (.frameStart pay dt)) ∧ p < 512 ∧
        u.pressOn)
    ∧ (∃ (s u w : State) (d p pay dt bad n power : Nat) (f : FrameS), u = s.atCmd d ∧ w = u.takeItem p ∧ p < 512 ∧ u.pressOn
        ∧ u.fedBy p = some n ∧ u.firstOf p = some (.frameEnd pay dt) ∧ (w.port p).dropFrame = false ∧ (w.hth n).frame = some
        f)
    ∧ (∃ (s u w : State) (d p pay dt bad n power : Nat), u = s.atCmd d ∧ w = u.takeItem p ∧ p < 512 ∧ u.pressOn ∧ u.fedBy p =
        some n ∧ u.firstOf p = some (.frameEnd pay dt) ∧ (w.port p).dropFrame = false ∧ (w.hth n).frame = none)
    ∧ (∃ (s u w : State) (d p pay dt bad n power : Nat), u = s.atCmd d ∧ w = u.takeItem p ∧ p < 512 ∧ u.pressOn ∧ u.fedBy p =
        some n ∧ u.firstOf p = some (.frameEnd pay dt) ∧ (w.port p).dropFrame = true)
    ∧ (∃ (u : State) (p pay : Nat) (k : ImgS), k.eop = some pay ∧ 1 ≤ eopValid pay ∧ eopValid pay ≤ 8)
    ∧ (∃ (u : State) (p : Nat) (k : ImgS), k.eop = none)
    ∧ (∃ (s u v : State) (d p bad n : Nat) (k : ImgS) (data : Option Bytes), u = s.atCmd d ∧ p < 512 ∧ u.pressOn ∧ u.fedBy p
        = some n ∧ u.firstOf p = some (.image k) ∧ (u.takeItem p).checkPacket p k = (data, v))
    ∧ (∃ (s u : State) (d : Nat) (n : Nat), u = s.atCmd d ∧ n < 264 ∧ u.hostOpen (F.HEARTH_CTL_CLEAR_COUNTS.at_ n)) :=
  ⟨⟨{ ((witBond 0 3).wr F.HEARTH_CFG_FORMAT 1 0).setPort 0 { inbox := [.frameStart 0x70100 5] } with pos := { wit0.pos with ledger := [(9, ⟨1, 5, 0, 0, 1, 7, 0, 0, 1, 0⟩)] } },
     _, _, 0, 0, 0x70100, 5, 0, 0, 9, ⟨1, 5, 0, 0, 1, 7, 0, 0, 1, 0⟩, rfl, rfl, by decide +kernel⟩,
   ⟨{ ((witBond 0 3).wr F.HEARTH_CFG_FORMAT 1 0).setPort 0 { inbox := [.frameStart 0x70100 5] } with pos := { wit0.pos with ledger := [(9, ⟨0, 5, 0, 0, 1, 7, 0, 0, 1, 0⟩)] } },
     _, _, 0, 0, 0x70100, 5, 0, 0, 9, ⟨0, 5, 0, 0, 1, 7, 0, 0, 1, 0⟩, rfl, rfl, by decide +kernel⟩,
   ⟨{ ((witBond 0 3).wr F.HEARTH_CFG_FORMAT 1 0).setPort 0 { inbox := [.frameStart 0x70200 5] } with pos := { wit0.pos with ledger := [(9, ⟨1, 5, 0, 0, 1, 7, 0, 0, 1, 0⟩)] } },
     _, _, 0, 0, 0x70200, 5, 0, 0, 9, ⟨1, 5, 0, 0, 1, 7, 0, 0, 1, 0⟩, rfl, rfl, by decide +kernel⟩,
   ⟨((witBond 0 3).wr F.HEARTH_CFG_FORMAT 1 0).setPort 0 { inbox := [.frameStart 0x70100 5] }, _, _, 0, 0, 0x70100, 5, 0, 0,
     rfl, rfl, by decide +kernel⟩,
   ⟨((witBond 0 3).wr F.HEARTH_CFG_FORMAT 1 0).setPort 0 { inbox := [.frameStart 0x70000 5] }, _, _, 0, 0, 0x70000, 5, 0, 0,
     rfl, rfl, by decide +kernel⟩,
   ⟨wit0, _, 0, 511, 0, rfl, (fun _ _ h => absurd ((show (wit0.atCmd 0).firstOf 511 = none from by decide +kernel).symm.trans
     h) (by simp)), by decide +kernel⟩,
   ⟨((witBond 0 3).setHth 0 { frame := some witFrame }).setPort 0 { dropFrame := false, inbox := [.frameEnd 0x700 5] }, _, _,
     0, 0, 0x700, 5, 0, 0, 0, witFrame, rfl, rfl, by decide +kernel⟩,
   ⟨(witBond 0 3).setPort 0 { dropFrame := false, inbox := [.frameEnd 0x700 5] }, _, _, 0, 0, 0x700, 5, 0, 0, 0, rfl, rfl,
     by decide +kernel⟩,
   ⟨(witBond 0 3).setPort 0 { dropFrame := true, inbox := [.frameEnd 0x700 5] }, _, _, 0, 0, 0x700, 5, 0, 0, 0, rfl, rfl,
     by decide +kernel⟩,
   ⟨wit0, 0, 0x887, { sop := 0, eop := some 0x887, first := 0, last := 0 }, by decide +kernel⟩,
   ⟨wit0, 0, { sop := 0, first := 0, last := 0 }, by decide +kernel⟩,
   ⟨(witBond 0 3).setPort 0 { inbox := [.image { sop := 0x78, eop := some 0x187, first := 0, last := 0 }] }, _, ((((witBond 0
     3).setPort 0 { inbox := [.image { sop := 0x78, eop := some 0x187, first := 0, last := 0 }] }).atCmd 0).takeItem
     0).checkPacket 0 { sop := 0x78, eop := some 0x187, first := 0, last := 0 } |>.2, 0, 0, 0, 0,
     { sop := 0x78, eop := some 0x187, first := 0, last := 0 }, ((((witBond 0 3).setPort 0
     { inbox := [.image { sop := 0x78, eop := some 0x187, first := 0, last := 0 }] }).atCmd 0).takeItem 0).checkPacket 0
     { sop := 0x78, eop := some 0x187, first := 0, last := 0 } |>.1, rfl, by decide +kernel⟩,
   ⟨wit0.wr F.HEARTH_DROP_DROPPED0 5 0, _, 0, 0, rfl, by decide +kernel⟩⟩

/-- States and operands that meet the hypotheses of each clause of TablesAndMarks. -/
theorem test_wit_TablesAndMarks :
    (∃ (s u : State) (d : Nat) (n : Nat), u = s.atCmd d ∧ n < 264 ∧ u.hostOpen (F.HEARTH_TBL_CTL_SWAP.at_ n) ∧ u.pressOn)
    ∧ (∃ (s u : State) (d : Nat) (n : Nat) (m : Nat) (st : Nat), u = s.atCmd d ∧ n < 264 ∧ m < 4 ∧ st < 4 ∧ u.hostOpen
        (F.HEARTH_MARK_CTL_OP.at_ n) ∧ u.pressOn)
    ∧ (∃ (s u : State) (d : Nat) (n : Nat) (m : Nat) (st : Nat), u = s.atCmd d ∧ n < 264 ∧ m < 4 ∧ st < 4 ∧ u.hostOpen
        (F.HEARTH_MARK_CTL_OP.at_ n) ∧ u.pressOn ∧ bit (u.hth n).armedMarks m = 0)
    ∧ (∃ (s u : State) (d : Nat) (n : Nat) (m : Nat), u = s.atCmd d ∧ n < 264 ∧ m < 4 ∧ u.hostOpen (F.HEARTH_MARK_CTL_OP.at_
        n) ∧ u.pressOn) :=
  ⟨⟨wit0, _, 0, 262, rfl, by decide +kernel⟩,
   ⟨wit0.wr F.HEARTH_LSEQ_VALUE 77 262 3, _, 0, 262, 3, 3, rfl, by decide +kernel⟩,
   ⟨wit0, _, 0, 262, 3, 3, rfl, by decide +kernel⟩,
   ⟨wit0.wr F.HEARTH_MARK_STATE_VALID 1 262 3, _, 0, 262, 3, rfl, by decide +kernel⟩⟩

/-- States and operands that meet the hypotheses of each clause of ExposureOrders. -/
theorem test_wit_ExposureOrders :
    (∃ (s u : State) (d : Nat) (n : Nat) (value : Nat), u = s.atCmd d ∧ n < 264 ∧ value < 2 ^ 64 ∧ u.hostOpen
        (F.HEARTH_EXP_SET_GAIN.at_ n) ∧ u.pressOn ∧ 0x1000 ≤ bits value 47 32)
    ∧ (∃ (s u : State) (d : Nat) (n : Nat) (value : Nat), u = s.atCmd d ∧ n < 264 ∧ value < 2 ^ 64 ∧ u.hostOpen
        (F.HEARTH_EXP_SET_GAIN.at_ n) ∧ u.pressOn ∧ bits value 47 32 < 0x1000)
    ∧ (∃ (s u : State) (d : Nat) (n : Nat) (value : Nat) (f : FrameS), u = s.atCmd d ∧ n < 264 ∧ value < 2 ^ 64 ∧ u.hostOpen
        (F.HEARTH_EXP_SET_GAIN.at_ n) ∧ u.pressOn ∧ 0x1000 ≤ bits value 47 32 ∧ (u.hth n).frame = some f ∧ (u.ex n).queue =
        none)
    ∧ (∃ (s u : State) (d : Nat) (h : Nat) (n gen frm : Nat), u = s.atCmd d ∧ h < 256 ∧ u.pressOn ∧ u.hearthOf h = some n ∧
        (u.ex n).notice = some (gen, frm) ∧ sOf 32 (uOf 32 ((u.rd F.CTRIG_COUNT_FRAME_NO h : Int) - frm)) ≤ 0) :=
  ⟨⟨wit0, _, 0, 262, 0x100000000005, rfl, by decide +kernel⟩,
   ⟨wit0, _, 0, 262, 0x0FFF00000005, rfl, by decide +kernel⟩,
   ⟨wit0.setHth 262
     { frame := some { frameNo := 7, idx := 0, trigDt := 0, posWord := 0, expGen := 0, lines := 1, skipped := 0, firstDt := 0, unsure := false } },
     _, 0, 262, 0x100000000005,
     { frameNo := 7, idx := 0, trigDt := 0, posWord := 0, expGen := 0, lines := 1, skipped := 0, firstDt := 0, unsure := false },
     rfl, by decide +kernel⟩,
   ⟨wit0.setHth 262 { exp := { notice := some (5, 9), acked := some ⟨1000, 0x1000⟩ } }, _, 0, 255, 262, 5, 9, rfl,
     by decide +kernel⟩⟩

/-- States and operands that meet the hypotheses of each clause of Generators. -/
theorem test_wit_Generators :
    (∃ (s u : State) (d : Nat) (g : Nat), u = s.atCmd d ∧ g < 32 ∧ u.hostOpen ((gf .ptrig F.CTRIG_CTL_ARM).at_ g) ∧ u.pressOn
        ∧ u.armed .ptrig g = false ∧ 2 ^ 24 ≤ u.pitch .ptrig g)
    ∧ (∃ (s u : State) (d : Nat) (g : Nat) (kk : GenKind), u = s.atCmd d ∧ g < genCount kk ∧ u.hostOpen ((gf kk
        F.CTRIG_CTL_ARM).at_ g) ∧ u.pressOn ∧ u.armed kk g = false ∧ u.pitch kk g < 2 ^ 24)
    ∧ (∃ (s u : State) (d : Nat) (g : Nat), u = s.atCmd d ∧ g < 256 ∧ u.hostOpen ((gf .ctrig F.CTRIG_CTL_ARM).at_ g) ∧
        u.pressOn ∧ u.armed .ctrig g = false ∧ 2 ^ 24 ≤ u.pitch .ctrig g)
    ∧ (∃ (s u : State) (d : Nat) (g : Nat), u = s.atCmd d ∧ g < 64 ∧ u.hostOpen ((gf .fire F.CTRIG_CTL_ARM).at_ g) ∧
        u.pressOn ∧ u.armed .fire g = false ∧ 2 ^ 24 ≤ u.pitch .fire g ∧ u.armRefuse g ≠ 0)
    ∧ (∃ (s u : State) (d : Nat) (g : Nat), u = s.atCmd d ∧ g < 32 ∧ u.hostOpen ((gf .ptrig F.CTRIG_CTL_ARM).at_ g) ∧
        u.pressOn ∧ u.armed .ptrig g = true)
    ∧ (∃ (s u : State) (d : Nat) (g : Nat), u = s.atCmd d ∧ g < 256 ∧ u.hostOpen ((gf .ctrig F.CTRIG_CTL_ARM).at_ g) ∧
        u.pressOn)
    ∧ (∃ (s u : State) (d : Nat) (k : GenKind) (g : Nat), u = s.atCmd d ∧ g < genCount k ∧ u.pressOn ∧ u.armed k g = true ∧
        u.crossed k g = 0)
    ∧ (∃ (s u : State) (d : Nat) (g : Nat), u = s.atCmd d ∧ g < 32 ∧ u.pressOn ∧ u.armed .ptrig g = true ∧ u.crossed .ptrig g
        = 1)
    ∧ (∃ (s u : State) (d : Nat) (g : Nat) (wait : Nat) (cr : Crossing) (rest : List Crossing), u = s.atCmd d ∧ g < 256 ∧
        wait < 640 ∧ u.pressOn ∧ (u.gen .ctrig g).waiting = cr :: rest ∧ cr.at_ ≤ u.dt)
    ∧ (∃ (s u : State) (d : Nat) (g : Nat) (wait : Nat) (cr : Crossing) (rest : List Crossing), u = s.atCmd d ∧ g < 256 ∧
        wait < 640 ∧ u.pressOn ∧ (u.gen .ctrig g).waiting = cr :: rest ∧ u.dt < cr.at_)
    ∧ (∃ (s u : State) (d : Nat) (p : Nat) (cr : Crossing) (rest : List Crossing), u = s.atCmd d ∧ p < 32 ∧ u.pressOn ∧
        (u.gen .ptrig p).waiting = cr :: rest ∧ cr.at_ ≤ u.dt ∧ u.frozen .ptrig p = false ∧ u.power.jtagTest = false)
    ∧ (∃ (s u : State) (d : Nat) (p : Nat) (e : Nat), u = s.atCmd d ∧ p < 32 ∧ u.pressOn ∧ (u.gen .ptrig p).pulseEnd = some e
        ∧ e ≤ u.dt)
    ∧ (∃ (s u : State) (d : Nat) (idx : Nat) (k : Notice) (e : LedgerE), u = s.atCmd d ∧ idx < 131072 ∧ u.pressOn ∧
        u.noticeFor idx false = some k ∧ u.pos.ledger.find idx = some e ∧ e.gen = k.gen ∧ e.frameNo = k.frameNo)
    ∧ (∃ (s u : State) (d : Nat) (idx : Nat) (k : Notice), u = s.atCmd d ∧ idx < 131072 ∧ u.pressOn ∧ u.noticeFor idx false =
        some k ∧ u.holdsEntry k = false)
    ∧ (∃ (s u : State) (d : Nat) (idx : Nat) (k : Notice) (e : EndedS), u = s.atCmd d ∧ idx < 131072 ∧ u.pressOn ∧
        u.noticeFor idx true = some k ∧ (u.hth k.hearth).ended = [e] ∧ e.frame.idx = k.idx ∧ e.frame.frameNo = k.frameNo)
    ∧ (∃ (s u : State) (d : Nat) (idx : Nat) (k : Notice), u = s.atCmd d ∧ idx < 131072 ∧ u.pressOn ∧ u.noticeFor idx true =
        some k ∧ (u.hth k.hearth).ended = [] ∧ u.holdsEntry k = true)
    ∧ (∃ (s u : State) (d : Nat) (idx : Nat) (e : LedgerE), u = s.atCmd d ∧ idx < 131072 ∧ u.pressOn ∧ u.pos.ledger.find idx
        = some e ∧ e.state = 1 ∧ e.dt + 1000 * u.rd F.CTRIG_TIMEOUT_FIRST_TIMEOUT_US e.gen ≤ u.dt)
    ∧ (∃ (s u : State) (d : Nat) (idx : Nat) (e : LedgerE), u = s.atCmd d ∧ idx < 131072 ∧ u.pressOn ∧ u.pos.ledger.find idx
        = some e ∧ e.dt + 1000 * u.rd F.CTRIG_TIMEOUT_FRAME_TIMEOUT_US e.gen ≤ u.dt)
    ∧ (∃ (s u : State) (d : Nat) (index : Nat), u = s.atCmd d ∧ index < 131072 ∧ u.hostOpen (F.LEDGER_SEL_INDEX.addr) ∧
        u.pos.ledger.find index = none)
    ∧ (∃ (s u : State) (d : Nat) (index : Nat) (e : LedgerE), u = s.atCmd d ∧ index < 131072 ∧ u.hostOpen
        (F.LEDGER_SEL_INDEX.addr) ∧ u.pos.ledger.find index = some e) :=
  ⟨⟨wit0.wr (gf .ptrig F.CTRIG_PITCH_VALUE) (2 ^ 24) 31, _, 0, 31, rfl, by decide +kernel⟩,
   ⟨wit0.wr (gf .fire F.CTRIG_PITCH_VALUE) (2 ^ 24 - 1) 63, _, 0, 63, .fire, rfl, by decide +kernel⟩,
   ⟨wit0.wr (gf .ctrig F.CTRIG_PITCH_VALUE) (2 ^ 24) 255, _, 0, 255, rfl, by decide +kernel⟩,
   ⟨wit0.wr (gf .fire F.CTRIG_PITCH_VALUE) (2 ^ 24) 63, _, 0, 63, rfl, by decide +kernel⟩,
   ⟨wit0.armGen .ptrig 0, _, 0, 0, rfl, by decide +kernel⟩,
   ⟨wit0.armGen .ctrig 0, _, 0, 0, rfl, by decide +kernel⟩,
   ⟨wit0.armGen .ctrig 255, _, 0, .ctrig, 255, rfl, by decide +kernel⟩,
   ⟨(((wit0.wr (gf .ptrig F.CTRIG_PITCH_VALUE) (2 ^ 32) 31).wr F.AXIS_STATUS_STATE 0 0).wr (gf .ptrig F.CTRIG_STATUS_ARMED) 1
     31).setGen .ptrig 31 { k := 0 }, _, 0, 31, rfl, by decide +kernel⟩,
   ⟨wit0.setGen .ctrig 255 { waiting := [⟨0, 5, 0, 0, 0, false, 0, 0⟩] }, _, 0, 255, 639, ⟨0, 5, 0, 0, 0, false, 0, 0⟩, [],
     rfl, by decide +kernel⟩,
   ⟨wit0.setGen .ctrig 255 { waiting := [⟨1, 5, 0, 0, 0, false, 0, 0⟩] }, _, 0, 255, 639, ⟨1, 5, 0, 0, 0, false, 0, 0⟩, [],
     rfl, by decide +kernel⟩,
   ⟨wit0.setGen .ptrig 31 { waiting := [⟨0, 5, 0, 0, 0, false, 0, 0⟩] }, _, 0, 31, ⟨0, 5, 0, 0, 0, false, 0, 0⟩, [], rfl,
     by decide +kernel⟩,
   ⟨wit0.setGen .ptrig 31 { pulseEnd := some 0 }, _, 0, 31, 0, rfl, by decide +kernel⟩,
   ⟨{ wit0 with pos := { wit0.pos with notices := [⟨0, 131071, 0, 0, false⟩], ledger := [(131071, ⟨0, 0, 0, 0, 1, 0, 0, 0, 1, 0⟩)] } },
     _, 0, 131071, ⟨0, 131071, 0, 0, false⟩, ⟨0, 0, 0, 0, 1, 0, 0, 0, 1, 0⟩, rfl, by decide +kernel⟩,
   ⟨{ wit0 with pos := { wit0.pos with notices := [⟨0, 131071, 0, 0, false⟩] } }, _, 0, 131071, ⟨0, 131071, 0, 0, false⟩,
     rfl, by decide +kernel⟩,
   ⟨({ wit0 with pos := { wit0.pos with notices := [⟨0, 0, 0, 7, true⟩] } } : State).setHth 0 { ended := [witEnded] }, _, 0,
     0, ⟨0, 0, 0, 7, true⟩, witEnded, rfl, by decide +kernel⟩,
   ⟨{ wit0 with pos := { wit0.pos with notices := [⟨0, 131071, 0, 0, true⟩], ledger := [(131071, ⟨0, 0, 0, 0, 1, 0, 0, 0, 1, 0⟩)] } },
     _, 0, 131071, ⟨0, 131071, 0, 0, true⟩, rfl, by decide +kernel⟩,
   ⟨{ wit0 with dt := 4294967296000, pos := { wit0.pos with ledger := [(5, ⟨0, 0, 0, 0, 1, 0, 255, 0, 1, 0⟩)] } }, _, 0, 5,
     ⟨0, 0, 0, 0, 1, 0, 255, 0, 1, 0⟩, rfl, by decide +kernel⟩,
   ⟨{ wit0 with dt := 4294967296000, pos := { wit0.pos with ledger := [(5, ⟨0, 0, 0, 0, 2, 0, 255, 0, 1, 0⟩)] } }, _, 0, 5,
     ⟨0, 0, 0, 0, 2, 0, 255, 0, 1, 0⟩, rfl, by decide +kernel⟩,
   ⟨wit0, _, 0, 131071, rfl, by decide +kernel⟩,
   ⟨{ wit0 with pos := { wit0.pos with ledger := [(5, ⟨77, 1234, 3, 1, 2, 9, 255, 5, 1, 4⟩)] } }, _, 0, 5, ⟨77, 1234, 3, 1,
     2, 9, 255, 5, 1, 4⟩, rfl, by decide +kernel⟩⟩

/-- States and operands that meet the hypotheses of each clause of FirePoints. -/
theorem test_wit_FirePoints :
    (∃ (s u : State) (d : Nat) (c : Nat) (cr : Crossing) (rest : List Crossing), u = s.atCmd d ∧ c < 64 ∧ u.pressOn ∧ (u.gen
        .fire c).waiting = cr :: rest ∧ cr.at_ ≤ u.dt ∧ cr.skipped = false ∧ u.frozen .fire c = false)
    ∧ (∃ (s u : State) (d : Nat) (c : Nat) (cr : Crossing) (rest : List Crossing), u = s.atCmd d ∧ c < 64 ∧ u.pressOn ∧
        (u.gen .fire c).waiting = cr :: rest ∧ cr.at_ ≤ u.dt ∧ cr.skipped = false ∧ u.frozen .fire c = true)
    ∧ (∃ (s u : State) (d : Nat) (c : Nat) (t0 : Nat), u = s.atCmd d ∧ c < 64 ∧ u.pressOn ∧ (u.hm c).loadAt = some t0 ∧ t0 ≤
        u.dt ∧ (u.hm c).pend = [])
    ∧ (∃ (s u : State) (d : Nat) (c : Nat) (t0 : Nat), u = s.atCmd d ∧ c < 64 ∧ u.pressOn ∧ (u.hm c).loadAt = some t0 ∧ u.dt
        < t0)
    ∧ (∃ (s u : State) (d : Nat) (c : Nat) (t0 : Nat), u = s.atCmd d ∧ c < 64 ∧ u.pressOn ∧ (u.hm c).loadAt = some t0 ∧ t0 ≤
        u.dt ∧ 0 < (u.hm c).nextK ∧ (u.hm c).pend = [])
    ∧ (∃ (s u : State) (d : Nat) (c : Nat), u = s.atCmd d ∧ c < 64 ∧ u.hostOpen (F.HAMMER_CTL_FLUSH.at_ c) ∧ u.pressOn ∧
        u.armed .fire c = false)
    ∧ (∃ (s u : State) (d : Nat) (c : Nat), u = s.atCmd d ∧ c < 64 ∧ u.hostOpen (F.HAMMER_CTL_FLUSH.at_ c) ∧ u.pressOn ∧
        u.armed .fire c = true)
    ∧ (∃ (s u : State) (d : Nat) (c : Nat), u = s.atCmd d ∧ c < 64 ∧ u.hostOpen (F.HAMMER_CTL_FLUSH.at_ c)) :=
  ⟨⟨wit0.setGen .fire 63 { waiting := [⟨0, 5, 0, 0, 0, false, 0, 0⟩] }, _, 0, 63, ⟨0, 5, 0, 0, 0, false, 0, 0⟩, [], rfl,
     by decide +kernel⟩,
   ⟨(wit0.wr F.AXIS_STATUS_STATE 2 0).setGen .fire 63 { waiting := [⟨0, 5, 0, 0, 0, false, 0, 0⟩] }, _, 0, 63, ⟨0, 5, 0, 0,
     0, false, 0, 0⟩, [], rfl, by decide +kernel⟩,
   ⟨wit0.setHm 63 { loadAt := some 0 }, _, 0, 63, 0, rfl, by decide +kernel⟩,
   ⟨wit0.setHm 63 { loadAt := some 1 }, _, 0, 63, 1, rfl, by decide +kernel⟩,
   ⟨wit0.setHm 63 { loadAt := some 0, nextK := 1 }, _, 0, 63, 0, rfl, by decide +kernel⟩,
   ⟨(wit0.wr F.HAMMER_NEXT_INDEX 5 63).setHm 63 { slots := [(5, ⟨1, 5⟩), (6, ⟨3, 6⟩)], flushes := 1 }, _, 0, 63, rfl,
     by decide +kernel⟩,
   ⟨wit0.wr (gf .fire F.CTRIG_STATUS_ARMED) 1 63, _, 0, 63, rfl, by decide +kernel⟩,
   ⟨wit0.wr F.HAMMER_CNT2_LATE 4 63, _, 0, 63, rfl, by decide +kernel⟩⟩

/-- States and operands that meet the hypotheses of each clause of HeadTemperature. -/
theorem test_wit_HeadTemperature :
    (∃ (s u : State) (d : Nat) (c : Nat), u = s.atCmd d ∧ c < 64 ∧ u.pressOn ∧ u.on F.HAMMER_CFG_ENABLE c = true ∧ u.on
        F.HAMMER_STATE_HOT c = false ∧ (u.hm c).pinHigh = false ∧ (u.hm c).pinAt + (u.rd F.HGRP_HOT_HOT_FILTER_NS (u.grpOf c)
        + 2) ≤ u.clk ∧ u.rd F.HGRP_PASS_MODE (u.grpOf c) < 2)
    ∧ (∃ (s u : State) (d : Nat) (c : Nat), u = s.atCmd d ∧ c < 64 ∧ u.pressOn ∧ u.on F.HAMMER_CFG_ENABLE c = true ∧ (u.hm
        c).pinHigh = true)
    ∧ (∃ (s u : State) (d : Nat) (c : Nat), u = s.atCmd d ∧ c < 64 ∧ u.pressOn ∧ u.on F.HAMMER_CFG_ENABLE c = true ∧ (u.hm
        c).pinHigh = false)
    ∧ (∃ (s u : State) (d : Nat) (c : Nat), u = s.atCmd d ∧ c < 64 ∧ u.pressOn ∧ u.on F.HAMMER_CFG_ENABLE c = true ∧ u.clk <
        (u.hm c).pinAt + (u.rd F.HGRP_HOT_HOT_FILTER_NS (u.grpOf c) + 2))
    ∧ (∃ (s u : State) (d : Nat) (c : Nat), u = s.atCmd d ∧ c < 64 ∧ u.pressOn ∧ u.on F.HAMMER_CFG_ENABLE c = true ∧ u.on
        F.HAMMER_STATE_HOT c = true ∧ (u.hm c).pinHigh = true ∧ (u.hm c).pinAt + (u.rd F.HGRP_HOT_HOT_FILTER_NS (u.grpOf c) +
        2) ≤ u.clk)
    ∧ (∃ (s u : State) (d : Nat) (g : Nat) (t0 : Nat), u = s.atCmd d ∧ g < 8 ∧ u.pressOn ∧ (u.grp g).resumeAt = some t0 ∧ t0
        ≤ u.clk)
    ∧ (∃ (s u : State) (d : Nat) (g : Nat), u = s.atCmd d ∧ g < 8 ∧ u.hostOpen (F.HGRP_CTL_RESUME.at_ g) ∧ u.pressOn ∧ u.rd
        F.HGRP_PASS_MODE g = 3)
    ∧ (∃ (s u : State) (d : Nat) (g : Nat), u = s.atCmd d ∧ g < 8 ∧ u.hostOpen (F.HGRP_CTL_RESUME.at_ g) ∧ u.pressOn ∧ u.rd
        F.HGRP_PASS_MODE g ≠ 3) :=
  ⟨⟨(({ wit0 with clk := 1048576 } : State).wr F.HAMMER_CFG_ENABLE 1 63).setHm 63 { pinHigh := false }, _, 0, 63, rfl,
     by decide +kernel⟩,
   ⟨wit0.wr F.HAMMER_CFG_ENABLE 1 63, _, 0, 63, rfl, by decide +kernel⟩,
   ⟨(wit0.wr F.HAMMER_CFG_ENABLE 1 63).setHm 63 { pinHigh := false }, _, 0, 63, rfl, by decide +kernel⟩,
   ⟨wit0.wr F.HAMMER_CFG_ENABLE 1 63, _, 0, 63, rfl, by decide +kernel⟩,
   ⟨(({ wit0 with clk := 1048576 } : State).wr F.HAMMER_CFG_ENABLE 1 63).wr F.HAMMER_STATE_HOT 1 63, _, 0, 63, rfl,
     by decide +kernel⟩,
   ⟨wit0.setGrp 7 { resumeAt := some 0 }, _, 0, 7, 0, rfl, by decide +kernel⟩,
   ⟨wit0.wr F.HGRP_PASS_MODE 3 7, _, 0, 7, rfl, by decide +kernel⟩,
   ⟨wit0.wr F.HGRP_PASS_MODE 2 7, _, 0, 7, rfl, by decide +kernel⟩⟩

/-- States and operands that meet the hypotheses of each clause of NozzleContexts. -/
theorem test_wit_NozzleContexts :
    (∃ (s u : State) (d : Nat) (c : Nat) (i : Nat) (m : EvMsg), u = s.atCmd d ∧ c < 64 ∧ u.pressOn ∧ (u.noz c).msgs[i]? =
        some m ∧ u.on F.NCTX_CFG_EV_EN c = false)
    ∧ (∃ (s u : State) (d : Nat) (c : Nat) (i : Nat) (m : EvMsg), u = s.atCmd d ∧ c < 64 ∧ u.pressOn ∧ (u.noz c).msgs[i]? =
        some m)
    ∧ (∃ (s u : State) (d : Nat) (c : Nat) (n : Nat) (v : Nat), u = s.atCmd d ∧ c < 64 ∧ n < 16384 ∧ u.hostOpen (nctxAddr c
        n) ∧ n < u.nozzles c ∧ v < 2 ^ 64 ∧ bits v 2 0 < 4 ∧ bits v 2 0 = u.rd F.NCTX_STATE c n ∧ bits v 4 3 = u.rd
        F.NCTX_HMASK c n)
    ∧ (∃ (s u : State) (d : Nat) (c : Nat) (n : Nat) (size : Nat) (v : Nat), u = s.atCmd d ∧ c < 64 ∧ n < 16384 ∧ u.hostOpen
        (nctxAddr c n) ∧ n < u.nozzles c ∧ (size ≠ 8 ∨ 4 ≤ bits v 2 0))
    ∧ (∃ (s u : State) (d : Nat) (c : Nat) (n : Nat) (v : Nat), u = s.atCmd d ∧ c < 64 ∧ n < 16384 ∧ u.hostOpen (nctxAddr c
        n) ∧ n < u.nozzles c ∧ v < 2 ^ 64 ∧ bits v 2 0 < 4 ∧ (bits v 2 0 ≠ u.rd F.NCTX_STATE c n ∨ bits v 4 3 ≠ u.rd
        F.NCTX_HMASK c n))
    ∧ (∃ (s u : State) (d c n size v : Nat), u = s.atCmd d ∧ c < 64 ∧ n < 16384 ∧ u.hostOpen (nctxAddr c n) ∧ u.nozzles c ≤
        n)
    ∧ (∃ (s u : State) (d : Nat) (c : Nat) (n : Nat), u = s.atCmd d ∧ c < 64 ∧ n < 16384 ∧ u.pressOn ∧ (u.rd
        F.NCTX_CFG_HOLDOFF c : Int) ≤ u.nozAge c n u.dt)
    ∧ (∃ (s u : State) (d : Nat) (c : Nat) (n : Nat), u = s.atCmd d ∧ c < 64 ∧ n < 16384 ∧ u.pressOn ∧ u.nozAge c n u.dt <
        (u.rd F.NCTX_CFG_HOLDOFF c : Int))
    ∧ (∃ (s u : State) (d : Nat) (c : Nat) (tag : Nat), u = s.atCmd d ∧ c < 64 ∧ u.hostOpen (F.NCTX_HEAD_HEAD_TAG.at_ c) ∧
        u.armed .fire c = false ∧ u.openNozReqs c = [])
    ∧ (∃ (s u : State) (d : Nat) (c : Nat) (tag : Nat), u = s.atCmd d ∧ c < 64 ∧ u.hostOpen (F.NCTX_HEAD_HEAD_TAG.at_ c) ∧
        u.armed .fire c = true)
    ∧ (∃ (s u : State) (d : Nat) (c : Nat), u = s.atCmd d ∧ c < 64 ∧ u.hostOpen (F.NCTX_CTL_SNAPSHOT.at_ c) ∧ u.pressOn)
    ∧ (∃ (s u : State) (d : Nat), u = s.atCmd d ∧ u.rd F.NCTX_SNAP_PERIOD_MIN ≠ 0 ∧ u.pressOn ∧ u.snapClk + u.rd
        F.NCTX_SNAP_PERIOD_MIN * 60000000000 ≤ u.clk)
    ∧ (∃ (s u : State) (d : Nat) (c : Nat), u = s.atCmd d ∧ c < 64 ∧ u.hostOpen (F.NCTX_CTL_SNAPSHOT.at_ c)) :=
  ⟨⟨wit0.setNoz 63 { msgs := [⟨1, 0, 1, 1, 1, 0, 0, 0⟩] }, _, 0, 63, 0, ⟨1, 0, 1, 1, 1, 0, 0, 0⟩, rfl, by decide +kernel⟩,
   ⟨(wit0.wr F.NCTX_CFG_EV_EN 1 63).setNoz 63 { msgs := [⟨1, 0, 1, 1, 1, 0, 0, 0⟩] }, _, 0, 63, 0, ⟨1, 0, 1, 1, 1, 0, 0, 0⟩,
     rfl, by decide +kernel⟩,
   ⟨wit0.wr F.HAMMER_CFG_NOZZLES 16384 63, _, 0, 63, 16383, 0xABC1230005000000, rfl, by decide +kernel⟩,
   ⟨wit0.wr F.HAMMER_CFG_NOZZLES 16384 63, _, 0, 63, 16383, 4, 0, rfl, by decide +kernel⟩,
   ⟨wit0.wr F.HAMMER_CFG_NOZZLES 16384 63, _, 0, 63, 16383, 0xABC1230005000001, rfl, by decide +kernel⟩,
   ⟨wit0.wr F.HAMMER_CFG_NOZZLES 16383 63, _, 0, 63, 16383, 4, 1, rfl, by decide +kernel⟩,
   ⟨((({ wit0 with dt := 2 ^ 21 * 1000 } : State).wr F.NCTX_HOLD 1 63 16383).wr F.NCTX_CFG_HOLDOFF 0 63), _, 0, 63, 16383,
     rfl, by decide +kernel⟩,
   ⟨(wit0.wr F.NCTX_HOLD 1 63 16383).wr F.NCTX_CFG_HOLDOFF 5 63, _, 0, 63, 16383, rfl, by decide +kernel⟩,
   ⟨wit0.wr F.HAMMER_CFG_NOZZLES 3 63, _, 0, 63, 0xFFFFFFFF, rfl, by decide +kernel⟩,
   ⟨wit0.wr (gf .fire F.CTRIG_STATUS_ARMED) 1 63, _, 0, 63, 0, rfl, by decide +kernel⟩,
   ⟨wit0, _, 0, 63, rfl, by decide +kernel⟩,
   ⟨{ wit0.wr F.NCTX_SNAP_PERIOD_MIN 1 with clk := 60000000000 }, _, 0, rfl, by decide +kernel⟩,
   ⟨wit0.wr F.NCTX_DROPS_CLIPPED 4 63, _, 0, 63, rfl, by decide +kernel⟩⟩

/-- States and operands that meet the hypotheses of each clause of Compare. -/
theorem test_wit_Compare :
    (∃ (s u : State) (d : Nat) (lt : Nat) (b : BilletS), u = s.atCmd d ∧ u.pressOn ∧ (u.runSet.find? fun x => (u.tileOf
        x).any fun n => (u.anvil.running.find n).isNone) = some lt ∧ firstBillet (u.anvil.ready.filter fun b => u.inTime lt
        (u.samplesOf b) (u.startDt lt) b.deadline) = some b)
    ∧ (∃ (s u : State) (d : Nat) (tile n : Nat) (b : BilletS) (lt : Nat), u = s.atCmd d ∧ lt < 128 ∧ u.pressOn ∧ u.tileOf lt
        = some tile ∧ u.anvil.running.find tile = some b ∧ u.hearthOf b.h = some n ∧ b.start ≤ u.dt)
    ∧ (∃ (s u : State) (d : Nat) (i : Nat) (b : BilletS), u = s.atCmd d ∧ u.pressOn ∧ u.anvil.ready[i]? = some b ∧
        u.tilesInService.any (fun x => u.inTime x (u.samplesOf b) u.dt b.deadline) = false ∧ u.tilesInService.isEmpty =
        false)
    ∧ (∃ (s u : State) (d : Nat) (h : Nat) (r : RowS), u = s.atCmd d ∧ h < 256 ∧ u.pressOn ∧ (u.anvil.rows.find? fun r =>
        decide (r.h = h)) = some r ∧ r.at_ + 1000000 * u.rd F.CMP_CFG_BILLET_IDLE_MS h ≤ u.clk)
    ∧ (∃ (s u : State) (d : Nat) (p : Nat), u = s.atCmd d ∧ p < 16 ∧ u.hostOpen (F.MODEL_CTL_OP.addr) ∧ u.pressOn)
    ∧ (∃ (s u : State) (d : Nat) (h : Nat), u = s.atCmd d ∧ h < 256 ∧ u.hostOpen (F.CMP_CFG_ENABLE.at_ h) ∧ u.on
        F.CMP_CFG_ENABLE h = true)
    ∧ (∃ (s u : State) (d : Nat) (tl : Nat) (h : Nat), u = s.atCmd d ∧ u.hostOpen (F.ANVIL_GCTL_CLEAR_COUNTS.addr) ∧ tl < 136
        ∧ h < 256) :=
  ⟨⟨{ (wit0.wr F.BLW_SCHED_N_RUN 1).wr F.BLW_DOM_TOK 64 40 with regs := Assoc.ins (F.BLW_DOM_TOK_CORNER.key 40 0) 5 ((wit0.wr F.BLW_SCHED_N_RUN 1).wr F.BLW_DOM_TOK 64 40).regs, anvil := { ready := [⟨0, 0, 0, 0, false, [], 1, 0, 100000000, 0, 16, 0, 0, 0, 0, 0, 0⟩] } },
     _, 0, 0, ⟨0, 0, 0, 0, false, [], 1, 0, 100000000, 0, 16, 0, 0, 0, 0, 0, 0⟩, rfl, by decide +kernel⟩,
   ⟨{ wit0 with anvil := { running := [(0, ⟨0, 0, 0, 0, false, [], 1, 0, 100000000, 0, 16, 0, 0, 0, 0, 0, 0⟩)] } }, _, 0, 0,
     0, ⟨0, 0, 0, 0, false, [], 1, 0, 100000000, 0, 16, 0, 0, 0, 0, 0, 0⟩, 0, rfl, by decide +kernel⟩,
   ⟨{ wit0 with anvil := { ready := [⟨0, 0, 0, 0, false, [], 1, 0, 0, 0, 16, 0, 0, 0, 0, 0, 0⟩] } }, _, 0, 0, ⟨0, 0, 0, 0,
     false, [], 1, 0, 0, 0, 16, 0, 0, 0, 0, 0, 0⟩, rfl, by decide +kernel⟩,
   ⟨{ wit0 with clk := 65536000000, anvil := { rows := [⟨255, 0, 0, false, [], 0⟩] } }, _, 0, 255, ⟨255, 0, 0, false, [], 0⟩,
     rfl, by decide +kernel⟩,
   ⟨wit0, _, 0, 15, rfl, by decide +kernel⟩,
   ⟨wit0.wr F.CMP_CFG_ENABLE 1 255, _, 0, 255, rfl, by decide +kernel⟩,
   ⟨wit0.wr F.CMP_COUNT_COMPARED 5 255, _, 0, 135, 255, rfl, by decide +kernel⟩⟩

/-- States and operands that meet the hypotheses of each clause of Power. -/
theorem test_wit_Power :
    (∃ (s u : State) (d : Nat) (readings : List Nat), u = s.atCmd d ∧ readings.length = 32 ∧ readings.all (fun r => decide (r
        < 65536)) = true ∧ u.power.on = true ∧ u.blw.thermtrip = true)
    ∧ (∃ (s u : State) (d act pTile : Nat) (toks : List Nat), u = s.atCmd d ∧ pTile < 65536 ∧ u.power.on = true)
    ∧ (∃ (s u : State) (d : Nat), u = s.atCmd d ∧ u.pressOn ∧ u.blw.busy = none ∧ u.blw.queue = [] ∧ u.mayPmbus = true)
    ∧ (∃ (s u : State) (d : Nat), u = s.atCmd d ∧ u.pressOn ∧ (u.blw.busy.isSome = true ∨ u.blw.queue ≠ [] ∨ u.mayPmbus =
        false))
    ∧ (∃ (s u : State) (d : Nat) (toks : List Nat), u = s.atCmd d ∧ toks.length = 64 ∧ toks.all (fun r => decide (r < 65536))
        = true ∧ u.pressOn)
    ∧ (∃ (s u : State) (d : Nat) (dom : Nat), u = s.atCmd d ∧ dom < 64 ∧ u.pressOn ∧ u.blw.exits.find dom = none ∧ u.rd
        F.BLW_DOM_LEVEL dom < u.bankLevel dom)
    ∧ (∃ (s u : State) (d : Nat) (dom : Nat), u = s.atCmd d ∧ dom < 64 ∧ u.pressOn ∧ 2 ≤ u.rd F.BLW_DOM_LEVEL dom ∧
        u.blw.exits.find dom = none)
    ∧ (∃ (s u : State) (d : Nat) (dom : Nat), u = s.atCmd d ∧ dom < 64 ∧ u.pressOn ∧ u.rd F.BLW_DOM_LEVEL dom = 1)
    ∧ (∃ (s u : State) (d : Nat) (v : Nat), u = s.atCmd d ∧ v < 2 ^ 64 ∧ u.hostOpen (F.BLW_WAKE_WAKE_NS.at_ 5) ∧ 1 ≤ bits v
        63 32 ∧ bits v 63 32 ≤ 10000000)
    ∧ (∃ (s u : State) (d : Nat) (k : Nat) (v : Nat), u = s.atCmd d ∧ k < 6 ∧ v < 2 ^ 64 ∧ u.hostOpen (F.BLW_WAKE_WAKE_NS.at_
        k) ∧ (bits v 63 32 = 0 ∨ 10000000 < bits v 63 32))
    ∧ (∃ (s u : State) (d : Nat) (p : Nat) (n : Nat), u = s.atCmd d ∧ p < 512 ∧ u.pressOn ∧ u.isMaster p = true ∧ u.bond p =
        3 ∧ u.armed .ctrig (u.rd F.COBEX_CFG_HEARTH p) = false ∧ u.hearthOf (u.rd F.COBEX_CFG_HEARTH p) = some n ∧ (u.hth
        n).frame = none ∧ (u.hth n).idleAt + 1000 * u.rd F.BLW_WAKE_IDLE_US 5 ≤ u.clk ∧ (u.port p).cmds = [] ∧ laneExit (u.rd
        F.LANE_CFG_RATE (u.sliceOf p)) + u.markerPeriod p 1 ≤ u.rd F.BLW_WAKE_WAKE_NS 5 ∧ u.members p = [p])
    ∧ (∃ (s u : State) (d : Nat) (i : Nat), u = s.atCmd d ∧ i < 32 ∧ u.hostOpen (F.BLW_CTL_CLEAR_PEAKS.addr))
    ∧ (∃ (s u : State) (d : Nat), u = s.atCmd d ∧ u.hostOpen (F.BLW_CTL_CLEAR_COUNTS.addr)) :=
  ⟨⟨{ wit0 with blw := { thermtrip := true } }, _, 0, List.replicate 32 0xFFFF, rfl, by decide +kernel⟩,
   ⟨wit0, _, 0, 65535, 65535, [], rfl, by decide +kernel⟩,
   ⟨{ wit0.wr F.SMBC_CFG_ENABLE 1 0 with owners := [(65536 * 10, blwSrc)] }, _, 0, rfl, by decide +kernel⟩,
   ⟨wit0, _, 0, rfl, by decide +kernel⟩,
   ⟨wit0, _, 0, List.replicate 64 65535, rfl, by decide +kernel⟩,
   ⟨wit0.wr F.BLW_WAKE_WAKE_NS 0xFFFFFFFF 0, _, 0, 0, rfl, by decide +kernel⟩,
   ⟨wit0.wr F.BLW_DOM_LEVEL 4 63, _, 0, 63, rfl, by decide +kernel⟩,
   ⟨wit0.wr F.BLW_DOM_LEVEL 1 63, _, 0, 63, rfl, by decide +kernel⟩,
   ⟨wit0, _, 0, 0x989680FFFFFFFF, rfl, by decide +kernel⟩,
   ⟨wit0, _, 0, 5, 0x989681FFFFFFFF, rfl, by decide +kernel⟩,
   ⟨{ (witBond 511 3).wr F.BLW_WAKE_WAKE_NS 0xFFFFFFFF 5 with clk := 10000000000 }, _, 0, 511, 0, rfl, by decide +kernel⟩,
   ⟨wit0.wr F.BLW_TEMP_TEMP 5 31, _, 0, 31, rfl, by decide +kernel⟩,
   ⟨wit0.wr F.BLW_CNT_C2_DROPPED 5, _, 0, rfl, by decide +kernel⟩⟩

/-- States and operands that meet the hypotheses of each clause of Troughs. -/
theorem test_wit_Troughs :
    (∃ (s u : State) (d : Nat) (source : Nat) (data : Bytes) (tr : Nat), u = s.atCmd d ∧ tr < 1536 ∧ source ≠ 0 ∧ data.length
        % 64 = 0 ∧ 64 ≤ data.length ∧ data.length ≤ 65536 ∧ u.pressOn ∧ u.owner 6 tr = source ∧ u.admits tr (data.length /
        64) = true)
    ∧ (∃ (s u : State) (d : Nat) (source : Nat) (data : Bytes) (tr : Nat), u = s.atCmd d ∧ tr < 1536 ∧ source ≠ 0 ∧
        data.length % 64 = 0 ∧ 64 ≤ data.length ∧ data.length ≤ 65536 ∧ u.pressOn ∧ u.owner 6 tr = source ∧ u.admits tr
        (data.length / 64) = false)
    ∧ (∃ (s u : State) (d : Nat) (source : Nat) (data : Bytes) (tr : Nat), u = s.atCmd d ∧ tr < 1536 ∧ source ≠ 0 ∧
        data.length % 64 = 0 ∧ 64 ≤ data.length ∧ data.length ≤ 65536 ∧ u.pressOn ∧ u.owner 6 tr ≠ source)
    ∧ (∃ (s u : State) (d : Nat) (i : Nat) (tr : Nat) (r : TRec) (k : Nat), u = s.atCmd d ∧ tr < 1536 ∧ u.pressOn ∧ ((u.tr
        tr).recs.zipIdx.filter fun e => !e.1.committed)[i]? = some (r, k) ∧ (u.tr tr).inject = false)
    ∧ (∃ (s u : State) (d : Nat) (tr : Nat), u = s.atCmd d ∧ tr < 1536 ∧ u.hostOpen (F.TRGH_CTL_FLUSH.at_ tr) ∧
        u.readerInside tr = false)
    ∧ (∃ (s u : State) (d : Nat) (tr : Nat), u = s.atCmd d ∧ tr < 1536 ∧ u.hostOpen (F.TRGH_CTL_FLUSH.at_ tr) ∧
        u.readerInside tr = true)
    ∧ (∃ (s u : State) (d : Nat) (tr : Nat), u = s.atCmd d ∧ tr < 1536 ∧ u.hostOpen (F.TRGH_CTL_MARK.at_ tr) ∧ u.admits tr 1
        = false)
    ∧ (∃ (s u : State) (d : Nat) (tr : Nat), u = s.atCmd d ∧ tr < 1536 ∧ u.hostOpen (F.TRGH_CTL_MARK.at_ tr) ∧ u.admits tr 1
        = true)
    ∧ (∃ (s u : State) (d : Nat) (tr : Nat), u = s.atCmd d ∧ tr < 1536 ∧ u.hostOpen (F.TRGH_CTL_INJECT.at_ tr))
    ∧ (∃ (s u : State) (d : Nat) (tr : Nat), u = s.atCmd d ∧ tr < 1536 ∧ u.hostOpen (F.TRGH_CTL_CLEAR_COUNTS.at_ tr))
    ∧ (∃ (s u : State) (d : Nat) (v : Nat) (tr : Nat), u = s.atCmd d ∧ tr < 1536 ∧ v < 2 ^ 64 ∧ u.hostOpen
        (F.TRGH_WM_WM_EN.at_ tr) ∧ (bit v 63 = 0 ∨ (bits v 48 32 < bits v 16 0 ∧ bits v 16 0 ≤ u.rd F.TRGH_CFG_SIZE tr)))
    ∧ (∃ (s u : State) (d : Nat) (v : Nat) (tr : Nat), u = s.atCmd d ∧ tr < 1536 ∧ v < 2 ^ 64 ∧ u.hostOpen
        (F.TRGH_WM_WM_EN.at_ tr) ∧ bit v 63 = 1 ∧ bits v 16 0 ≤ bits v 48 32) :=
  ⟨⟨{ (wit0.wr F.TRGH_CFG_ENABLE 1 1535).wr F.TRGH_CFG_SIZE 1024 1535 with owners := [(65536 * 6 + 1535, 77)] }, _, 0, 77,
     zeros 128, 1535, rfl, by decide +kernel⟩,
   ⟨{ wit0 with owners := [(65536 * 6 + 1535, 77)] }, _, 0, 77, zeros 64, 1535, rfl, by decide +kernel⟩,
   ⟨wit0, _, 0, 77, zeros 64, 0, rfl, by decide +kernel⟩,
   ⟨wit0.setTr 5 { recs := [⟨zeros 64, 0, 0, false, 0, [], 0⟩] }, _, 0, 0, 5, ⟨zeros 64, 0, 0, false, 0, [], 0⟩, 0, rfl,
     by decide +kernel⟩,
   ⟨wit0.setTr 1535 { recs := [⟨zeros 64, 0, 0, true, 0, [], 0⟩] }, _, 0, 1535, rfl, by decide +kernel⟩,
   ⟨{ wit0 with tongs := [(1100, { pop := some { trough := 1535, units := 2, data := zeros 64, poison := [], dropGap := 0, seq := 0 } })] },
     _, 0, 1535, rfl, by decide +kernel⟩,
   ⟨wit0, _, 0, 1535, rfl, by decide +kernel⟩,
   ⟨(wit0.wr F.TRGH_CFG_ENABLE 1 1535).wr F.TRGH_CFG_SIZE 1 1535, _, 0, 1535, rfl, by decide +kernel⟩,
   ⟨wit0, _, 0, 1535, rfl, by decide +kernel⟩,
   ⟨wit0.wr F.TRGH_CNT_PUSHED 5 1535, _, 0, 1535, rfl, by decide +kernel⟩,
   ⟨wit0.wr F.TRGH_CFG_SIZE 65536 1535, _, 0, 0x8000FFFF00010000, 1535, rfl, by decide +kernel⟩,
   ⟨wit0, _, 0, 0x8000000500000005, 1535, rfl, by decide +kernel⟩⟩

/-- States and operands that meet the hypotheses of each clause of StrikerEvents. -/
theorem test_wit_StrikerEvents :
    (∃ (s u : State) (d : Nat) (ch : Nat) (l : Nat × Nat × Nat), u = s.atCmd d ∧ ch < 512 ∧ u.pressOn ∧ (u.stk.latched.find?
        fun l => decide (l.1 = ch ∧ l.2.1 ≤ u.dt)) = some l)
    ∧ (∃ (s u : State) (d : Nat) (ch : Nat) (cyc : Nat), u = s.atCmd d ∧ ch < 512 ∧ u.pressOn ∧ (u.stk.latched.find? fun l =>
        decide (l.1 = ch ∧ l.2.1 ≤ u.dt)) = some (ch, cyc, 2) ∧ u.chanOn ch = true ∧ u.tasksOf ch = [] ∧ u.gpioOn ch = [] ∧
        u.stk.win.getD ch 0 < 1000)
    ∧ (∃ (s u : State) (d : Nat), u = s.atCmd d ∧ u.pressOn ∧ u.stk.window < u.dt / 10000)
    ∧ (∃ (s u : State) (d : Nat), u = s.atCmd d ∧ u.pressOn ∧ u.dt / 10000 ≤ u.stk.window)
    ∧ (∃ (s u : State) (d : Nat) (ch : Nat), u = s.atCmd d ∧ ch < 512 ∧ u.hostOpen (F.STK_CH_STAT_LOOP.at_ ch) ∧ u.on
        F.STK_CH_STAT_LOOP ch = true)
    ∧ (∃ (s u : State) (d : Nat) (k : Nat) (c : Nat), u = s.atCmd d ∧ k < 256 ∧ u.pressOn ∧ u.filterDue k = some c ∧ c ≤
        u.dt)
    ∧ (∃ (s u : State) (d n level : Nat), u = s.atCmd d ∧ n < 32 ∧ level < 2 ∧ u.pressOn ∧ (u.stk.pins.getD n {}).level ≠
        level)
    ∧ (∃ (s u : State) (d n level : Nat), u = s.atCmd d ∧ n < 32 ∧ level < 2 ∧ u.pressOn ∧ (u.stk.pins.getD n {}).level =
        level)
    ∧ (∃ (u : State) (n level c : Nat), u.stk.pins = [(n, ⟨level, some c⟩)])
    ∧ (∃ (s u : State) (d : Nat) (n : Nat) (e : Nat), u = s.atCmd d ∧ n < 32 ∧ u.pressOn ∧ u.stk.pulseEnd.find n = some e ∧ e
        ≤ u.dt)
    ∧ (∃ (s u : State) (d : Nat) (k : Nat), u = s.atCmd d ∧ k < 64 ∧ u.hostOpen (F.STK_TASK_SW_TASK.addr) ∧ (u.stk.tasks.getD
        k {}).n = 0 ∧ (u.rd F.STK_CNT_COUNT k + 1) % 2 ^ F.STK_CNT_COUNT.w ≠ u.rd F.STK_CNT_CMP_COMPARE k)
    ∧ (∃ (s u : State) (d : Nat) (k : Nat), u = s.atCmd d ∧ k < 1024 ∧ 768 ≤ k ∧ u.hostOpen (F.STK_TASK_SW_TASK.addr))
    ∧ (∃ (s u : State) (d : Nat) (i : Nat) (v : Nat), u = s.atCmd d ∧ i < 256 ∧ v < 2 ^ 64 ∧ u.hostOpen (F.STK_CELL_TRUTH.at_
        i))
    ∧ (∃ (s u : State) (d : Nat) (i : Nat) (v : Nat), u = s.atCmd d ∧ i < 256 ∧ v < 2 ^ 64 ∧ u.hostOpen (F.STK_CELL_TRUTH.at_
        i) ∧ bits v 17 8 = 0x3FE ∧ bit v 7 = 0)
    ∧ (∃ (s u : State) (d : Nat) (i : Nat) (v : Nat), u = s.atCmd d ∧ i < 512 ∧ v < 2 ^ 64 ∧ u.hostOpen
        (F.STK_CH_CFG_ENABLE.at_ i))
    ∧ (∃ (s u : State) (d : Nat) (ch k : Nat), u = s.atCmd d ∧ u.hostOpen (F.STK_CTL_CLEAR_COUNTS.addr) ∧ ch < 512 ∧ k < 768) :=
  ⟨⟨{ wit0 with stk := { latched := [(511, 0, 2)] } }, _, 0, 511, (511, 0, 2), rfl, by decide +kernel⟩,
   ⟨{ (wit0.wr F.STK_CH_CFG_ENABLE 1 511).wr F.STK_GROUP_ON 0xFFFFFFFF with stk := { latched := [(511, 0, 2)], win := [(511, 999)] } },
     _, 0, 511, 0, rfl, by decide +kernel⟩,
   ⟨{ wit0 with dt := 10000, stk := { win := [(5, 7)] } }, _, 0, rfl, by decide +kernel⟩,
   ⟨{ wit0 with dt := 9999 }, _, 0, rfl, by decide +kernel⟩,
   ⟨{ wit0.wr F.STK_CH_STAT_LOOP 1 511 with stk := { win := [(511, 1001)] } }, _, 0, 511, rfl, by decide +kernel⟩,
   ⟨(({ wit0 with dt := 5 } : State).wr F.STK_CELL_FILT_MODE 2 255).setCell 255 { filt := 1, lut := 0, until_ := 5 }, _, 0,
     255, 5, rfl, by decide +kernel⟩,
   ⟨wit0, _, 0, 31, 1, rfl, by decide +kernel⟩,
   ⟨wit0, _, 0, 31, 0, rfl, by decide +kernel⟩,
   ⟨wit0.setStk { pins := [(31, ⟨1, some 5⟩)] }, 31, 1, 5, by decide +kernel⟩,
   ⟨{ wit0 with stk := { pulseEnd := [(31, 0)] } }, _, 0, 31, 0, rfl, by decide +kernel⟩,
   ⟨wit0, _, 0, 63, rfl, by decide +kernel⟩,
   ⟨wit0, _, 0, 768, rfl, by decide +kernel⟩,
   ⟨wit0, _, 0, 255, 0xFFFFFFFFFFFFFFFF, rfl, by decide +kernel⟩,
   ⟨wit0, _, 0, 255, 0x3FE00, rfl, by decide +kernel⟩,
   ⟨wit0, _, 0, 511, 0xFFFFFFFFFFFFFFFF, rfl, by decide +kernel⟩,
   ⟨(wit0.wr F.STK_CH_STAT_EVENTS 5 511).wr F.STK_TASK_STAT_COINCIDE 4 767, _, 0, 511, 767, rfl, by decide +kernel⟩⟩

/-- States and operands that meet the hypotheses of each clause of SoftwareEvents. -/
theorem test_wit_SoftwareEvents :
    (∃ (s u : State) (d : Nat) (ch : Nat), u = s.atCmd d ∧ ch < 512 ∧ u.hostOpen (F.STK_SWEVT_CHANNEL.addr) ∧ evLevel (u.rd
        F.STK_CH_CFG_SOURCE ch) = false ∧ (ch, u.dt + 1, 2) ∉ u.stk.latched)
    ∧ (∃ (s u : State) (d : Nat) (ch : Nat), u = s.atCmd d ∧ ch < 512 ∧ u.hostOpen (F.STK_SWEVT_CHANNEL.addr) ∧ evLevel (u.rd
        F.STK_CH_CFG_SOURCE ch) = false ∧ (ch, u.dt + 1, 2) ∈ u.stk.latched)
    ∧ (∃ (s u : State) (d : Nat) (ch : Nat), u = s.atCmd d ∧ ch < 512 ∧ u.hostOpen (F.STK_SWEVT_CHANNEL.addr) ∧ evLevel (u.rd
        F.STK_CH_CFG_SOURCE ch) = true) :=
  ⟨⟨wit0, _, 0, 511, rfl, by decide +kernel⟩,
   ⟨wit0.setStk { latched := [(511, 1, 2)] }, _, 0, 511, rfl, by decide +kernel⟩,
   ⟨wit0.wr F.STK_CH_CFG_SOURCE 0x19000 511, _, 0, 511, rfl, by decide +kernel⟩⟩

/-- States and operands that meet the hypotheses of each clause of TongsControl. -/
theorem test_wit_TongsControl :
    (∃ (s u : State) (d : Nat) (ch : Nat), u = s.atCmd d ∧ ch < 1152 ∧ u.hostOpen (F.TONGS_CFG_ENABLE.at_ ch) ∧ u.pressOn ∧
        isDot ch = false ∧ (u.tg ch).st = 0 ∧ (u.tg ch).stop = false ∧ (u.tg ch).headNew = true ∧ (u.wr F.TONGS_CFG_ENABLE 1
        ch).rd F.TONGS_CQ_BASE_ADDR ch % 64 = 0 ∧ (u.wr F.TONGS_CFG_ENABLE 1 ch).rd F.TONGS_HEAD_ADDR ch % 32 = 0)
    ∧ (∃ (s u : State) (d : Nat) (ch : Nat), u = s.atCmd d ∧ ch < 1152 ∧ u.hostOpen (F.TONGS_CFG_ENABLE.at_ ch) ∧ u.pressOn ∧
        isDot ch = false ∧ (u.tg ch).st = 6)
    ∧ (∃ (s u : State) (d : Nat) (ch : Nat), u = s.atCmd d ∧ ch < 1152 ∧ u.hostOpen (F.TONGS_CFG_ENABLE.at_ ch) ∧ isDot ch =
        false ∧ (u.tg ch).st = 0)
    ∧ (∃ (s u : State) (d : Nat) (ch : Nat), u = s.atCmd d ∧ ch < 1152 ∧ u.hostOpen (F.TONGS_CFG_ENABLE.at_ ch) ∧ isDot ch =
        false ∧ (u.tg ch).st = 5 ∧ (u.tg ch).closing = none ∧ (u.tg ch).pop = none ∧ (u.tg ch).reading = false ∧ (u.tg
        ch).commits = [] ∧ (u.tg ch).desc = none)
    ∧ (∃ (s u : State) (d : Nat) (ch : Nat), u = s.atCmd d ∧ ch < 1152 ∧ u.pressOn ∧ (u.tg ch).st = 6 ∧ u.outstanding ch = 0
        ∧ (u.tg ch).restart = false)
    ∧ (∃ (s u : State) (d : Nat) (ch : Nat), u = s.atCmd d ∧ ch < 1152 ∧ u.pressOn ∧ (u.tg ch).st = 6 ∧ u.outstanding ch ≠ 0)
    ∧ (∃ (s u : State) (d : Nat) (ch : Nat) (c : Desc), u = s.atCmd d ∧ ch < 1152 ∧ u.hostOpen (F.TONGS_DOORBELL_VALUE.at_
        ch) ∧ isDot ch = false ∧ (u.tg ch).st = 5 ∧ (u.tg ch).closed = some c)
    ∧ (∃ (s u : State) (d : Nat) (ch : Nat), u = s.atCmd d ∧ ch < 1152 ∧ u.hostOpen (F.TONGS_DOORBELL_VALUE.at_ ch) ∧ isDot
        ch = false ∧ 1 ≤ (u.tg ch).st ∧ (u.tg ch).st ≤ 4)
    ∧ (∃ (s u : State) (d : Nat) (ch : Nat) (rd : Nat), u = s.atCmd d ∧ ch < 1152 ∧ rd < 2 ^ 20 ∧ u.hostOpen
        (F.TONGS_CQ_RD_RD.at_ ch) ∧ rd < u.cqSize ch ∧ (rd + u.cqSize ch - u.rd F.TONGS_CQ_RD_RD ch) % u.cqSize ch ≤ (u.rd
        F.TONGS_CQ_CFG_WR ch + u.cqSize ch - u.rd F.TONGS_CQ_RD_RD ch) % u.cqSize ch ∧ (u.tg ch).heldRec = none ∧ (u.tg
        ch).closing = none)
    ∧ (∃ (s u : State) (d : Nat) (ch : Nat) (rd : Nat), u = s.atCmd d ∧ ch < 1152 ∧ rd < 2 ^ 20 ∧ u.hostOpen
        (F.TONGS_CQ_RD_RD.at_ ch) ∧ u.cqSize ch ≤ rd)
    ∧ (∃ (s u : State) (d : Nat) (ch : Nat) (v : Nat), u = s.atCmd d ∧ ch < 1152 ∧ v < 2 ^ 32 ∧ u.hostOpen
        (F.TONGS_CQ_CFG_LOG2.at_ ch) ∧ u.on F.TONGS_CFG_ENABLE ch = false ∧ 4 ≤ bits v 24 20 ∧ bits v 24 20 ≤ 20)
    ∧ (∃ (s u : State) (d : Nat) (ch : Nat) (v : Nat), u = s.atCmd d ∧ ch < 1152 ∧ v < 2 ^ 32 ∧ u.hostOpen
        (F.TONGS_CQ_CFG_LOG2.at_ ch) ∧ u.on F.TONGS_CFG_ENABLE ch = true)
    ∧ (∃ (s u : State) (d : Nat) (ch : Nat), u = s.atCmd d ∧ ch < 1152 ∧ u.hostOpen (F.TONGS_CTL_CLEAR_COUNTS.at_ ch))
    ∧ (∃ (s u : State) (d : Nat) (ch : Nat), u = s.atCmd d ∧ ch < 1152 ∧ u.pressOn ∧ isDot ch = false ∧ (u.tg ch).st = 2 ∧
        u.rd F.TONGS_CFG_CLOSE_US ch ≠ 0 ∧ 0 < (u.tg ch).buf.items ∧ (u.tg ch).closing = none ∧ (u.tg ch).pop = none ∧ (u.tg
        ch).buf.lastAt + 1000 * u.rd F.TONGS_CFG_CLOSE_US ch ≤ u.clk)
    ∧ (∃ (s u : State) (d : Nat) (tr : Nat) (r : TRec) (rs : List TRec), u = s.atCmd d ∧ tr < 1536 ∧ u.pressOn ∧ (u.tr
        tr).recs = r :: rs ∧ r.committed = true ∧ u.rd F.TONGS_PACE_HOLD_US (u.rd F.TRGH_CFG_READER tr) ≠ 0 ∧ r.at_ + 1000 *
        u.rd F.TONGS_PACE_HOLD_US (u.rd F.TRGH_CFG_READER tr) ≤ u.clk) :=
  ⟨⟨(wit0.wr F.TONGS_HEAD_ADDR 0x1000 1151).setTg 1151 { headNew := true }, _, 0, 1151, rfl, by decide +kernel⟩,
   ⟨wit0.setTg 1151 { st := 6 }, _, 0, 1151, rfl, by decide +kernel⟩,
   ⟨wit0, _, 0, 1151, rfl, by decide +kernel⟩,
   ⟨wit0.setTg 1151 { st := 5 }, _, 0, 1151, rfl, by decide +kernel⟩,
   ⟨wit0.setTg 1151 { st := 6, stop := true }, _, 0, 1151, rfl, by decide +kernel⟩,
   ⟨{ wit0.setTg 1151 { st := 6, stop := true } with hep := { wit0.hep with tags := [(3, ⟨1151, 0, 0, 32, [], 0, false⟩)] } },
     _, 0, 1151, rfl, by decide +kernel⟩,
   ⟨wit0.setTg 1151 { st := 5, closed := some ⟨0x1000, 0, true, 0, 64, false, false, false, false, 0, 0, 0⟩ }, _, 0, 1151,
     ⟨0x1000, 0, true, 0, 64, false, false, false, false, 0, 0, 0⟩, rfl, by decide +kernel⟩,
   ⟨wit0.setTg 1151 { st := 4 }, _, 0, 1151, rfl, by decide +kernel⟩,
   ⟨(wit0.wr F.TONGS_CQ_CFG_LOG2 20 1151).wr F.TONGS_CQ_CFG_WR 1048575 1151, _, 0, 1151, 1048575, rfl, by decide +kernel⟩,
   ⟨wit0.wr F.TONGS_CQ_CFG_LOG2 4 1151, _, 0, 1151, 16, rfl, by decide +kernel⟩,
   ⟨wit0, _, 0, 1151, 0x1400000, rfl, by decide +kernel⟩,
   ⟨wit0.wr F.TONGS_CFG_ENABLE 1 1151, _, 0, 1151, 0x1400000, rfl, by decide +kernel⟩,
   ⟨wit0.wr F.TONGS_CNT_CLOSED 7 1151, _, 0, 1151, rfl, by decide +kernel⟩,
   ⟨(({ wit0 with clk := 65535000 } : State).wr F.TONGS_CFG_CLOSE_US 65535 1151).setTg 1151
     { st := 2, buf := { items := 1 } }, _, 0, 1151, rfl, by decide +kernel⟩,
   ⟨((({ wit0 with clk := 1000 } : State).wr F.TRGH_CFG_READER 1151 1535).wr F.TONGS_PACE_HOLD_US 1 1151).setTr 1535
     { recs := [⟨zeros 64, 0, 0, true, 0, [], 0⟩] }, _, 0, 1535, ⟨zeros 64, 0, 0, true, 0, [], 0⟩, [], rfl,
     by decide +kernel⟩⟩

/-- States and operands that meet the hypotheses of each clause of TongsReads. -/
theorem test_wit_TongsReads :
    (∃ (s u : State) (d : Nat) (ch : Nat) (r : ReadReq) (bs : Bytes), u = s.atCmd d ∧ ch < 1152 ∧ u.pressOn ∧ (u.tg
        ch).fetched = some (r, bs) ∧ r.kind = 0 ∧ (u.tg ch).st = 1)
    ∧ (∃ (s u : State) (d : Nat) (ch : Nat) (r : ReadReq) (bs : Bytes) (c : Desc), u = s.atCmd d ∧ ch < 1152 ∧ u.pressOn ∧
        (u.tg ch).fetched = some (r, bs) ∧ (u.tg ch).closed = some c ∧ r.kind = 1 ∧ (u.tg ch).st = 1 ∧ bit (leAt bs 0 8) 0 =
        0)
    ∧ (∃ (s u : State) (d ch : Nat) (r : ReadReq) (bs : Bytes) (c : Desc), u = s.atCmd d ∧ ch < 1152 ∧ u.pressOn ∧ (u.tg
        ch).fetched = some (r, bs) ∧ (u.tg ch).closed = some c ∧ r.kind = 1 ∧ (u.tg ch).st = 1 ∧ bit (leAt bs 0 8) 0 = 1 ∧
        u.on F.TONGS_STATE_REFETCH ch = false)
    ∧ (∃ (s u : State) (d : Nat) (ch tg : Nat) (r : ReadReq) (rest : List ReadReq), u = s.atCmd d ∧ u.pressOn ∧ u.hostBlocked
        = false ∧ u.hep.tags.length < u.lTag ∧ (u.tagWaiters.find? fun c => decide (u.hep.tagNext ≤ c)).orElse (fun _ =>
        u.tagWaiters.head?) = some ch ∧ u.freeTag = some tg ∧ (u.tg ch).want = r :: rest ∧ r.kind ≠ 2 ∧ u.power.jtagTest =
        false)
    ∧ (∃ (s u : State) (d ch tg : Nat) (r : ReadReq) (rest : List ReadReq) (dsc : Desc), u = s.atCmd d ∧ u.pressOn ∧
        u.hostBlocked = false ∧ u.hep.tags.length < u.lTag ∧ (u.tagWaiters.find? fun c => decide (u.hep.tagNext ≤ c)).orElse
        (fun _ => u.tagWaiters.head?) = some ch ∧ u.freeTag = some tg ∧ (u.tg ch).want = r :: rest ∧ r.kind = 2 ∧ (u.tg
        ch).desc = some dsc ∧ u.power.jtagTest = false)
    ∧ (∃ (s u : State) (d : Nat) (tag : Nat) (data : Bytes) (status : Nat) (poisoned : Bool) (last : Bool) (tg : TagS), u =
        s.atCmd d ∧ tag < 2 ^ 14 ∧ data.length ≤ 4096 ∧ u.power.on = true ∧ u.hep.tags.find tag = some tg ∧ tg.quarantined =
        false ∧ status = 0 ∧ poisoned = false ∧ tg.got.length + data.length < tg.len)
    ∧ (∃ (s u : State) (d : Nat) (tag : Nat) (data : Bytes) (status : Nat) (poisoned : Bool) (last : Bool), u = s.atCmd d ∧
        tag < 2 ^ 14 ∧ data.length ≤ 4096 ∧ status < 3 ∧ u.power.on = true ∧ u.hep.tags.find tag = none)
    ∧ (∃ (s u : State) (d : Nat) (tag : Nat) (data : Bytes) (status : Nat) (poisoned : Bool) (last : Bool) (tg : TagS), u =
        s.atCmd d ∧ tag < 2 ^ 14 ∧ data.length ≤ 4096 ∧ u.power.on = true ∧ u.hep.tags.find tag = some tg ∧ tg.quarantined =
        false ∧ 1 ≤ status ∧ status < 3)
    ∧ (∃ (s u : State) (d : Nat) (tag : Nat) (tg : TagS), u = s.atCmd d ∧ tag < 2 ^ 14 ∧ u.power.on = true ∧ u.hep.tags.find
        tag = some tg ∧ tg.quarantined = false ∧ tg.at_ + u.tCto ≤ u.clk)
    ∧ (∃ (s u : State) (d : Nat) (tag : Nat) (tg : TagS), u = s.atCmd d ∧ tag < 2 ^ 14 ∧ u.power.on = true ∧ u.hep.tags.find
        tag = some tg ∧ tg.quarantined = true ∧ tg.at_ + 4 * u.tCto ≤ u.clk) :=
  ⟨⟨wit0.setTg 1151 { st := 1, fetched := some (⟨0, 0x1000, 32⟩, zeros 32) }, _, 0, 1151, ⟨0, 0x1000, 32⟩, zeros 32, rfl,
     by decide +kernel⟩,
   ⟨wit0.setTg 1151
     { st := 1, fetched := some (⟨1, 0x1008, 8⟩, [0, 2, 0, 0, 0, 0, 0, 0]), closed := some ⟨0x1000, 0, true, 0, 64, false, false, false, false, 0, 0, 0⟩ },
     _, 0, 1151, ⟨1, 0x1008, 8⟩, [0, 2, 0, 0, 0, 0, 0, 0], ⟨0x1000, 0, true, 0, 64, false, false, false, false, 0, 0, 0⟩,
     rfl, by decide +kernel⟩,
   ⟨wit0.setTg 1151
     { st := 1, fetched := some (⟨1, 0x1008, 8⟩, [1, 2, 0, 0, 0, 0, 0, 0]), closed := some ⟨0x1000, 0, true, 0, 64, false, false, false, false, 0, 0, 0⟩ },
     _, 0, 1151, ⟨1, 0x1008, 8⟩, [1, 2, 0, 0, 0, 0, 0, 0], ⟨0x1000, 0, true, 0, 64, false, false, false, false, 0, 0, 0⟩,
     rfl, by decide +kernel⟩,
   ⟨{ wit0.setTg 1151 { st := 1, want := [⟨0, 0x1000, 32⟩] } with hep := { wit0.hep with cfg := { wit0.hep.cfg with bme := true } } },
     _, 0, 1151, 0, ⟨0, 0x1000, 32⟩, [], rfl, by decide +kernel⟩,
   ⟨{ wit0.setTg 1151 { st := 3, want := [⟨2, 0x1000, 32⟩], desc := some ⟨0x1000, 0, true, 0, 64, false, false, false, false, 0, 0, 0⟩ } with hep := { wit0.hep with cfg := { wit0.hep.cfg with bme := true } } },
     _, 0, 1151, 0, ⟨2, 0x1000, 32⟩, [], ⟨0x1000, 0, true, 0, 64, false, false, false, false, 0, 0, 0⟩, rfl,
     by decide +kernel⟩,
   ⟨{ wit0 with hep := { wit0.hep with tags := [(5, ⟨1151, 2, 0, 4097, [], 0, false⟩)] } }, _, 0, 5, zeros 4096, 0, false,
     false, ⟨1151, 2, 0, 4097, [], 0, false⟩, rfl, by decide +kernel⟩,
   ⟨wit0, _, 0, 16383, [], 2, false, false, rfl, by decide +kernel⟩,
   ⟨{ wit0 with hep := { wit0.hep with tags := [(5, ⟨1151, 2, 0, 64, [], 0, false⟩)] } }, _, 0, 5, [], 1, false, false,
     ⟨1151, 2, 0, 64, [], 0, false⟩, rfl, by decide +kernel⟩,
   ⟨{ wit0 with clk := 64000000000, hep := { wit0.hep with tags := [(5, ⟨1151, 2, 0, 64, [], 0, false⟩)] } }, _, 0, 5, ⟨1151,
     2, 0, 64, [], 0, false⟩, rfl, by decide +kernel⟩,
   ⟨{ wit0 with clk := 64000000000, hep := { wit0.hep with tags := [(5, ⟨1151, 2, 0, 64, [], 0, true⟩)] } }, _, 0, 5, ⟨1151,
     2, 0, 64, [], 0, true⟩, rfl, by decide +kernel⟩⟩

/-- States and operands that meet the hypotheses of each clause of TongsDelivery. -/
theorem test_wit_TongsDelivery :
    (∃ (s u : State) (d : Nat) (ch : Nat) (q a n : Nat) (dsc : Desc), u = s.atCmd d ∧ isStream ch = true ∧ u.pressOn ∧
        u.mayTake ch = true ∧ u.nextLine ch = some (q, a, n) ∧ u.fits ch n = 0 ∧ u.on F.TONGS_CFG_RATE_EN ch = false ∧
        u.hbmBad a n = false ∧ (u.tg ch).desc = some dsc)
    ∧ (∃ (s u : State) (d : Nat) (ch : Nat) (p : PopS) (r : TRec) (rs : List TRec), u = s.atCmd d ∧ isGeneral ch = true ∧ ch
        < 1152 ∧ u.pressOn ∧ (u.tg ch).pop = some p ∧ p.data.length ≠ 64 * p.units ∧ u.hostBlocked = false ∧ (u.tr
        p.trough).recs = r :: rs ∧ r.committed = true ∧ r.bad = [])
    ∧ (∃ (s u : State) (d : Nat) (ch : Nat) (p : PopS) (dsc : Desc), u = s.atCmd d ∧ isGeneral ch = true ∧ ch < 1152 ∧
        u.pressOn ∧ (u.tg ch).pop = some p ∧ p.data.length = 64 * p.units ∧ u.hostBlocked = false ∧ p.dropGap = 0 ∧ p.poison
        = [] ∧ u.on F.TRGH_CFG_MODE p.trough = false ∧ (u.tg ch).stop = false ∧ (u.tg ch).desc = some dsc)
    ∧ (∃ (s u : State) (d : Nat) (c : Nat), u = s.atCmd d ∧ c < 64 ∧ u.pressOn ∧ (u.tongs.find? fun e => e.2.commits.contains
        c) = none)
    ∧ (∃ (s u : State) (d : Nat) (ch : Nat), u = s.atCmd d ∧ isDot ch = true ∧ u.pressOn ∧ (u.tg ch).st = 3)
    ∧ (∃ (s u : State) (d : Nat) (n : Nat) (m : Nat), u = s.atCmd d ∧ n < 264 ∧ m < 4 ∧ u.hostOpen (F.HEARTH_REWIND_GO.at_ n)
        ∧ u.pressOn ∧ u.on F.HEARTH_MARK_STATE_VALID n m = true ∧ (u.tg (4 * u.logicalOf n + u.rd F.HEARTH_MARK_STATE_STREAM
        n m)).st ≠ 0)
    ∧ (∃ (s u : State) (d : Nat) (n : Nat) (m : Nat), u = s.atCmd d ∧ n < 264 ∧ m < 4 ∧ u.hostOpen (F.HEARTH_REWIND_GO.at_ n)
        ∧ u.pressOn ∧ u.on F.HEARTH_MARK_STATE_VALID n m = false ∧ u.on F.HEARTH_MARK_STATE_PENDING n m = false ∧ u.on
        F.HEARTH_MARK_STATE_LAPPED n m = true) :=
  ⟨⟨{ (((wit0.wr F.HEARTH_LSEQ_VALUE 6 0 3).wr F.HEARTH_SGEOM_CAPACITY 100 0 3).wr F.HEARTH_SGEOM_LINE_BYTES 64 0 3).setTg 3 { st := 2, desc := some ⟨0x1000, 0, true, 0, 64, false, false, false, false, 0, 0, 0⟩ } with readers := [(3, 5)], hep := { wit0.hep with cfg := { wit0.hep.cfg with bme := true } } },
     _, 0, 3, 5, 320, 64, ⟨0x1000, 0, true, 0, 64, false, false, false, false, 0, 0, 0⟩, rfl, by decide +kernel⟩,
   ⟨{ (wit0.setTr 1535 { recs := [⟨zeros 128, 0, 0, true, 1, [], 0⟩] }).setTg 1151 { st := 2, pop := some ⟨1535, 2, zeros 64, [], 0, 0⟩ } with hep := { wit0.hep with cfg := { wit0.hep.cfg with bme := true } } },
     _, 0, 1151, ⟨1535, 2, zeros 64, [], 0, 0⟩, ⟨zeros 128, 0, 0, true, 1, [], 0⟩, [], rfl, by decide +kernel⟩,
   ⟨{ wit0.setTg 1151 { st := 2, pop := some ⟨1535, 1, zeros 64, [], 0, 0⟩, desc := some ⟨0x1000, 0, true, 0, 64, false, false, false, false, 0, 0, 0⟩ } with hep := { wit0.hep with cfg := { wit0.hep.cfg with bme := true } } },
     _, 0, 1151, ⟨1535, 1, zeros 64, [], 0, 0⟩, ⟨0x1000, 0, true, 0, 64, false, false, false, false, 0, 0, 0⟩, rfl,
     by decide +kernel⟩,
   ⟨wit0.setHm 63 { writing := some (zeros 64) }, _, 0, 63, rfl, by decide +kernel⟩,
   ⟨wit0.setTg 1087 { st := 3, desc := some ⟨0x1000, 0, true, 0, 64, false, false, false, false, 0, 1, 0⟩ }, _, 0, 1087, rfl,
     by decide +kernel⟩,
   ⟨(((wit0.wr F.HEARTH_MARK_STATE_VALID 1 0 3).wr F.HEARTH_MARK_STATE_STREAM 3 0 3).wr F.HEARTH_MARK_POS_LSEQ 77 0 3).setTg
     3 { st := 2 }, _, 0, 0, 3, rfl, by decide +kernel⟩,
   ⟨wit0.wr F.HEARTH_MARK_STATE_LAPPED 1 0 3, _, 0, 0, 3, rfl, by decide +kernel⟩⟩

/-- States and operands that meet the hypotheses of each clause of MessageSignalledInterrupts. -/
theorem test_wit_MessageSignalledInterrupts :
    (∃ (s u : State) (d : Nat) (v : Nat) (x : Nat), u = s.atCmd d ∧ v < 2048 ∧ x < 2 ^ 32 ∧ u.hostOpen
        (F.HEP_MSIX_SRC_ENABLE.at_ v) ∧ (bit x 31 = 0 ∨ u.drives (bits x 8 0) 8 v = true))
    ∧ (∃ (s u : State) (d : Nat) (v : Nat) (x : Nat), u = s.atCmd d ∧ v < 2048 ∧ x < 2 ^ 32 ∧ u.hostOpen
        (F.HEP_MSIX_SRC_ENABLE.at_ v) ∧ bit x 31 = 1 ∧ u.drives (bits x 8 0) 8 v = false)
    ∧ (∃ (s u : State) (d : Nat), u = s.atCmd d ∧ u.power.on = true ∧ u.hep.pba = [])
    ∧ (∃ (s u : State) (d : Nat) (some_v : Option Nat) (n : Nat), u = s.atCmd d ∧ u.power.on = true ∧ n < 2048 ∧ some_v =
        some n ∧ (u.hep.pba.find n).isSome = true ∧ (u.setMsixWord n 3 (u.msixWord n 3 - bit (u.msixWord n 3)
        0)).vectorBlocked n = false)
    ∧ (∃ (s u : State) (d : Nat) (v : Nat), u = s.atCmd d ∧ v < 2048 ∧ u.power.on = true ∧ (u.hep.pba.find v).isSome = true ∧
        u.vectorBlocked v = false ∧ u.power.jtagTest = false)
    ∧ (∃ (s u : State) (d : Nat) (v : Nat), u = s.atCmd d ∧ v < 2048 ∧ u.power.on = true ∧ u.vectorBlocked v = true) :=
  ⟨⟨wit0, _, 0, 2047, 0x03FF01FF, rfl, by decide +kernel⟩,
   ⟨wit0, _, 0, 2047, 0x80000000, rfl, by decide +kernel⟩,
   ⟨{ wit0 with hep := { wit0.hep with cfg := { wit0.hep.cfg with funcMask := true } } }, _, 0, rfl, by decide +kernel⟩,
   ⟨{ wit0 with hep := { wit0.hep with pba := [(2047, 1)], cfg := { wit0.hep.cfg with msixEn := true, bme := true } } }, _,
     0, some 2047, 2047, rfl, by decide +kernel⟩,
   ⟨{ wit0 with hep := { wit0.hep with table := [(4 * 2047 + 3, 0)], pba := [(2047, 1)], cfg := { wit0.hep.cfg with msixEn := true, bme := true } } },
     _, 0, 2047, rfl, by decide +kernel⟩,
   ⟨wit0, _, 0, 2047, rfl, by decide +kernel⟩⟩

/-- States and operands that meet the hypotheses of each clause of Quench. -/
theorem test_wit_Quench :
    (∃ (s u : State) (d : Nat), u = s.atCmd d ∧ u.hostOpen (F.HEP_QUENCH_CTL_KEY.addr) ∧ u.on F.HEP_QUENCH_QUENCHED = false)
    ∧ (∃ (s u : State) (d : Nat), u = s.atCmd d ∧ u.hostOpen (F.HEP_QUENCH_CTL_KEY.addr) ∧ bit (u.rd F.HEP_QUENCH_CAUSE) 2 =
        1)
    ∧ (∃ (s u : State) (d : Nat), u = s.atCmd d ∧ u.hostOpen (F.HEP_QUENCH_CTL_KEY.addr) ∧ bit (u.rd F.HEP_QUENCH_CAUSE) 2 =
        0)
    ∧ (∃ (s u : State) (d : Nat), u = s.atCmd d ∧ u.hostOpen (F.HEP_QUENCH_CTL_KEY.addr) ∧ bit (u.rd F.HEP_QUENCH_CAUSE) 1 =
        1)
    ∧ (∃ (s u : State) (d : Nat), u = s.atCmd d ∧ u.hostOpen (F.HEP_QUENCH_CTL_KEY.addr) ∧ u.on F.HEP_QUENCH_QUENCHED = true
        ∧ u.rd F.HEP_QUENCH_CAUSE = 0 ∧ u.reqOpen 7 hepSrc = false ∧ u.hwMode 7 0 = false ∧ u.dcs.open_.length < 4096)
    ∧ (∃ (s u : State) (d : Nat), u = s.atCmd d ∧ u.hostOpen (F.HEP_QUENCH_CTL_KEY.addr) ∧ u.rd F.HEP_QUENCH_CAUSE ≠ 0)
    ∧ (∃ (s u : State) (d : Nat), u = s.atCmd d ∧ u.power.on = true ∧ u.on F.HEP_QUENCH_QUENCHED = true ∧ u.rd
        F.HEP_QUENCH_CAUSE = 0 ∧ u.on F.HEP_LINK_DL_ACTIVE = true ∧ u.hep.l1 = false ∧ u.hep.releaseAt = none ∧ u.hwMode 7 0
        = true)
    ∧ (∃ (s u : State) (d : Nat), u = s.atCmd d ∧ u.power.on = true ∧ (u.on F.HEP_QUENCH_QUENCHED = false ∨ u.rd
        F.HEP_QUENCH_CAUSE ≠ 0 ∨ u.on F.HEP_LINK_DL_ACTIVE = false))
    ∧ (∃ (s u : State) (d : Nat) (t0 : Nat), u = s.atCmd d ∧ u.power.on = true ∧ u.hep.releaseAt = some t0 ∧ t0 ≤ u.clk)
    ∧ (∃ (s u : State) (d : Nat) (unc : Nat) (cor : Nat), u = s.atCmd d ∧ unc < 2 ^ 32 ∧ cor < 2 ^ 32 ∧ u.power.on = true)
    ∧ (∃ (s u : State) (d : Nat), u = s.atCmd d ∧ u.hostOpen (F.HEP_CTL_CLEAR_COUNTS.addr)) :=
  ⟨⟨wit0, _, 0, rfl, by decide +kernel⟩,
   ⟨wit0.wr F.HEP_QUENCH_CAUSE 7, _, 0, rfl, by decide +kernel⟩,
   ⟨wit0.wr F.HEP_QUENCH_CAUSE 3, _, 0, rfl, by decide +kernel⟩,
   ⟨wit0.wr F.HEP_QUENCH_CAUSE 7, _, 0, rfl, by decide +kernel⟩,
   ⟨(wit0.wr F.HEP_QUENCH_QUENCHED 1).wr F.FUNC_MODE_CURRENT 1 7, _, 0, rfl, by decide +kernel⟩,
   ⟨wit0.wr F.HEP_QUENCH_CAUSE 4, _, 0, rfl, by decide +kernel⟩,
   ⟨((wit0.wr F.HEP_QUENCH_QUENCHED 1).wr F.FUNC_MODE_CURRENT 0 7).wr F.HEP_LINK_DL_ACTIVE 1, _, 0, rfl, by decide +kernel⟩,
   ⟨wit0, _, 0, rfl, by decide +kernel⟩,
   ⟨{ wit0.wr F.HEP_QUENCH_QUENCHED 1 with hep := { wit0.hep with releaseAt := some 0 } }, _, 0, 0, rfl, by decide +kernel⟩,
   ⟨{ wit0 with hep := { wit0.hep with aer := { wit0.hep.aer with unc := 0x100000, cor := 0x2000, headers := [(20, [1])] } } },
     _, 0, 0xFFFFFFFF, 0xFFFFFFFF, rfl, by decide +kernel⟩,
   ⟨wit0.wr F.HEP_CPL_CTO 5, _, 0, rfl, by decide +kernel⟩⟩

/-- States and operands that meet the hypotheses of each clause of HostRequests. -/
theorem test_wit_HostRequests :
    (∃ (s u : State) (d off len ns a : Nat) (data : Bytes) (poisoned : Bool), u = s.atCmd d ∧ off % 4096 + data.length ≤ 4096
        ∧ off < 2 ^ 37 ∧ u.power.on = true ∧ u.hep.d3hot = false ∧ u.on F.HEP_QUENCH_QUENCHED = false ∧ u.aperture false off
        data.length = some a)
    ∧ (∃ (s u : State) (d off len ns a : Nat) (data : Bytes) (poisoned : Bool), u = s.atCmd d ∧ off % 4096 + len ≤ 4096 ∧ off
        < 2 ^ 37 ∧ u.power.on = true ∧ u.hep.d3hot = false ∧ u.on F.HEP_QUENCH_QUENCHED = false ∧ u.aperture true off len =
        some a ∧ u.hbmBad a len = false)
    ∧ (∃ (s u : State) (d off len ns a : Nat) (data : Bytes) (poisoned : Bool), u = s.atCmd d ∧ off % 4096 + len ≤ 4096 ∧ off
        < 2 ^ 37 ∧ u.power.on = true ∧ u.hep.d3hot = false ∧ u.on F.HEP_QUENCH_QUENCHED = false ∧ u.aperture true off len =
        some a ∧ u.hbmBad a len = true)
    ∧ (∃ (s u : State) (d off len ns : Nat) (isRead : Bool) (data : Bytes) (poisoned : Bool), u = s.atCmd d ∧ off % 4096 +
        (if isRead then len else data.length) ≤ 4096 ∧ off < 2 ^ 37 ∧ u.power.on = true ∧ u.hep.d3hot = false ∧ u.on
        F.HEP_QUENCH_QUENCHED = false ∧ u.aperture isRead off (if isRead then len else data.length) = none)
    ∧ (∃ (s u : State) (d off len ns : Nat) (isRead : Bool) (data : Bytes) (poisoned : Bool), u = s.atCmd d ∧ off % 4096 +
        (if isRead then len else data.length) ≤ 4096 ∧ off < 2 ^ 37 ∧ u.power.on = true ∧ u.hep.d3hot = false ∧ u.on
        F.HEP_QUENCH_QUENCHED = true)
    ∧ (∃ (s u : State) (d off len ns : Nat) (isRead : Bool) (data : Bytes) (poisoned : Bool), u = s.atCmd d ∧ off % 4096 +
        (if isRead then len else data.length) ≤ 4096 ∧ off < 2 ^ 37 ∧ u.power.on = true ∧ u.hep.d3hot = true)
    ∧ (∃ (s u : State) (d off len ns a : Nat) (isRead : Bool), u = s.atCmd d ∧ u.hep.d3hot = false ∧ u.on
        F.HEP_QUENCH_QUENCHED = false ∧ u.aperture isRead off len = some a)
    ∧ (∃ (s u : State) (d : Nat) (off : Nat) (size : Nat) (v : Nat), u = s.atCmd d ∧ off < 65536 ∧ (size = 4 ∨ size = 8) ∧
        off % size = 0 ∧ u.power.on = true ∧ u.hep.d3hot = false)
    ∧ (∃ (s u : State) (d : Nat) (off : Nat) (v : Nat), u = s.atCmd d ∧ off < 0x8000 ∧ off % 4 = 0 ∧ v < 2 ^ 32 ∧ u.power.on
        = true ∧ u.hep.d3hot = false ∧ u.hep.pba = [])
    ∧ (∃ (s u : State) (d : Nat) (isRead : Bool) (off : Nat) (size : Nat) (v : Nat), u = s.atCmd d ∧ off < 65536 ∧ 0 < size ∧
        size ≤ 4096 ∧ u.power.on = true ∧ u.hep.d3hot = false)
    ∧ (∃ (s u : State) (d : Nat) (isRead : Bool) (addr : Nat) (size : Nat) (whole : Bool), u = s.atCmd d ∧ addr < 2 ^ 26 ∧ 0
        < size ∧ size ≤ 4096 ∧ u.power.on = true ∧ u.hep.d3hot = false ∧ bar0Good addr size whole = false)
    ∧ (∃ (s u : State) (d addr size : Nat) (isRead whole : Bool), u = s.atCmd d ∧ u.power.on = true ∧ bar0Good addr size
        whole = true)
    ∧ (∃ (s u : State) (d : Nat), u = s.atCmd d ∧ u.power.on = true)
    ∧ (∃ (s u : State) (d : Nat), u = s.atCmd d ∧ u.power.on = true)
    ∧ (∃ (s u : State) (d : Nat) (kind : Nat) (hdr : Bytes) (e : HostErr), u = s.atCmd d ∧ kind < 17 ∧ hdr.length ≤ 32 ∧
        u.power.on = true ∧ hostErrOf kind = some e)
    ∧ (∃ (s u : State) (d : Nat) (a : Nat), u = s.atCmd d ∧ a < 16 ∧ u.hostOpen (F.HEP_APER_CTL_COMMIT.at_ a) ∧ u.owner 0x0B
        a = hostOwner ∧ 1 ≤ u.rd F.HEP_APER_SHD_SIZE_MIB a ∧ u.rd F.HEP_APER_SHD_SIZE_MIB a ≤ 8192 ∧ u.rd
        F.HEP_APER_SHD_BASE_MIB a + u.rd F.HEP_APER_SHD_SIZE_MIB a ≤ 98304)
    ∧ (∃ (s u : State) (d : Nat) (a : Nat), u = s.atCmd d ∧ a < 16 ∧ u.hostOpen (F.HEP_APER_CTL_COMMIT.at_ a) ∧ u.owner 0x0B
        a ≠ hostOwner) :=
  ⟨⟨(((wit0.wr F.HEP_APER_ACT_ENABLE 1 15).wr F.HEP_APER_ACT_WR_EN 1 15).wr F.HEP_APER_ACT_SIZE_MIB 8192 15).wr
     F.HEP_APER_ACT_BASE_MIB 90112 15, _, 0, 2 ^ 37 - 4, 0, 0, 98304 * 2 ^ 20 - 4, [1, 2, 3, 4], false, rfl,
     by decide +kernel⟩,
   ⟨((wit0.wr F.HEP_APER_ACT_ENABLE 1 15).wr F.HEP_APER_ACT_RD_EN 1 15).wr F.HEP_APER_ACT_SIZE_MIB 8192 15, _, 0, 2 ^ 37 - 4,
     4, 0, 2 ^ 33 - 4, [], false, rfl, by decide +kernel⟩,
   ⟨(((wit0.wr F.HEP_APER_ACT_ENABLE 1 15).wr F.HEP_APER_ACT_RD_EN 1 15).wr F.HEP_APER_ACT_SIZE_MIB 8192 15).hbmMark (2 ^ 33
     - 4) 4, _, 0, 2 ^ 37 - 4, 4, 0, 2 ^ 33 - 4, [], false, rfl, by decide +kernel⟩,
   ⟨wit0, _, 0, 4092, 4, 0, true, [], false, rfl, by decide +kernel⟩,
   ⟨wit0.wr F.HEP_QUENCH_QUENCHED 1, _, 0, 0, 4096, 0, true, [], false, rfl, by decide +kernel⟩,
   ⟨{ wit0 with hep := { d3hot := true } }, _, 0, 0, 4096, 0, true, [], false, rfl, by decide +kernel⟩,
   ⟨(((wit0.wr F.HEP_APER_ACT_ENABLE 1 15).wr F.HEP_APER_ACT_WR_EN 1 15).wr F.HEP_APER_ACT_SIZE_MIB 8192 15).wr
     F.HEP_APER_ACT_BASE_MIB 90112 15, _, 0, 2 ^ 37 - 4, 4, 0, 98304 * 2 ^ 20 - 4, false, rfl, by decide +kernel⟩,
   ⟨wit0, _, 0, 0x7FF8, 8, 0, rfl, by decide +kernel⟩,
   ⟨wit0, _, 0, 0x7FFC, 0xFFFFFFFF, rfl, by decide +kernel⟩,
   ⟨wit0, _, 0, false, 0xFFFF, 4096, 0, rfl, by decide +kernel⟩,
   ⟨wit0, _, 0, false, 2 ^ 26 - 1, 4, true, rfl, by decide +kernel⟩,
   ⟨wit0, _, 0, 64, 64, false, true, rfl, by decide +kernel⟩,
   ⟨wit0, _, 0, rfl, by decide +kernel⟩,
   ⟨wit0, _, 0, rfl, by decide +kernel⟩,
   ⟨wit0, _, 0, 16, zeros 32, .uncorrectableInternal, rfl, by decide +kernel⟩,
   ⟨{ ((wit0.wr F.HEP_APER_SHD_ENABLE 1 15).wr F.HEP_APER_SHD_SIZE_MIB 8192 15).wr F.HEP_APER_SHD_BASE_MIB 90112 15 with owners := [(65536 * 11 + 15, hostOwner)] },
     _, 0, 15, rfl, by decide +kernel⟩,
   ⟨wit0, _, 0, 15, rfl, by decide +kernel⟩⟩

/-- States and operands that meet the hypotheses of each clause of HostResetsAndPower. -/
theorem test_wit_HostResetsAndPower :
    (∃ (s u : State) (d : Nat) (speed : Nat) (width : Nat) (flit : Bool), u = s.atCmd d ∧ 1 ≤ speed ∧ speed ≤ 6 ∧ (width = 1
        ∨ width = 4 ∨ width = 8 ∨ width = 16) ∧ u.power.on = true ∧ u.power.perst = false ∧ u.hep.resetting = false)
    ∧ (∃ (s u : State) (d : Nat) (speed : Nat) (width : Nat) (flit : Bool), u = s.atCmd d ∧ 1 ≤ speed ∧ speed ≤ 6 ∧ (width =
        1 ∨ width = 4 ∨ width = 8 ∨ width = 16) ∧ u.power.on = true ∧ u.power.perst = false ∧ u.hep.resetting = true)
    ∧ (∃ (s u : State) (d : Nat), u = s.atCmd d ∧ u.power.on = true ∧ u.on F.HEP_LINK_DL_ACTIVE = true)
    ∧ (∃ (s u : State) (d : Nat), u = s.atCmd d ∧ u.power.on = true)
    ∧ (∃ (s u : State) (d : Nat), u = s.atCmd d ∧ u.power.on = true)
    ∧ (∃ (s u : State) (d : Nat), u = s.atCmd d ∧ u.power.on = true ∧ u.hep.flr = true ∧ u.hep.resetting = true)
    ∧ (∃ (s u : State) (d : Nat) (cfg : CfgSpace) (uncMask : Nat) (corMask : Nat) (uncSev : Nat), u = s.atCmd d ∧ uncMask < 2
        ^ 32 ∧ corMask < 2 ^ 32 ∧ uncSev < 2 ^ 32 ∧ u.power.on = true ∧ u.hep.flr = false)
    ∧ (∃ (s u : State) (d : Nat) (x : CfgReq), u = s.atCmd d ∧ u.power.on = true ∧ u.hep.flr = true)
    ∧ (∃ (s u : State) (d : Nat) (f : CfgField), u = s.atCmd d ∧ u.power.on = true ∧ u.hep.flr = false)
    ∧ (∃ u : State, u.hep.header = State.reset.hep.header)
    ∧ (∃ (s u : State) (d : Nat), u = s.atCmd d ∧ u.power.on = true)
    ∧ (∃ (s u : State) (d : Nat), u = s.atCmd d ∧ u.power.on = true ∧ u.tongs = [] ∧ u.hep.pba = [] ∧ u.dcs.outbox = [])
    ∧ (∃ (s u : State) (d : Nat) (width : Nat), u = s.atCmd d ∧ (width = 1 ∨ width = 4 ∨ width = 8) ∧ u.power.on = true ∧
        u.l0pOk = true ∧ u.on F.HEP_LINK_DL_ACTIVE = true ∧ u.on F.HEP_LINK_FLIT = true ∧ u.hep.l1 = false ∧ width < u.rd
        F.HEP_LINK_WIDTH)
    ∧ (∃ (s u : State) (d : Nat), u = s.atCmd d ∧ u.power.on = true ∧ u.l1Ok = true ∧ u.on F.HEP_LINK_DL_ACTIVE = true ∧
        u.linkIdle = true)
    ∧ (∃ (s u : State) (d : Nat), u = s.atCmd d ∧ u.power.on = true ∧ u.hep.l1 = false ∧ u.on F.HEP_LINK_L0P = true)
    ∧ (∃ (s u : State) (d : Nat), u = s.atCmd d ∧ u.power.on = true ∧ u.hep.l1 = true ∧ u.hep.cfg.ltrEn = false)
    ∧ (∃ (s u : State) (d : Nat) (us : Nat), u = s.atCmd d ∧ 1 ≤ us ∧ us < 65536 ∧ u.hostOpen (F.HEP_LPM_LTR_US.addr) ∧
        u.hep.cfg.ltrEn = true)
    ∧ (∃ (s u : State) (d : Nat), u = s.atCmd d ∧ u.hostOpen (F.HEP_LPM_LTR_US.addr)) :=
  ⟨⟨{ wit0 with hep := { wit0.hep with resetting := false } }, _, 0, 6, 16, true, rfl, by decide +kernel⟩,
   ⟨wit0, _, 0, 6, 16, true, rfl, by decide +kernel⟩,
   ⟨wit0.wr F.HEP_LINK_DL_ACTIVE 1, _, 0, rfl, by decide +kernel⟩,
   ⟨wit0, _, 0, rfl, by decide +kernel⟩,
   ⟨wit0, _, 0, rfl, by decide +kernel⟩,
   ⟨{ wit0 with hep := { wit0.hep with flr := true } }, _, 0, rfl, by decide +kernel⟩,
   ⟨wit0, _, 0, { bme := true, mrrs := 5, mps := 5, ctoVal := 15 }, 0xFFFFFFFF, 0, 0, rfl, by decide +kernel⟩,
   ⟨{ wit0 with hep := { wit0.hep with flr := true } }, _, 0, .read .vendorId, rfl, by decide +kernel⟩,
   ⟨wit0, _, 0, .bar 3, rfl, by decide +kernel⟩,
   ⟨wit0, by decide +kernel⟩,
   ⟨wit0, _, 0, rfl, by decide +kernel⟩,
   ⟨{ wit0 with hep := { wit0.hep with d3hot := true } }, _, 0, rfl, by decide +kernel⟩,
   ⟨{ (((wit0.wr F.HEP_LINK_DL_ACTIVE 1).wr F.HEP_LINK_FLIT 1).wr F.HEP_LINK_WIDTH 16).wr F.BLW_WAKE_WAKE_NS 1000 4 with hep := { wit0.hep with cfg := { wit0.hep.cfg with l0pEn := true } } },
     _, 0, 8, rfl, by decide +kernel⟩,
   ⟨{ (wit0.wr F.HEP_LINK_DL_ACTIVE 1).wr F.BLW_WAKE_WAKE_NS 8000 4 with hep := { wit0.hep with cfg := { wit0.hep.cfg with l1En := true } } },
     _, 0, rfl, by decide +kernel⟩,
   ⟨wit0.wr F.HEP_LINK_L0P 1, _, 0, rfl, by decide +kernel⟩,
   ⟨{ wit0 with hep := { wit0.hep with l1 := true } }, _, 0, rfl, by decide +kernel⟩,
   ⟨{ wit0 with hep := { wit0.hep with cfg := { wit0.hep.cfg with ltrEn := true } } }, _, 0, 1, rfl, by decide +kernel⟩,
   ⟨wit0, _, 0, rfl, by decide +kernel⟩⟩

/-- States and operands that meet the hypotheses of each clause of ControllerCommands. -/
theorem test_wit_ControllerCommands :
    (∃ (s u : State) (d p : Nat) (x : SmbcArg), u = s.atCmd d ∧ p < 2 ∧ u.hostOpen (F.SMBC_CMD_OP.at_ p) ∧ x.Fits ∧ u.on
        F.SMBC_RSLT_BUSY p = false ∧ u.on F.SMBC_CFG_ENABLE p = true ∧ u.owner 0x0A p = hostOwner ∧ x.wlen ≤ 32 ∧ (x.sda = 0
        ∨ x.lowMs < u.rd F.SMBC_CFG_DAT_LOW_MS p))
    ∧ (∃ (s u : State) (d p : Nat) (x : SmbcArg), u = s.atCmd d ∧ p < 2 ∧ u.hostOpen (F.SMBC_CMD_OP.at_ p) ∧ x.Fits ∧ u.on
        F.SMBC_RSLT_BUSY p = false ∧ u.on F.SMBC_CFG_ENABLE p = true ∧ u.owner 0x0A p = hostOwner ∧ x.wlen ≤ 32 ∧ (x.sda = 0
        ∨ x.lowMs < u.rd F.SMBC_CFG_DAT_LOW_MS p))
    ∧ (∃ (s u : State) (d p : Nat) (x : SmbcArg), u = s.atCmd d ∧ p < 2 ∧ u.hostOpen (F.SMBC_CMD_OP.at_ p) ∧ x.Fits ∧ u.on
        F.SMBC_RSLT_BUSY p = false ∧ u.on F.SMBC_CFG_ENABLE p = true ∧ u.owner 0x0A p = hostOwner ∧ x.wlen ≤ 32 ∧ (x.sda = 0
        ∨ x.lowMs < u.rd F.SMBC_CFG_DAT_LOW_MS p))
    ∧ (∃ (s u : State) (d p : Nat) (x : SmbcArg), u = s.atCmd d ∧ p < 2 ∧ u.hostOpen (F.SMBC_CMD_OP.at_ p) ∧ x.Fits ∧ u.on
        F.SMBC_RSLT_BUSY p = false ∧ u.on F.SMBC_CFG_ENABLE p = true ∧ u.owner 0x0A p = hostOwner ∧ x.wlen ≤ 32 ∧ (x.sda = 0
        ∨ x.lowMs < u.rd F.SMBC_CFG_DAT_LOW_MS p))
    ∧ (∃ (s u : State) (d p : Nat) (x : SmbcArg), u = s.atCmd d ∧ p < 2 ∧ u.hostOpen (F.SMBC_CMD_OP.at_ p) ∧ x.Fits ∧ u.on
        F.SMBC_RSLT_BUSY p = false ∧ u.on F.SMBC_CFG_ENABLE p = true ∧ u.owner 0x0A p = hostOwner ∧ x.wlen ≤ 32 ∧ (x.sda = 0
        ∨ x.lowMs < u.rd F.SMBC_CFG_DAT_LOW_MS p))
    ∧ (∃ (s u : State) (d p : Nat) (x : SmbcArg), u = s.atCmd d ∧ p < 2 ∧ u.hostOpen (F.SMBC_CMD_OP.at_ p) ∧ x.Fits ∧ u.on
        F.SMBC_RSLT_BUSY p = false ∧ u.on F.SMBC_CFG_ENABLE p = true ∧ u.owner 0x0A p = hostOwner ∧ x.wlen ≤ 32 ∧ (x.sda = 0
        ∨ x.lowMs < u.rd F.SMBC_CFG_DAT_LOW_MS p))
    ∧ (∃ (s u : State) (d p : Nat) (x : SmbcArg), u = s.atCmd d ∧ p < 2 ∧ u.hostOpen (F.SMBC_CMD_OP.at_ p) ∧ x.Fits ∧ u.on
        F.SMBC_RSLT_BUSY p = false ∧ u.on F.SMBC_CFG_ENABLE p = true ∧ u.owner 0x0A p = hostOwner ∧ x.wlen ≤ 32 ∧ (x.sda = 0
        ∨ x.lowMs < u.rd F.SMBC_CFG_DAT_LOW_MS p))
    ∧ (∃ (s u : State) (d p : Nat) (x : SmbcArg), u = s.atCmd d ∧ p < 2 ∧ u.hostOpen (F.SMBC_CMD_OP.at_ p) ∧ x.Fits ∧ u.on
        F.SMBC_RSLT_BUSY p = false ∧ u.on F.SMBC_CFG_ENABLE p = true ∧ u.owner 0x0A p = hostOwner ∧ x.wlen ≤ 32 ∧ (x.sda = 0
        ∨ x.lowMs < u.rd F.SMBC_CFG_DAT_LOW_MS p))
    ∧ (∃ (s u : State) (d p : Nat) (x : SmbcArg), u = s.atCmd d ∧ p < 2 ∧ u.hostOpen (F.SMBC_CMD_OP.at_ p) ∧ x.Fits ∧ u.on
        F.SMBC_RSLT_BUSY p = false ∧ u.on F.SMBC_CFG_ENABLE p = true ∧ u.owner 0x0A p = hostOwner ∧ x.wlen ≤ 32 ∧ 1 ≤ x.rlen
        ∧ x.rlen ≤ 32 ∧ (x.sda = 0 ∨ x.lowMs < u.rd F.SMBC_CFG_DAT_LOW_MS p))
    ∧ (∃ (s u : State) (d p : Nat) (x : SmbcArg), u = s.atCmd d ∧ p < 2 ∧ u.hostOpen (F.SMBC_CMD_OP.at_ p) ∧ x.Fits ∧ u.on
        F.SMBC_RSLT_BUSY p = false ∧ u.on F.SMBC_CFG_ENABLE p = true ∧ u.owner 0x0A p = hostOwner ∧ x.wlen ≤ 32 ∧ x.sda = 1 ∧
        u.rd F.SMBC_CFG_DAT_LOW_MS p ≤ x.lowMs)
    ∧ (∃ (s u : State) (d p : Nat) (x : SmbcArg), u = s.atCmd d ∧ p < 2 ∧ u.hostOpen (F.SMBC_CMD_OP.at_ p) ∧ x.Fits ∧ u.on
        F.SMBC_RSLT_BUSY p = false ∧ u.on F.SMBC_CFG_ENABLE p = true ∧ u.owner 0x0A p = hostOwner ∧ x.wlen ≤ 32 ∧ x.sda = 2 ∧
        u.rd F.SMBC_CFG_DAT_LOW_MS p ≤ x.lowMs)
    ∧ (∃ (s u : State) (d p : Nat) (x : SmbcArg), u = s.atCmd d ∧ p < 2 ∧ u.hostOpen (F.SMBC_CMD_OP.at_ p) ∧ u.on
        F.SMBC_RSLT_BUSY p = false ∧ u.on F.SMBC_CFG_ENABLE p = true ∧ u.owner 0x0A p ≠ hostOwner)
    ∧ (∃ (s u : State) (d p : Nat) (x : SmbcArg), u = s.atCmd d ∧ p < 2 ∧ u.hostOpen (F.SMBC_CMD_OP.at_ p) ∧ x.Fits ∧ u.on
        F.SMBC_RSLT_BUSY p = false ∧ u.on F.SMBC_CFG_ENABLE p = true ∧ u.owner 0x0A p = hostOwner ∧ 32 < x.wlen)
    ∧ (∃ (s u : State) (d p status : Nat) (data : Bytes) (x : SmbcTx), u = s.atCmd d ∧ p < 2 ∧ u.power.on = true ∧
        u.smb.tx.find p = some x ∧ (status = 3 ∨ status = 5 ∨ status = 6 ∨ status = 7))
    ∧ (∃ (s u : State) (d p : Nat) (data : Bytes) (x : SmbcTx), u = s.atCmd d ∧ p < 2 ∧ u.power.on = true ∧ u.smb.tx.find p =
        some x ∧ x.pec = false)
    ∧ (∃ (s u : State) (d p b : Nat) (data : Bytes) (x : SmbcTx), u = s.atCmd d ∧ p < 2 ∧ u.power.on = true ∧ u.smb.tx.find p
        = some x ∧ x.pec = true ∧ x.op = 7 ∧ b < 256)
    ∧ (∃ (s u : State) (d p : Nat) (data : Bytes) (x : SmbcTx), u = s.atCmd d ∧ p < 2 ∧ u.power.on = true ∧ u.smb.tx.find p =
        some x ∧ x.bellows = none ∧ x.op = 7 ∧ x.pec = false ∧ data.length ≤ 32)
    ∧ (∃ (s u : State) (d p : Nat) (x : SmbcTx), u = s.atCmd d ∧ p < 2 ∧ u.power.on = true ∧ u.smb.tx.find p = some x ∧
        x.losses < u.rd F.SMBC_CFG_RETRIES p)
    ∧ (∃ (s u : State) (d p : Nat) (x : SmbcTx), u = s.atCmd d ∧ p < 2 ∧ u.power.on = true ∧ u.smb.tx.find p = some x ∧ u.rd
        F.SMBC_CFG_RETRIES p ≤ x.losses)
    ∧ (∃ (s u : State) (d p : Nat) (x : SmbcTx), u = s.atCmd d ∧ p < 2 ∧ u.power.on = true ∧ u.smb.tx.find p = some x ∧
        x.retries - x.losses < u.rd F.SMBC_CFG_RETRIES p)
    ∧ (∃ (s u : State) (d p : Nat) (x : SmbcTx), u = s.atCmd d ∧ p < 2 ∧ u.power.on = true ∧ u.smb.tx.find p = some x ∧ u.rd
        F.SMBC_CFG_RETRIES p ≤ x.retries - x.losses)
    ∧ (∃ (s u : State) (d p : Nat) (data : Bytes) (x : SmbcTx), u = s.atCmd d ∧ p < 2 ∧ u.power.on = true ∧ u.smb.tx.find p =
        some x)
    ∧ (∃ (s u : State) (d p : Nat) (x : SmbcTx), u = s.atCmd d ∧ p < 2 ∧ u.power.on = true ∧ u.smb.tx.find p = some x)
    ∧ (∃ (s u : State) (d p : Nat), u = s.atCmd d ∧ p < 2 ∧ u.hostOpen (F.SMBC_CFG_CLEAR_COUNTS.at_ p) ∧ u.on
        F.SMBC_RSLT_BUSY p = false)
    ∧ (∃ (s u : State) (d p : Nat), u = s.atCmd d ∧ p < 2 ∧ u.hostOpen (F.SMBC_CFG_CLEAR_COUNTS.at_ p) ∧ u.on
        F.SMBC_RSLT_BUSY p = true) :=
  ⟨⟨{ wit0.wr F.SMBC_CFG_ENABLE 1 1 with owners := [(65536 * 10 + 1, hostOwner)] }, _, 0, 1, ⟨127, 255, 32, 32, true, 0, 0⟩,
     rfl, by decide +kernel⟩,
   ⟨{ wit0.wr F.SMBC_CFG_ENABLE 1 1 with owners := [(65536 * 10 + 1, hostOwner)] }, _, 0, 1, ⟨127, 255, 32, 32, true, 0, 0⟩,
     rfl, by decide +kernel⟩,
   ⟨{ wit0.wr F.SMBC_CFG_ENABLE 1 1 with owners := [(65536 * 10 + 1, hostOwner)] }, _, 0, 1, ⟨127, 255, 32, 32, true, 0, 0⟩,
     rfl, by decide +kernel⟩,
   ⟨{ wit0.wr F.SMBC_CFG_ENABLE 1 1 with owners := [(65536 * 10 + 1, hostOwner)] }, _, 0, 1, ⟨127, 255, 32, 32, true, 0, 0⟩,
     rfl, by decide +kernel⟩,
   ⟨{ wit0.wr F.SMBC_CFG_ENABLE 1 1 with owners := [(65536 * 10 + 1, hostOwner)] }, _, 0, 1, ⟨127, 255, 32, 32, true, 0, 0⟩,
     rfl, by decide +kernel⟩,
   ⟨{ wit0.wr F.SMBC_CFG_ENABLE 1 1 with owners := [(65536 * 10 + 1, hostOwner)] }, _, 0, 1, ⟨127, 255, 32, 32, true, 0, 0⟩,
     rfl, by decide +kernel⟩,
   ⟨{ wit0.wr F.SMBC_CFG_ENABLE 1 1 with owners := [(65536 * 10 + 1, hostOwner)] }, _, 0, 1, ⟨127, 255, 32, 32, true, 0, 0⟩,
     rfl, by decide +kernel⟩,
   ⟨{ wit0.wr F.SMBC_CFG_ENABLE 1 1 with owners := [(65536 * 10 + 1, hostOwner)] }, _, 0, 1, ⟨127, 255, 32, 32, true, 0, 0⟩,
     rfl, by decide +kernel⟩,
   ⟨{ wit0.wr F.SMBC_CFG_ENABLE 1 1 with owners := [(65536 * 10 + 1, hostOwner)] }, _, 0, 1, ⟨127, 255, 32, 32, true, 0, 0⟩,
     rfl, by decide +kernel⟩,
   ⟨{ wit0.wr F.SMBC_CFG_ENABLE 1 1 with owners := [(65536 * 10 + 1, hostOwner)] }, _, 0, 1, ⟨127, 255, 32, 32, true, 1,
     255⟩, rfl, by decide +kernel⟩,
   ⟨{ wit0.wr F.SMBC_CFG_ENABLE 1 1 with owners := [(65536 * 10 + 1, hostOwner)] }, _, 0, 1, ⟨127, 255, 32, 32, true, 2,
     255⟩, rfl, by decide +kernel⟩,
   ⟨wit0.wr F.SMBC_CFG_ENABLE 1 1, _, 0, 1, ⟨127, 255, 32, 32, true, 0, 0⟩, rfl, by decide +kernel⟩,
   ⟨{ wit0.wr F.SMBC_CFG_ENABLE 1 1 with owners := [(65536 * 10 + 1, hostOwner)] }, _, 0, 1, ⟨127, 255, 33, 32, true, 0, 0⟩,
     rfl, by decide +kernel⟩,
   ⟨{ wit0 with smb := { tx := [(1, ⟨7, 127, 255, [], 0, true, none, 2, 2⟩)] } }, _, 0, 1, 3, [], ⟨7, 127, 255, [], 0, true,
     none, 2, 2⟩, rfl, by decide +kernel⟩,
   ⟨{ wit0 with smb := { tx := [(1, ⟨7, 127, 255, [], 0, false, none, 2, 2⟩)] } }, _, 0, 1, zeros 32, ⟨7, 127, 255, [], 0,
     false, none, 2, 2⟩, rfl, by decide +kernel⟩,
   ⟨{ wit0 with smb := { tx := [(1, ⟨7, 127, 255, [], 0, true, none, 2, 2⟩)] } }, _, 0, 1, 1, zeros 32, ⟨7, 127, 255, [], 0,
     true, none, 2, 2⟩, rfl, by decide +kernel⟩,
   ⟨{ wit0 with smb := { tx := [(1, ⟨7, 127, 255, [], 0, false, none, 2, 2⟩)] } }, _, 0, 1, zeros 32, ⟨7, 127, 255, [], 0,
     false, none, 2, 2⟩, rfl, by decide +kernel⟩,
   ⟨{ wit0.wr F.SMBC_CFG_RETRIES 3 1 with smb := { tx := [(1, ⟨7, 127, 255, [], 0, true, none, 2, 2⟩)] } }, _, 0, 1, ⟨7, 127,
     255, [], 0, true, none, 2, 2⟩, rfl, by decide +kernel⟩,
   ⟨{ wit0.wr F.SMBC_CFG_RETRIES 2 1 with smb := { tx := [(1, ⟨7, 127, 255, [], 0, true, none, 2, 2⟩)] } }, _, 0, 1, ⟨7, 127,
     255, [], 0, true, none, 2, 2⟩, rfl, by decide +kernel⟩,
   ⟨{ wit0.wr F.SMBC_CFG_RETRIES 3 1 with smb := { tx := [(1, ⟨7, 127, 255, [], 0, true, none, 0, 2⟩)] } }, _, 0, 1, ⟨7, 127,
     255, [], 0, true, none, 0, 2⟩, rfl, by decide +kernel⟩,
   ⟨{ wit0.wr F.SMBC_CFG_RETRIES 2 1 with smb := { tx := [(1, ⟨7, 127, 255, [], 0, true, none, 0, 2⟩)] } }, _, 0, 1, ⟨7, 127,
     255, [], 0, true, none, 0, 2⟩, rfl, by decide +kernel⟩,
   ⟨{ wit0 with smb := { tx := [(1, ⟨7, 127, 255, [], 0, true, none, 2, 2⟩)] } }, _, 0, 1, [7], ⟨7, 127, 255, [], 0, true,
     none, 2, 2⟩, rfl, by decide +kernel⟩,
   ⟨{ wit0 with smb := { tx := [(1, ⟨7, 127, 255, [], 0, true, none, 2, 2⟩)] } }, _, 0, 1, ⟨7, 127, 255, [], 0, true, none,
     2, 2⟩, rfl, by decide +kernel⟩,
   ⟨wit0.wr F.SMBC_CNT_CLEARS 7 1, _, 0, 1, rfl, by decide +kernel⟩,
   ⟨wit0.wr F.SMBC_RSLT_BUSY 1 1, _, 0, 1, rfl, by decide +kernel⟩⟩

/-- States and operands that meet the hypotheses of each clause of TargetStatusAndSessions. -/
theorem test_wit_TargetStatusAndSessions :
    (∃ (s u : State) (d : Nat), u = s.atCmd d ∧ u.smbOpen)
    ∧ (∃ (s u : State) (d : Nat), u = s.atCmd d ∧ u.power.on = true ∧ u.rd F.KINDLE_STATUS_PHASE = 0)
    ∧ (∃ (s u : State) (d : Nat), u = s.atCmd d ∧ u.power.on = true ∧ u.rd F.KINDLE_STATUS_PHASE ≠ 0 ∧ u.smb.gate ≠ [])
    ∧ (∃ (s u : State) (d : Nat), u = s.atCmd d ∧ u.smbOpen)
    ∧ (∃ (s u : State) (d : Nat), u = s.atCmd d ∧ u.smbOpen)
    ∧ (∃ (s u : State) (d : Nat), u = s.atCmd d ∧ u.smbOpen)
    ∧ (∃ (s u : State) (d : Nat), u = s.atCmd d ∧ u.smbOpen)
    ∧ (∃ (s u : State) (d v : Nat) (pec : Pec), u = s.atCmd d ∧ u.smbOpen ∧ v < 256 ∧ u.pecOk pec (u.smbSent 7 (le 1 v)) =
        true)
    ∧ (∃ (s u : State) (d v b : Nat), u = s.atCmd d ∧ u.smbOpen ∧ u.pecOk (.byte b) (u.smbSent 7 (le 1 v)) = false)
    ∧ (∃ (s u : State) (d v : Nat), u = s.atCmd d ∧ u.smbOpen ∧ u.on F.SMB_T_CFG_PEC_REQ = true)
    ∧ (∃ (s u : State) (d v : Nat), u = s.atCmd d ∧ u.smbOpen)
    ∧ (∃ (s u : State) (d : Nat) (won : Bool), u = s.atCmd d ∧ u.smbOpen ∧ u.alertLow = true)
    ∧ (∃ (s u : State) (d : Nat) (won : Bool), u = s.atCmd d ∧ u.smbOpen ∧ u.alertLow = false)
    ∧ (∃ (s u : State) (d : Nat), u = s.atCmd d ∧ u.power.on = true)
    ∧ (∃ (s u : State) (d : Nat), u = s.atCmd d ∧ u.power.on = true)
    ∧ (∃ (s u : State) (d code : Nat), u = s.atCmd d ∧ u.smbOpen ∧ code < 256 ∧ (code ∉ smbCodes ∨ (0x4C ≤ code ∧ u.on
        F.SMB_T_STATUS_PRIV = false)))
    ∧ (∃ (s u : State) (d : Nat), u = s.atCmd d ∧ u.hostOpen (F.SMB_T_CFG_CLEAR_COUNTS.addr))
    ∧ (∃ (s u : State) (d key : Nat) (pec : Pec), u = s.atCmd d ∧ u.smbOpen ∧ key < 65536 ∧ u.on F.SMB_T_STATUS_LOCKOUT =
        false ∧ u.pecOk pec (u.smbSent 0x10 (le 2 key)) = true ∧ key = u.rd F.SMB_T_KEY_KEY ∧ key ≠ 0)
    ∧ (∃ (s u : State) (d key : Nat) (pec : Pec), u = s.atCmd d ∧ u.smbOpen ∧ key < 65536 ∧ u.on F.SMB_T_STATUS_LOCKOUT =
        false ∧ u.pecOk pec (u.smbSent 0x10 (le 2 key)) = true ∧ (key ≠ u.rd F.SMB_T_KEY_KEY ∨ key = 0))
    ∧ (∃ (s u : State) (d key : Nat) (pec : Pec), u = s.atCmd d ∧ u.smbOpen ∧ u.on F.SMB_T_STATUS_LOCKOUT = true)
    ∧ (∃ (s u : State) (d : Nat) (pec : Pec), u = s.atCmd d ∧ u.smbOpen ∧ u.pecOk pec (u.smbSent 0x11 []) = true)
    ∧ (∃ (s u : State) (d : Nat), u = s.atCmd d ∧ u.power.on = true ∧ u.on F.SMB_T_STATUS_PRIV = true ∧ u.smb.lastPriv +
        1000000000 * u.rd F.SMB_T_TIMING_SESSION_S ≤ u.clk)
    ∧ (∃ (s u : State) (d : Nat), u = s.atCmd d ∧ u.power.on = true ∧ u.on F.SMB_T_STATUS_PRIV = true ∧ u.clk <
        u.smb.lastPriv + 1000000000 * u.rd F.SMB_T_TIMING_SESSION_S)
    ∧ (∃ (s u : State) (d : Nat), u = s.atCmd d ∧ u.power.on = true ∧ u.on F.SMB_T_STATUS_LOCKOUT = true ∧ u.smb.lockAt +
        1000000000 ≤ u.clk) :=
  ⟨⟨wit0, _, 0, rfl, by decide +kernel⟩,
   ⟨wit0.wr F.KINDLE_STATUS_PHASE 0, _, 0, rfl, by decide +kernel⟩,
   ⟨{ wit0 with smb := { gate := [⟨0, 4, 0⟩] } }, _, 0, rfl, by decide +kernel⟩,
   ⟨wit0, _, 3, rfl, by decide +kernel⟩,
   ⟨wit0, _, 4, rfl, by decide +kernel⟩,
   ⟨wit0, _, 5, rfl, by decide +kernel⟩,
   ⟨wit0, _, 6, rfl, by decide +kernel⟩,
   ⟨wit0, _, 0, 255, .none, rfl, by decide +kernel⟩,
   ⟨wit0, _, 0, 1, 0, rfl, by decide +kernel⟩,
   ⟨wit0.wr F.SMB_T_CFG_PEC_REQ 1, _, 0, 1, rfl, by decide +kernel⟩,
   ⟨wit0, _, 0, 1, rfl, by decide +kernel⟩,
   ⟨(wit0.wr F.SMB_ALERT_SRC 1).wr F.SMB_ALERT_EN 1, _, 0, true, rfl, by decide +kernel⟩,
   ⟨wit0, _, 0, true, rfl, by decide +kernel⟩,
   ⟨wit0, _, 0, rfl, by decide +kernel⟩,
   ⟨wit0, _, 0, rfl, by decide +kernel⟩,
   ⟨wit0, _, 0, 0x51, rfl, by decide +kernel⟩,
   ⟨wit0, _, 0, rfl, by decide +kernel⟩,
   ⟨wit0.wr F.SMB_T_KEY_KEY 0xFFFF, _, 0, 0xFFFF, .none, rfl, by decide +kernel⟩,
   ⟨wit0.wr F.SMB_T_KEY_KEY 0xFFFF, _, 0, 0xFFFE, .none, rfl, by decide +kernel⟩,
   ⟨wit0.wr F.SMB_T_STATUS_LOCKOUT 1, _, 0, 0, .none, rfl, by decide +kernel⟩,
   ⟨wit0, _, 0, .none, rfl, by decide +kernel⟩,
   ⟨({ wit0 with clk := 65535000000000 } : State).wr F.SMB_T_STATUS_PRIV 1, _, 0, rfl, by decide +kernel⟩,
   ⟨wit0.wr F.SMB_T_STATUS_PRIV 1, _, 0, rfl, by decide +kernel⟩,
   ⟨({ wit0 with clk := 1000000000 } : State).wr F.SMB_T_STATUS_LOCKOUT 1, _, 0, rfl, by decide +kernel⟩⟩

/-- States and operands that meet the hypotheses of each clause of TargetTransfers. -/
theorem test_wit_TargetTransfers :
    (∃ (s u : State) (d k x : Nat) (pec : Pec), u = s.atCmd d ∧ u.smbOpen ∧ k < 2 ∧ x < 65536 ∧ u.pecOk pec (u.smbSent (0x40
        + k) (le 2 x)) = true)
    ∧ (∃ (s u : State) (d k : Nat) (pec : Pec), u = s.atCmd d ∧ u.smbOpen ∧ k < 2)
    ∧ (∃ (s u : State) (d k x : Nat) (pec : Pec), u = s.atCmd d ∧ u.smbOpen ∧ k < 2 ∧ x < 65536 ∧ u.pecOk pec (u.smbSent
        (0x44 + k) (le 2 x)) = true)
    ∧ (∃ (s u : State) (d k : Nat) (pec : Pec), u = s.atCmd d ∧ u.smbOpen ∧ k < 2)
    ∧ (∃ (s u : State) (d k x : Nat) (pec : Pec), u = s.atCmd d ∧ u.smbOpen ∧ k < 2 ∧ x < 256 ∧ u.pecOk pec (u.smbSent (0x48
        + k) (le 1 x)) = true)
    ∧ (∃ (s u : State) (d k : Nat) (pec : Pec), u = s.atCmd d ∧ u.smbOpen ∧ k < 2)
    ∧ (∃ (s u : State) (d k x : Nat) (pec : Pec), u = s.atCmd d ∧ u.smbOpen ∧ k < 2 ∧ pec ≠ .short ∧ u.pecOk pec (u.smbSent
        (0x44 + k) (le 2 x)) = false)
    ∧ (∃ (s u : State) (d k : Nat) (late : Bool) (h : SmbHeld) (dat : Bytes), u = s.atCmd d ∧ u.smbOpen ∧ k < 2 ∧ u.smbOk k
        (u.smb.len.getD k 0) false false = true ∧ u.smb.held = some h ∧ h.code = 0x4C + k ∧ h.unit = k ∧ h.page =
        u.smb.page.getD k 0 ∧ h.ptr = u.smb.ptr.getD k 0 ∧ h.len = u.smb.len.getD k 0 ∧ h.data = some dat ∧ u.clk < h.at_ +
        1000000 * u.rd F.SMB_T_TIMING_HOLD_MS)
    ∧ (∃ (s u : State) (d k : Nat) (late : Bool), u = s.atCmd d ∧ u.smbOpen ∧ k < 2 ∧ u.smbOk k (u.smb.len.getD k 0) false
        false = false)
    ∧ (∃ (s u : State) (d a : Nat), u = s.atCmd d ∧ u.smbOpen ∧ u.smbOk 0 8 false true = true ∧ u.smb.held = none ∧ a =
        u.smbAddr 0 ∧ u.bankedAt a = none)
    ∧ (∃ (s u : State) (d : Nat), u = s.atCmd d ∧ u.smbOpen ∧ u.smbOk 0 8 false true = true ∧ u.smb.held = none)
    ∧ (∃ (s u : State) (d count : Nat) (data : Bytes) (pec : Pec), u = s.atCmd d ∧ u.smbOpen ∧ data.length = count ∧ u.on
        F.SMB_T_STATUS_PRIV = true ∧ u.smbOk 0 count true false = true ∧ u.pecOk pec (u.smbSent 0x4C (le 1 count ++ data)) =
        true)
    ∧ (∃ (s u : State) (d count : Nat) (data : Bytes) (pec : Pec), u = s.atCmd d ∧ u.smbOpen ∧ data.length < count ∧ u.on
        F.SMB_T_STATUS_PRIV = true ∧ u.smbOk 0 count true false = true)
    ∧ (∃ (s u : State) (d count : Nat) (data : Bytes) (pec : Pec), u = s.atCmd d ∧ u.smbOpen ∧ u.on F.SMB_T_STATUS_PRIV =
        false)
    ∧ (∃ (s u : State) (d v : Nat) (pec : Pec), u = s.atCmd d ∧ u.smbOpen ∧ v < 2 ^ 64 ∧ u.smbOk 0 8 true true = true ∧
        u.pecOk pec (u.smbSent 0x50 (le 8 v)) = true)
    ∧ (∃ (s u : State) (d : Nat) (h : SmbHeld), u = s.atCmd d ∧ u.power.on = true ∧ u.smb.held = some h ∧ h.data = none ∧
        h.unit = 0 ∧ u.bankedAt (65536 * h.page + h.ptr) = none)
    ∧ (∃ (s u : State) (d : Nat) (h : SmbHeld), u = s.atCmd d ∧ u.power.on = true ∧ u.smb.held = some h ∧ h.data = none ∧
        h.unit = 1 ∧ u.flash.busy = some (.smbRead (65536 * h.page + h.ptr) h.len))
    ∧ (∃ (s u : State) (d : Nat) (h : SmbHeld), u = s.atCmd d ∧ u.power.on = true ∧ u.smb.held = some h ∧ h.data.isSome =
        true ∧ h.at_ + 1000000 * u.rd F.SMB_T_TIMING_HOLD_MS ≤ u.clk)
    ∧ (∃ (s u : State) (d : Nat) (w : HeldWrite) (ws : List HeldWrite), u = s.atCmd d ∧ u.power.on = true ∧ u.smb.gate = w ::
        ws ∧ u.bankedAt w.addr = none) :=
  ⟨⟨wit0, _, 0, 1, 65535, .none, rfl, by decide +kernel⟩,
   ⟨wit0, _, 0, 1, .none, rfl, by decide +kernel⟩,
   ⟨wit0, _, 0, 1, 65535, .none, rfl, by decide +kernel⟩,
   ⟨wit0, _, 0, 1, .none, rfl, by decide +kernel⟩,
   ⟨wit0, _, 0, 1, 255, .none, rfl, by decide +kernel⟩,
   ⟨wit0, _, 0, 1, .none, rfl, by decide +kernel⟩,
   ⟨wit0, _, 0, 1, 1, .byte 0, rfl, by decide +kernel⟩,
   ⟨{ wit0 with smb := { len := [(0, 32)], held := some ⟨0x4C, 0, 0, 0, 32, some (zeros 32), 0⟩ } }, _, 0, 0, false, ⟨0x4C,
     0, 0, 0, 32, some (zeros 32), 0⟩, zeros 32, rfl, by decide +kernel⟩,
   ⟨{ wit0 with smb := { len := [(0, 33)] } }, _, 0, 0, false, rfl, by decide +kernel⟩,
   ⟨{ wit0 with smb := { ptr := [(0, 0xFFF8)] } }, _, 0, 0xFFF8, rfl, by decide +kernel⟩,
   ⟨{ wit0 with smb := { ptr := [(0, 0xFFF8)] } }, _, 0, rfl, by decide +kernel⟩,
   ⟨{ wit0.wr F.SMB_T_STATUS_PRIV 1 with smb := { ptr := [(0, 0xFFE0)] } }, _, 0, 32, zeros 32, .none, rfl,
     by decide +kernel⟩,
   ⟨{ wit0.wr F.SMB_T_STATUS_PRIV 1 with smb := { ptr := [(0, 0xFFE0)] } }, _, 0, 32, zeros 31, .short, rfl,
     by decide +kernel⟩,
   ⟨wit0, _, 0, 4, [], .none, rfl, by decide +kernel⟩,
   ⟨{ wit0.wr F.SMB_T_STATUS_PRIV 1 with smb := { ptr := [(0, 0xFFE0)] } }, _, 0, 2 ^ 64 - 1, .none, rfl, by decide +kernel⟩,
   ⟨{ wit0 with smb := { held := some ⟨0x50, 0, 0, 0, 8, none, 0⟩ } }, _, 0, ⟨0x50, 0, 0, 0, 8, none, 0⟩, rfl,
     by decide +kernel⟩,
   ⟨{ wit0 with smb := { held := some ⟨0x4D, 1, 3, 4, 8, none, 0⟩ }, flash := { busy := some (.smbRead 196612 8) } }, _, 0,
     ⟨0x4D, 1, 3, 4, 8, none, 0⟩, rfl, by decide +kernel⟩,
   ⟨{ wit0 with clk := 65535000000, smb := { held := some ⟨0x50, 0, 0, 0, 8, some [], 0⟩ } }, _, 0, ⟨0x50, 0, 0, 0, 8, some
     [], 0⟩, rfl, by decide +kernel⟩,
   ⟨{ wit0 with smb := { gate := [⟨0x2000, 4, 5⟩] } }, _, 0, ⟨0x2000, 4, 5⟩, [], rfl, by decide +kernel⟩⟩

/-- States and operands that meet the hypotheses of each clause of SpareUnits. -/
theorem test_wit_SpareUnits :
    (∃ (s u : State) (d : Nat) (cls : Nat) (n : Nat) (err : Nat), u = s.atCmd d ∧ clsOk cls = true ∧ n < unitCount cls ∧ err
        < 64 ∧ u.pressOn ∧ u.on (servingF cls) n = true)
    ∧ (∃ (s u : State) (d : Nat) (cls : Nat) (l : Nat) (n : Nat), u = s.atCmd d ∧ clsOk cls = true ∧ l < 8 * perCluster cls ∧
        u.hostOpen (F.WELD_CTL_OP.addr) ∧ u.pressOn ∧ u.unitOf cls l = some n)
    ∧ (∃ (s u : State) (d : Nat) (cls : Nat) (l : Nat) (n : Nat), u = s.atCmd d ∧ clsOk cls = true ∧ l < 8 * perCluster cls ∧
        u.hostOpen (F.WELD_CTL_OP.addr) ∧ u.pressOn ∧ u.unitOf cls l = some n)
    ∧ (∃ (s u : State) (d : Nat) (cls : Nat) (l : Nat) (n : Nat), u = s.atCmd d ∧ clsOk cls = true ∧ l < 8 * perCluster cls ∧
        u.hostOpen (F.WELD_CTL_OP.addr) ∧ u.pressOn ∧ u.unitOf cls l = some n ∧ u.subAt cls (unitPlace cls n).1 = none ∧ u.rd
        (spareF cls) (unitPlace cls n).1 ≠ 0xFF)
    ∧ (∃ (s u : State) (d : Nat) (cls : Nat) (l : Nat) (n : Nat), u = s.atCmd d ∧ clsOk cls = true ∧ l < 8 * perCluster cls ∧
        u.hostOpen (F.WELD_CTL_OP.addr) ∧ u.pressOn ∧ u.unitOf cls l = some n)
    ∧ (∃ (s u : State) (d : Nat) (cls : Nat) (n : Nat), u = s.atCmd d ∧ clsOk cls = true ∧ n < unitCount cls ∧ u.hostOpen
        (F.WELD_CTL_OP.addr) ∧ u.pressOn ∧ u.rd (spareF cls) (unitPlace cls n).1 = (unitPlace cls n).2 ∧ u.subAt cls
        (unitPlace cls n).1 = none)
    ∧ (∃ (s u : State) (d : Nat) (cls : Nat) (n : Nat), u = s.atCmd d ∧ clsOk cls = true ∧ n < unitCount cls ∧ u.hostOpen
        (F.WELD_CTL_OP.addr) ∧ u.pressOn ∧ bit (u.rd (failedF cls) (unitPlace cls n).1) (unitPlace cls n).2 = 1)
    ∧ (∃ (s u : State) (d : Nat) (n : Nat), u = s.atCmd d ∧ n < 544 ∧ u.hostOpen (F.WELD_CTL_OP.addr) ∧ u.pressOn ∧
        u.sliceState (n / 17) (n % 17) = 3 ∧ (u.lgrp (n / 17)).test = none)
    ∧ (∃ (s u : State) (d : Nat) (cls : Nat) (c : Nat) (k : Nat) (x : SubS) (cause : Nat), u = s.atCmd d ∧ clsOk cls = true ∧
        c < 8 ∧ k ≤ perCluster cls ∧ u.pressOn ∧ u.weld.testing.find (unKey cls c k) = some cause ∧ u.rd (spareF cls) c = k ∧
        u.subAt cls c = some x ∧ x.stage = 1)
    ∧ (∃ (s u : State) (d : Nat) (cls : Nat) (c : Nat) (k : Nat) (pass : Bool) (repaired : Bool), u = s.atCmd d ∧ clsOk cls =
        true ∧ c < 8 ∧ k ≤ perCluster cls ∧ u.pressOn ∧ u.weld.testing.find (unKey cls c k) = none)
    ∧ (∃ (s u : State) (d : Nat), u = s.atCmd d ∧ u.pressOn ∧ u.clk < u.weld.lastSpareTest + 60000000000 * u.rd
        F.WELD_LIMITS_SPARE_TEST_MIN)
    ∧ (∃ (s u : State) (d : Nat), u = s.atCmd d ∧ u.pressOn ∧ u.weld.lastSpareTest + 60000000000 * u.rd
        F.WELD_LIMITS_SPARE_TEST_MIN ≤ u.clk ∧ u.rd F.WELD_ACL_SPARE_K 7 ≠ 0xFF ∧ u.subAt 2 7 = none ∧ u.weld.testing = [])
    ∧ (∃ (s u : State) (d : Nat) (cls : Nat) (c : Nat) (x : SubS), u = s.atCmd d ∧ clsOk cls = true ∧ c < 8 ∧ u.pressOn ∧
        u.subAt cls c = some x ∧ x.stage = 3 ∧ x.ran = true ∧ x.cause = 3)
    ∧ (∃ (s u : State) (d : Nat) (cls : Nat) (c : Nat) (pass : Bool) (x : SubS), u = s.atCmd d ∧ clsOk cls = true ∧ c < 8 ∧
        u.pressOn ∧ u.subAt cls c = some x ∧ (x.stage ≠ 3 ∨ x.ran = false)) :=
  ⟨⟨wit0, _, 0, 2, 134, 63, rfl, by decide +kernel⟩,
   ⟨wit0, _, 0, 1, 255, 262, rfl, by decide +kernel⟩,
   ⟨wit0, _, 0, 1, 255, 262, rfl, by decide +kernel⟩,
   ⟨wit0, _, 0, 1, 255, 262, rfl, by decide +kernel⟩,
   ⟨wit0, _, 0, 1, 255, 262, rfl, by decide +kernel⟩,
   ⟨wit0, _, 0, 1, 263, rfl, by decide +kernel⟩,
   ⟨wit0.wr F.WELD_ACL_FAILED 0x10000 7, _, 0, 2, 135, rfl, by decide +kernel⟩,
   ⟨{ wit0 with weld := { slice := [(543, 3)] } }, _, 0, 543, rfl, by decide +kernel⟩,
   ⟨{ wit0 with weld := { testing := [(unKey 2 7 16, 3)], subs := [(clKey 2 7, ⟨0, 16, 112, 3, 0, 0, 0, 0, 1, 0, false, false, 0⟩)] } },
     _, 0, 2, 7, 16, ⟨0, 16, 112, 3, 0, 0, 0, 0, 1, 0, false, false, 0⟩, 3, rfl, by decide +kernel⟩,
   ⟨wit0, _, 0, 1, 7, 32, false, false, rfl, by decide +kernel⟩,
   ⟨wit0, _, 0, rfl, by decide +kernel⟩,
   ⟨{ wit0 with clk := 65535 * 60000000000 }, _, 0, rfl, by decide +kernel⟩,
   ⟨{ wit0 with weld := { subs := [(clKey 1 7, ⟨0, 32, 224, 3, 0, 0, 0, 0, 3, 1, false, true, 0⟩)] } }, _, 0, 1, 7, ⟨0, 32,
     224, 3, 0, 0, 0, 0, 3, 1, false, true, 0⟩, rfl, by decide +kernel⟩,
   ⟨{ wit0 with weld := { subs := [(clKey 1 7, ⟨0, 32, 224, 3, 0, 0, 0, 0, 3, 1, false, false, 0⟩)] } }, _, 0, 1, 7, false,
     ⟨0, 32, 224, 3, 0, 0, 0, 0, 3, 1, false, false, 0⟩, rfl, by decide +kernel⟩⟩

/-- States and operands that meet the hypotheses of each clause of ErrorsAndJournal. -/
theorem test_wit_ErrorsAndJournal :
    (∃ (s u : State) (d : Nat) (e : ErrArg), u = s.atCmd d ∧ errArgOk e = true ∧ u.power.on = true ∧ e.src < 2 ^ 32 ∧
        e.items.length ≤ 5)
    ∧ (∃ (s u : State) (d : Nat) (e : ErrArg), u = s.atCmd d ∧ errArgOk e = true ∧ u.power.on = true ∧ e.code = 0x06)
    ∧ (∃ (s u : State) (d : Nat) (eraseOk : Bool), u = s.atCmd d ∧ u.power.on = true ∧ u.flash.busy = some .ingot)
    ∧ (∃ (s u : State) (d : Nat) (ok : Bool) (eraseOk : Bool), u = s.atCmd d ∧ u.power.on = true ∧ u.flash.busy = some .ingot
        ∧ u.weld.ingots = [])
    ∧ (∃ (s u : State) (d : Nat), u = s.atCmd d ∧ u.pressOn ∧ u.weld.wearClk + 60000000000 * u.rd F.WELD_LIMITS_WEAR_MIN ≤
        u.clk)
    ∧ (∃ (s u : State) (d : Nat) (tag : Nat) (len : Nat), u = s.atCmd d ∧ tag < 256 ∧ 1 ≤ len ∧ len ≤ 1024 ∧ u.hostOpen
        (F.WELD_HOST_CTL_WRITE.addr) ∧ u.on F.WELD_HOST_CTL_BUSY = false ∧ u.on F.WELD_STATUS_READ_ONLY = false)
    ∧ (∃ (s u : State) (d : Nat) (tag : Nat) (len : Nat), u = s.atCmd d ∧ tag < 256 ∧ len < 2048 ∧ (len = 0 ∨ 1024 < len) ∧
        u.hostOpen (F.WELD_HOST_CTL_WRITE.addr))
    ∧ (∃ (s u : State) (d : Nat) (tag : Nat), u = s.atCmd d ∧ tag < 256 ∧ u.hostOpen (F.WELD_HOST_FIND_TAG.addr) ∧ newest
        u.ingots (fun x => decide (x.kind = 6 ∧ leAt x.payload 0 2 = tag)) = none) :=
  ⟨⟨wit0.wr F.WELD_LOG_PTR_WR 255, _, 0, ⟨0x06, 0x0E000000, [5], none, none, none, none⟩, rfl, by decide +kernel⟩,
   ⟨wit0.wr F.WELD_LOG_PTR_WR 255, _, 0, ⟨0x06, 0x0E000000, [5], none, none, none, none⟩, rfl, by decide +kernel⟩,
   ⟨{ wit0 with flash := { busy := some .ingot }, weld := { ingots := [⟨6, zeros 80, 0⟩] } }, _, 0, false, rfl,
     by decide +kernel⟩,
   ⟨{ wit0 with flash := { busy := some .ingot } }, _, 0, false, false, rfl, by decide +kernel⟩,
   ⟨{ wit0 with clk := 65535 * 60000000000 }, _, 0, rfl, by decide +kernel⟩,
   ⟨wit0, _, 0, 255, 1024, rfl, by decide +kernel⟩,
   ⟨wit0, _, 0, 255, 1025, rfl, by decide +kernel⟩,
   ⟨wit0, _, 0, 255, rfl, by decide +kernel⟩⟩

end Sys2Proof.Tests.Slice0
end

/-!
PROOFS. A software event of Striker (R450): what latching an event does, what STK_SWEVT does on each kind of channel, and the
obligation on SOFTWARE_EVENT.
-/

namespace Sys2Proof.Machine

/-! ### Latching an event -/

/-- A first event of a channel in a cycle is latched behind those that wait (R448). -/
theorem State.latch_of_not_mem {s : State} {ch cycle : Nat} (h : (ch, cycle, 2) ∉ s.stk.latched) :
    s.latch ch cycle = s.setStk { s.stk with latched := s.stk.latched ++ [(ch, cycle, 2)] } := if_neg h

/-- A second event of a channel in a cycle only counts in MERGED (R448, R450). -/
theorem State.latch_of_mem {s : State} {ch cycle : Nat} (h : (ch, cycle, 2) ∈ s.stk.latched) :
    s.latch ch cycle = s.inc F.STK_CH_STAT_MERGED ch := if_pos h

/-! ### The write of STK_SWEVT -/

/-- On a PULSE channel the write latches an event for the next cycle. -/
theorem State.softEvent_pulse {s : State} {ch : Nat} (h : evLevel (s.rd F.STK_CH_CFG_SOURCE ch) = false) :
    s.softEvent ch = s.latch ch (s.dt + 1) := by simp [State.softEvent, h]

/-- On a LEVEL channel the write only sets BAD_WRITE. -/
theorem State.softEvent_level {s : State} {ch : Nat} (h : evLevel (s.rd F.STK_CH_CFG_SOURCE ch) = true) :
    s.softEvent ch = s.flag F.STK_STATUS_BAD_WRITE := by simp [State.softEvent, h]

/-- SOFTWARE_EVENT on a channel that exists, with Striker's block open to the host, is the write of STK_SWEVT. -/
theorem exec_softwareEvent_open {s : State} {d ch : Nat} (hch : ch < 512)
    (ho : (s.atCmd d).hostOpen F.STK_SWEVT_CHANNEL.addr) :
    exec (.softwareEvent d ch) s = .next (s.closeCmd d ((s.atCmd d).softEvent ch)) := by
  rw [exec_softwareEvent, execSoftwareEvent, cmd_true (decide_eq_true hch), State.hostWrite_open ho]

/-- Settles O48: with the block open the command is the write of STK_SWEVT, which latches, merges or refuses the event. -/
theorem softwareEvents : Obligations.SoftwareEvents := by
  unfold Obligations.SoftwareEvents
  refine ⟨?latched, ?merged, ?refused⟩
  case latched =>
    rintro s _ d ch rfl hch ho hpulse hfresh
    rw [exec_softwareEvent_open hch ho, State.softEvent_pulse hpulse, State.latch_of_not_mem hfresh]
  case merged =>
    rintro s _ d ch rfl hch ho hpulse hmem
    rw [exec_softwareEvent_open hch ho, State.softEvent_pulse hpulse, State.latch_of_mem hmem, State.inc]
  case refused =>
    rintro s _ d ch rfl hch ho hlevel
    rw [exec_softwareEvent_open hch ho, State.softEvent_level hlevel]

end Sys2Proof.Machine

/-!
PROOFS. The semaphores of the register block (R559, R561): what a write of GLB_SEM does, which registers of the block a reset of the
host port leaves alone, what a reset frees, and the obligations on semaphores.
-/

namespace Sys2Proof.Machine

/-! ### A write of GLB_SEM (R559) -/

/-- A claim with a token takes a free semaphore. -/
theorem State.semWrite_claim_free {s : State} {i token : Nat} (ht : token ≠ 0) (hfree : s.rd F.GLB_SEM_OWNER i = 0) :
    s.semWrite i false token = s.wr F.GLB_SEM_OWNER token i := if_pos ⟨ht, hfree⟩

/-- A claim without a token, or of a semaphore that is held, changes nothing. -/
theorem State.semWrite_claim_refused {s : State} {i token : Nat} (h : token = 0 ∨ s.rd F.GLB_SEM_OWNER i ≠ 0) :
    s.semWrite i false token = s := by
  have hrefused : ¬(token ≠ 0 ∧ s.rd F.GLB_SEM_OWNER i = 0) := by tauto
  exact if_neg hrefused

/-- The owner's token releases a semaphore. -/
theorem State.semWrite_release_owner {s : State} {i token : Nat} (h : token = s.rd F.GLB_SEM_OWNER i) :
    s.semWrite i true token = s.wr F.GLB_SEM_OWNER 0 i := if_pos h

/-- A release with another token changes nothing. -/
theorem State.semWrite_release_other {s : State} {i token : Nat} (h : token ≠ s.rd F.GLB_SEM_OWNER i) :
    s.semWrite i true token = s := if_neg h

/-- SEMAPHORE_CLAIM of a semaphore that exists, with its register open to the host, is the write with RELEASE 0. -/
theorem exec_semaphoreClaim_open {s : State} {d i token : Nat} (hi : i < 8) (ht : token < 65536)
    (ho : (s.atCmd d).hostOpen (F.GLB_SEM_TOKEN.at_ i)) :
    exec (.semaphoreClaim d i token) s = .next (s.closeCmd d ((s.atCmd d).semWrite i false token)) := by
  rw [exec_semaphoreClaim, execSemaphoreClaim, cmd_true (decide_eq_true hi), State.hostWrite_open ho, Nat.mod_eq_of_lt ht]

/-- SEMAPHORE_RELEASE of a semaphore that exists, with its register open to the host, is the write with RELEASE 1. -/
theorem exec_semaphoreRelease_open {s : State} {d i token : Nat} (hi : i < 8) (ht : token < 65536)
    (ho : (s.atCmd d).hostOpen (F.GLB_SEM_TOKEN.at_ i)) :
    exec (.semaphoreRelease d i token) s = .next (s.closeCmd d ((s.atCmd d).semWrite i true token)) := by
  rw [exec_semaphoreRelease, execSemaphoreRelease, cmd_true (decide_eq_true hi), State.hostWrite_open ho, Nat.mod_eq_of_lt ht]

/-- Settles O22: with the register open each command is a write of GLB_SEM, which has the four cases of R559. -/
theorem semaphores : Obligations.Semaphores := by
  unfold Obligations.Semaphores
  refine ⟨?claimed, ?claimRefused, ?released, ?releaseRefused⟩
  case claimed =>
    rintro s _ d i token rfl hi ht ho hne hfree
    rw [exec_semaphoreClaim_open hi ht ho, State.semWrite_claim_free hne hfree]
  case claimRefused =>
    rintro s _ d i token rfl hi ht ho hrefused
    rw [exec_semaphoreClaim_open hi ht ho, State.semWrite_claim_refused hrefused]
  case released =>
    rintro s _ d i token rfl hi ht ho howner
    rw [exec_semaphoreRelease_open hi ht ho, State.semWrite_release_owner howner]
  case releaseRefused =>
    rintro s _ d i token rfl hi ht ho hother
    rw [exec_semaphoreRelease_open hi ht ho, State.semWrite_release_other hother]

/-! ### Changes that leave every semaphore alone -/

/-- Every semaphore has the same owner in both states. -/
def SameSemaphores (s t : State) : Prop := ∀ i < 8, t.rd F.GLB_SEM_OWNER i = s.rd F.GLB_SEM_OWNER i

theorem SameSemaphores.refl (s : State) : SameSemaphores s s := fun _ _ => rfl

theorem SameSemaphores.trans {s t u : State} (h : SameSemaphores s t) (k : SameSemaphores t u) : SameSemaphores s u :=
  fun i hi => (k i hi).trans (h i hi)

theorem SameSemaphores.of_regs {s t : State} (h : t.regs = s.regs) : SameSemaphores s t :=
  fun i _ => State.rd_of_regs h _ i 0

theorem SameSemaphores.foldl {α : Type} {f : State → α → State} (h : ∀ s a, SameSemaphores s (f s a)) :
    ∀ (l : List α) (s : State), SameSemaphores s (l.foldl f s)
  | [], s => .refl s
  | a :: l, s => (h s a).trans (SameSemaphores.foldl h l (f s a))

/-- The bit address of an OWNER: the registers GLB_SEM end below byte 0x100. -/
theorem GLB_SEM_OWNER_key_lt {i : Nat} (hi : i < 8) : F.GLB_SEM_OWNER.key i 0 < 8 * 0x100 := by
  simp only [Fld.key, F.GLB_SEM_OWNER]; omega

/-- A further write, of a register that lies above the semaphores. -/
theorem SameSemaphores.wr {s t : State} (h : SameSemaphores s t) {f : Fld} {i j : Nat} (v : Nat)
    (hf : 8 * 0x100 ≤ f.key i j := by decide) : SameSemaphores s (t.wr f v i j) := fun k hk => by
  have hlt := GLB_SEM_OWNER_key_lt hk
  rw [State.rd_wr_ne t (by omega), h k hk]

theorem State.raise_sameSemaphores (s : State) (e : Nat) : SameSemaphores s (s.raise e) := fun k hk => by
  have hlt := GLB_SEM_OWNER_key_lt hk
  exact s.raise_rd e _ k 0 (.inl (by omega))

/-! ### A reset of the host port up to the semaphores -/

theorem State.unpop_sameSemaphores (s : State) (p : PopS) : SameSemaphores s (s.unpop p) := by
  unfold State.unpop
  dsimp only
  split
  · exact .of_regs rfl
  · split <;> exact .of_regs rfl

theorem State.tagsMoved_sameSemaphores (s : State) : SameSemaphores s s.tagsMoved :=
  (((SameSemaphores.refl s).wr _).wr _).wr _

theorem State.tongsAbandon_sameSemaphores (s : State) (ch : Nat) : SameSemaphores s (s.tongsAbandon ch) := by
  have henable : 8 * 0x100 ≤ F.TONGS_CFG_ENABLE.key ch 0 := by simp only [Fld.key, F.TONGS_CFG_ENABLE]; omega
  delta State.tongsAbandon
  extract_lets x unpopped released tags hep moved disabled
  have hunpopped : SameSemaphores s unpopped := by
    unfold unpopped
    split
    · exact s.unpop_sameSemaphores _
    · exact .refl s
  have hreleased : SameSemaphores unpopped released := .foldl (fun t c => .of_regs (t.setHm_regs c _)) _ _
  have htags : SameSemaphores released { released with hep := { released.hep with tags := tags } } := .of_regs rfl
  have hmoved : SameSemaphores released moved := htags.trans (State.tagsMoved_sameSemaphores _)
  exact (((hunpopped.trans hreleased).trans hmoved).wr 0 henable).trans (.of_regs (disabled.setTg_regs ch _))

theorem State.tongsReset_sameSemaphores (s : State) : SameSemaphores s s.tongsReset :=
  .foldl State.tongsAbandon_sameSemaphores _ s

/-- The fields of FUNC_MODE of every function lie above the semaphores. -/
theorem State.settleMode_sameSemaphores (s : State) (f : Nat) : SameSemaphores s (s.settleMode f) := by
  have hpending : 8 * 0x100 ≤ F.FUNC_MODE_PENDING.key f 0 := by simp only [Fld.key, F.FUNC_MODE_PENDING]; omega
  have hcurrent : 8 * 0x100 ≤ F.FUNC_MODE_CURRENT.key f 0 := by simp only [Fld.key, F.FUNC_MODE_CURRENT]; omega
  have hsettled (v : Nat) : SameSemaphores s ((s.wr F.FUNC_MODE_CURRENT v f).wr F.FUNC_MODE_PENDING 0 f) :=
    ((SameSemaphores.refl s).wr v hcurrent).wr 0 hpending
  unfold State.settleMode
  split
  · exact (SameSemaphores.refl s).wr 1 hpending
  · dsimp only
    split
    · exact (hsettled _).trans (State.raise_sameSemaphores _ _)
    · exact hsettled _

/-- A safe point changes no semaphore unless what its function does afresh changes one. -/
theorem State.safePoint_sameSemaphores (s : State) (f u : Nat) {afresh : State → State}
    (h : ∀ t, SameSemaphores t (afresh t)) : SameSemaphores s (s.safePoint f u afresh) := by
  unfold State.safePoint
  dsimp only
  split
  · refine SameSemaphores.trans ?_ (State.settleMode_sameSemaphores _ f)
    split
    · exact h (s.flipMode f u)
    · exact .of_regs rfl
  · exact .refl s

/-- A reset of the host port does nothing to a semaphore but free those of host software: the rest of it acts before, and L_TAG
is reported after. -/
theorem State.hostReset_eq_freeSems (s : State) {cnt : Fld} (hcnt : 8 * 0x100 ≤ cnt.key 0 0) (last : Nat) (down : Bool) :
    ∃ t, SameSemaphores s t ∧ s.hostReset cnt last down = (t.freeSems false).limitMoved := by
  delta State.hostReset
  extract_lets stopped closed calm hep reset unlinked counted
  have hstopped : SameSemaphores s stopped := s.tongsReset_sameSemaphores
  have hclosed : SameSemaphores stopped closed := SameSemaphores.wr (.of_regs rfl) _
  have hcalm : SameSemaphores closed calm :=
    ((((SameSemaphores.refl closed).wr _).wr _).wr _).trans (State.safePoint_sameSemaphores _ 7 0 .refl)
  have hreset : SameSemaphores calm reset := .of_regs (calm.setHep_regs _)
  have hunlinked : SameSemaphores reset unlinked := by
    unfold unlinked
    split
    · exact ((((((SameSemaphores.refl reset).wr _).wr _).wr _).wr _).wr _).wr _
    · exact .refl reset
  have hcounted : SameSemaphores unlinked counted := ((SameSemaphores.refl unlinked).wr _ hcnt).wr _
  exact ⟨counted, ((((hstopped.trans hclosed).trans hcalm).trans hreset).trans hunlinked).trans hcounted, rfl⟩

/-! ### What a reset frees (R561) -/

/-- A reset on one semaphore, as `State.freeSems` does it to each. -/
def State.freeSem (all : Bool) (s : State) (i : Nat) : State :=
  if all || decide (bit (s.rd F.GLB_SEM_OWNER i) 15 = 0) then s.wr F.GLB_SEM_OWNER 0 i else s

theorem State.freeSems_eq_foldl (s : State) (all : Bool) : s.freeSems all = (List.range 8).foldl (State.freeSem all) s := rfl

theorem bit_eq_zero_iff (v n : Nat) : bit v n = 0 ↔ v.testBit n = false := by
  rw [bit, Nat.testBit_eq_decide_div_mod_eq, Nat.shiftRight_eq_div_pow, decide_eq_false_iff_not]
  omega

/-- A semaphore is freed when all are, or when bit 15 of its OWNER is clear. -/
theorem State.freeSem_rd_self (all : Bool) (s : State) (i : Nat) :
    (State.freeSem all s i).rd F.GLB_SEM_OWNER i =
      if all || !(s.rd F.GLB_SEM_OWNER i).testBit 15 then 0 else s.rd F.GLB_SEM_OWNER i := by
  simp only [State.freeSem, bit_eq_zero_iff, Bool.decide_eq_false]
  split
  · exact State.rd_wr_self ..
  · rfl

theorem State.freeSem_rd_ne (all : Bool) (s : State) {i k : Nat} (h : i ≠ k) :
    (State.freeSem all s k).rd F.GLB_SEM_OWNER i = s.rd F.GLB_SEM_OWNER i := by
  have hkey : F.GLB_SEM_OWNER.key i 0 ≠ F.GLB_SEM_OWNER.key k 0 := by simp only [Fld.key, F.GLB_SEM_OWNER]; omega
  unfold State.freeSem
  split
  · exact State.rd_wr_ne s hkey 0
  · rfl

/-- Once the first n semaphores have been done, those among them are as `State.freeSem` leaves them, and the others as they were. -/
theorem State.freeSem_foldl_rd (all : Bool) (s : State) (i n : Nat) :
    ((List.range n).foldl (State.freeSem all) s).rd F.GLB_SEM_OWNER i =
      (if i < n then State.freeSem all s i else s).rd F.GLB_SEM_OWNER i := by
  induction n with
  | zero => rfl
  | succ n ih =>
    rw [List.range_succ, List.foldl_append, List.foldl_cons, List.foldl_nil]
    by_cases hin : i = n
    · subst hin
      rw [if_neg (Nat.lt_irrefl i)] at ih
      rw [if_pos (Nat.lt_succ_self i), State.freeSem_rd_self, ih, State.freeSem_rd_self]
    · have hiff : i < n + 1 ↔ i < n := by omega
      rw [State.freeSem_rd_ne all _ hin, ih]
      simp only [hiff]

/-- Each semaphore is freed or kept by its own OWNER alone. -/
theorem State.freeSems_rd (s : State) (all : Bool) {i : Nat} (hi : i < 8) :
    (s.freeSems all).rd F.GLB_SEM_OWNER i =
      if all || !(s.rd F.GLB_SEM_OWNER i).testBit 15 then 0 else s.rd F.GLB_SEM_OWNER i := by
  rw [State.freeSems_eq_foldl, State.freeSem_foldl_rd, if_pos hi, State.freeSem_rd_self]

/-- A reset of the host port frees the semaphores of host software alone. -/
theorem State.hostReset_rd_owner (s : State) {cnt : Fld} (hcnt : 8 * 0x100 ≤ cnt.key 0 0) (last : Nat) (down : Bool) {i : Nat}
    (hi : i < 8) : (s.hostReset cnt last down).rd F.GLB_SEM_OWNER i =
      if (s.rd F.GLB_SEM_OWNER i).testBit 15 then s.rd F.GLB_SEM_OWNER i else 0 := by
  obtain ⟨t, hst, heq⟩ := s.hostReset_eq_freeSems hcnt last down
  have hlimit : SameSemaphores (t.freeSems false) (t.freeSems false).limitMoved := (SameSemaphores.refl _).wr _
  rw [heq, hlimit i hi, t.freeSems_rd false hi, hst i hi]
  cases (s.rd F.GLB_SEM_OWNER i).testBit 15 <;> rfl

/-- A reset of the whole device frees every semaphore. -/
theorem State.deviceReset_rd_owner (s : State) (keepHbm : Bool) (p : PowerS) (i : Nat) :
    (s.deviceReset keepHbm p).rd F.GLB_SEM_OWNER i = 0 := rfl

/-- The start of a Kindle frees no semaphore. -/
theorem State.kindleStart_sameSemaphores (s : State) (cfgHold : Bool) : SameSemaphores s (s.kindleStart cfgHold) :=
  SameSemaphores.wr (.of_regs (s.setKindle_regs _)) _

/-! ### The commands that reset -/

theorem State.powered_on {s : State} (h : s.power.on = true) (f : State → State) : s.powered f = f s := if_pos h

theorem State.wholeScope_iff (s : State) : s.wholeScope = true ↔ s.power.scope = 1 ∨ s.power.everReady = false := by
  simp [State.wholeScope]

/-- What a field reads after a command whose operands exist is what it reads after the command's effect. -/
theorem cmd_rd {s u : State} {d v i : Nat} {f : State → State} {fld : Fld} (hu : u = s.atCmd d) (h : (f u).rd fld i = v) :
    ∃ t, cmd true d s f = .next t ∧ t.rd fld i = v := ⟨_, cmd_true rfl d s f, by rw [State.closeCmd_rd, ← hu, h]⟩

/-- Settles O16: a reset of the host port frees the semaphores without bit 15, and a reset of the whole device frees all. -/
theorem semaphoresAtResets : Obligations.SemaphoresAtResets := by
  unfold Obligations.SemaphoresAtResets
  intro s u d i hu hi
  refine ⟨?pressSafe, ?hotReset, ?linkDown, ?functionLevelReset, ?powerOn, ?wholeDevice⟩
  case pressSafe =>
    intro hon hperst hscope hready
    have hact : ¬((!u.power.on) = true ∨ u.power.perst = true) := by simp [hon, hperst]
    have hwhole : ¬u.wholeScope = true := by simp [State.wholeScope_iff, hscope, hready]
    rw [exec_perstNAssert, execPerstNAssert]
    refine cmd_rd hu ?_
    dsimp only
    rw [if_neg hact, if_neg hwhole]
    exact (State.rd_of_regs rfl ..).trans (u.hostReset_rd_owner (by decide) 1 true hi)
  case hotReset =>
    intro hon
    rw [exec_hotReset, execHotReset]
    refine cmd_rd hu ?_
    rw [State.powered_on hon, u.hostReset_rd_owner (by decide) 2 true hi]
  case linkDown =>
    intro hon hlink
    rw [exec_linkDown, execLinkDown]
    refine cmd_rd hu ?_
    rw [State.powered_on hon, if_pos hlink, u.hostReset_rd_owner (by decide) 3 true hi]
  case functionLevelReset =>
    intro hon
    rw [exec_functionLevelReset, execFunctionLevelReset]
    refine cmd_rd hu ?_
    rw [State.powered_on hon, State.setHep_rd, u.hostReset_rd_owner (by decide) 4 false hi]
  case powerOn =>
    intro straps _ hold _ hoff
    have hact : ¬u.power.on = true := by simp [hoff]
    rw [exec_powerOn, execPowerOn]
    refine cmd_rd hu ?_
    dsimp only
    rw [if_neg hact]
    split
    · exact State.deviceReset_rd_owner ..
    · rw [State.kindleStart_sameSemaphores _ _ i hi, State.deviceReset_rd_owner]
  case wholeDevice =>
    intro hon hperst hscope
    have hact : ¬((!u.power.on) = true ∨ u.power.perst = true) := by simp [hon, hperst]
    rw [exec_perstNAssert, execPerstNAssert]
    refine cmd_rd hu ?_
    dsimp only
    rw [if_neg hact, if_pos (u.wholeScope_iff.2 hscope), State.deviceReset_rd_owner]

end Sys2Proof.Machine

/-!
PROOFS. What every command has in common: the outcomes of exec, of a step and of a run of steps.
-/

namespace Sys2Proof.Laws.Elapsed

open Sys2Proof.Machine

/-- Every command is one use of `cmd` with its own check and its own elapsed time. -/
theorem statement : ∀ (c : Instr) (s : State), ∃ act, exec c s = cmd c.check c.elapsed s act
  | .registerWrite .., _ => registerWrite .. | .decideReplyWrite .., _ => decideReplyWrite ..
  | .decideTimeout .., _ => decideTimeout .. | .heldRequestPost .., _ => heldRequestPost ..
  | .funcModeWrite .., _ => funcModeWrite .. | .funcModeSafePoint .., _ => funcModeSafePoint .. | .powerOn .., _ => powerOn ..
  | .supplyOkFall .., _ => supplyOkFall .. | .perstNAssert .., _ => perstNAssert .. | .perstNRelease .., _ => perstNRelease ..
  | .timebaseLock .., _ => timebaseLock .. | .flashInitDone .., _ => flashInitDone .. | .slotSelect .., _ => slotSelect ..
  | .candidateVerify .., _ => candidateVerify .. | .hbmTrainingDone .., _ => hbmTrainingDone ..
  | .hostLinkUp .., _ => hostLinkUp .. | .kindleApplyDone .., _ => kindleApplyDone ..
  | .journalRestore .., _ => journalRestore .. | .kindleReady .., _ => kindleReady .. | .kindleHold .., _ => kindleHold ..
  | .rekindle .., _ => rekindle .. | .finish .., _ => finish .. | .resourceClaim .., _ => resourceClaim ..
  | .resourceRelease .., _ => resourceRelease .. | .flashRead .., _ => flashRead .. | .flashProgram .., _ => flashProgram ..
  | .flashErase .., _ => flashErase .. | .flashArbiterServe .., _ => flashArbiterServe ..
  | .flashOpDone .., _ => flashOpDone .. | .refLost .., _ => refLost .. | .refFrequencyLock .., _ => refFrequencyLock ..
  | .refPhaseLock .., _ => refPhaseLock .. | .encoderEdge .., _ => encoderEdge .. | .encoderIndex .., _ => encoderIndex ..
  | .axisStall .., _ => axisStall .. | .axisResume .., _ => axisResume .. | .useRedundant .., _ => useRedundant ..
  | .usePrimary .., _ => usePrimary .. | .generatorArm .., _ => generatorArm .. | .generatorDisarm .., _ => generatorDisarm ..
  | .generatorFlush .., _ => generatorFlush .. | .targetCrossing .., _ => targetCrossing ..
  | .triggerIssue .., _ => triggerIssue .. | .pinPulseIssue .., _ => pinPulseIssue .. | .pinPulseEnd .., _ => pinPulseEnd ..
  | .firePointIssue .., _ => firePointIssue .. | .ledgerFirstBlockNotice .., _ => ledgerFirstBlockNotice ..
  | .ledgerFrameTagNotice .., _ => ledgerFrameTagNotice .. | .firstBlockTimeout .., _ => firstBlockTimeout ..
  | .frameTimeout .., _ => frameTimeout .. | .ledgerSelWrite .., _ => ledgerSelWrite ..
  | .exposeAckApply .., _ => exposeAckApply .. | .laneEnable .., _ => laneEnable .. | .signalDetect .., _ => signalDetect ..
  | .cdrLock .., _ => cdrLock .. | .blockLock .., _ => blockLock .. | .laneBlockReceive .., _ => laneBlockReceive ..
  | .lockWindowLoss .., _ => lockWindowLoss .. | .lossOfSignal .., _ => lossOfSignal ..
  | .trainTimeout .., _ => trainTimeout .. | .lockTimeout .., _ => lockTimeout .. | .capsTimeout .., _ => capsTimeout ..
  | .relockTimeout .., _ => relockTimeout .. | .exitDetect .., _ => exitDetect .. | .exitFail .., _ => exitFail ..
  | .txExit .., _ => txExit .. | .fomMeasure .., _ => fomMeasure .. | .trimDecision .., _ => trimDecision ..
  | .trimFreeze .., _ => trimFreeze .. | .retrain .., _ => retrain .. | .laneClearCounts .., _ => laneClearCounts ..
  | .testEnter .., _ => testEnter .. | .testExit .., _ => testExit .. | .injectFire .., _ => injectFire ..
  | .injectRepeat .., _ => injectRepeat .. | .spareListenStart .., _ => spareListenStart ..
  | .spareSwitch .., _ => spareSwitch .. | .spareLossTakeover .., _ => spareLossTakeover ..
  | .suspectTestDone .., _ => suspectTestDone .. | .lgrpSubstitute .., _ => lgrpSubstitute ..
  | .lgrpAbandon .., _ => lgrpAbandon .. | .markerSetReceive .., _ => markerSetReceive ..
  | .alignTimeout .., _ => alignTimeout .. | .linkResetDeferred .., _ => linkResetDeferred ..
  | .capsReqSend .., _ => capsReqSend .. | .capsReceive .., _ => capsReceive .. | .frameStart .., _ => frameStart ..
  | .frameEnd .., _ => frameEnd .. | .imagePacket .., _ => imagePacket .. | .billetIdleTimeout .., _ => billetIdleTimeout ..
  | .rspReceive .., _ => rspReceive .. | .cmdTimeout .., _ => cmdTimeout .. | .eventReceive .., _ => eventReceive ..
  | .heartbeatReceive .., _ => heartbeatReceive .. | .heartbeatTimeout .., _ => heartbeatTimeout ..
  | .heartbeatSend .., _ => heartbeatSend .. | .cmdRead .., _ => cmdRead .. | .cmdWrite .., _ => cmdWrite ..
  | .cmdEidleDown .., _ => cmdEidleDown .. | .cmdWakeDown .., _ => cmdWakeDown .. | .cmdCapsRead .., _ => cmdCapsRead ..
  | .cmdLinkReset .., _ => cmdLinkReset .. | .cmdCameraPrivate .., _ => cmdCameraPrivate ..
  | .cobexLinkReset .., _ => cobexLinkReset .. | .cobexClearCounts .., _ => cobexClearCounts ..
  | .tableSwap .., _ => tableSwap .. | .markSetNow .., _ => markSetNow .. | .markSetNextFrame .., _ => markSetNextFrame ..
  | .markClear .., _ => markClear .. | .rewind .., _ => rewind .. | .hearthClearCounts .., _ => hearthClearCounts ..
  | .exposureOrder .., _ => exposureOrder .. | .billetStart .., _ => billetStart ..
  | .billetCompareEnd .., _ => billetCompareEnd .. | .evidenceMessage .., _ => evidenceMessage ..
  | .billetAbandon .., _ => billetAbandon .. | .modelCommit .., _ => modelCommit ..
  | .compareDisable .., _ => compareDisable .. | .anvilClearCounts .., _ => anvilClearCounts ..
  | .latchLoadBegin .., _ => latchLoadBegin .. | .latchPulseEnd .., _ => latchPulseEnd ..
  | .dotLineCommit .., _ => dotLineCommit .. | .headHotAccept .., _ => headHotAccept ..
  | .headCoolAccept .., _ => headCoolAccept .. | .resumeDelayExpiry .., _ => resumeDelayExpiry ..
  | .hgrpResume .., _ => hgrpResume .. | .hammerFlush .., _ => hammerFlush ..
  | .hammerClearCounts .., _ => hammerClearCounts .. | .contextWrite .., _ => contextWrite ..
  | .holdSweep .., _ => holdSweep .. | .headReset .., _ => headReset .. | .snapshot .., _ => snapshot ..
  | .snapshotPeriodic .., _ => snapshotPeriodic .. | .nctxClearCounts .., _ => nctxClearCounts ..
  | .tempSample .., _ => tempSample .. | .budgetGuard .., _ => budgetGuard .. | .telemetryRead .., _ => telemetryRead ..
  | .bellowsEpoch .., _ => bellowsEpoch .. | .railWrite .., _ => railWrite .. | .bankEntry .., _ => bankEntry ..
  | .bankExit .., _ => bankExit .. | .bankExitDone .., _ => bankExitDone .. | .wakeNsWrite .., _ => wakeNsWrite ..
  | .bondIdleEntry .., _ => bondIdleEntry .. | .blwClearPeaks .., _ => blwClearPeaks ..
  | .blwClearCounts .., _ => blwClearCounts .. | .recordPush .., _ => recordPush .. | .recordCommit .., _ => recordCommit ..
  | .unitPop .., _ => unitPop .. | .troughFlush .., _ => troughFlush .. | .troughMark .., _ => troughMark ..
  | .troughInject .., _ => troughInject .. | .troughClearCounts .., _ => troughClearCounts ..
  | .watermarkWrite .., _ => watermarkWrite .. | .channelEnable .., _ => channelEnable ..
  | .channelDisable .., _ => channelDisable .. | .drainComplete .., _ => drainComplete .. | .doorbell .., _ => doorbell ..
  | .descriptorFetch .., _ => descriptorFetch .. | .linkRefetch .., _ => linkRefetch .. | .tagGrant .., _ => tagGrant ..
  | .streamLineDeliver .., _ => streamLineDeliver .. | .troughRecordDeliver .., _ => troughRecordDeliver ..
  | .bufferCloseTimeout .., _ => bufferCloseTimeout .. | .pacingHoldExpiry .., _ => pacingHoldExpiry ..
  | .dotSlotWaitEnd .., _ => dotSlotWaitEnd .. | .cqReturn .., _ => cqReturn .. | .cqCfgWrite .., _ => cqCfgWrite ..
  | .tongsClearCounts .., _ => tongsClearCounts .. | .completionReceive .., _ => completionReceive ..
  | .completionTimeout .., _ => completionTimeout .. | .quarantineExpiry .., _ => quarantineExpiry ..
  | .bar0BadRequest .., _ => bar0BadRequest .. | .bar2Request .., _ => bar2Request .. | .bar4Request .., _ => bar4Request ..
  | .unsupportedRequestReceive .., _ => unsupportedRequestReceive .. | .hostPortError .., _ => hostPortError ..
  | .apertureCommit .., _ => apertureCommit .. | .hotReset .., _ => hotReset .. | .linkDown .., _ => linkDown ..
  | .functionLevelReset .., _ => functionLevelReset .. | .d3hotEntry .., _ => d3hotEntry .. | .d0Return .., _ => d0Return ..
  | .l0pEntry .., _ => l0pEntry .. | .l1Entry .., _ => l1Entry .. | .linkPmExit .., _ => linkPmExit ..
  | .ltrUsWrite .., _ => ltrUsWrite .. | .quenchEnter .., _ => quenchEnter .. | .quenchClearHost .., _ => quenchClearHost ..
  | .quenchClearCto .., _ => quenchClearCto .. | .quenchAsk .., _ => quenchAsk .. | .aerStatusClear .., _ => aerStatusClear ..
  | .quenchRelease .., _ => quenchRelease .. | .quenchReleaseDelayExpiry .., _ => quenchReleaseDelayExpiry ..
  | .hepClearCounts .., _ => hepClearCounts .. | .msixSrcWrite .., _ => msixSrcWrite ..
  | .vectorUnmask .., _ => vectorUnmask .. | .moderationExpiry .., _ => moderationExpiry ..
  | .channelEvent .., _ => channelEvent .. | .loopWindowEnd .., _ => loopWindowEnd .. | .loopClear .., _ => loopClear ..
  | .cellFilterExpiry .., _ => cellFilterExpiry .. | .gpioInputEdge .., _ => gpioInputEdge ..
  | .gpioPulseEnd .., _ => gpioPulseEnd .. | .softwareEvent .., _ => softwareEvent .. | .softwareTask .., _ => softwareTask ..
  | .cellConfigWrite .., _ => cellConfigWrite .. | .stkClearCounts .., _ => stkClearCounts ..
  | .smbStatus .., _ => smbStatus .. | .smbIdent .., _ => smbIdent .. | .smbTemp .., _ => smbTemp ..
  | .smbPower .., _ => smbPower .. | .smbAlertSrc .., _ => smbAlertSrc .. | .smbAlertClr .., _ => smbAlertClr ..
  | .smbUnlock .., _ => smbUnlock .. | .smbLock .., _ => smbLock .. | .smbPage .., _ => smbPage .. | .smbPtr .., _ => smbPtr ..
  | .smbLen .., _ => smbLen .. | .smbDataRead .., _ => smbDataRead .. | .smbDataWrite .., _ => smbDataWrite ..
  | .smbData8Read .., _ => smbData8Read .. | .smbData8Write .., _ => smbData8Write ..
  | .smbFetchComplete .., _ => smbFetchComplete .. | .smbHeldDataExpiry .., _ => smbHeldDataExpiry ..
  | .regsWriteApplied .., _ => regsWriteApplied .. | .alertResponse .., _ => alertResponse ..
  | .sessionTimeout .., _ => sessionTimeout .. | .unlockLockoutEnd .., _ => unlockLockoutEnd ..
  | .smbTargetTimeout .., _ => smbTargetTimeout .. | .smbProtocolError .., _ => smbProtocolError ..
  | .smbcSendByte .., _ => smbcSendByte .. | .smbcWriteByte .., _ => smbcWriteByte ..
  | .smbcWriteWord .., _ => smbcWriteWord .. | .smbcReadByte .., _ => smbcReadByte .. | .smbcReadWord .., _ => smbcReadWord ..
  | .smbcBlockWrite .., _ => smbcBlockWrite .. | .smbcBlockRead .., _ => smbcBlockRead ..
  | .smbcFixedWrite .., _ => smbcFixedWrite .. | .smbcFixedRead .., _ => smbcFixedRead ..
  | .smbcComplete .., _ => smbcComplete .. | .smbcArbRetry .., _ => smbcArbRetry .. | .smbcAddrRetry .., _ => smbcAddrRetry ..
  | .smbcTimeout .., _ => smbcTimeout .. | .smbcProtocolStop .., _ => smbcProtocolStop ..
  | .smbcClearCounts .., _ => smbcClearCounts .. | .smbTClearCounts .., _ => smbTClearCounts ..
  | .unitFault .., _ => unitFault .. | .weldSubstitute .., _ => weldSubstitute .. | .weldForce .., _ => weldForce ..
  | .weldReturn .., _ => weldReturn .. | .weldClearSuspect .., _ => weldClearSuspect ..
  | .weldTestSpare .., _ => weldTestSpare .. | .spareTestDone .., _ => spareTestDone ..
  | .spareTestPeriodic .., _ => spareTestPeriodic .. | .shadowCompare .., _ => shadowCompare ..
  | .internalError .., _ => internalError .. | .ingotWrite .., _ => ingotWrite .. | .wearPeriodic .., _ => wearPeriodic ..
  | .hostRecordWrite .., _ => hostRecordWrite .. | .hostRecordFind .., _ => hostRecordFind ..
  | .semaphoreClaim .., _ => semaphoreClaim .. | .semaphoreRelease .., _ => semaphoreRelease ..
  | .jtagInstructionUpdate .., _ => jtagInstructionUpdate .. | .configurationWrite .., _ => configurationWrite ..
  | .lowerHalfRead .., _ => lowerHalfRead .. | .smbBadCommand .., _ => smbBadCommand ..
  | .functionLevelResetComplete .., _ => functionLevelResetComplete ..

end Sys2Proof.Laws.Elapsed

namespace Sys2Proof.Machine

/-! ### Every command -/

/-- Settles O1: with a command in front, step hands it the state with the rest of the queue. -/
theorem stepRunsFrontCommand : Obligations.StepRunsFrontCommand := by
  unfold Obligations.StepRunsFrontCommand
  constructor
  · intro c rest s
    rfl
  · intro c rest s h
    rw [step, h]

/-- Settles O5: every command is one use of cmd, which stops when the check of the operands fails. -/
theorem illFormedCommandStops : Obligations.IllFormedCommandStops := by
  unfold Obligations.IllFormedCommandStops
  intro c s hc
  obtain ⟨act, h⟩ := Laws.Elapsed.statement c s
  rw [h, cmd_false (Bool.not_eq_true _ ▸ hc)]

/-- What a command with well-formed operands leaves of the queue, the clock and the trace. -/
theorem exec_goes_on (c : Instr) (s : State) (hc : c.WellFormed) :
    ∃ t, exec c s = .next t ∧ t.pending = s.pending ∧ t.clk = s.clk + c.elapsed ∧ s.out <+: t.out := by
  obtain ⟨act, h⟩ := Laws.Elapsed.statement c s
  exact ⟨_, h.trans (cmd_true hc _ _ _), rfl, rfl, List.prefix_append _ _⟩

/-- Settles O6: every command is one use of cmd. -/
theorem wellFormedCommandGoesOn : Obligations.WellFormedCommandGoesOn := exec_goes_on

/-- A step with a well-formed command in front takes it from the queue, in the time of the command. -/
theorem step_cons {s : State} {c : Instr} {rest : List Instr} (hs : s.pending = c :: rest) (hc : c.WellFormed) :
    ∃ t, step s = .next t ∧ t.pending = rest ∧ t.clk = s.clk + c.elapsed ∧ s.out <+: t.out := by
  rw [stepRunsFrontCommand.2 c rest s hs]
  exact exec_goes_on c { s with pending := rest } hc

/-- A step on an empty queue takes 1 ns. -/
theorem step_nil {s : State} (hs : s.pending = []) :
    ∃ t, step s = .next t ∧ t.pending = [] ∧ t.clk = s.clk + 1 ∧ s.out <+: t.out :=
  ⟨s.closeCmd 1 (s.atCmd 1).sendDue, by rw [step, hs]; rfl, hs, rfl, List.prefix_append _ _⟩

/-- Settles O7: a step with a command in front runs it, and without one it idles. -/
theorem stepKeepsInv : Obligations.StepKeepsInv := by
  unfold Obligations.StepKeepsInv
  intro s hinv
  cases hs : s.pending with
  | nil =>
    obtain ⟨t, hstep, hpend, hclk, hout⟩ := step_nil hs
    exact ⟨t, hstep, by simp [State.Inv, hpend], hpend, by omega, hout⟩
  | cons c rest =>
    have hwf : ∀ x ∈ c :: rest, x.WellFormed := hs ▸ hinv
    obtain ⟨t, hstep, hpend, hclk, hout⟩ := step_cons hs (hwf c List.mem_cons_self)
    exact ⟨t, hstep, fun x hx => hwf x (List.mem_cons_of_mem c (hpend ▸ hx)), hpend, by omega, hout⟩

/-! ### Runs -/

/-- One more step in front of a run. -/
theorem run_succ {M : Host.Core} {s t : M.State} (h : M.step s = .next t) (n : Nat) : M.run (n + 1) s = M.run n t := by
  rw [Host.Core.run, h]

/-- A run on an empty queue takes 1 ns for each step. -/
theorem core_run_nil (k : Nat) : ∀ s : State, s.pending = [] →
    ∃ t, core.run k s = .next t ∧ t.pending = [] ∧ t.clk = s.clk + k ∧ s.out <+: t.out := by
  induction k with
  | zero => exact fun s hs => ⟨s, rfl, hs, rfl, List.prefix_refl _⟩
  | succ k ih =>
    intro s hs
    obtain ⟨t, hstep, hpend, hclk, hout⟩ := step_nil hs
    obtain ⟨u, hrun, hu, hclk', hout'⟩ := ih t hpend
    exact ⟨u, (run_succ (M := core) hstep k).trans hrun, hu, by omega, hout.trans hout'⟩

/-- Settles O8, by induction on the queue. -/
theorem scriptRunsToTheEnd : Obligations.ScriptRunsToTheEnd := by
  unfold Obligations.ScriptRunsToTheEnd
  intro s k
  induction hq : s.pending generalizing s with
  | nil => exact fun _ => by simpa [elapsed] using core_run_nil k s hq
  | cons c rest ih =>
    intro hinv
    have hwf : ∀ x ∈ c :: rest, x.WellFormed := hq ▸ hinv
    obtain ⟨t, hstep, hpend, hclk, hout⟩ := step_cons hq (hwf c List.mem_cons_self)
    have ht : t.Inv := fun x hx => hwf x (List.mem_cons_of_mem c (hpend ▸ hx))
    obtain ⟨u, hrun, hu, hclk', hout'⟩ := ih t hpend ht
    refine ⟨u, ?_, hu, ?_, hout.trans hout'⟩
    · rw [List.length_cons, Nat.add_right_comm, run_succ (M := core) hstep, hrun]
    · have helapsed : elapsed (c :: rest) = c.elapsed + elapsed rest := by simp [elapsed]
      omega

/-! ### The reset state -/

/-- An empty memory reads as its default. -/
theorem Mem.read_nil (d : Byte) (a n : Nat) : Mem.read [] d a n = List.replicate n d := by
  induction n generalizing a with
  | zero => rfl
  | succ n ih => exact congrArg (d :: ·) (ih (a + 1))

/-- Settles O3: no register is listed, so every field holds its reset value. -/
theorem resetValues : Obligations.ResetValues := by
  unfold Obligations.ResetValues
  exact ⟨rfl, rfl, rfl, rfl, rfl, rfl, rfl, fun _ _ _ => rfl, by decide, fun _ _ => rfl, fun a n => ⟨Mem.read_nil 0 a n, Mem.read_nil 0xFF a n⟩⟩

/-- Settles O4: nothing waits in the reset state, and its memories hold no entry. -/
theorem resetMeetsInvariants : Obligations.ResetMeetsInvariants := by
  unfold Obligations.ResetMeetsInvariants
  exact ⟨fun c hc => absurd hc List.not_mem_nil, rfl⟩

end Sys2Proof.Machine


/-!
PROOFS. Rules for the operations that every family uses, the gate of host writes, the memories and the flash window.
-/

namespace Sys2Proof.Machine

/-! ### Effects that need power or the press side -/

/-- The press side acts in READY with power. -/
theorem State.press_on {s : State} (h : s.pressOn) (f : State → State) : s.press f = f s := by
  obtain ⟨hon, hready⟩ := h
  simp [State.press, hon, hready]

/-- An effect of a command that needs power alone. -/
theorem cmd_powered {s u : State} {d : Nat} (hu : u = s.atCmd d) (hon : u.power.on = true) (f : State → State) :
    cmd true d s (fun s => s.powered f) = .next (s.closeCmd d (f u)) := by
  subst hu
  rw [cmd_true rfl, State.powered_on hon]

/-- An effect of a command on the press side. -/
theorem cmd_press {ok : Bool} {s u : State} {d : Nat} (hok : ok = true) (hu : u = s.atCmd d) (h : u.pressOn)
    (f : State → State) : cmd ok d s (fun s => s.press f) = .next (s.closeCmd d (f u)) := by
  subst hu
  rw [cmd_true hok, State.press_on h]

/-- A host write of a command to a register that is open. -/
theorem cmd_hostHold {ok : Bool} {s u : State} {d a size value : Nat} (hok : ok = true) (hu : u = s.atCmd d)
    (ho : u.hostOpen a) (f : State → State) :
    cmd ok d s (fun s => s.hostHold a size value f) = .next (s.closeCmd d (f u)) := by
  subst hu
  rw [cmd_true hok, State.hostHold_open ho]

/-- A host write of a command to a register that is open. -/
theorem cmd_hostWrite {ok : Bool} {s u : State} {d a : Nat} (hok : ok = true) (hu : u = s.atCmd d)
    (ho : u.hostOpen a) (f : State → State) :
    cmd ok d s (fun s => s.hostWrite a f) = .next (s.closeCmd d (f u)) := cmd_hostHold hok hu ho f

/-! ### Register fields -/

/-- A field that reads 0 is off, any other is on. -/
theorem State.on_iff {s : State} {f : Fld} {i j : Nat} : s.on f i j = true ↔ s.rd f i j ≠ 0 := decide_eq_true_iff

theorem State.on_eq_false {s : State} {f : Fld} {i j : Nat} : s.on f i j = false ↔ s.rd f i j = 0 := by
  simp [State.on]

/-- Refutes O9: of a field 0 bits wide at bit 0 a bus write stores nothing, while `Fld.of` gives it the lowest bit of the word. -/
theorem not_registerFields : ¬ Obligations.RegisterFields := by
  unfold Obligations.RegisterFields
  rintro ⟨-, -, -, -, hbus⟩
  obtain ⟨-, -, hrw, -⟩ := hbus State.reset ⟨0, 0, 0, 0, 0, .rw, fun _ _ => 0⟩ 0 0 1
  exact absurd (hrw rfl) (by decide)

/-! ### The gate of host writes -/

/-- Without power no write reaches a register. -/
theorem State.hostHold_off {s : State} (hoff : s.power.on = false) (a size v : Nat) (f : State → State) :
    s.hostHold a size v f = s := by
  simp [State.hostHold, State.gate, hoff]

/-- In D3hot a write of host software is an unsupported request. -/
theorem State.hostHold_d3hot {s : State} (hon : s.power.on = true) (hd3 : s.hep.d3hot = true) (a size v : Nat)
    (f : State → State) : s.hostHold a size v f = s.hostErr .unsupportedRequest true [] := by
  simp [State.hostHold, State.gate, hon, hd3]

/-- During Kindle a write outside the early blocks sets EARLY_WRITE. -/
theorem State.hostHold_early {s : State} {a : Nat} (hon : s.power.on = true) (hd3 : s.hep.d3hot = false)
    (hrun : s.kindle.running = true) (ha : 0x20000 ≤ a) (size v : Nat) (f : State → State) :
    s.hostHold a size v f = s.flag F.KINDLE_STATUS_EARLY_WRITE := by
  have hlate : earlyBlock a = false := decide_eq_false (by omega)
  simp [State.hostHold, State.gate, hon, hd3, hrun, hlate]

/-- Kindle lets a write pass: it is over, or the block takes writes early. -/
theorem State.kindle_passes {s : State} {a : Nat} (h : s.kindle.running = false ∨ a < 0x20000) :
    (s.kindle.running && !earlyBlock a) = false := by
  rcases h with hrun | ha
  · simp [hrun]
  · simp [earlyBlock, ha]

/-- In Quench a write outside the open blocks is counted. -/
theorem State.hostHold_quenched {s : State} {a : Nat} (hon : s.power.on = true) (hd3 : s.hep.d3hot = false)
    (hkindle : s.kindle.running = false ∨ a < 0x20000) (hq : s.on F.HEP_QUENCH_QUENCHED = true)
    (hclosed : quenchBlock a = false) (size v : Nat) (f : State → State) :
    s.hostHold a size v f = s.inc F.HEP_QCNT_QDROP_WRITES := by
  simp [State.hostHold, State.gate, hon, hd3, State.kindle_passes hkindle, hq, hclosed]

/-- A write to a unit that does not serve sets STALE_WRITE. -/
theorem State.hostHold_stale {s : State} {a : Nat} (hon : s.power.on = true) (hd3 : s.hep.d3hot = false)
    (hkindle : s.kindle.running = false ∨ a < 0x20000) (hq : s.on F.HEP_QUENCH_QUENCHED = false)
    (hstale : s.staleBlock a = true) (size v : Nat) (f : State → State) :
    s.hostHold a size v f = s.flag F.GLB_STATUS_STALE_WRITE := by
  simp [State.hostHold, State.gate, hon, hd3, State.kindle_passes hkindle, hq, hstale]

/-- An exit that begins leaves the writes held at the gates as they are. -/
theorem State.beginExit_gate (s : State) (dom : Nat) : (s.beginExit dom).blw.gate = s.blw.gate := by
  unfold State.beginExit
  dsimp only
  split_ifs <;> rfl

/-- A write to a domain banked at B2 or above waits at its gate, and the exit begins. -/
theorem State.hostHold_banked {s : State} {a dom : Nat} (hon : s.power.on = true) (hd3 : s.hep.d3hot = false)
    (hkindle : s.kindle.running = false ∨ a < 0x20000) (hq : s.on F.HEP_QUENCH_QUENCHED = false)
    (hfresh : s.staleBlock a = false) (hdom : regDomain a = some dom) (hdeep : 2 ≤ s.rd F.BLW_DOM_LEVEL dom) (size v : Nat)
    (f : State → State) :
    s.hostHold a size v f = { s.beginExit dom with
      blw := { (s.beginExit dom).blw with gate := s.blw.gate ++ [⟨dom, ⟨a, size, v⟩⟩] } } := by
  simp [State.hostHold, State.gate, State.wakeGate, hon, hd3, State.kindle_passes hkindle, hq, hfresh, hdom, hdeep,
    State.beginExit_gate]

/-- Settles O10: the cases of the gate in their order. -/
theorem hostWriteGate : Obligations.HostWriteGate := by
  unfold Obligations.HostWriteGate
  intro s a size v f
  refine ⟨fun ho => State.hostHold_open ho size v f, fun hoff => State.hostHold_off hoff a size v f,
    fun hon hd3 => State.hostHold_d3hot hon hd3 a size v f,
    fun hon hd3 hrun ha => State.hostHold_early hon hd3 hrun ha size v f, ?quenched,
    fun hon hd3 hrun hq hstale => State.hostHold_stale hon hd3 (.inl hrun) hq hstale size v f,
    fun dom hon hd3 hk hq hfresh hdom hdeep => State.hostHold_banked hon hd3 hk hq hfresh hdom hdeep size v f⟩
  case quenched =>
    intro hon hd3 hk hq ha hweld hhep
    have hclosed : quenchBlock a = false := by
      simp only [quenchBlock, within, Bool.or_eq_false_iff, Bool.and_eq_false_iff, decide_eq_false_iff_not]
      omega
    exact State.hostHold_quenched hon hd3 hk hq hclosed size v f

/-! ### The memories -/

/-- One byte of a memory. -/
theorem Mem.read_one (m : Mem) (d : Byte) (a : Nat) : m.read d a 1 = [Assoc.getD m a d] := rfl

@[simp] theorem Mem.length_read (m : Mem) (d : Byte) (a n : Nat) : (m.read d a n).length = n := by
  induction n generalizing a with
  | zero => rfl
  | succ n ih => simp [Mem.read, ih]

/-- A byte outside a written range reads as before. -/
theorem Mem.read_one_write_out {m : Mem} {d : Byte} {a b : Nat} {bs : Bytes} (h : b < a ∨ a + bs.length ≤ b) :
    (m.write d a bs).read d b 1 = m.read d b 1 := by
  rw [Mem.read_one, Mem.read_one, Mem.getD_write_out bs m a b h]

/-- A key inside a removed range is not listed, and one outside is listed as before. -/
theorem Assoc.find_delRange {α : Type} (a b k : Nat) (m : Assoc α) :
    Assoc.find k (m.delRange a b) = if a ≤ k ∧ k < b then none else Assoc.find k m := by
  induction m with
  | nil => simp [Assoc.delRange]
  | cons e m ih =>
    obtain ⟨l, v⟩ := e
    simp only [Assoc.delRange, List.filter_cons, Assoc.find] at ih ⊢
    by_cases hl : l < a ∨ b ≤ l
    · rw [if_pos (by simpa using hl), Assoc.find, ih]
      by_cases hkl : k = l
      · rw [if_pos hkl, if_neg (by omega), if_pos hkl]
      · rw [if_neg hkl, if_neg hkl]
    · rw [if_neg (by simpa using hl), ih]
      by_cases hkl : k = l
      · rw [if_pos (by omega), if_pos (by omega)]
      · rw [if_neg hkl]

/-- Erased bytes read 0xFF, the bytes of every other sector as before. -/
theorem State.flashErase_read (s : State) (k b : Nat) :
    (s.flashErase k).flashRead b 1 = if b / 65536 = k then [0xFF] else s.flashRead b 1 := by
  simp only [State.flashErase, State.flashRead, Mem.read_one, Assoc.getD, Assoc.find_delRange]
  by_cases h : b / 65536 = k
  · rw [if_pos h, if_pos (by omega)]; rfl
  · rw [if_neg h, if_neg (by omega)]

/-- Programmed bytes read as what they held and what was programmed allow. -/
theorem State.flashProgram_read (s : State) (a : Nat) (bs : Bytes) :
    (s.flashProgram a bs).flashRead a bs.length = List.zipWith (· &&& ·) (s.flashRead a bs.length) bs := by
  have hread := Mem.read_write (d := 0xFF) (List.zipWith (· &&& ·) (s.flashRead a bs.length) bs) s.flash.mem a
  simpa [State.flashRead, State.flashProgram] using hread

/-- Bytes outside a programmed range read as before. -/
theorem State.flashProgram_read_out (s : State) {a b : Nat} {bs : Bytes} (h : b < a ∨ a + bs.length ≤ b) :
    (s.flashProgram a bs).flashRead b 1 = s.flashRead b 1 :=
  Mem.read_one_write_out (by simpa [State.flashRead] using h)

/-- A block of HBM that is written whole loses its mark. -/
theorem State.hbmWrite_hbmBad (s : State) {a k : Nat} {bs : Bytes} (hlo : a ≤ 64 * k) (hhi : 64 * k + 64 ≤ a + bs.length) :
    (s.hbmWrite a bs).hbmBad (64 * k) 64 = false := by
  simp only [State.hbmBad, State.hbmWrite, List.any_eq_false, List.mem_filter]
  rintro ⟨b, x⟩ ⟨-, hkept⟩ hmeets
  simp only [Bool.not_eq_true', Bool.and_eq_false_iff, decide_eq_false_iff_not, Bool.and_eq_true, decide_eq_true_eq]
    at hkept hmeets
  omega

/-- Settles O11. -/
theorem memoriesReadBack : Obligations.MemoriesReadBack := by
  unfold Obligations.MemoriesReadBack
  exact ⟨fun s a bs => ⟨Mem.read_write bs s.hbm a, fun _ hb => Mem.read_one_write_out hb⟩,
    fun s a bs => ⟨Mem.read_write bs s.buf a, fun _ hb => Mem.read_one_write_out hb⟩,
    fun s a bs => ⟨s.flashProgram_read a bs, fun _ hb => s.flashProgram_read_out hb⟩,
    State.flashErase_read, fun s _ _ _ hlo hhi => s.hbmWrite_hbmBad hlo hhi⟩

end Sys2Proof.Machine


/-!
PROOFS. Operations that leave the memories as they are or keep their canonical form, and the commands of the flash.
-/

namespace Sys2Proof.Machine

/-! ### Operations that leave every memory as it is -/

theorem SameMemory.refl (s : State) : SameMemory s s := ⟨rfl, rfl, rfl, rfl, rfl⟩

theorem SameMemory.trans {s t u : State} (h : SameMemory s t) (k : SameMemory t u) : SameMemory s u := by
  obtain ⟨h1, h2, h3, h4, h5⟩ := h
  obtain ⟨k1, k2, k3, k4, k5⟩ := k
  exact ⟨k1.trans h1, k2.trans h2, k3.trans h3, k4.trans h4, k5.trans h5⟩

theorem SameMemory.foldl {α : Type} (f : State → α → State) (h : ∀ s a, SameMemory s (f s a)) :
    ∀ (l : List α) (s : State), SameMemory s (l.foldl f s)
  | [], s => .refl s
  | a :: l, s => (h s a).trans (SameMemory.foldl f h l (f s a))

/-- A choice between two operations that keep the memories keeps them. -/
theorem SameMemory.ite {p : Prop} [Decidable p] {s t u : State} (ht : SameMemory s t) (hu : SameMemory s u) :
    SameMemory s (if p then t else u) := by
  split
  · exact ht
  · exact hu

theorem SameMemory.of_only {s t : State} (h : OnlyStriker s t) : SameMemory s t := by
  rw [h]
  exact ⟨rfl, rfl, rfl, rfl, rfl⟩

theorem State.wr_sameMemory (s : State) (f : Fld) (v i j : Nat) : SameMemory s (s.wr f v i j) := ⟨rfl, rfl, rfl, rfl, rfl⟩

theorem State.raise_sameMemory (s : State) (e : Nat) : SameMemory s (s.raise e) := .of_only (s.raise_only e)

theorem State.emit_sameMemory (s : State) (o : Out) : SameMemory s (s.emit o) := .ite (.refl s) ⟨rfl, rfl, rfl, rfl, rfl⟩

theorem State.alert_sameMemory (s : State) (b : Nat) : SameMemory s (s.alert b) :=
  .ite ⟨rfl, rfl, rfl, rfl, rfl⟩ ⟨rfl, rfl, rfl, rfl, rfl⟩

theorem State.watermark_sameMemory (s : State) (t : Nat) : SameMemory s (s.watermark t) := by
  have hevent (u : State) (v e : Nat) : SameMemory u ((u.wr F.TRGH_STATUS_ABOVE v t).raise e) :=
    (u.wr_sameMemory _ _ _ _).trans (State.raise_sameMemory _ e)
  exact .ite (.ite (.ite (hevent s _ _) (.refl s)) (.ite (hevent s _ _) (.refl s))) (s.wr_sameMemory _ _ _ _)

theorem State.depthMoved_sameMemory (s : State) (t : Nat) : SameMemory s (s.depthMoved t) := by
  refine .trans ?_ (State.watermark_sameMemory _ t)
  exact (s.wr_sameMemory _ _ _ _).trans (.ite ⟨rfl, rfl, rfl, rfl, rfl⟩ (.refl _))

theorem State.push_sameMemory (s : State) (t : Nat) (data : Bytes) : SameMemory s (s.push t data) := by
  refine .ite (.trans ⟨rfl, rfl, rfl, rfl, rfl⟩ (State.depthMoved_sameMemory _ t)) ?_
  refine .trans (t := State.raise _ (ev 0x16 t)) (.trans ?_ (State.raise_sameMemory _ _)) ⟨rfl, rfl, rfl, rfl, rfl⟩
  exact ⟨rfl, rfl, rfl, rfl, rfl⟩

theorem State.pushAs_sameMemory (s : State) (src t : Nat) (data : Bytes) : SameMemory s (s.pushAs src t data).2 := by
  unfold State.pushAs
  split
  · exact s.push_sameMemory t data
  · exact .refl s

theorem State.pushOr_sameMemory (s : State) (src t : Nat) (data : Bytes) (f : Fld) (i : Nat) :
    SameMemory s (s.pushOr src t data f i) :=
  .ite (s.pushAs_sameMemory src t data) ((s.pushAs_sameMemory src t data).trans ⟨rfl, rfl, rfl, rfl, rfl⟩)

theorem State.errMessage_sameMemory (s : State) (sev : Nat) : SameMemory s (s.errMessage sev) :=
  .ite (s.emit_sameMemory _) (.refl s)

theorem State.quenchCause_sameMemory (s : State) (b : Nat) : SameMemory s (s.quenchCause b) := by
  unfold State.quenchCause
  dsimp only
  split
  · exact ⟨rfl, rfl, rfl, rfl, rfl⟩
  · refine .trans ?_ (State.alert_sameMemory _ 2)
    refine .trans ?_ (State.raise_sameMemory _ _)
    exact ⟨rfl, rfl, rfl, rfl, rfl⟩

theorem State.latchFatal_sameMemory (s : State) (e : Bytes) : SameMemory s (s.latchFatal e) :=
  .ite (.refl s) (.trans ⟨rfl, rfl, rfl, rfl, rfl⟩ (.foldl _ (fun _ _ => State.wr_sameMemory _ _ _ _ _) _ _))

theorem State.unavailBegin_sameMemory (s : State) (key : Nat) : SameMemory s (s.unavailBegin key) :=
  .ite (.refl s) ⟨rfl, rfl, rfl, rfl, rfl⟩

/-! ### Operations that keep the canonical form -/

theorem SameMemory.wf {s t : State} (h : SameMemory s t) (hs : Memory.wf s = true) : Memory.wf t = true :=
  Memory.wf_of_eq hs h.1 h.2.2.1 h.2.2.2.1 h.2.2.2.2

theorem State.logEntry_wf {s : State} (h : Memory.wf s = true) (e : Bytes) : Memory.wf (s.logEntry e) = true := by
  unfold State.logEntry
  dsimp only
  split
  · exact SameMemory.wf ⟨rfl, rfl, rfl, rfl, rfl⟩ (Memory.wf_bufWrite h _ _)
  · exact SameMemory.wf ⟨rfl, rfl, rfl, rfl, rfl⟩ (Memory.wf_bufWrite h _ _)

/-- After its entry in the log, the routing of an internal error leaves the memories as they are. -/
theorem State.logErr_wf {s : State} (h : Memory.wf s = true) (code cls src : Nat) (detail : Bytes) :
    Memory.wf (s.logErr code cls src detail).2 = true := by
  unfold State.logErr
  dsimp only
  refine SameMemory.wf (.ite ?journalled (.ite ?suppressed (.refl _))) ?_
  case journalled => exact ⟨rfl, rfl, rfl, rfl, rfl⟩
  case suppressed => exact ⟨rfl, rfl, rfl, rfl, rfl⟩
  refine SameMemory.wf (.ite (State.alert_sameMemory _ 4) (.ite (State.alert_sameMemory _ 5) (.refl _))) ?_
  refine SameMemory.wf (.ite (State.pushOr_sameMemory _ _ _ _ _ _) (.refl _)) ?_
  refine SameMemory.wf (.ite ((State.latchFatal_sameMemory _ _).trans (State.unavailBegin_sameMemory _ _)) (.refl _)) ?_
  exact State.logEntry_wf (SameMemory.wf (s.wr_sameMemory _ _ _ _) h) _

theorem State.hostErr_wf {s : State} (h : Memory.wf s = true) (e : HostErr) (advisory : Bool) (hdr : Bytes) :
    Memory.wf (s.hostErr e advisory hdr) = true := by
  have hmessage {p : Prop} [Decidable p] {t : State} (ht : Memory.wf t = true) (sev : Nat) :
      Memory.wf (if p then t.errMessage sev else t) = true :=
    SameMemory.wf (.ite (t.errMessage_sameMemory sev) (.refl t)) ht
  have haer (a : AerS) : Memory.wf { s with hep := { s.hep with aer := a } } = true := h
  unfold State.hostErr
  by_cases hcor : e.correctable = true
  · rw [if_pos hcor]
    exact State.logErr_wf (hmessage (haer _) 0) _ _ _ _
  · rw [if_neg hcor]
    extract_lets fatal masked adv a₁ a₂ hep logged sent routed
    have hsent : Memory.wf sent = true :=
      SameMemory.wf (.ite (.refl logged)
        (.ite (.ite (logged.errMessage_sameMemory 0) (.refl logged)) (logged.errMessage_sameMemory _))) h
    have hrouted : Memory.wf routed = true := by
      unfold routed
      split
      · exact State.logErr_wf hsent _ _ _ _
      · exact State.logErr_wf hsent _ _ _ _
    exact SameMemory.wf (.ite (State.quenchCause_sameMemory _ 0) (.refl _)) hrouted

/-- A write of host software keeps the form when its effect does. -/
theorem State.hostWrite_wf {s : State} (h : Memory.wf s = true) (a : Nat) {f : State → State}
    (hf : ∀ t, Memory.wf t = true → Memory.wf (f t) = true) : Memory.wf (s.hostWrite a f) = true := by
  have hexit (dom : Nat) : Memory.wf (s.beginExit dom) = true := by
    refine SameMemory.wf ?_ h
    exact .ite (.refl s) (.ite ⟨rfl, rfl, rfl, rfl, rfl⟩ (.ite (.refl s) ⟨rfl, rfl, rfl, rfl, rfl⟩))
  unfold State.hostWrite State.hostHold State.gate State.wakeGate
  dsimp only
  split_ifs with hoff hkindle hd3 hearly hquench hstale
  · exact h
  · exact hf s h
  · exact State.hostErr_wf h _ _ _
  · exact h
  · exact h
  · exact h
  · split
    · exact hf s h
    · next dom _ =>
      split_ifs
      · exact hf _ (hexit dom)
      · exact hexit dom

/-! ### The commands of the flash -/

theorem State.flashOp_sameMemory (s : State) (op len : Nat) : SameMemory s (s.flashOp op len) := by
  unfold State.flashOp
  split
  · exact .refl s
  · split <;> exact ⟨rfl, rfl, rfl, rfl, rfl⟩

theorem State.windowDone_sameMemory (s : State) (ok : Bool) : SameMemory s (s.windowDone ok) := ⟨rfl, rfl, rfl, rfl, rfl⟩

theorem State.setFlash_wf {s : State} (h : Memory.wf s = true) (x : FlashS) (hx : x.mem = s.flash.mem) :
    Memory.wf (s.setFlash x) = true := Memory.wf_of_eq h rfl rfl hx rfl

/-- A command keeps the form when its effect does. -/
theorem cmd_wf {ok : Bool} {d : Nat} {s t : State} {f : State → State} (hf : ∀ u, Memory.wf u = true → Memory.wf (f u) = true)
    (hs : Memory.wf s = true) (h : cmd ok d s f = .next t) : Memory.wf t = true := by
  obtain ⟨hok, -⟩ := cmd_next h
  rw [cmd_true hok] at h
  obtain rfl := Host.Outcome.next.inj h
  have hu : Memory.wf (s.atCmd d) = true := Memory.wf_of_eq hs (by simp) (by simp) (by simp) (by simp)
  exact Memory.wf_of_eq (hf _ hu) rfl rfl rfl rfl

theorem State.powered_wf {s : State} {f : State → State} (hf : ∀ u, Memory.wf u = true → Memory.wf (f u) = true)
    (hs : Memory.wf s = true) : Memory.wf (s.powered f) = true := by
  unfold State.powered
  split
  · exact hf s hs
  · exact hs

end Sys2Proof.Machine


/-!
PROOFS. The flash window, the end of its operations, and the ownership of shared resources.
-/

namespace Sys2Proof.Machine

/-! ### Effects on the memories -/

/-- Serving the arbiter moves operations between the queue and the memory, and no byte. -/
theorem flashArbiterServe_wf {s t : State} {d : Nat} (hs : Memory.wf s = true)
    (h : exec (.flashArbiterServe d) s = .next t) : Memory.wf t = true := by
  rw [exec_flashArbiterServe, execFlashArbiterServe] at h
  refine cmd_wf (fun u hu => State.powered_wf (fun v hv => ?_) hu) hs h
  split_ifs
  · exact hv
  · exact State.setFlash_wf hv _ rfl
  · cases v.flash.waiting with
    | nil => exact hv
    | cons o rest =>
      dsimp only
      split
      · exact SameMemory.wf (t := State.flag (State.wr _ _ _ _ _) _ _ _) ⟨rfl, rfl, rfl, rfl, rfl⟩ (State.setFlash_wf hv _ rfl)
      · exact State.setFlash_wf hv _ rfl

/-- Every end of an operation writes or erases whole ranges. -/
theorem flashOpDone_wf {s t : State} {d : Nat} {ok : Bool} (hs : Memory.wf s = true)
    (h : exec (.flashOpDone d ok) s = .next t) : Memory.wf t = true := by
  rw [exec_flashOpDone, execFlashOpDone] at h
  refine cmd_wf (fun u hu => State.powered_wf (fun v hv => ?_) hu) hs h
  have hidle : Memory.wf (v.setFlash { v.flash with busy := none }) = true := State.setFlash_wf hv _ rfl
  have hended {w : State} (ok : Bool) (hw : Memory.wf w = true) : Memory.wf (w.windowDone ok) = true :=
    SameMemory.wf (w.windowDone_sameMemory ok) hw
  dsimp only
  split
  · exact hended _ (Memory.wf_bufWrite hidle _ _)
  · refine hended _ ?_
    split
    · exact Memory.wf_flashProgram hidle _ _
    · exact Memory.wf_programPart hidle _ _
  · refine hended _ ?_
    split
    · exact Memory.wf_flashErase hidle _
    · exact Memory.wf_erasePartly hidle _
  · exact hv

theorem State.jOpen_wf {s : State} (h : Memory.wf s = true) : Memory.wf s.jOpen = true := by
  unfold State.jOpen
  split
  · exact h
  · split
    · exact h
    · exact SameMemory.wf (t := State.setWeld _ _) ⟨rfl, rfl, rfl, rfl, rfl⟩ (Memory.wf_flashProgram h _ _)

theorem State.jRoom_wf {s : State} (h : Memory.wf s = true) (size : Nat) : Memory.wf (s.jRoom size) = true := by
  unfold State.jRoom
  split
  · split
    · exact h
    · exact State.jOpen_wf h
  · exact State.jOpen_wf h

theorem State.jPut_wf {s : State} (h : Memory.wf s = true) (kind : Nat) (payload : Bytes) (ok : Bool) :
    Memory.wf (s.jPut kind payload ok) = true := by
  have hroom := State.jRoom_wf h (ingotSize payload.length)
  unfold State.jPut
  extract_lets size room
  cases room.jLast with
  | none => exact hroom
  | some last =>
    dsimp only
    generalize ingotBytes _ _ _ _ _ _ = bytes
    have hprogrammed := Memory.wf_flashProgram hroom (jAddr last.1 + last.2) bytes
    split_ifs
    · exact hroom
    · exact SameMemory.wf (s := room.flashProgram _ bytes) ⟨rfl, rfl, rfl, rfl, rfl⟩ hprogrammed
    · exact SameMemory.wf (s := room.flashProgram _ bytes) ⟨rfl, rfl, rfl, rfl, rfl⟩ hprogrammed

theorem State.flashAbandon_wf {s : State} (h : Memory.wf s = true) : Memory.wf s.flashAbandon = true := by
  have hidle : Memory.wf (s.setFlash { s.flash with busy := none, waiting := [] }) = true := State.setFlash_wf h _ rfl
  unfold State.flashAbandon
  dsimp only
  split
  · exact Memory.wf_programPart hidle _ _
  · exact Memory.wf_erasePartly hidle _
  · split
    · exact State.jPut_wf hidle _ _ _
    · exact hidle
  · exact hidle

/-- Of the memories the flash alone outlives the loss of supply. -/
theorem State.deviceReset_wf {s : State} (h : Memory.wf s = true) (p : PowerS) : Memory.wf (s.deviceReset false p) = true := by
  have hflash := ((Memory.wf_iff _).1 (State.flashAbandon_wf h)).2.2.1
  exact (Memory.wf_iff _).2 ⟨rfl, rfl, hflash, rfl⟩

/-- Settles O12: each of the commands writes or erases whole ranges, or leaves the memories. -/
theorem flashCommandsKeepForm : Obligations.FlashCommandsKeepForm := by
  unfold Obligations.FlashCommandsKeepForm
  have hop (op len : Nat) (u : State) (hu : Memory.wf u = true) :
      Memory.wf (u.hostWrite F.FLASH_OP_OP.addr fun s => s.flashOp op len) = true :=
    State.hostWrite_wf hu _ fun v hv => SameMemory.wf (v.flashOp_sameMemory op len) hv
  rintro s t d n ok hs (h | h | h | h | h | h)
  · rw [exec_flashRead, execFlashRead] at h
    exact cmd_wf (hop _ _) hs h
  · rw [exec_flashProgram, execFlashProgram] at h
    exact cmd_wf (hop _ _) hs h
  · rw [exec_flashErase, execFlashErase] at h
    exact cmd_wf (hop _ _) hs h
  · exact flashArbiterServe_wf hs h
  · exact flashOpDone_wf hs h
  · rw [exec_supplyOkFall, execSupplyOkFall] at h
    exact cmd_wf (fun u hu => State.powered_wf (fun v hv => State.deviceReset_wf hv _) hu) hs h

/-! ### The end of an operation -/

/-- A read that ends fills the window. -/
theorem exec_flashOpDone_read {s u : State} {d a n : Nat} {ok : Bool} (hu : u = s.atCmd d) (hon : u.power.on = true)
    (hbusy : u.flash.busy = some (.read a n)) :
    exec (.flashOpDone d ok) s = .next (s.closeCmd d (((u.setFlash { u.flash with busy := none }).bufWrite 0x11000
      (u.flashRead a n)).windowDone true)) := by
  rw [exec_flashOpDone, execFlashOpDone, cmd_powered hu hon, hbusy]
  rfl

/-- A program that ends has programmed the window, whole or in part. -/
theorem exec_flashOpDone_program {s u : State} {d a n : Nat} {ok : Bool} (hu : u = s.atCmd d) (hon : u.power.on = true)
    (hbusy : u.flash.busy = some (.program a n)) :
    exec (.flashOpDone d ok) s = .next (s.closeCmd d (State.windowDone
      (if ok then (u.setFlash { u.flash with busy := none }).flashProgram a (u.bufRead 0x11000 n)
        else (u.setFlash { u.flash with busy := none }).programPart a (u.bufRead 0x11000 n)) ok)) := by
  rw [exec_flashOpDone, execFlashOpDone, cmd_powered hu hon, hbusy]
  rfl

/-- An erase that ends has erased its sector, whole or in part. -/
theorem exec_flashOpDone_erase {s u : State} {d a : Nat} {ok : Bool} (hu : u = s.atCmd d) (hon : u.power.on = true)
    (hbusy : u.flash.busy = some (.erase a)) :
    exec (.flashOpDone d ok) s = .next (s.closeCmd d (State.windowDone
      (if ok then (u.setFlash { u.flash with busy := none }).flashErase (a / 65536)
        else (u.setFlash { u.flash with busy := none }).erasePartly a) ok)) := by
  rw [exec_flashOpDone, execFlashOpDone, cmd_powered hu hon, hbusy]

@[simp] theorem State.length_freshBytes (s : State) (n : Nat) : (s.freshBytes n).1.length = n := by
  induction n generalizing s with
  | zero => rfl
  | succ n ih => simp [State.freshBytes, ih]

/-- A change of the flash that touches its bytes of [a, b) alone. -/
def State.FlashOnly (a b : Nat) (s t : State) : Prop :=
  t.hbm = s.hbm ∧ t.buf = s.buf ∧ t.flash.busy = s.flash.busy ∧ ∀ c, c < a ∨ b ≤ c → t.flashRead c 1 = s.flashRead c 1

theorem State.flashProgram_only (s : State) (a : Nat) {n : Nat} {bs : Bytes} (hn : bs.length = n) :
    s.FlashOnly a (a + n) (s.flashProgram a bs) :=
  ⟨rfl, rfl, rfl, fun _ hc => s.flashProgram_read_out (hn ▸ hc)⟩

theorem State.FlashOnly.of_fresh {s t : State} {a b n : Nat} (h : (s.freshBytes n).2.FlashOnly a b t) : s.FlashOnly a b t := by
  obtain ⟨hhbm, hbuf, hflash, -⟩ := s.freshBytes_mem n
  obtain ⟨h1, h2, h3, h4⟩ := h
  exact ⟨h1.trans hhbm, h2.trans hbuf, h3.trans (by rw [hflash]), fun c hc => (h4 c hc).trans (by simp [State.flashRead, hflash])⟩

theorem State.programPart_only (s : State) (a : Nat) {n : Nat} {bs : Bytes} (hn : bs.length = n) :
    s.FlashOnly a (a + n) (s.programPart a bs) := by
  unfold State.programPart
  exact .of_fresh (State.flashProgram_only _ a (by simp [hn]))

theorem State.flashErase_only (s : State) (k : Nat) : s.FlashOnly (65536 * k) (65536 * k + 65536) (s.flashErase k) :=
  ⟨rfl, rfl, rfl, fun c hc => by rw [s.flashErase_read, if_neg (by omega)]⟩

theorem State.eraseBytes_only (s : State) (a n : Nat) : s.FlashOnly a (a + n) (s.eraseBytes a n) :=
  .of_fresh ⟨rfl, rfl, rfl, fun _ hc => Mem.read_one_write_out (by simpa [State.flashRead] using hc)⟩

/-- Settles O13: a whole or partial program or erase writes its range, and the end of the window writes registers alone. -/
theorem flashDoneFrame : Obligations.FlashDoneFrame := by
  unfold Obligations.FlashDoneFrame
  intro s u d a n ok hu hon
  have hhbm : u.hbm = s.hbm := by simp [hu]
  have hbuf : u.buf = s.buf := by simp [hu]
  have hflash : u.flash = s.flash := by simp [hu]
  have hmem : u.flash.mem = s.flash.mem := by rw [hflash]
  have hread (b : Nat) : u.flashRead b 1 = s.flashRead b 1 := by simp [State.flashRead, hflash]
  have hframe {a b : Nat} {v : State} (hv : State.FlashOnly a b (u.setFlash { u.flash with busy := none }) v) :
      (v.windowDone ok).flash.busy = none ∧ (v.windowDone ok).hbm = s.hbm ∧ (v.windowDone ok).buf = s.buf
        ∧ ∀ c, c < a ∨ b ≤ c → (v.windowDone ok).flashRead c 1 = s.flashRead c 1 := by
    obtain ⟨h1, h2, h3, h4⟩ := hv
    exact ⟨h3, h1.trans hhbm, h2.trans hbuf, fun c hc => (h4 c hc).trans (hread c)⟩
  refine ⟨fun hbusy => ⟨_, exec_flashOpDone_program hu hon hbusy, hframe ?program⟩,
    fun hbusy ha => ⟨_, exec_flashOpDone_erase hu hon hbusy, hframe ?erase⟩,
    fun hbusy => ⟨_, exec_flashOpDone_read hu hon hbusy, rfl, hhbm, hmem, fun b hb => ?window⟩⟩
  case program =>
    split
    · exact State.flashProgram_only _ a (Mem.length_read _ _ _ _)
    · exact State.programPart_only _ a (Mem.length_read _ _ _ _)
  case erase =>
    split
    · have hsector := State.flashErase_only (u.setFlash { u.flash with busy := none }) (a / 65536)
      rwa [show 65536 * (a / 65536) = a by omega] at hsector
    · exact State.eraseBytes_only _ a 65536
  case window =>
    have hlen : (u.flashRead a n).length = n := Mem.length_read _ _ _ _
    have hout := Mem.read_one_write_out (m := u.buf) (d := 0) (a := 0x11000) (b := b) (bs := u.flashRead a n) (by rwa [hlen])
    exact hout.trans (by rw [hbuf]; rfl)

/-! ### The flash window -/

/-- What R74 asks of a range that host software alters. -/
theorem State.mayAlter_iff {s : State} {a n : Nat} : s.mayAlter a n = true ↔ s.kindle.running = false ∧ a + n ≤ 0x8000000
    ∧ (s.rd F.KINDLE_STATUS_SLOT_USED = 1 → 0x4000000 ≤ a) ∧ (s.rd F.KINDLE_STATUS_SLOT_USED = 2 → a + n ≤ 0x4000000) := by
  simp only [State.mayAlter, Bool.and_eq_true, Bool.not_eq_true', decide_eq_true_eq, Bool.and_eq_false_iff,
    decide_eq_false_iff_not, not_lt, ← Decidable.imp_iff_not_or, and_assoc]

/-- A range that R74 denies. -/
theorem State.mayAlter_eq_false_iff {s : State} {a n : Nat} : s.mayAlter a n = false ↔ s.kindle.running = true
    ∨ 0x8000000 < a + n ∨ (s.rd F.KINDLE_STATUS_SLOT_USED = 1 ∧ a < 0x4000000)
    ∨ (s.rd F.KINDLE_STATUS_SLOT_USED = 2 ∧ 0x4000000 < a + n) := by
  rw [← Bool.not_eq_true, State.mayAlter_iff]
  simp only [not_and_or, Bool.not_eq_false, not_le, Classical.not_imp]

theorem State.windowOk_iff {s : State} {a n : Nat} : s.windowOk a n = true ↔
    a % 64 = 0 ∧ n % 64 = 0 ∧ 64 ≤ n ∧ n ≤ 4096 ∧ a + n ≤ 65536 * s.flash.sectors := by
  simp only [State.windowOk, within, Bool.and_eq_true, decide_eq_true_eq, and_assoc]

/-- An operation that R74 permits waits for the arbiter. -/
theorem State.flashOp_queued {s : State} {op len : Nat} {o : FlashOp} (hidle : s.on F.FLASH_STATUS_BUSY = false)
    (hop : 1 ≤ op) (hop' : op ≤ 3) (hw : s.flashWanted op len = some o) :
    s.flashOp op len = (s.setFlash { s.flash with waiting := s.flash.waiting ++ [o] }).wr F.FLASH_STATUS_BUSY 1 := by
  have hact : ¬(s.on F.FLASH_STATUS_BUSY = true ∨ op = 0 ∨ 3 < op) := by simp [hidle]; omega
  rw [State.flashOp, if_neg hact, hw]

/-- An operation that R74 does not permit is denied. -/
theorem State.flashOp_denied {s : State} {op len : Nat} (hidle : s.on F.FLASH_STATUS_BUSY = false)
    (hop : 1 ≤ op) (hop' : op ≤ 3) (hw : s.flashWanted op len = none) :
    s.flashOp op len = s.flag F.FLASH_STATUS_DENIED := by
  have hact : ¬(s.on F.FLASH_STATUS_BUSY = true ∨ op = 0 ∨ 3 < op) := by simp [hidle]; omega
  rw [State.flashOp, if_neg hact, hw]

/-- The arbiter of an idle memory without an Ingot takes the oldest operation, or denies it. -/
theorem exec_flashArbiterServe_oldest {s u : State} {d : Nat} {o : FlashOp} {rest : List FlashOp} (hu : u = s.atCmd d)
    (hon : u.power.on = true) (hidle : u.flash.busy = none) (hingots : u.weld.ingots = [])
    (hwait : u.flash.waiting = o :: rest) :
    exec (.flashArbiterServe d) s = .next (s.closeCmd d (if u.deniedNow o then
      ((u.setFlash { u.flash with waiting := rest }).wr F.FLASH_STATUS_BUSY 0).flag F.FLASH_STATUS_DENIED
      else u.setFlash { u.flash with busy := some o, waiting := rest })) := by
  rw [exec_flashArbiterServe, execFlashArbiterServe, cmd_powered hu hon, hidle, hingots, hwait]
  rfl

/-- Settles O21: what R74 permits of a range decides between queue and DENIED, at the write and at the arbiter. -/
theorem flashOperations : Obligations.FlashOperations := by
  unfold Obligations.FlashOperations
  refine ⟨?read, ?program, ?erase, ?denied, ?serve, ?deniedNow, ?ingot, ?readDone, ?programDone, ?eraseDone⟩
  case read =>
    rintro s u d len _ hu ho hidle rfl ha hlen hmin hmax hend
    have hwanted : u.flashWanted 1 len = some (.read (u.rd F.FLASH_ADDR_ADDR) len) :=
      if_pos (State.windowOk_iff.2 ⟨ha, hlen, hmin, hmax, hend⟩)
    rw [exec_flashRead, execFlashRead, cmd_hostWrite rfl hu ho, Nat.mod_eq_of_lt (by omega), State.flashOp_queued hidle
      (by decide) (by decide) hwanted]
    rfl
  case program =>
    rintro s u d len _ hu ho hidle rfl ha hlen hmin hmax hend hrun hslots hone htwo
    have hwindow := State.windowOk_iff.2 ⟨ha, hlen, hmin, hmax, hend⟩
    have hmay := State.mayAlter_iff.2 ⟨hrun, hslots, hone, htwo⟩
    have hwanted : u.flashWanted 2 len = some (.program (u.rd F.FLASH_ADDR_ADDR) len) := by
      simp [State.flashWanted, hwindow, hmay]
    rw [exec_flashProgram, execFlashProgram, cmd_hostWrite rfl hu ho, Nat.mod_eq_of_lt (by omega), State.flashOp_queued hidle
      (by decide) (by decide) hwanted]
    rfl
  case erase =>
    rintro s u d _ hu ho hidle rfl ha hrun hslots hone htwo
    have hmay := State.mayAlter_iff.2 ⟨hrun, hslots, hone, htwo⟩
    have hwanted : u.flashWanted 3 0 = some (.erase (u.rd F.FLASH_ADDR_ADDR)) := by simp [State.flashWanted, ha, hmay]
    rw [exec_flashErase, execFlashErase, cmd_hostWrite rfl hu ho, State.flashOp_queued hidle (by decide) (by decide) hwanted]
    rfl
  case denied =>
    rintro s u d len _ hu hlen ho hidle rfl hdenied
    have hwanted : u.flashWanted 2 len = none := by simp [State.flashWanted, State.mayAlter_eq_false_iff.2 hdenied]
    rw [exec_flashProgram, execFlashProgram, cmd_hostWrite rfl hu ho, Nat.mod_eq_of_lt hlen, State.flashOp_denied hidle
      (by decide) (by decide) hwanted]
  case serve =>
    exact fun s u d o rest hu hon hidle hingots hwait => exec_flashArbiterServe_oldest hu hon hidle hingots hwait
  case deniedNow =>
    intro u a n
    exact ⟨rfl, Bool.not_eq_true' _ ▸ State.mayAlter_eq_false_iff, rfl⟩
  case ingot =>
    intro s u d hu hon hidle hingots
    rw [exec_flashArbiterServe, execFlashArbiterServe, cmd_powered hu hon, hidle, if_neg (by decide),
      if_pos (by simpa using hingots)]
    rfl
  case readDone => exact fun s u d ok a n hu hon hbusy => exec_flashOpDone_read hu hon hbusy
  case programDone => exact fun s u d a n hu hon hbusy => exec_flashOpDone_program hu hon hbusy
  case eraseDone => exact fun s u d a hu hon hbusy => exec_flashOpDone_erase hu hon hbusy

/-! ### Ownership of shared resources -/

/-- The judgement of an operation on a resource that exists, by an owner that exists and may own it. -/
theorem claimOk_of {op c i o : Nat} (hop : op = 1 ∨ op = 2) (hi : i < resCount c) (ho : o = hostOwner ∨ srcExists o = true)
    (hmay : mayOwn c i o = true) : claimOk op c i o = true := by
  simp only [claimOk, Bool.and_eq_true, Bool.or_eq_true, decide_eq_true_eq]
  exact ⟨⟨⟨hop, hi⟩, ho⟩, hmay⟩

/-- A write of RESOURCE_CLAIM with its register open. -/
theorem resourceOp_open {s u : State} {d op c i o : Nat} (hu : u = s.atCmd d) (hc : c < 256) (hi : i < 65536) (ho : o < 2 ^ 32)
    (hopen : u.hostOpen F.RESOURCE_CLAIM_OP.addr) : resourceOp d op c i o s = .next (s.closeCmd d (u.claim op c i o)) := by
  rw [resourceOp, cmd_hostWrite rfl hu hopen, Nat.mod_eq_of_lt hc, Nat.mod_eq_of_lt hi, Nat.mod_eq_of_lt ho]

section
variable {s : State} {c i o : Nat}

/-- A claim of a free resource takes it. -/
theorem State.claim_free (hok : claimOk 1 c i o = true) (hrun : s.kindle.running = false) (hfree : s.owner c i = 0) :
    s.claim 1 c i o = ((s.setOwner c i o).claimResult 1 o).ownersMoved := by
  simp [State.claim, hok, hrun, hfree]

/-- A claim of a held resource answers its owner. -/
theorem State.claim_held (hok : claimOk 1 c i o = true) (hrun : s.kindle.running = false) (hheld : s.owner c i ≠ 0) :
    s.claim 1 c i o = s.claimResult 3 (s.owner c i) := by
  simp [State.claim, hok, hrun, hheld]

/-- The owner releases its resource. -/
theorem State.release_own (hok : claimOk 2 c i o = true) (hrun : s.kindle.running = false) (hown : s.owner c i = o) :
    s.claim 2 c i o = ((s.setOwner c i 0).claimResult 2 0).ownersMoved := by
  simp [State.claim, hok, hrun, hown]

/-- Another than the owner cannot release a resource. -/
theorem State.release_other (hok : claimOk 2 c i o = true) (hrun : s.kindle.running = false) (hother : s.owner c i ≠ o) :
    s.claim 2 c i o = s.claimResult 3 (s.owner c i) := by
  simp [State.claim, hok, hrun, hother]

/-- An operation during Kindle, or one that names what does not exist, is refused. -/
theorem State.claim_refused {op : Nat} (hi : i < resCount c) (h : claimOk op c i o = false ∨ s.kindle.running = true) :
    s.claim op c i o = s.claimResult 4 (s.owner c i) := by
  have hrefused : (!claimOk op c i o) = true ∨ s.kindle.running = true := by simpa using h
  rw [State.claim, if_pos hrefused, if_pos hi]

end

/-- Settles O23: the cases of a write of RESOURCE_CLAIM. -/
theorem resourceOwnership : Obligations.ResourceOwnership := by
  unfold Obligations.ResourceOwnership
  refine ⟨?free, ?held, ?own, ?other, ?refused⟩
  case free =>
    intro s u d c i o hu hc hi ho hopen hrun hcount hexists hmay hfree
    rw [exec_resourceClaim, execResourceClaim, resourceOp_open hu hc hi ho hopen,
      State.claim_free (claimOk_of (.inl rfl) hcount hexists hmay) hrun hfree]
    rfl
  case held =>
    intro s u d c i o hu hc hi ho hopen hrun hcount hexists hmay hheld
    rw [exec_resourceClaim, execResourceClaim, resourceOp_open hu hc hi ho hopen,
      State.claim_held (claimOk_of (.inl rfl) hcount hexists hmay) hrun hheld]
    rfl
  case own =>
    intro s u d c i o hu hc hi ho hopen hrun hcount hexists hmay hown
    rw [exec_resourceRelease, execResourceRelease, resourceOp_open hu hc hi ho hopen,
      State.release_own (claimOk_of (.inr rfl) hcount hexists hmay) hrun hown]
    rfl
  case other =>
    intro s u d c i o hu hc hi ho hopen hrun hcount hexists hmay hother
    rw [exec_resourceRelease, execResourceRelease, resourceOp_open hu hc hi ho hopen,
      State.release_other (claimOk_of (.inr rfl) hcount hexists hmay) hrun hother]
    rfl
  case refused =>
    intro s u d c i o hu hc hi ho hopen hcount hwhy
    have hrefused : claimOk 1 c i o = false ∨ u.kindle.running = true := by
      rcases hwhy with hrun | ⟨hhost, hexists⟩ | hmay
      · exact .inr hrun
      · exact .inl (by simp [claimOk, hhost, hexists])
      · exact .inl (by simp [claimOk, hmay])
    rw [exec_resourceClaim, execResourceClaim, resourceOp_open hu hc hi ho hopen, State.claim_refused hcount hrefused]
    rfl

end Sys2Proof.Machine


/-!
PROOFS. Frames that a state with a sampler beside the 32 GPIO balls breaks: nothing bounds the keys of the samplers, and the filter of
such a sampler runs out in a register outside Striker's block.
-/

namespace Sys2Proof.Machine

/-! ### A sampler beside the GPIO balls -/

/-- A device that is READY, with a sampler of ball 512, whose level is accepted when next time passes. -/
def strayPin : State :=
  ({ power := { on := true }, stk := { pins := [(512, ⟨1, some 0⟩)] } } : State).wr F.KINDLE_STATUS_PHASE 4

/-- A frame that leaves the register of the stray sampler out forbids its change. -/
theorem not_sameRegistersBut_strayPin {a b : Nat} {t : State} (hout : b ≤ 0x90008) (ht : t.rd F.STK_GPIO_STAT_IN 512 = 1) :
    ¬ SameRegistersBut a b strayPin t := by
  intro h
  have hkey : F.STK_GPIO_STAT_IN.key 512 0 = 8 * 0x90008 + 31 := rfl
  have hsame := h F.STK_GPIO_STAT_IN 512 0 (.inr (by omega)) (.inr (by omega))
  rw [ht] at hsame
  exact absurd hsame (by decide +kernel)

/-- When time passes the level of the stray sampler is accepted. -/
theorem strayPin_accepted : (strayPin.atCmd 0).rd F.STK_GPIO_STAT_IN 512 = 1 := by decide +kernel

/-- Refutes O2: the filter of a sampler of ball 512, which no ball has, runs out in a register outside Striker's block. -/
theorem not_timePassing : ¬ Obligations.TimePassing := by
  unfold Obligations.TimePassing
  rintro ⟨hpass, -, -⟩
  obtain ⟨-, -, -, -, -, hregs⟩ := hpass strayPin 0
  exact not_sameRegistersBut_strayPin (by decide) strayPin_accepted hregs

/-- Refutes O14: as BLW_CLEAR_COUNTS comes, the filter of a sampler of ball 512 runs out in a register outside its block. -/
theorem not_clearCountsFrame : ¬ Obligations.ClearCountsFrame := by
  unfold Obligations.ClearCountsFrame
  intro h
  obtain ⟨-, -, -, -, -, -, -, hbellows, -⟩ :=
    h strayPin (strayPin.closeCmd 0 ((strayPin.atCmd 0).hostWrite F.BLW_CTL_CLEAR_COUNTS.addr State.blwClear)) _ 0 0 rfl
  obtain ⟨-, hregs⟩ := hbellows (by decide +kernel) rfl
  exact not_sameRegistersBut_strayPin (by decide) (by decide +kernel) hregs

/-- Refutes O15: as REF_LOST comes, the filter of a sampler of ball 512 runs out in a register outside Striker's block. -/
theorem not_smallCommandsFrame : ¬ Obligations.SmallCommandsFrame := by
  unfold Obligations.SmallCommandsFrame
  intro h
  obtain ⟨hreference, -⟩ := h strayPin (strayPin.closeCmd 0 (strayPin.atCmd 0)) _ 0 0 0 0 rfl
  obtain ⟨-, hregs⟩ := hreference (.inl (by rw [exec_refLost, execRefLost, cmd_true rfl]; rfl))
  exact not_sameRegistersBut_strayPin (by decide) strayPin_accepted hregs

end Sys2Proof.Machine


/-!
PROOFS. The reply mailbox, timeouts and held requests of the decision arbiter, and function modes.
-/

namespace Sys2Proof.Machine

/-! ### The outcome of a command by its effect -/

section
variable {ok : Bool} {s u t : State} {d a : Nat} {f : State → State}

theorem cmd_eq (hok : ok = true) (hu : u = s.atCmd d) (h : f u = t) : cmd ok d s f = .next (s.closeCmd d t) := by
  rw [cmd_true hok, ← hu, h]

theorem cmd_powered_eq (hok : ok = true) (hu : u = s.atCmd d) (hon : u.power.on = true) (h : f u = t) :
    cmd ok d s (fun s => s.powered f) = .next (s.closeCmd d t) :=
  cmd_eq hok hu ((State.powered_on hon f).trans h)

theorem cmd_press_eq (hok : ok = true) (hu : u = s.atCmd d) (hon : u.pressOn) (h : f u = t) :
    cmd ok d s (fun s => s.press f) = .next (s.closeCmd d t) :=
  cmd_eq hok hu ((State.press_on hon f).trans h)

theorem cmd_hostWrite_eq (hok : ok = true) (hu : u = s.atCmd d) (ho : u.hostOpen a) (h : f u = t) :
    cmd ok d s (fun s => s.hostWrite a f) = .next (s.closeCmd d t) :=
  cmd_eq hok hu ((State.hostWrite_open ho f).trans h)

theorem cmd_hostHold_eq {size v : Nat} (hok : ok = true) (hu : u = s.atCmd d) (ho : u.hostOpen a) (h : f u = t) :
    cmd ok d s (fun s => s.hostHold a size v f) = .next (s.closeCmd d t) :=
  cmd_eq hok hu ((State.hostHold_open ho size v f).trans h)

end

/-! ### Fields of one index -/

/-- Two fields of instances with the same strides that lie at different places. -/
def Fld.apart (f g : Fld) : Bool := decide (f.s1 = g.s1 ∧ f.s2 = g.s2 ∧ 8 * g.addr + g.lo ≠ 8 * f.addr + f.lo)

theorem Fld.key_ne_of_apart {f g : Fld} (h : f.apart g = true) (i j : Nat) : g.key i j ≠ f.key i j := by
  obtain ⟨h1, h2, h3⟩ := of_decide_eq_true h
  simp only [Fld.key, h1, h2]
  omega

/-- A write of one field leaves another field at the same index. -/
theorem State.rd_wr_apart (s : State) {f g : Fld} (h : f.apart g = true) (v i j : Nat) :
    (s.wr f v i j).rd g i j = s.rd g i j := State.rd_wr_ne s (Fld.key_ne_of_apart h i j) v

/-! ### The reply mailbox (R40, R41) -/

section
variable {s : State} {id verdict arg : Nat} {r : Request}

/-- A reply that R41 does not accept leaves its code alone. -/
theorem State.reply_refused {found : Nat} (h : s.judge id verdict arg = found) (hne : found ≠ 1) :
    s.reply id verdict arg = s.wr F.DECIDE_STATUS_LAST_RESULT found := by
  rw [State.reply, h]
  exact if_neg hne

/-- A reply that R41 accepts closes its request and resolves it. -/
theorem State.reply_accepted (h : s.judge id verdict arg = 1) (hr : s.request id = some r) :
    s.reply id verdict arg = ((s.wr F.DECIDE_STATUS_LAST_RESULT 1).closeId id).resolve r verdict arg 2 := by
  have hr' : (s.wr F.DECIDE_STATUS_LAST_RESULT 1).request id = some r := hr
  rw [State.reply, h, if_pos rfl, hr']

/-- An identifier that has not been posted is UNKNOWN. -/
theorem State.judge_unknown (h : id = 0 ∨ (s.dcs.wrapped = false ∧ s.dcs.nextId ≤ id)) : s.judge id verdict arg = 3 := by
  have hposted : s.idPosted id = false := by
    rcases h with rfl | ⟨hwrapped, hid⟩
    · rfl
    · simp [State.idPosted, hwrapped, hid]
  simp [State.judge, hposted]

/-- A posted identifier without an open request is STALE. -/
theorem State.judge_stale (hposted : s.idPosted id = true) (hr : s.request id = none) : s.judge id verdict arg = 2 := by
  simp [State.judge, hposted, hr]

/-- A verdict that does not exist is BAD_VERDICT. -/
theorem State.judge_badVerdict (hposted : s.idPosted id = true) (hr : s.request id = some r)
    (hv : verdict = 0 ∨ 4 ≤ verdict) : s.judge id verdict arg = 4 := by
  simp [State.judge, hposted, hr, hv]

/-- An ARGUMENT out of its range is BAD_ARG. -/
theorem State.judge_badArg (hposted : s.idPosted id = true) (hr : s.request id = some r) (hv : verdict = 3)
    (harg : s.argOk r arg = false) : s.judge id verdict arg = 5 := by
  simp [State.judge, hposted, hr, hv, harg]

/-- Every other reply is accepted. -/
theorem State.judge_accepted (hposted : s.idPosted id = true) (hr : s.request id = some r)
    (hv : verdict = 1 ∨ verdict = 2 ∨ (verdict = 3 ∧ s.argOk r arg = true)) : s.judge id verdict arg = 1 := by
  rcases hv with hv | hv | ⟨hv, harg⟩
  · simp [State.judge, hposted, hr, hv]
  · simp [State.judge, hposted, hr, hv]
  · simp [State.judge, hposted, hr, hv, harg]

end

/-- A write of the whole mailbox commits its reply. -/
theorem exec_decideReplyWrite_whole {s u w : State} {d v : Nat} (hu : u = s.atCmd d) (ho : u.hostOpen 0x100)
    (hv : v < 2 ^ 128) (hw : w = { u with dcs := { u.dcs with seqBytes := [], broken := false } }) :
    exec (.decideReplyWrite d 0 16 v) s =
      .next (s.closeCmd d (w.reply (v % 2 ^ 32) (v / 2 ^ 32 % 2 ^ 8) (v / 2 ^ 64))) := by
  have hcommit : u.replyWrite 0 (le 16 v)
      = w.reply (leAt (le 16 v) 0 4) (leAt (le 16 v) 4 1) (leAt (le 16 v) 8 8) := by
    rw [hw]
    rfl
  rw [leAt_le _ _ _ _ (by decide), leAt_le _ _ _ _ (by decide), leAt_le _ _ _ _ (by decide)] at hcommit
  rw [exec_decideReplyWrite, execDecideReplyWrite, cmd_true rfl, if_pos (by decide), ← hu, State.hostWrite_open ho, hcommit,
    show v / 256 ^ 8 % 256 ^ 8 = v / 2 ^ 64 by omega, show v / 256 ^ 0 % 256 ^ 4 = v % 2 ^ 32 by omega]
  rfl

/-- Settles O24: the judgement of R41 case by case, and the two conditions of the arbiter's own commands. -/
theorem decisions : Obligations.Decisions := by
  unfold Obligations.Decisions
  refine ⟨?unknown, ?stale, ?badVerdict, ?badArg, ?accepted, ?timeout, ?early, ?held⟩
  case unknown =>
    intro s u d v w hu ho hv hw hid
    rw [exec_decideReplyWrite_whole hu ho hv hw, State.reply_refused (State.judge_unknown hid) (by decide)]
  case stale =>
    intro s u d v w hu ho hv hw hposted hr
    rw [exec_decideReplyWrite_whole hu ho hv hw, State.reply_refused (State.judge_stale hposted hr) (by decide)]
  case badVerdict =>
    intro s u d v w r hu ho hv hw hposted hr hverdict
    rw [exec_decideReplyWrite_whole hu ho hv hw, State.reply_refused (State.judge_badVerdict hposted hr hverdict) (by decide)]
  case badArg =>
    intro s u d v w r hu ho hv hw hposted hr hverdict harg
    rw [exec_decideReplyWrite_whole hu ho hv hw, State.reply_refused (State.judge_badArg hposted hr hverdict harg) (by decide)]
  case accepted =>
    intro s u d v w r hu ho hv hw hposted hr hverdict
    rw [exec_decideReplyWrite_whole hu ho hv hw, State.reply_accepted (State.judge_accepted hposted hr hverdict) hr]
  case timeout =>
    intro s u d id r hu hon hr hdue
    refine cmd_powered_eq rfl hu hon ?_
    rw [hr]
    exact if_pos (decide_eq_true hdue)
  case early =>
    intro s u d id r hu hon hr hearly
    refine cmd_powered_eq rfl hu hon ?_
    rw [hr]
    exact if_neg (by simpa [State.due] using hearly)
  case held =>
    intro s u d h rest hu hon hheld hroom
    refine cmd_powered_eq rfl hu hon ?_
    rw [hheld]
    exact if_pos hroom

/-! ### Function modes (R65) -/

/-- Taking host-assisted mode changes no register. -/
theorem State.takeMode_one_regs (s : State) (f u : Nat) : (s.takeMode f u 1).regs = s.regs := by
  unfold State.takeMode
  split <;> rfl

/-- The units out of service take host-assisted mode without a change of a register. -/
theorem takeMode_one_foldl_regs (f : Nat) (p : State → Nat → Bool) : ∀ (l : List Nat) (s : State),
    (l.foldl (fun s u => if p s u then s else s.takeMode f u 1) s).regs = s.regs
  | [], _ => rfl
  | u :: l, s => by
    rw [List.foldl_cons, takeMode_one_foldl_regs f p l]
    split
    · rfl
    · exact s.takeMode_one_regs f u

/-- After the units have settled, REQUESTED is as before, and CURRENT is REQUESTED unless the change is pending. -/
theorem State.settleMode_rd (s : State) {f : Nat} (hf : f ≤ 9) :
    (s.settleMode f).rd F.FUNC_MODE_REQUESTED f = s.rd F.FUNC_MODE_REQUESTED f
      ∧ ((s.settleMode f).rd F.FUNC_MODE_PENDING f = 0
        → (s.settleMode f).rd F.FUNC_MODE_CURRENT f = s.rd F.FUNC_MODE_REQUESTED f % 2) := by
  have hcur : F.FUNC_MODE_CURRENT.key f 0 < 8 * 0x80000 := by simp only [Fld.key, F.FUNC_MODE_CURRENT]; omega
  have hreq : F.FUNC_MODE_REQUESTED.key f 0 < 8 * 0x80000 := by simp only [Fld.key, F.FUNC_MODE_REQUESTED]; omega
  unfold State.settleMode
  split
  · exact ⟨s.rd_wr_apart (by decide) _ _ _, fun h => absurd h (by simp [F.FUNC_MODE_PENDING])⟩
  · extract_lets want moved written modes settled
    have hread (g : Fld) (hg : g.key f 0 < 8 * 0x80000) :
        (if moved then settled.raise (ev 0x01 1) else settled).rd g f = written.rd g f := by
      split
      · exact settled.raise_rd _ _ _ _ (.inl hg)
      · rfl
    rw [hread _ hreq, hread _ hcur]
    unfold written
    rw [State.rd_wr_apart _ (by decide), State.rd_wr_apart _ (by decide), State.rd_wr_apart _ (by decide), State.rd_wr_self]
    exact ⟨rfl, fun _ => rfl⟩

/-- A mode that is written is REQUESTED, and CURRENT unless units still wait. -/
theorem State.modeWrite_rd (s : State) {f : Nat} (hf : f ≤ 9) :
    (s.modeWrite f 1).rd F.FUNC_MODE_REQUESTED f = 1
      ∧ ((s.modeWrite f 1).rd F.FUNC_MODE_PENDING f = 0 → (s.modeWrite f 1).rd F.FUNC_MODE_CURRENT f = 1) := by
  unfold State.modeWrite
  extract_lets ordered taken
  have hordered : ordered.rd F.FUNC_MODE_REQUESTED f = 1 := s.rd_wr_self _ _ _ _
  have htaken : taken.rd F.FUNC_MODE_REQUESTED f = 1 :=
    (State.rd_of_regs (takeMode_one_foldl_regs f (fun s u => s.inService f u) _ _) _ _ _).trans hordered
  obtain ⟨hreq, hcur⟩ := taken.settleMode_rd hf
  exact ⟨hreq.trans htaken, fun h => by rw [hcur h, htaken]⟩

/-- Settles O25: a write reaches `modeWrite`, and a unit takes its mode at a safe point and nowhere else. -/
theorem functionModes : Obligations.FunctionModes := by
  unfold Obligations.FunctionModes
  refine ⟨?write, ?taken, ?waits⟩
  case write =>
    intro s u d f v hu hf hf' hv ho
    refine ⟨_, cmd_hostWrite_eq (decide_eq_true ⟨hf, hf'⟩) hu ho (by rw [Nat.mod_eq_of_lt hv]), rfl, ?_⟩
    rintro rfl
    exact u.modeWrite_rd hf'
  case taken =>
    intro s u d f w hu hf hf' hw hon hpending hsafe
    have hat : u.atSafePoint f w = true := by
      rcases hsafe with h | h
      · simp [State.atSafePoint, h]
      · simp [State.atSafePoint, h]
    refine cmd_powered_eq (decide_eq_true ⟨hf, hf', hw⟩) hu hon ?_
    simp [hpending, hat]
  case waits =>
    intro s u d f w hu hf hf' hw hon hserves hlane
    have hat : u.atSafePoint f w = false := by simpa [State.atSafePoint, hserves] using hlane
    refine cmd_powered_eq (decide_eq_true ⟨hf, hf', hw⟩) hu hon ?_
    simp [hat]

end Sys2Proof.Machine


/-!
PROOFS. Accesses of host software to registers (R22, R107, R407, R564), and the writes of BLW_RAIL (R314).
-/

namespace Sys2Proof.Machine

/-! ### Accesses -/

/-- A write that is open goes through the gate. -/
theorem State.gate_open {s : State} {w : HeldWrite} (h : s.hostOpen w.addr) (f : State → State) : s.gate .bar0 w f = f s :=
  State.hostHold_open h w.size w.value f

/-- A request to an open block is carried out. -/
theorem State.bar0Write_open {s : State} {a : Nat} (h : s.hostOpen a) (size x : Nat) :
    s.bar0Write a size x = (accesses a size x).foldl (fun s w => s.busWrite .bar0 w) s := by
  obtain ⟨-, hd3, -, hquench, -⟩ := h
  refine if_neg ?_
  rcases hquench with hq | hb
  · simp [hd3, hq]
  · simp [hd3, hb]

/-- One access to an open block beside KINDLE_CTL. -/
theorem State.busWrite_open {s : State} {w : HeldWrite} (h : s.hostOpen w.addr) (hctl : w.addr ≠ 0x10040) :
    s.busWrite .bar0 w = s.access .bar0 w.addr w.size w.value := by
  have hkey : coversKindleCtl w = false := decide_eq_false hctl
  rw [State.busWrite, State.gate_open h, State.arrive, hkey]
  rfl

theorem State.bar0Write_four {s : State} {a : Nat} (h : s.hostOpen a) (hctl : a ≠ 0x10040) (x : Nat) :
    s.bar0Write a 4 x = s.access .bar0 a 4 (x % 2 ^ 32) :=
  (s.bar0Write_open h 4 x).trans (State.busWrite_open (w := ⟨a, 4, x % 2 ^ 32⟩) h hctl)

theorem State.bar0Write_eight {s : State} {a : Nat} (h : s.hostOpen a) (hctl : a ≠ 0x10040) (x : Nat) :
    s.bar0Write a 8 x = s.access .bar0 a 8 (x % 2 ^ 64) :=
  (s.bar0Write_open h 8 x).trans (State.busWrite_open (w := ⟨a, 8, x % 2 ^ 64⟩) h hctl)

/-- The state without the held lower half of a register. -/
def State.withoutHeld (s : State) (a : Nat) : State := { s with held := s.held.del a }

/-- A whole write of a 64-bit register discards a held lower half. -/
theorem State.access_wide (s : State) {a : Nat} {r : R} {i j : Nat} (v : Via) (x : Nat) (hloc : locate a = some ⟨r, i, j, 0⟩)
    (hwide : r.desc.bytes = 8) (hreply : within 0x100 a 0x10F = false) (hctx : within 0x1800000 a 0x1FFFFFF = false) :
    s.access v a 8 x = (s.withoutHeld a).regWrite v r i j x (2 ^ 64 - 1) := by
  simp [State.access, State.writePlace, State.writeWide, State.withoutHeld, hloc, hwide, hreply, hctx]

/-- A write beside every register and buffer changes nothing. -/
theorem State.access_nowhere (s : State) {a : Nat} (v : Via) (x : Nat) (hloc : locate a = none) (hbuf : bufferAt a = none)
    (hreply : within 0x100 a 0x10F = false) (hctx : within 0x1800000 a 0x1FFFFFF = false) : s.access v a 4 x = s := by
  simp [State.access, State.writePlace, State.writeBuffer, hloc, hbuf, hreply, hctx]

/-! ### GLB_SCRATCH and BLW_RAIL -/

theorem locate_scratch : ∀ i < 4, locate (0x80 + 8 * i) = some ⟨.GLB_SCRATCH, i, 0, 0⟩ := by decide +kernel

theorem locate_rail : ∀ k < 16, locate (0x20200 + 16 * k) = some ⟨.BLW_RAIL, k, 0, 0⟩ := by decide +kernel

/-- A write of a register that is neither locked nor ignored, outside the Hearths, takes effect. -/
theorem State.regWrite_effect {s : State} {r : R} {i x : Nat} (j mask : Nat) (hmember : s.memberOnly r i = false)
    (hlock : s.lockFlag r i = none) (hignored : s.ignoredNow r i x = false)
    (hhearth : within 0x400000 r.desc.addr 0x403FFF = false) :
    s.regWrite .bar0 r i j x mask = if coversRwk r.desc.flds mask
      then (s.regEffect r i j x).rwkAttempt (r.desc.addr + i * r.desc.s1 + j * r.desc.s2) else s.regEffect r i j x := by
  simp [State.regWrite, State.mirrored, hmember, hlock, hignored, hhearth]

/-- A write of GLB_SCRATCH stores its word. -/
theorem State.regWrite_scratch (s : State) (i mask : Nat) {x : Nat} (hx : x < 2 ^ 64) :
    s.regWrite .bar0 .GLB_SCRATCH i 0 x mask = s.wr F.GLB_SCRATCH_VALUE x i := by
  have heffect : s.regEffect .GLB_SCRATCH i 0 x = s.wr F.GLB_SCRATCH_VALUE (x % 2 ^ 64) i := rfl
  rw [State.regWrite_effect 0 mask rfl rfl rfl rfl, heffect, Nat.mod_eq_of_lt hx]
  rfl

/-- A write of fields leaves every other field. -/
theorem State.setFlds_rd_ne {g : Fld} {k l i j : Nat} (x : Nat) : ∀ (fs : List Fld) (s : State),
    (∀ f ∈ fs, g.key k l ≠ f.key i j) → (s.setFlds fs i j x).rd g k l = s.rd g k l
  | [], _, _ => rfl
  | f :: fs, s, h => by
    have hone : (s.setFld f i j x).rd g k l = s.rd g k l := by
      have hne := h f List.mem_cons_self
      unfold State.setFld
      split
      · exact State.rd_wr_ne s hne _
      · exact State.rd_wr_ne s hne _
      · split
        · rfl
        · exact State.rd_wr_ne s hne _
      · rfl
      · rfl
    exact (State.setFlds_rd_ne x fs _ fun e he => h e (List.mem_cons_of_mem f he)).trans hone

/-- The fields of BLW_RAIL leave the phase of Kindle. -/
theorem State.setFlds_rail_ready (s : State) (k x : Nat) : (s.setFlds R.BLW_RAIL.desc.flds k 0 x).ready = s.ready := by
  have hblock : ∀ f ∈ R.BLW_RAIL.desc.flds, 0x20200 ≤ f.addr := by decide
  have hphase : ∀ f ∈ R.BLW_RAIL.desc.flds, F.KINDLE_STATUS_PHASE.key 0 0 ≠ f.key k 0 := by
    intro f hf
    have haddr := hblock f hf
    simp only [Fld.key, F.KINDLE_STATUS_PHASE]
    omega
  rw [State.ready, State.ready, State.setFlds_rd_ne x _ _ hphase]

/-- A range that R314 forbids is ignored. -/
theorem State.regWrite_rail_ignored {s : State} {k x : Nat} (mask : Nat)
    (hrange : s.railRangeOk k (bits x 15 0) (bits x 31 16) = false) : s.regWrite .bar0 .BLW_RAIL k 0 x mask = s := by
  have hignored : s.ignoredNow .BLW_RAIL k x = true := by simp [State.ignoredNow, hrange]
  simp [State.regWrite, State.memberOnly, State.lockFlag, State.ignoredFlag, hignored]

/-- A whole write of BLW_RAIL that R314 permits is counted as an attempt on an RWK field. -/
theorem State.regWrite_rail {s : State} {k x : Nat} (hrange : s.railRangeOk k (bits x 15 0) (bits x 31 16) = true) :
    s.regWrite .bar0 .BLW_RAIL k 0 x (2 ^ 64 - 1) = (s.railWrite k x).rwkAttempt (0x20200 + 16 * k) := by
  have hignored : s.ignoredNow .BLW_RAIL k x = false := by simp [State.ignoredNow, ignoredValue, hrange]
  have hrwk : coversRwk R.BLW_RAIL.desc.flds (2 ^ 64 - 1) = true := by decide +kernel
  have haddr : R.BLW_RAIL.desc.addr + k * R.BLW_RAIL.desc.s1 + 0 * R.BLW_RAIL.desc.s2 = 0x20200 + 16 * k := by
    simp only [R.desc]; omega
  rw [State.regWrite_effect 0 _ rfl rfl hignored rfl, hrwk, haddr]
  rfl

/-- The fields of a permitted range, and beside them the new target of a fixed rail that moves after READY. -/
theorem State.railWrite_permitted {s : State} {k x : Nat} (hrange : s.railRangeOk k (bits x 15 0) (bits x 31 16) = true) :
    s.railWrite k x = if s.ready = true ∧ 14 ≤ k ∧ bits x 15 0 ≠ s.rd F.BLW_RAIL_FLOOR_MV k
      then (s.setFlds R.BLW_RAIL.desc.flds k 0 x).setBlw { (s.setFlds R.BLW_RAIL.desc.flds k 0 x).blw with
        target := (s.setFlds R.BLW_RAIL.desc.flds k 0 x).blw.target.put k (bits x 15 0) 0 }
      else s.setFlds R.BLW_RAIL.desc.flds k 0 x := by
  simp only [State.railWrite, hrange, State.setFlds_rail_ready, Bool.not_true, Bool.false_eq_true, if_false, Bool.and_eq_true,
    decide_eq_true_eq]

/-! ### The commands -/

/-- A whole write to a 64-bit register that is open. -/
theorem exec_registerWrite_wide {s u : State} {d a i j x : Nat} {r : R} (hu : u = s.atCmd d) (ho : u.hostOpen a)
    (hok : bar0Ok a 8 = true) (hloc : locate a = some ⟨r, i, j, 0⟩) (hwide : r.desc.bytes = 8) (hctl : a ≠ 0x10040)
    (hreply : within 0x100 a 0x10F = false) (hctx : within 0x1800000 a 0x1FFFFFF = false) (hx : x < 2 ^ 64) :
    exec (.registerWrite d a 8 x) s =
      .next (s.closeCmd d ((u.withoutHeld a).regWrite .bar0 r i j x (2 ^ 64 - 1))) := by
  refine cmd_powered_eq rfl hu ho.1 ?_
  rw [if_pos hok, Nat.mod_eq_of_lt hx, State.bar0Write_eight ho hctl, Nat.mod_eq_of_lt hx,
    State.access_wide u .bar0 x hloc hwide hreply hctx]

/-- RAIL_WRITE with the register open is a whole write of BLW_RAIL. -/
theorem exec_railWrite_open {s u : State} {d k x : Nat} (hu : u = s.atCmd d) (hk : k < 16) (hx : x < 2 ^ 64)
    (ho : u.hostOpen (0x20200 + 16 * k)) :
    exec (.railWrite d k x) s = .next (s.closeCmd d
      ((u.withoutHeld (0x20200 + 16 * k)).regWrite .bar0 .BLW_RAIL k 0 x (2 ^ 64 - 1))) := by
  have haddr : F.BLW_RAIL_FLOOR_MV.at_ k = 0x20200 + 16 * k := by simp only [Fld.at_, F.BLW_RAIL_FLOOR_MV]; omega
  have hreply : within 0x100 (0x20200 + 16 * k) 0x10F = false := by simp [within]; omega
  have hctx : within 0x1800000 (0x20200 + 16 * k) 0x1FFFFFF = false := by simp [within]; omega
  refine cmd_powered_eq (decide_eq_true hk) hu ho.1 ?_
  rw [haddr, Nat.mod_eq_of_lt hx, State.bar0Write_eight ho (by omega), Nat.mod_eq_of_lt hx,
    State.access_wide u .bar0 x (locate_rail k hk) rfl hreply hctx]

/-- A 4-byte read of the lower half of a 64-bit register latches the upper half. -/
theorem State.read4_lower {s : State} {a i j : Nat} {r : R} (hloc : locate a = some ⟨r, i, j, 0⟩) (hwide : r.desc.bytes = 8) :
    s.read4 a = (s.regValue r i j % 2 ^ 32, { s with upper := s.upper.put a (s.regValue r i j / 2 ^ 32 + 1) 0 }) := by
  simp [State.read4, hloc, hwide]

theorem State.regValue_scratch (s : State) (i : Nat) : s.regValue .GLB_SCRATCH i 0 = s.rd F.GLB_SCRATCH_VALUE i := by
  have hword : s.regValue .GLB_SCRATCH i 0 = s.rd F.GLB_SCRATCH_VALUE i * 2 ^ 0 + 0 := rfl
  rw [hword]
  omega

/-- Settles O26: each access reaches the one register that its address names. -/
theorem registerWrites : Obligations.RegisterWrites := by
  unfold Obligations.RegisterWrites
  refine ⟨?scratch, ?nowhere, ?lower, ?rail, ?railTarget, ?railIgnored, ?exitDone⟩
  case scratch =>
    intro s u d x i hu hi hx ho
    have hok : bar0Ok (0x80 + 8 * i) 8 = true := decide_eq_true ⟨by decide, by omega, by omega⟩
    rw [exec_registerWrite_wide hu ho hok (locate_scratch i hi) rfl (by omega) (by simp [within]; omega)
      (by simp [within]; omega) hx, State.regWrite_scratch _ _ _ hx]
    rfl
  case nowhere =>
    intro s u d a x hu ha hend hx ho hloc hbuf hctx hreply
    have hok : bar0Ok a 4 = true := decide_eq_true ⟨by decide, ha, hend⟩
    have hctl : a ≠ 0x10040 := by
      rintro rfl
      exact absurd hloc (by decide +kernel)
    refine cmd_powered_eq rfl hu ho.1 ?_
    rw [if_pos hok, State.bar0Write_four ho hctl, State.access_nowhere u .bar0 _ hloc hbuf (by simpa [within] using hreply)
      (by simpa [within] using hctx)]
  case lower =>
    intro s u d i hu hi hon hd3 hjtag
    have hok : bar0Ok (0x80 + 8 * i) 4 = true := decide_eq_true ⟨by decide, by omega, by omega⟩
    have hdom : regDomain (0x80 + 8 * i) = none := by
      have hall : ∀ i < 4, regDomain (0x80 + 8 * i) = none := by decide
      exact hall i hi
    refine cmd_powered_eq rfl hu hon ?_
    simp [hd3, hok, hdom, State.read4_lower (locate_scratch i hi) rfl, State.regValue_scratch, State.emit, hjtag]
  case rail =>
    intro s u d k x hu hk hx ho hrange hstays
    have hmoved : ¬(u.ready = true ∧ 14 ≤ k ∧ bits x 15 0 ≠ u.rd F.BLW_RAIL_FLOOR_MV k) := by
      rintro ⟨hready, hfixed, hne⟩
      rcases hstays with h | h | h
      · simp [hready] at h
      · omega
      · exact hne h
    rw [exec_railWrite_open hu hk hx ho, State.regWrite_rail (s := u.withoutHeld _) hrange,
      State.railWrite_permitted (s := u.withoutHeld _) hrange]
    exact congrArg (fun t => Host.Outcome.next (s.closeCmd d (State.rwkAttempt t _))) (if_neg hmoved)
  case railTarget =>
    rintro s u _ d k x hu hk hx ho hrange hready hfixed hne rfl
    rw [exec_railWrite_open hu hk hx ho, State.regWrite_rail (s := u.withoutHeld _) hrange,
      State.railWrite_permitted (s := u.withoutHeld _) hrange]
    exact congrArg (fun t => Host.Outcome.next (s.closeCmd d (State.rwkAttempt t _))) (if_pos ⟨hready, hfixed, hne⟩)
  case railIgnored =>
    intro s u d k x hu hk hx ho hrange
    rw [exec_railWrite_open hu hk hx ho, State.regWrite_rail_ignored (s := u.withoutHeld _) _ hrange]
    rfl
  case exitDone =>
    intro s u d dom hu hdom hpress hexit
    exact cmd_press_eq (decide_eq_true hdom) hu hpress (if_pos hexit)

end Sys2Proof.Machine


/-!
PROOFS. Statements that a register value wider than its field breaks: nothing in them bounds the values that the state holds, while every
write cuts to the width.
-/

namespace Sys2Proof.Machine

/-! ### Values wider than their field -/

/-- The state with the bare value v in a register field, which a write would cut to the width of the field. -/
def State.overfill (s : State) (f : Fld) (v : Nat) (i : Nat := 0) (j : Nat := 0) : State :=
  { s with regs := s.regs.put (f.key i j) v (f.rst i j) }

/-- A register field of the next state of an outcome. -/
def nextRd (o : Host.Outcome State Fault Refusal) (f : Fld) (i : Nat := 0) (j : Nat := 0) : Nat :=
  match o with
  | .next v => v.rd f i j
  | _ => 0

/-- A device that is READY, with its timebase running. -/
def bareReady : State := ({ power := { on := true }, running := true } : State).wr F.KINDLE_STATUS_PHASE 4

/-- The closing of a command leaves what the register fields of its next state read. -/
theorem nextRd_closeCmd {o : Host.Outcome State Fault Refusal} {s t : State} {d : Nat} (h : o = .next (s.closeCmd d t))
    (f : Fld) (i j : Nat) : nextRd o f i j = t.rd f i j := by
  rw [h]
  rfl

/-- Encoder 0 is about to latch a count of 2^48 at its rising Z. -/
def overfullCount : State :=
  { ((bareReady.wr F.ENC_CFG_ENABLE 1).wr F.ENC_CFG_ZMODE 1).overfill F.ENC_COUNT_COUNT (2 ^ 48) with
    pos := { enc := [(0, { z := { raw := 1 } })] } }

/-- Refutes O27: a count of 2^48 is latched into the 48 bits of ENC_ZPOS as 0. -/
theorem not_encodersAndAxes : ¬ Obligations.EncodersAndAxes := by
  unfold Obligations.EncodersAndAxes
  rintro ⟨-, hcycle, -⟩
  obtain ⟨t, ht, -, henc⟩ := hcycle overfullCount _ (.encoderEdge 131072 []) 131072 [] [] rfl (.inl rfl) (by decide +kernel)
    (by decide +kernel) (by decide +kernel)
  obtain ⟨-, -, -, hlatch⟩ := henc 0 (by decide) (by decide +kernel) (by decide +kernel)
  obtain ⟨hcount, -⟩ := hlatch (by decide +kernel) (by decide +kernel) (by decide +kernel)
  rw [← nextRd_closeCmd ht, ← nextRd_closeCmd ht] at hcount
  exact absurd hcount (by decide +kernel)

/-- Refutes O45: a reading of 2^16 becomes a peak of 0 at BLW_CLEAR_PEAKS. -/
theorem not_power : ¬ Obligations.Power := by
  unfold Obligations.Power
  rintro ⟨-, -, -, -, -, -, -, -, -, -, -, hpeaks, -⟩
  obtain ⟨t, ht, hpeak, -⟩ := hpeaks (bareReady.overfill F.BLW_TEMP_TEMP (2 ^ 16)) _ 0 0 rfl (by decide) (by decide +kernel)
  rw [← nextRd_closeCmd ht] at hpeak
  exact absurd hpeak (by decide +kernel)

end Sys2Proof.Machine


/-!
PROOFS. Resets of the whole device, and the port of the boundary-scan register.
-/

namespace Sys2Proof.Machine

/-! ### Resets of the whole device -/

/-- Opening a journal sector leaves the HBM. -/
theorem State.jOpen_hbm (s : State) : s.jOpen.hbm = s.hbm := by
  unfold State.jOpen
  split
  · rfl
  · split <;> rfl

theorem State.jRoom_hbm (s : State) (size : Nat) : (s.jRoom size).hbm = s.hbm := by
  unfold State.jRoom
  split
  · split
    · rfl
    · exact s.jOpen_hbm
  · exact s.jOpen_hbm

theorem State.jPut_hbm (s : State) (kind : Nat) (payload : Bytes) (ok : Bool) : (s.jPut kind payload ok).hbm = s.hbm := by
  have hroom := s.jRoom_hbm (ingotSize payload.length)
  unfold State.jPut
  extract_lets size room
  cases room.jLast with
  | none => exact hroom
  | some last =>
    dsimp only
    generalize ingotBytes _ _ _ _ _ _ = bytes
    split_ifs <;> exact hroom

/-- The free values that an interrupted operation takes leave the HBM. -/
theorem State.freshBytes_hbm (n : Nat) : ∀ s : State, (s.freshBytes n).2.hbm = s.hbm := by
  induction n with
  | zero => exact fun _ => rfl
  | succ n ih => exact fun s => ih (s.fresh 8).2

theorem State.programPart_hbm (s : State) (a : Nat) (bs : Bytes) : (s.programPart a bs).hbm = s.hbm :=
  State.freshBytes_hbm bs.length s

theorem State.eraseBytes_hbm (s : State) (a n : Nat) : (s.eraseBytes a n).hbm = s.hbm := State.freshBytes_hbm n s

/-- Abandoning a flash operation leaves the HBM. -/
theorem State.flashAbandon_hbm (s : State) : s.flashAbandon.hbm = s.hbm := by
  unfold State.flashAbandon
  dsimp only
  split
  · exact State.programPart_hbm _ _ _
  · exact State.eraseBytes_hbm _ _ _
  · split
    · exact State.jPut_hbm _ _ _ _
    · rfl
  · rfl

/-- A strap of CFG_HOLD_N is one bit. -/
theorem cfgHold_bit {n : Nat} (h : n < 2) : decide (n % 2 = 0) = decide (n = 0) := by
  rw [Nat.mod_eq_of_lt h]

/-- Settles O17: the resets leave the bare device, and PERST_N starts Kindle in the whole-device scope. -/
theorem powerResets : Obligations.PowerResets := by
  unfold Obligations.PowerResets
  refine ⟨?powerOn, ?supply, ?assert, ?release, ?pressSafe⟩
  case powerOn =>
    intro s u d straps cfgHoldN hu hstraps _ hoff hperst
    refine ⟨u.deviceReset false { on := true, perst := true, straps := straps }, ?_, rfl, rfl, rfl, rfl, rfl, rfl, rfl⟩
    rw [exec_powerOn, execPowerOn]
    refine cmd_eq rfl hu ?_
    dsimp only
    rw [hoff, hperst, Nat.mod_eq_of_lt hstraps]
    rfl
  case supply =>
    intro s u d hu hon
    exact ⟨_, cmd_powered_eq rfl hu hon rfl, rfl, rfl, rfl, rfl, rfl, rfl, rfl⟩
  case assert =>
    intro s u d hu hon hperst hscope
    refine ⟨u.deviceReset true { u.power with perst := true, jtagTest := false, jtagIr := 1, scanLatch := 0 },
      ?_, rfl, rfl, u.flashAbandon_hbm, rfl, rfl, rfl, rfl⟩
    rw [exec_perstNAssert, execPerstNAssert]
    refine cmd_eq rfl hu ?_
    dsimp only
    rw [if_neg (by simp [hon, hperst]), if_pos (u.wholeScope_iff.2 hscope)]
  case release =>
    intro s u d cfgHoldN hu hcfg hon hperst hscope
    rw [exec_perstNRelease, execPerstNRelease]
    refine cmd_eq rfl hu ?_
    dsimp only
    rw [if_neg (by simp [hon, hperst, u.wholeScope_iff.2 hscope]), cfgHold_bit hcfg]
    rfl
  case pressSafe =>
    intro s u d cfgHoldN hu _ _ _ hscope hready
    rw [exec_perstNRelease, execPerstNRelease]
    refine cmd_eq rfl hu ?_
    dsimp only
    rw [if_pos (by simp [State.wholeScope, hscope, hready])]

/-! ### Shifting through a data register -/

/-- A shift by one place: the bits move towards bit 0, and the new one stands at the end. -/
theorem testBit_shifted {w r : Nat} (hr : r < 2 ^ (w + 1)) (b : Bool) (k : Nat) :
    (r / 2 + b2n b * 2 ^ w).testBit k = if k < w then r.testBit (k + 1) else (b2n b).testBit (k - w) := by
  have hhalf : r / 2 < 2 ^ w := by omega
  rw [Nat.add_comm, Nat.mul_comm, Nat.testBit_two_pow_mul_add _ hhalf, Nat.testBit_add_one]

theorem shifted_lt {w r : Nat} (hr : r < 2 ^ (w + 1)) (b : Bool) : r / 2 + b2n b * 2 ^ w < 2 ^ (w + 1) := by
  have hb : b2n b * 2 ^ w ≤ 1 * 2 ^ w := Nat.mul_le_mul_right _ (by cases b <;> decide)
  omega

/-- The bits that come out of a register of w + 1 bits are those it held, from bit 0 on. -/
theorem shiftBits_out {w : Nat} (bs : List Bool) : ∀ r, bs.length ≤ w + 1 →
    (shiftBits (w + 1) bs r).1 = (List.range bs.length).map r.testBit := by
  induction bs with
  | nil => exact fun _ _ => rfl
  | cons b bs ih =>
    intro r hlen
    have hlow (k : Nat) (hk : k < bs.length) : (r / 2 + b2n b * 2 ^ w).testBit k = r.testBit (k + 1) := by
      have hkw : k < w := by simpa using Nat.lt_of_lt_of_le hk (Nat.le_of_succ_le_succ hlen)
      have hmod := congrArg (Nat.testBit · k) (Nat.add_mul_mod_self_right (r / 2) (b2n b) (2 ^ w))
      simp only [Nat.testBit_mod_two_pow, hkw, decide_true, Bool.true_and] at hmod
      rw [hmod, Nat.testBit_add_one]
    have htail := ih (r / 2 + b2n b * 2 ^ w) (by simp at hlen; omega)
    have hmap : (List.range bs.length).map (r / 2 + b2n b * 2 ^ w).testBit
        = (List.range bs.length).map fun k => r.testBit (k + 1) :=
      List.map_congr_left fun k hk => hlow k (List.mem_range.1 hk)
    rw [shiftBits, List.length_cons, List.range_succ_eq_map, List.map_cons, List.map_map, Nat.testBit_zero]
    exact congrArg _ (htail.trans hmap)

/-- After n bits the first of them stands n places before the end of the register. -/
theorem shiftBits_held {w : Nat} (bs : List Bool) : ∀ r < 2 ^ (w + 1), bs.length ≤ w + 1 → ∀ k < w + 1,
    (shiftBits (w + 1) bs r).2.testBit k
      = if k + bs.length < w + 1 then r.testBit (k + bs.length) else bs.getD (k + bs.length - (w + 1)) false := by
  induction bs with
  | nil =>
    intro r _ _ k hk
    rw [if_pos (by simpa using hk)]
    rfl
  | cons b bs ih =>
    intro r hr hlen k hk
    rw [List.length_cons] at hlen ⊢
    have hrest := ih _ (shifted_lt hr b) (by omega) k hk
    rw [testBit_shifted hr] at hrest
    rw [shiftBits]
    refine Eq.trans hrest ?_
    rcases Nat.lt_trichotomy (k + bs.length) w with hlt | heq | hgt
    · rw [if_pos (by omega), if_pos hlt, if_pos (by omega), Nat.add_assoc]
    · rw [if_pos (by omega), if_neg (by omega), if_neg (by omega), heq,
        show k + (bs.length + 1) - (w + 1) = 0 by omega, Nat.sub_self]
      cases b <;> rfl
    · rw [if_neg (by omega), if_neg (by omega), show k + (bs.length + 1) - (w + 1) = (k + bs.length - (w + 1)) + 1 by omega]
      rfl

/-- The bypass register delays what goes in by one place. -/
theorem shiftBits_delay (bits : List Bool) : ∀ b : Bool, (shiftBits 1 bits (b2n b)).1 = (b :: bits).take bits.length := by
  induction bits with
  | nil => exact fun _ => rfl
  | cons c bits ih =>
    intro b
    have hnext : b2n b / 2 + b2n c * 2 ^ (1 - 1) = b2n c := by cases b <;> cases c <;> rfl
    have hbit : decide (b2n b % 2 = 1) = b := by cases b <;> rfl
    rw [shiftBits, hnext, hbit]
    exact congrArg (b :: ·) (ih c)

theorem shiftBits_bypass {bits : List Bool} (hne : bits ≠ []) : (shiftBits 1 bits 0).1 = false :: bits.dropLast := by
  obtain ⟨b, l, rfl⟩ := List.exists_cons_of_ne_nil hne
  exact (shiftBits_delay (b :: l) false).trans (by rw [List.length_cons, List.take_succ_cons, List.dropLast_eq_take]; rfl)

/-! ### Scans -/

/-- Free values taken one by one leave the rest of the state. -/
theorem freshFold_frame (s : State) (l : List Nat) : ∀ r : Nat × State, (∃ n, r.2 = { s with free := n }) →
    ∃ n, (l.foldl (fun (r : Nat × State) i =>
      let x := r.2.fresh 64
      (r.1 + x.1 * 2 ^ (64 * i), x.2)) r).2 = { s with free := n } := by
  induction l with
  | nil => exact fun _ h => h
  | cons i l ih =>
    rintro ⟨x, v⟩ ⟨n, h⟩
    refine ih _ ⟨n + 1, ?_⟩
    dsimp only at h
    subst h
    rfl

theorem State.scanCapture_frame (s : State) : ∃ n, s.scanCapture.2 = { s with free := n } := by
  unfold State.scanCapture
  dsimp only
  exact freshFold_frame s _ (0, s) ⟨s.free, rfl⟩

theorem State.scanCapture_lt (s : State) : s.scanCapture.1 < 2 ^ scanWidth := by
  unfold State.scanCapture
  generalize scanWidth = n
  exact Nat.mod_lt _ (Nat.two_pow_pos n)

/-- A scan of as many bits as the register has leaves each bit in its cell. -/
theorem shiftBits_whole {bits : List Bool} {n r k : Nat} (hlen : bits.length = n) (hr : r < 2 ^ n) (hk : k < n) :
    (shiftBits n bits r).2.testBit k = bits.getD k false := by
  obtain ⟨w, rfl⟩ := Nat.exists_eq_add_one_of_ne_zero (Nat.ne_of_gt (Nat.zero_lt_of_lt hk))
  rw [shiftBits_held bits r hr (Nat.le_of_eq hlen) k hk, hlen, if_neg (by omega), Nat.add_sub_cancel]

@[simp] theorem State.scanPins_power (s : State) : s.scanPins.power = s.power := by
  unfold State.scanPins
  split <;> rfl

@[simp] theorem State.scanPins_regs (s : State) : s.scanPins.regs = s.regs := by
  unfold State.scanPins
  split <;> rfl

@[simp] theorem State.scanPins_hbm (s : State) : s.scanPins.hbm = s.hbm := by
  unfold State.scanPins
  split <;> rfl

/-- Pins that follow the register show what it holds. -/
theorem State.scanPins_shown {s : State} (h : s.power.jtagTest = true) :
    Out.scanPins s.power.jtagIr s.power.scanLatch ∈ s.scanPins.out := by
  rw [State.scanPins, if_pos h]
  exact List.mem_append_right _ (List.mem_singleton.2 rfl)

/-- The boundary-scan register at the end of a scan, before the pins follow it. -/
def State.scanUpdate (s : State) (bits : List Bool) : State :=
  let c := s.scanCapture
  let r := shiftBits scanWidth bits c.1
  { c.2 with out := c.2.out ++ [Out.tdo r.1], power := { c.2.power with scanLatch := r.2 } }

theorem State.scanData_boundary {s : State} (h : jtagBoundary s.power.jtagIr = true) (bits : List Bool) :
    s.scanData bits = (s.scanUpdate bits).scanPins := if_pos h

/-- A scan of as many bits as there are cells changes the latch alone, which then holds the bits. -/
theorem State.scanUpdate_frame (s : State) (bits : List Bool) (hlen : bits.length = scanWidth) :
    (s.scanUpdate bits).regs = s.regs ∧ (s.scanUpdate bits).hbm = s.hbm
      ∧ (∃ latch, (s.scanUpdate bits).power = { s.power with scanLatch := latch })
      ∧ ∀ k < scanWidth, (s.scanUpdate bits).power.scanLatch.testBit k = bits.getD k false := by
  obtain ⟨n, hn⟩ := s.scanCapture_frame
  have hheld (k : Nat) (hk : k < scanWidth) := shiftBits_whole (r := s.scanCapture.1) hlen s.scanCapture_lt hk
  unfold State.scanUpdate
  dsimp only
  rw [hn]
  exact ⟨rfl, rfl, ⟨_, rfl⟩, hheld⟩

/-- A state in which the instruction of an opcode is in effect. -/
def State.withJtag (s : State) (opcode : Nat) : State :=
  { s with power := { s.power with jtagIr := jtagOpcode opcode, jtagTest := jtagHoldsPins (jtagOpcode opcode) } }

/-- An instruction takes effect at the pins and then its scans follow. -/
theorem exec_jtagInstructionUpdate_on {s u : State} {d opcode : Nat} (scans : List (List Bool)) (hu : u = s.atCmd d)
    (hop : opcode < 256) (hon : u.power.on = true) :
    exec (.jtagInstructionUpdate d opcode scans) s
      = .next (s.closeCmd d (scans.foldl State.scanData (u.withJtag opcode).scanPins)) := by
  rw [exec_jtagInstructionUpdate, execJtagInstructionUpdate]
  refine cmd_powered_eq rfl hu hon ?_
  rw [Nat.mod_eq_of_lt hop]
  rfl

theorem jtagHoldsPins_opcode (x : Nat) :
    jtagHoldsPins (jtagOpcode x) = decide (x ∈ [0x00, 0x04, 0x05, 0x0C, 0x0D]) := by
  unfold jtagOpcode jtagHoldsPins
  split_ifs with h
  · rfl
  · have hnot : x ∉ [0x00, 0x04, 0x05, 0x0C, 0x0D] := fun hx => h (by simp at hx ⊢; omega)
    simp [hnot]

/-- Settles O18: the four steps of the reference, and what the port selects, shifts and updates. -/
theorem timebaseReference : Obligations.TimebaseReference := by
  unfold Obligations.TimebaseReference
  refine ⟨?lock, ?lost, ?frequency, ?phase, ?instruction, ?idcode, ?bypass, ?boundary, by decide +kernel, by decide +kernel⟩
  case lock =>
    intro s u d hu hon hrun hkindle
    refine cmd_powered_eq rfl hu hon ?_
    rw [if_neg (by simp [hrun, hkindle])]
  case lost =>
    intro s u d hu hon hrun hhold
    refine cmd_powered_eq rfl hu hon ?_
    exact if_pos ⟨hrun, by rw [hhold]; rfl⟩
  case frequency =>
    intro s u d hu hon hhold
    exact cmd_powered_eq rfl hu hon (if_pos hhold)
  case phase =>
    intro s u d hu hon hslew
    exact cmd_powered_eq rfl hu hon (if_pos hslew)
  case instruction =>
    intro s u d opcode scans hu hop hon
    rw [exec_jtagInstructionUpdate_on scans hu hop hon, State.withJtag, jtagHoldsPins_opcode]
    rfl
  case idcode =>
    intro s u d bits hu hon hlen
    rw [exec_jtagInstructionUpdate_on _ hu (by decide) hon]
    have hout := shiftBits_out (w := 31) bits u.idcode (Nat.le_of_eq hlen)
    rw [hlen] at hout
    refine congrArg Host.Outcome.next (congrArg (s.closeCmd d) ?_)
    change { u.withJtag 1 with out := u.out ++ [Out.tdo (shiftBits 32 bits u.idcode).1] } = _
    rw [hout]
    rfl
  case bypass =>
    intro s u d opcode bits hu hon hop hne hnot
    have hcode : jtagOpcode opcode = 0xFF := if_neg hnot
    rw [exec_jtagInstructionUpdate_on _ hu hop hon, State.withJtag, hcode]
    refine congrArg Host.Outcome.next (congrArg (s.closeCmd d) ?_)
    change { u.withJtag 0xFF with out := u.out ++ [Out.tdo (shiftBits 1 bits 0).1] } = _
    rw [shiftBits_bypass hne]
    rfl
  case boundary =>
    intro s u d opcode bits hu hon hop hlen
    refine ⟨_, exec_jtagInstructionUpdate_on [bits] hu (by simp at hop; omega) hon, ?_⟩
    generalize hv : (u.withJtag opcode).scanPins = v
    have hcode : v.power.jtagIr = opcode ∧ v.power.jtagTest = jtagHoldsPins opcode ∧ v.regs = u.regs ∧ v.hbm = u.hbm := by
      have hself : jtagOpcode opcode = opcode := if_pos (by simp at hop ⊢; omega)
      subst hv
      simp [State.withJtag, hself]
    obtain ⟨hir, htest, hvregs, hvhbm⟩ := hcode
    obtain ⟨hregs, hhbm, ⟨latch, hpower⟩, hheld⟩ := v.scanUpdate_frame bits hlen
    have hscan : [bits].foldl State.scanData v = (v.scanUpdate bits).scanPins :=
      State.scanData_boundary (by rw [hir]; exact decide_eq_true hop) bits
    rw [hscan]
    have hir' : (v.scanUpdate bits).power.jtagIr = opcode := by rw [hpower, ← hir]
    refine ⟨?_, ?_, ?_, ?_, ?_⟩
    · exact (congrArg PowerS.jtagIr (State.scanPins_power _)).trans hir'
    · intro k hk
      exact (congrArg (fun p : PowerS => p.scanLatch.testBit k) (State.scanPins_power _)).trans (hheld k hk)
    · intro hne
      have hshow : (v.scanUpdate bits).power.jtagTest = true := by
        rw [hpower]
        exact htest.trans (decide_eq_true (by simp at hop ⊢; omega))
      have hmem := List.mem_append_right s.out (State.scanPins_shown hshow)
      rw [hir'] at hmem
      exact (congrArg (fun p : PowerS => Out.scanPins opcode p.scanLatch) (State.scanPins_power _)).symm ▸ hmem
    · exact (State.scanPins_regs _).trans (hregs.trans hvregs)
    · exact (State.scanPins_hbm _).trans (hhbm.trans hvhbm)

end Sys2Proof.Machine


/-!
PROOFS. Kindle: the candidates of its image, APPLY, the journal, and how it ends and starts again.
-/

namespace Sys2Proof.Machine

/-! ### Candidates -/

section
variable {s u : State} {d : Nat} {f : State → State}

/-- An effect on a running Kindle acts. -/
theorem State.kindling_on (hon : u.power.on = true) (hrun : u.kindle.running = true) : u.kindling f = f u :=
  (State.powered_on hon _).trans (if_pos hrun)

theorem cmd_kindling_eq {t : State} (hu : u = s.atCmd d) (hon : u.power.on = true) (hrun : u.kindle.running = true)
    (h : f u = t) : cmd true d s (fun s => s.kindling f) = .next (s.closeCmd d t) :=
  cmd_eq rfl hu ((State.kindling_on hon hrun).trans h)

end

/-- Settles O19: the branches of the four commands. -/
theorem kindleCandidates : Obligations.KindleCandidates := by
  unfold Obligations.KindleCandidates
  refine ⟨?flash, ?select, ?verify, ?trained⟩
  case flash =>
    intro s u d sfdpOk sectors uniform ddrOk hu hsectors hon hrun hphase hok hhold
    rw [exec_flashInitDone, execFlashInitDone]
    refine cmd_kindling_eq hu hon hrun ?_
    rw [if_neg (by simp [State.phase, hphase, hok, hhold])]
    have hbad : (!sfdpOk) = true ∨ sectors < 4096 ∨ (!uniform) = true ↔ ¬(sfdpOk = true ∧ 4096 ≤ sectors ∧ uniform = true) := by
      simp [Classical.or_iff_not_imp_left]
    by_cases hgood : sfdpOk = true ∧ 4096 ≤ sectors ∧ uniform = true
    · refine (if_neg fun h => hbad.1 h hgood).trans (Eq.trans ?_ (if_pos hgood).symm)
      dsimp only
      rw [Nat.min_eq_left hsectors]
      cases ddrOk <;> rfl
    · exact (if_pos (hbad.2 hgood)).trans (if_neg hgood).symm
  case select =>
    intro s u d hu hon hrun hphase hhold
    rw [exec_slotSelect, execSlotSelect]
    refine cmd_kindling_eq hu hon hrun ?_
    rw [if_neg (by simp [State.phase, hphase, hhold])]
    generalize u.candidates = cands
    cases cands with
    | nil => simp [hhold, State.setKindle]
    | cons c rest => simp [hhold, State.setKindle, State.setPhase]
  case verify =>
    intro s u d c rest hu hon hrun hphase hcands
    rw [exec_candidateVerify, execCandidateVerify]
    refine cmd_kindling_eq hu hon hrun ?_
    rw [if_neg (by simp [State.phase, hphase]), hcands]
    dsimp only
    cases u.verify c with
    | none => rfl
    | some f => cases rest <;> rfl
  case trained =>
    intro s u d hu hon hrun hclock htrained hfailed
    rw [exec_hbmTrainingDone, execHbmTrainingDone]
    refine cmd_kindling_eq hu hon hrun ?_
    rw [if_neg (by simp [hclock, htrained, hfailed])]
    rfl

/-! ### The end of Kindle -/

/-- The results with which APPLY ends: the slot, the SEQUENCE and FALLBACK. -/
def State.withResults (s : State) (slotUsed seq fell : Nat) : State :=
  (((s.wr F.KINDLE_STATUS_SLOT_USED slotUsed).wr F.KINDLE_SEQ_SEQUENCE seq).wr F.KINDLE_STATUS_FALLBACK fell).writeRestoreCopies

theorem State.withResults_rd (s : State) (slotUsed seq fell : Nat) :
    (s.withResults slotUsed seq fell).rd F.KINDLE_STATUS_SLOT_USED = slotUsed % 4
      ∧ (s.withResults slotUsed seq fell).rd F.KINDLE_SEQ_SEQUENCE = seq % 2 ^ 64 := by
  constructor
  · exact (State.rd_wr_apart _ (by decide) _ _ _).trans
      ((State.rd_wr_apart _ (by decide) _ _ _).trans (State.rd_wr_self s _ _ _ _))
  · exact (State.rd_wr_apart _ (by decide) _ _ _).trans (State.rd_wr_self _ _ _ _ _)

/-- The slot and the SEQUENCE of an image that has been applied. -/
theorem State.applyImage_results (s : State) (slot : Nat) :
    ∃ v fell, s.applyImage slot = State.withResults v (slot + 1) (s.imageSeq slot) fell := ⟨_, _, rfl⟩

/-- KINDLE_CTL with its KEY: REKINDLE and FINISH. -/
theorem State.kindleCtl_rekindle (s : State) : s.kindleCtl (256 * 0xB5 + 2) = s.rekindle :=
  (if_neg (by decide)).trans (if_pos (by decide))

theorem State.kindleCtl_finish (s : State) : s.kindleCtl (256 * 0xB5 + 4) = s.finish :=
  (if_neg (by decide)).trans ((if_neg (by decide)).trans (if_pos (by decide)))

theorem State.kindleCtl_wrongKey (s : State) {key low : Nat} (hkey : key < 256) (hne : key ≠ 0xB5) (hlow : low < 256) :
    s.kindleCtl (256 * key + low) = s := by
  have hfield : bits (256 * key + low) 15 8 = key := by
    simp only [bits, Nat.shiftRight_eq_div_pow]
    omega
  exact if_pos (by rwa [hfield])

/-- Settles O20: the branches of APPLY, the journal, READY, HOLD, REKINDLE and FINISH. -/
theorem kindleEnds : Obligations.KindleEnds := by
  unfold Obligations.KindleEnds
  refine ⟨?apply, ?journal, ?ready, ?hold, ?rekindle, ?finish, ?wrongRekindle, ?wrongFinish⟩
  case apply =>
    intro s u d c hu hon hrun hphase happlied htrained hpassed
    obtain ⟨v, fell, himage⟩ := u.applyImage_results c
    have ⟨hslot, hseq⟩ := v.withResults_rd (c + 1) (u.imageSeq c) fell
    rw [← himage] at hslot hseq
    refine ⟨(u.applyImage c).setKindle { (u.applyImage c).kindle with applied := true }, ?_, rfl,
      (State.setKindle_rd _ _ _ _ _).trans hslot, (State.setKindle_rd _ _ _ _ _).trans hseq⟩
    rw [exec_kindleApplyDone, execKindleApplyDone]
    refine cmd_kindling_eq hu hon hrun ?_
    rw [if_neg (by simp [State.phase, hphase, happlied, htrained]), hpassed]
  case journal =>
    intro s u d hu hon hrun happlied hread
    refine ⟨u.restorePhase, ?_, rfl, rfl⟩
    rw [exec_journalRestore, execJournalRestore]
    refine cmd_kindling_eq hu hon hrun ?_
    rw [if_neg (by simp [happlied, hread])]
  case ready =>
    intro s u d hu hon hrun happlied hread hhold
    rw [exec_kindleReady, execKindleReady]
    refine cmd_kindling_eq hu hon hrun ?_
    rw [if_pos (by simp [happlied, hread, hhold])]
    rfl
  case hold =>
    intro s u d hu hon hrun hdue
    rw [exec_kindleHold, execKindleHold]
    refine cmd_kindling_eq hu hon hrun ?_
    rw [if_pos hdue]
    rfl
  case rekindle =>
    intro s u d hu ho hphase
    refine ⟨u.pressReset.clearResults.kindleStart false, ?_, rfl, rfl, State.rd_wr_self _ _ _ _ _,
      rfl, rfl, rfl, rfl, rfl, rfl, rfl, rfl, rfl, rfl⟩
    rw [exec_rekindle, execRekindle]
    refine cmd_hostWrite_eq rfl hu ho ?_
    rw [State.kindleCtl_rekindle]
    exact if_pos hphase
  case finish =>
    intro s u d v hu ho hphase hv
    rw [exec_finish, execFinish]
    refine cmd_hostWrite_eq rfl hu ho ?_
    subst hv
    rw [State.kindleCtl_finish, State.finish, if_neg (by simp [State.phase, hphase])]
    dsimp only
    generalize u.setReject 2 ⟨0, 0, 0⟩ = v
    cases v.finishFinding with
    | none => exact (Option.elim_none _ _).symm
    | some f => rfl
  case wrongRekindle =>
    intro s u d key hu hkey hne ho
    rw [exec_rekindle, execRekindle]
    exact cmd_hostWrite_eq rfl hu ho (u.kindleCtl_wrongKey hkey hne (by decide))
  case wrongFinish =>
    intro s u d key hu hkey hne ho
    rw [exec_finish, execFinish]
    exact cmd_hostWrite_eq rfl hu ho (u.kindleCtl_wrongKey hkey hne (by decide))

end Sys2Proof.Machine


/-!
PROOFS. Counters that read 0 after a clear; the billets of compare; the vectors of the host port.
-/

namespace Sys2Proof.Machine

/-! ### Counters that read 0 -/

/-- A field whose reset value is 0. -/
def Fld.zeroReset (f : Fld) : Prop := ∀ i j, f.rst i j = 0

/-- A write of 0, wherever it goes, leaves a field that reads 0. -/
theorem State.rd_wr_zero {s : State} {f g : Fld} {i j a b : Nat} (hf : f.zeroReset) (h : s.rd f i j = 0) :
    (s.wr g 0 a b).rd f i j = 0 := by
  by_cases hkey : f.key i j = g.key a b
  · have hreads : (s.wr g 0 a b).rd f i j = Assoc.getD (s.regs.put (g.key a b) (0 % 2 ^ g.w) (g.rst a b)) (g.key a b) 0 := by
      rw [State.rd, hkey, hf]
      rfl
    rw [hreads, Nat.zero_mod]
    unfold Assoc.put Assoc.getD
    split
    · rw [Assoc.find_del_self]
      rfl
    · rw [Assoc.find_ins_self]
      rfl
  · exact (State.rd_wr_ne s hkey 0).trans h

theorem State.rd_clr_zero {s : State} {f g : Fld} {i j a b : Nat} (hf : f.zeroReset) (hg : g.zeroReset) (h : s.rd f i j = 0) :
    (s.clr g a b).rd f i j = 0 := by
  rw [State.clr, hg]
  exact State.rd_wr_zero hf h

theorem State.rd_clr_self {s : State} {f : Fld} {i j : Nat} (hf : f.zeroReset) : (s.clr f i j).rd f i j = 0 := by
  rw [State.clr, State.rd_wr_self, hf, Nat.zero_mod]

/-- Clearing counters leaves what reads 0. -/
theorem State.clrAll_keeps_zero {f : Fld} {i j a b : Nat} (hf : f.zeroReset) (fs : List Fld) :
    ∀ {s : State}, (∀ g ∈ fs, g.zeroReset) → s.rd f i j = 0 → (s.clrAll fs a b).rd f i j = 0 := by
  induction fs with
  | nil => exact fun _ h => h
  | cons g fs ih =>
    intro s hfs h
    exact ih (fun g' hg' => hfs g' (List.mem_cons_of_mem g hg')) (State.rd_clr_zero hf (hfs g List.mem_cons_self) h)

/-- A counter of a list that is cleared reads 0. -/
theorem State.clrAll_zero {f : Fld} {i j : Nat} (fs : List Fld) :
    ∀ {s : State}, (∀ g ∈ fs, g.zeroReset) → f ∈ fs → (s.clrAll fs i j).rd f i j = 0 := by
  induction fs with
  | nil => exact fun _ h => absurd h List.not_mem_nil
  | cons g fs ih =>
    intro s hfs hmem
    have htail : ∀ g' ∈ fs, g'.zeroReset := fun g' hg' => hfs g' (List.mem_cons_of_mem g hg')
    rcases List.mem_cons.1 hmem with rfl | hin
    · have hf : f.zeroReset := hfs f List.mem_cons_self
      exact State.clrAll_keeps_zero hf fs htail (State.rd_clr_self hf)
    · exact ih htail hin

/-- Registers alone may differ. -/
def State.RegsOnly (s t : State) : Prop := ∃ r, t = { s with regs := r }

theorem State.RegsOnly.refl (s : State) : s.RegsOnly s := ⟨_, rfl⟩

theorem State.RegsOnly.trans {s t v : State} : s.RegsOnly t → t.RegsOnly v → s.RegsOnly v := by
  rintro ⟨_, rfl⟩ ⟨r, rfl⟩
  exact ⟨r, rfl⟩

theorem State.RegsOnly.eq {s t : State} : s.RegsOnly t → t = { s with regs := t.regs } := by
  rintro ⟨r, rfl⟩
  rfl

theorem State.RegsOnly.wr (s : State) (f : Fld) (v i j : Nat) : s.RegsOnly (s.wr f v i j) := ⟨_, rfl⟩

theorem State.RegsOnly.foldl {α : Type} {g : State → α → State} (h : ∀ (s : State) (x : α), s.RegsOnly (g s x)) (l : List α) :
    ∀ s : State, s.RegsOnly (l.foldl g s) := by
  induction l with
  | nil => exact fun s => .refl s
  | cons x l ih => exact fun s => (h s x).trans (ih _)

/-- Clearing counters changes registers alone. -/
theorem State.clrAll_regsOnly (s : State) (fs : List Fld) (i j : Nat) : s.RegsOnly (s.clrAll fs i j) :=
  .foldl (fun _ _ => .wr _ _ _ _ _) fs s

/-- Counters of a list of indices read 0 after they are cleared one index after another. -/
theorem State.clrInstances_zero {fs : List Fld} (hfs : ∀ g ∈ fs, g.zeroReset) {f : Fld} (hf : f ∈ fs) {i : Nat} (l : List Nat) :
    ∀ s : State, s.rd f i = 0 ∨ i ∈ l → (l.foldl (fun s k => s.clrAll fs k) s).rd f i = 0 := by
  induction l with
  | nil => exact fun s h => h.resolve_right List.not_mem_nil
  | cons k l ih =>
    intro s h
    refine ih _ ?_
    rcases h with h | h
    · exact .inl (State.clrAll_keeps_zero (hfs f hf) fs hfs h)
    · rcases List.mem_cons.1 h with rfl | h
      · exact .inl (State.clrAll_zero fs hfs hf)
      · exact .inr h

theorem State.clrInstances_keeps_zero {fs : List Fld} (hfs : ∀ g ∈ fs, g.zeroReset) {f : Fld} (hf : f.zeroReset) {i : Nat}
    (l : List Nat) : ∀ s : State, s.rd f i = 0 → (l.foldl (fun s k => s.clrAll fs k) s).rd f i = 0 := by
  induction l with
  | nil => exact fun _ h => h
  | cons k l ih => exact fun s h => ih _ (State.clrAll_keeps_zero hf fs hfs h)

theorem State.clrInstances_regsOnly (s : State) (fs : List Fld) (l : List Nat) :
    s.RegsOnly (l.foldl (fun s k => s.clrAll fs k) s) := .foldl (fun s k => s.clrAll_regsOnly fs k 0) l s

/-! ### Billets -/

/-- The counters of the tiles and of compare. -/
def tileCounters : List Fld := [F.ANVIL_CNT_BILLETS, F.ANVIL_CNT_MSAMPLES]
def compareCounters : List Fld := [F.CMP_COUNT_NOT_COMPARED, F.CMP_COUNT_COMPARED]

theorem tileCounters_zero : ∀ f ∈ tileCounters, f.zeroReset := by
  simp [tileCounters, Fld.zeroReset, F.ANVIL_CNT_BILLETS, F.ANVIL_CNT_MSAMPLES]

theorem compareCounters_zero : ∀ f ∈ compareCounters, f.zeroReset := by
  simp [compareCounters, Fld.zeroReset, F.CMP_COUNT_NOT_COMPARED, F.CMP_COUNT_COMPARED]

/-- The tiles' counters are cleared, then those of compare. -/
def State.tilesCleared (s : State) : State := (List.range 136).foldl (fun s n => s.clrAll tileCounters n) s

theorem State.anvilClear_eq (s : State) : s.anvilClear
    = (List.range 256).foldl (fun s h => s.clrAll compareCounters h)
        { s.tilesCleared with anvil := { s.tilesCleared.anvil with part := [] } } := by
  unfold State.anvilClear State.tilesCleared tileCounters compareCounters
  generalize List.range 136 = l
  generalize List.range 256 = m
  rfl

theorem State.tilesCleared_anvil (s : State) : s.tilesCleared.anvil = s.anvil := by
  unfold State.tilesCleared
  generalize List.range 136 = l
  obtain ⟨r, hr⟩ := s.clrInstances_regsOnly tileCounters l
  rw [hr]

theorem State.tilesCleared_tile (s : State) {f : Fld} (hf : f ∈ tileCounters) {n : Nat} (hn : n < 136) :
    s.tilesCleared.rd f n = 0 := by
  unfold State.tilesCleared
  have hmem := List.mem_range.2 hn
  generalize List.range 136 = l at hmem
  exact State.clrInstances_zero tileCounters_zero hf _ s (.inr hmem)

theorem State.withAnvil_rd (s : State) (x : AnvilS) (f : Fld) (i j : Nat) : ({ s with anvil := x } : State).rd f i j = s.rd f i j := rfl

theorem State.anvilClear_tile (s : State) {f : Fld} (hf : f ∈ tileCounters) {n : Nat} (hn : n < 136) :
    s.anvilClear.rd f n = 0 := by
  rw [s.anvilClear_eq]
  exact State.clrInstances_keeps_zero compareCounters_zero (tileCounters_zero f hf) _ _
    ((State.withAnvil_rd _ _ _ _ _).trans (s.tilesCleared_tile hf hn))

theorem State.anvilClear_compare (s : State) {f : Fld} (hf : f ∈ compareCounters) {h : Nat} (hh : h < 256) :
    s.anvilClear.rd f h = 0 := by
  rw [s.anvilClear_eq]
  exact State.clrInstances_zero compareCounters_zero hf _ _ (.inr (List.mem_range.2 hh))

theorem State.anvilClear_ready (s : State) : s.anvilClear.anvil.ready = s.anvil.ready := by
  obtain ⟨r, hr⟩ := State.clrInstances_regsOnly { s.tilesCleared with anvil := { s.tilesCleared.anvil with part := [] } }
    compareCounters (List.range 256)
  rw [s.anvilClear_eq, hr, s.tilesCleared_anvil]

/-- Settles O44: each command meets the conditions under which it acts. -/
theorem compare : Obligations.Compare := by
  unfold Obligations.Compare
  refine ⟨?start, ?finish, ?abandon, ?idle, ?commit, ?disable, ?clear⟩
  case start =>
    intro s u d lt b hu hon hfree hfirst
    rw [exec_billetStart, execBilletStart]
    refine cmd_press_eq rfl hu hon ?_
    dsimp only
    generalize hfound : List.find? _ u.runSet = found
    have hlt : found = some lt := by
      rw [← hfound, ← hfree]
      congr 1
      funext t
      cases u.tileOf t <;> rfl
    rw [hlt]
    dsimp only
    rw [hfirst]
  case finish =>
    intro s u d tile n b lt hu hlt hon htile hrun hhearth hstart
    rw [exec_billetCompareEnd, execBilletCompareEnd]
    refine cmd_press_eq (decide_eq_true hlt) hu hon ?_
    rw [htile]
    dsimp only
    rw [hrun]
    dsimp only
    rw [hhearth]
    exact if_pos hstart
  case abandon =>
    intro s u d i b hu hon hready hlate htiles
    rw [exec_billetAbandon, execBilletAbandon]
    refine cmd_press_eq rfl hu hon ?_
    rw [hready]
    dsimp only
    rw [htiles, hlate]
    rfl
  case idle =>
    intro s u d h r hu hh hon hrow hdue
    rw [exec_billetIdleTimeout, execBilletIdleTimeout]
    refine cmd_press_eq (decide_eq_true hh) hu hon ?_
    rw [hrow]
    exact if_pos (by simpa [State.due] using hdue)
  case commit =>
    intro s u d p hu hp ho hon
    rw [exec_modelCommit, execModelCommit]
    exact cmd_hostWrite_eq (decide_eq_true hp) hu ho (State.press_on hon _)
  case disable =>
    intro s u d h hu hh ho hen
    rw [exec_compareDisable, execCompareDisable]
    exact cmd_hostWrite_eq (decide_eq_true hh) hu ho (if_pos hen)
  case clear =>
    intro s u d tl h hu ho htl hh
    refine ⟨u.anvilClear, cmd_hostWrite_eq rfl hu ho rfl, ?_, ?_, ?_, ?_, u.anvilClear_ready⟩
    · exact u.anvilClear_tile (List.mem_cons_self) htl
    · exact u.anvilClear_tile (List.mem_cons_of_mem _ List.mem_cons_self) htl
    · exact u.anvilClear_compare (List.mem_cons_self) hh
    · exact u.anvilClear_compare (List.mem_cons_of_mem _ List.mem_cons_self) hh

/-! ### Vectors -/

/-- A pending vector that nothing blocks sends. -/
theorem State.sendIfFree_sends {s : State} {v : Nat} (hpending : (s.hep.pba.find v).isSome = true)
    (hfree : s.vectorBlocked v = false) : s.sendIfFree v = s.sendMsix v := if_pos (by rw [hpending, hfree]; rfl)

/-- A blocked vector stays pending. -/
theorem State.sendIfFree_blocked {s : State} {v : Nat} (hblocked : s.vectorBlocked v = true) : s.sendIfFree v = s :=
  if_neg (by rw [hblocked]; simp)

/-- Settles O52: a write of a source is refused or taken, and a vector sends once nothing blocks it. -/
theorem messageSignalledInterrupts : Obligations.MessageSignalledInterrupts := by
  unfold Obligations.MessageSignalledInterrupts
  refine ⟨?taken, ?refused, ?function, ?vector, ?expiry, ?blocked⟩
  case taken =>
    intro s u d v x hu hv _ ho hdrives
    rw [exec_msixSrcWrite, execMsixSrcWrite]
    refine cmd_hostWrite_eq (decide_eq_true hv) hu ho (if_neg ?_)
    rintro ⟨hset, hnot⟩
    rcases hdrives with h | h
    · omega
    · simp [h] at hnot
  case refused =>
    intro s u d v x hu hv _ ho hset hdrives
    rw [exec_msixSrcWrite, execMsixSrcWrite]
    exact cmd_hostWrite_eq (decide_eq_true hv) hu ho (if_pos ⟨hset, by rw [hdrives]; rfl⟩)
  case function =>
    intro s u d hu hon hpba
    rw [exec_vectorUnmask, execVectorUnmask]
    refine cmd_powered_eq rfl hu hon ?_
    dsimp only
    rw [State.sendPending]
    have hnone : (u.setHep { u.hep with cfg := { u.hep.cfg with funcMask := false } }).hep.pba = [] := hpba
    rw [hnone]
    rfl
  case vector =>
    intro s u d v n hu hon hn hv hpending hfree
    subst hv
    rw [exec_vectorUnmask, execVectorUnmask]
    exact cmd_powered_eq (decide_eq_true hn) hu hon (State.sendIfFree_sends hpending hfree)
  case expiry =>
    intro s u d v hu hv hon hpending hfree hjtag
    refine ⟨u.sendMsix v, ?_, ?_, ?_, ?_, ?_⟩
    · rw [exec_moderationExpiry, execModerationExpiry]
      exact cmd_powered_eq (decide_eq_true hv) hu hon (State.sendIfFree_sends hpending hfree)
    all_goals rw [State.sendMsix, State.emit, if_neg (by simp [State.setHep, hjtag])]
    · rfl
    · exact Assoc.find_ins_self _ _ _
    · rfl
    · rfl
  case blocked =>
    intro s u d v hu hv hon hblocked
    rw [exec_moderationExpiry, execModerationExpiry]
    exact cmd_powered_eq (decide_eq_true hv) hu hon (State.sendIfFree_blocked hblocked)

end Sys2Proof.Machine


/-!
PROOFS. What a channel of Tongs may do while the host port goes on: it can halt again, and its error can quench the port.
-/

namespace Sys2Proof.Machine

/-! ### A halted channel that starts again -/

/-- Internal error 0x14 is routed to the host in the fatal class, which the port takes as fatal. -/
def fatalHalts : State :=
  let s := (bareReady.wr F.WELD_ERR_CFG_ROUTE 1 0x14).wr F.WELD_ERR_CFG_SEVERITY 2 0x14
  { s with hep := { s.hep with cfg := { bme := true }, aer := { uncMask := 0, uncSev := 2 ^ 22 }, releaseAt := some 0 } }

/-- Channel 0 has halted with its record held back, has been disabled and enabled again, and its completion ring lies at address 1. -/
def haltsAgain : State :=
  let s := (fatalHalts.wr F.TONGS_CQ_CFG_LOG2 4).wr F.TONGS_CQ_BASE_ADDR 1
  s.setTg 0 { st := 7, stop := true, restart := true, heldRec := some ([], false) }

/-- Refutes O53: the released port is quenched at once when a channel that goes on halts with a fatal error. -/
theorem not_quench : ¬ Obligations.Quench := by
  unfold Obligations.Quench
  rintro ⟨-, -, -, -, -, -, -, -, hdelay, -⟩
  obtain ⟨t, -, ht, hfree⟩ := hdelay (haltsAgain.wr F.HEP_QUENCH_QUENCHED 1) _ 0 0 rfl (by decide +kernel) (by decide +kernel)
    (by decide +kernel)
  rw [ht] at hfree
  exact absurd hfree (by decide +kernel)

/-- The uncorrectable errors of the next state of an outcome. -/
def nextUnc (o : Host.Outcome State Fault Refusal) : Nat :=
  match o with
  | .next v => v.hep.aer.unc
  | _ => 0

/-- Refutes O55: a configuration write that lets a channel go on sets an AER status bit when the channel halts. -/
theorem not_hostResetsAndPower : ¬ Obligations.HostResetsAndPower := by
  unfold Obligations.HostResetsAndPower
  rintro ⟨-, -, -, -, -, -, hconfig, -⟩
  obtain ⟨t, ht, -, haer, -⟩ := hconfig haltsAgain _ 0 { bme := true } 0 0 0 rfl (by decide) (by decide) (by decide)
    (by decide +kernel) (by decide +kernel)
  have hunc : nextUnc (exec (.configurationWrite 0 (.write { bme := true } 0 0 0)) haltsAgain) = t.hep.aer.unc := by
    rw [ht]
    rfl
  rw [haer] at hunc
  exact absurd hunc (by decide +kernel)

end Sys2Proof.Machine


/-!
PROOFS. While the boundary-scan register holds the pins nothing leaves the device.
-/

namespace Sys2Proof.Machine

/-- Aperture 0 serves reads of a marked block while the pins follow the boundary-scan register. -/
def scannedPins : State :=
  let s := ((bareReady.wr F.HEP_APER_ACT_ENABLE 1).wr F.HEP_APER_ACT_RD_EN 1).wr F.HEP_APER_ACT_SIZE_MIB 1
  { s with power := { s.power with jtagTest := true }, poison := [(0, 1)] }

/-- What has left the device in the next state of an outcome. -/
def nextOut (o : Host.Outcome State Fault Refusal) : List Out :=
  match o with
  | .next v => v.out
  | _ => []

/-- What a command lets out stands in the trace of its next state. -/
theorem mem_nextOut {o : Host.Outcome State Fault Refusal} {s t : State} {d : Nat} {x : Out}
    (h : o = .next (s.closeCmd d t)) (hx : x ∈ t.out) : x ∈ nextOut o := by
  rw [h]
  exact List.mem_append_right _ hx

/-- Refutes O54: the completion of a marked block does not leave the device while the boundary-scan register holds the pins. -/
theorem not_hostRequests : ¬ Obligations.HostRequests := by
  unfold Obligations.HostRequests
  rintro ⟨-, -, hmarked, -⟩
  obtain ⟨t, ht, hout, -⟩ := hmarked scannedPins _ 0 0 1 0 0 [] false rfl (by decide) (by decide) (by decide +kernel)
    (by decide +kernel) (by decide +kernel) (by decide +kernel) (by decide +kernel)
  exact absurd (mem_nextOut ht hout) (by decide +kernel)

end Sys2Proof.Machine


/-!
PROOFS. A Tongs channel: enabling and disabling, doorbells, its completion ring and its timeouts.
-/

namespace Sys2Proof.Machine

/-! ### One channel, one Trough -/

@[simp] theorem State.setTg_tg (s : State) (ch : Nat) (x : TongsS) : (s.setTg ch x).tg ch = x := Assoc.getD_put_self _ _ _ _

@[simp] theorem State.wr_tg (s : State) (f : Fld) (v i j ch : Nat) : (s.wr f v i j).tg ch = s.tg ch := rfl

@[simp] theorem State.flag_tg (s : State) (f : Fld) (i j ch : Nat) : (s.flag f i j).tg ch = s.tg ch := rfl

@[simp] theorem State.inc_tg (s : State) (f : Fld) (i j n ch : Nat) : (s.inc f i j n).tg ch = s.tg ch := rfl

@[simp] theorem State.setTg_setTg_tg (s : State) (ch : Nat) (x y : TongsS) : ((s.setTg ch x).setTg ch y).tg ch = y :=
  State.setTg_tg _ _ _

@[simp] theorem State.setTr_tr (s : State) (t : Nat) (x : TroughS) : (s.setTr t x).tr t = x := Assoc.getD_put_self _ _ _ _

@[simp] theorem State.wr_tr (s : State) (f : Fld) (v i j t : Nat) : (s.wr f v i j).tr t = s.tr t := rfl

@[simp] theorem State.setTg_tr (s : State) (ch : Nat) (x : TongsS) (t : Nat) : (s.setTg ch x).tr t = s.tr t := rfl

@[simp] theorem State.setTr_tg (s : State) (t : Nat) (x : TroughS) (ch : Nat) : (s.setTr t x).tg ch = s.tg ch := rfl

/-! ### Enabling and disabling -/

section
variable {s : State} {ch : Nat}

/-- A channel of no gang that is DISABLED starts. -/
theorem State.tongsEnable_starts (hready : s.ready = true) (hdot : isDot ch = false) (hst : (s.tg ch).st = 0)
    (hstop : (s.tg ch).stop = false) : s.tongsEnable ch = s.tongsStart ch := by
  simp [State.tongsEnable, hready, hdot, hst, hstop]

/-- A channel whose TONGS_HEAD has been written starts at it, when the ring and the descriptor are aligned. -/
theorem State.tongsStart_head (hnew : (s.tg ch).headNew = true)
    (hring : (s.wr F.TONGS_CFG_ENABLE 1 ch).rd F.TONGS_CQ_BASE_ADDR ch % 64 = 0)
    (hhead : (s.wr F.TONGS_CFG_ENABLE 1 ch).rd F.TONGS_HEAD_ADDR ch % 32 = 0) :
    ∃ v : State, s.tongsStart ch = v.fetchAt ch (s.rd F.TONGS_HEAD_ADDR ch) ∧ v.rd F.TONGS_CFG_ENABLE ch = 1
      ∧ (v.tg ch).headNew = false ∧ (v.tg ch).want = (s.tg ch).want := by
  have hsame : (s.wr F.TONGS_CFG_ENABLE 1 ch).rd F.TONGS_HEAD_ADDR ch = s.rd F.TONGS_HEAD_ADDR ch :=
    State.rd_wr_apart s (by decide) _ _ _
  unfold State.tongsStart
  extract_lets enabled channel x head started armed
  have hstarted (f : Fld) : started.rd f ch = enabled.rd f ch := rfl
  have hx : x.headNew = true := hnew
  refine ⟨armed, ?_, ?_, ?_, ?_⟩
  · rw [if_neg (by rw [hstarted]; simpa using hring), if_pos (by simp [hx]), if_neg (by simpa [head] using hhead)]
    exact congrArg (armed.fetchAt ch) hsame
  · exact State.rd_wr_self s F.TONGS_CFG_ENABLE 1 ch 0
  · exact congrArg TongsS.headNew (State.setTg_tg _ _ _)
  · exact (congrArg TongsS.want (State.setTg_tg _ _ _)).trans rfl

/-- Asking for a descriptor. -/
theorem State.fetchAt_tg (s : State) (ch a : Nat) :
    (s.fetchAt ch a).tg ch = { s.tg ch with st := 1, want := (s.tg ch).want ++ [⟨0, a, 32⟩] } := State.setTg_tg _ _ _

/-- Asking for a link word. -/
theorem State.refetch_tg (s : State) (ch : Nat) (d : Desc) :
    (s.refetch ch d).tg ch = { s.tg ch with st := 1, want := (s.tg ch).want ++ [⟨1, d.at_ + 8, 8⟩] } := by
  rw [State.refetch, State.wr_tg, State.setTg_tg]

/-- A parked channel without a descriptor stops at once. -/
theorem State.stopNow_parked (hstop : (s.tg ch).stop = true) (hst : (s.tg ch).st = 5) (hclosing : (s.tg ch).closing = none)
    (hpop : (s.tg ch).pop = none) (hreading : (s.tg ch).reading = false) (hcommits : (s.tg ch).commits = [])
    (hdesc : (s.tg ch).desc = none) : s.stopNow ch = s.goOff ch := by
  simp [State.stopNow, hstop, hst, hclosing, hpop, hreading, hcommits, hdesc]

theorem State.goOff_tg (s : State) (ch : Nat) :
    (s.goOff ch).tg ch = { s.tg ch with st := 6, want := [], fetched := none } := State.setTg_tg _ _ _

/-- A channel that holds no record and closes nothing does nothing when the ring has room. -/
theorem State.tongsResume_idle (hheld : (s.tg ch).heldRec = none) (hclosing : (s.tg ch).closing = none) :
    s.tongsResume ch = s := by
  simp [State.tongsResume, hheld, hclosing]

end

/-! ### The completion ring -/

/-- The counters of a channel. -/
def tongsCounters : List Fld := [F.TONGS_CNT_CLOSED, F.TONGS_CNT_KBYTES]

theorem tongsCounters_zero : ∀ f ∈ tongsCounters, f.zeroReset := by
  simp [tongsCounters, Fld.zeroReset, F.TONGS_CNT_CLOSED, F.TONGS_CNT_KBYTES]

theorem bits_low {v hi : Nat} (h : v < 2 ^ (hi + 1)) : bits v hi 0 = v := by
  simpa [bits] using Nat.mod_eq_of_lt h

/-- Settles O49: each command in the states in which it acts or is ignored. -/
theorem tongsControl : Obligations.TongsControl := by
  unfold Obligations.TongsControl
  refine ⟨?enable, ?restart, ?disableOff, ?disable, ?drained, ?draining, ?doorbell, ?refetch, ?ret, ?beyond, ?cfg, ?locked,
    ?clear, ?close, ?pacing⟩
  case enable =>
    intro s u d ch hu hch ho hon hdot hst hstop hnew hring hhead
    obtain ⟨v, hstart, hen, hnew', hwant⟩ := State.tongsStart_head hnew hring hhead
    refine ⟨v.fetchAt ch (u.rd F.TONGS_HEAD_ADDR ch), ?_, hen, ?_, ?_, ?_⟩
    · rw [exec_channelEnable, execChannelEnable]
      exact cmd_hostWrite_eq (decide_eq_true hch) hu ho ((State.tongsEnable_starts hon.2 hdot hst hstop).trans hstart)
    all_goals rw [State.fetchAt_tg]
    · exact hnew'
    · rw [hwant]
  case restart =>
    intro s u d ch hu hch ho hon hdot hst
    rw [exec_channelEnable, execChannelEnable]
    refine cmd_hostWrite_eq (decide_eq_true hch) hu ho ?_
    simp [State.tongsEnable, hon.2, hdot, hst]
  case disableOff =>
    intro s u d ch hu hch ho hdot hst
    rw [exec_channelDisable, execChannelDisable]
    refine cmd_hostWrite_eq (decide_eq_true hch) hu ho ?_
    simp [State.tongsDisable, hdot, hst]
  case disable =>
    intro s u d ch hu hch ho hdot hst hclosing hpop hreading hcommits hdesc
    let v := (u.wr F.TONGS_CFG_ENABLE 0 ch).setTg ch { u.tg ch with stop := true, restart := false }
    have hv : v.tg ch = { u.tg ch with stop := true, restart := false } := State.setTg_tg _ _ _
    have hoff : v.stopNow ch = v.goOff ch := State.stopNow_parked (by rw [hv]) (by rw [hv]; exact hst) (by rw [hv]; exact hclosing)
      (by rw [hv]; exact hpop) (by rw [hv]; exact hreading) (by rw [hv]; exact hcommits) (by rw [hv]; exact hdesc)
    refine ⟨v.goOff ch, ?_, State.rd_wr_self u F.TONGS_CFG_ENABLE 0 ch 0, ?_, ?_, ?_⟩
    · rw [exec_channelDisable, execChannelDisable]
      refine cmd_hostWrite_eq (decide_eq_true hch) hu ho (Eq.trans ?_ hoff)
      simp [State.tongsDisable, hdot, hst, v]
    all_goals rw [State.goOff_tg]
  case drained =>
    intro s u d ch hu hch hon hst hout hrestart
    rw [exec_drainComplete, execDrainComplete]
    refine cmd_press_eq (decide_eq_true hch) hu hon ?_
    rw [if_pos ⟨hst, hout⟩]
    simp [State.tongsOff, hrestart]
  case draining =>
    intro s u d ch hu hch hon hst hout
    rw [exec_drainComplete, execDrainComplete]
    exact cmd_press_eq (decide_eq_true hch) hu hon (if_neg fun h => hout h.2)
  case doorbell =>
    intro s u d ch c hu hch ho hdot hst hclosed
    refine ⟨u.refetch ch c, ?_, ?_, ?_, State.rd_wr_self _ F.TONGS_STATE_REFETCH 0 ch 0⟩
    · rw [exec_doorbell, execDoorbell]
      refine cmd_hostWrite_eq (decide_eq_true hch) hu ho ?_
      simp [State.doorbell, hdot, hst, hclosed, within]
    all_goals rw [State.refetch_tg]
  case refetch =>
    intro s u d ch hu hch ho hdot hlow hhigh
    rw [exec_doorbell, execDoorbell]
    refine cmd_hostWrite_eq (decide_eq_true hch) hu ho ?_
    simp [State.doorbell, hdot, within, hlow, hhigh]
  case ret =>
    intro s u d ch rd hu hch hrd ho hsize hrange hheld hclosing
    rw [exec_cqReturn, execCqReturn]
    refine cmd_hostWrite_eq (decide_eq_true hch) hu ho ?_
    rw [bits_low hrd]
    exact (if_pos ⟨hsize, hrange⟩).trans (State.tongsResume_idle hheld hclosing)
  case beyond =>
    intro s u d ch rd hu hch hrd ho hsize
    rw [exec_cqReturn, execCqReturn]
    refine cmd_hostWrite_eq (decide_eq_true hch) hu ho ?_
    rw [bits_low hrd]
    exact if_neg fun h => Nat.not_lt.2 hsize h.1
  case cfg =>
    intro s u d ch v hu hch hv ho hoff hlow hhigh
    refine ⟨(((u.wr F.TONGS_CQ_CFG_LOG2 (bits v 24 20) ch).wr F.TONGS_CQ_CFG_WR 0 ch).wr F.TONGS_CQ_RD_RD 0 ch).wr
      F.TONGS_CQ_CFG_PHASE 1 ch, ?_, ?_, ?_, ?_, ?_⟩
    · rw [exec_cqCfgWrite, execCqCfgWrite]
      refine cmd_hostWrite_eq (decide_eq_true hch) hu ho (if_neg ?_)
      simp [hoff, within, hlow, hhigh]
    · rw [State.rd_wr_apart _ (by decide), State.rd_wr_apart _ (by decide), State.rd_wr_apart _ (by decide), State.rd_wr_self]
      exact Nat.mod_eq_of_lt (Nat.lt_of_le_of_lt hhigh (by decide))
    · rw [State.rd_wr_apart _ (by decide), State.rd_wr_apart _ (by decide), State.rd_wr_self, Nat.zero_mod]
    · rw [State.rd_wr_apart _ (by decide), State.rd_wr_self, Nat.zero_mod]
    · exact State.rd_wr_self _ _ _ _ _
  case locked =>
    intro s u d ch v hu hch hv ho hen
    rw [exec_cqCfgWrite, execCqCfgWrite]
    exact cmd_hostWrite_eq (decide_eq_true hch) hu ho (if_pos (by simp [hen]))
  case clear =>
    intro s u d ch hu hch ho
    refine ⟨u.tongsClear ch, cmd_hostWrite_eq (decide_eq_true hch) hu ho rfl, ?_, ?_, ?_⟩
    · exact State.clrAll_zero tongsCounters tongsCounters_zero List.mem_cons_self
    · exact State.clrAll_zero tongsCounters tongsCounters_zero (List.mem_cons_of_mem _ List.mem_cons_self)
    · exact (congrArg State.tongs (u.clrAll_regsOnly tongsCounters ch 0).eq).trans rfl
  case close =>
    intro s u d ch hu hch hon hdot hst hus hitems hclosing hpop hdue
    rw [exec_bufferCloseTimeout, execBufferCloseTimeout]
    refine cmd_press_eq (decide_eq_true hch) hu hon (if_pos ?_)
    simp [hdot, hst, hus, hitems, hclosing, hpop, State.due, hdue]
  case pacing =>
    intro s u d tr r rs hu htr hon hrecs hcommitted hus hdue
    rw [exec_pacingHoldExpiry, execPacingHoldExpiry]
    refine cmd_press_eq (decide_eq_true htr) hu hon ?_
    dsimp only
    rw [hrecs]
    refine if_pos ?_
    simp [hcommitted, hus, State.due, hdue]

end Sys2Proof.Machine


/-!
PROOFS. Lines, records and dot lines that a Tongs channel moves, and the rewind of a reader.
-/

namespace Sys2Proof.Machine

/-! ### What leaves the device -/

/-- What leaves the device changes the trace alone. -/
theorem State.emit_eq (s : State) (o : Out) : ∃ l, s.emit o = { s with out := l } := by
  unfold State.emit
  split
  · exact ⟨_, rfl⟩
  · exact ⟨_, rfl⟩

@[simp] theorem State.emit_tg (s : State) (o : Out) (ch : Nat) : (s.emit o).tg ch = s.tg ch := by
  obtain ⟨l, hl⟩ := s.emit_eq o
  rw [hl]
  rfl

@[simp] theorem State.emit_tr (s : State) (o : Out) (t : Nat) : (s.emit o).tr t = s.tr t := by
  obtain ⟨l, hl⟩ := s.emit_eq o
  rw [hl]
  rfl

@[simp] theorem State.emit_rd (s : State) (o : Out) (f : Fld) (i j : Nat) : (s.emit o).rd f i j = s.rd f i j := by
  obtain ⟨l, hl⟩ := s.emit_eq o
  rw [hl]
  rfl

@[simp] theorem State.emit_clk (s : State) (o : Out) : (s.emit o).clk = s.clk := by
  obtain ⟨l, hl⟩ := s.emit_eq o
  rw [hl]

@[simp] theorem State.emit_hbm (s : State) (o : Out) : (s.emit o).hbm = s.hbm := by
  obtain ⟨l, hl⟩ := s.emit_eq o
  rw [hl]

/-! ### Items in a buffer -/

/-- Counting bytes changes the part of the channel. -/
theorem State.kbytes_tg (s : State) (ch n : Nat) :
    (s.kbytes ch n).tg ch = { s.tg ch with part := ((s.tg ch).part + n) % 1024 } := by
  rw [State.kbytes, State.inc_tg, State.setTg_tg]

/-- The buffer in hand after an item. -/
def BufS.withItem (b : BufS) (clk bytes items flags skipped : Nat) (first poison : Option Nat) : BufS :=
  { b with bytes := b.bytes + bytes, items := b.items + items, flags := b.flags ||| flags, skipped := b.skipped + skipped,
           lastAt := clk, first := b.first.orElse (fun _ => first),
           poisonAt := b.poisonAt.orElse (fun _ => poison.map fun o => b.bytes + o) }

/-- An item goes into the buffer in hand. -/
theorem State.putItem_tg {s : State} {ch : Nat} {d : Desc} (hd : (s.tg ch).desc = some d) (data : Bytes)
    (items flags skipped : Nat) (first poison : Option Nat) :
    ∃ part, (s.putItem ch data items flags skipped first poison).tg ch
      = { s.tg ch with buf := (s.tg ch).buf.withItem s.clk data.length items flags skipped first poison, part := part } := by
  unfold State.putItem
  dsimp only
  rw [hd]
  dsimp only
  rw [State.kbytes_tg, State.setTg_tg, State.emit_tg, State.emit_clk, ← hd]
  exact ⟨((s.tg ch).part + data.length) % 1024, rfl⟩

theorem State.putItem_hbm (s : State) (ch : Nat) (data : Bytes) (items flags skipped : Nat) (first poison : Option Nat) :
    (s.putItem ch data items flags skipped first poison).hbm = s.hbm := by
  unfold State.putItem
  dsimp only
  split
  · rfl
  · exact State.emit_hbm s _

/-- The start of an item changes the tokens of the channel alone. -/
theorem State.charge_tg (s : State) (ch n : Nat) :
    ∃ tokens, (s.charge ch n).tg ch = { s.tg ch with tokens := tokens, tokenClk := s.clk } := by
  unfold State.charge
  rw [State.setTg_tg]
  exact ⟨_, by rw [State.refill, State.setTg_tg]⟩

/-! ### STREAM channels -/

/-- A line that may be taken, fits and is good goes into the buffer, and the reader goes on. -/
theorem State.lineDeliver_takes {s : State} {ch q a n : Nat} {d : Desc} (hmay : s.mayTake ch = true)
    (hnext : s.nextLine ch = some (q, a, n)) (hfits : s.fits ch n = 0) (hrate : s.on F.TONGS_CFG_RATE_EN ch = false)
    (hgood : s.hbmBad a n = false) (hdesc : (s.tg ch).desc = some d) :
    ∃ v : State, s.lineDeliver ch = ({ v with readers := v.readers.put ch (q + 1) 0 } : State).setTg ch
        { v.tg ch with expect := q + 1, rewound := false }
      ∧ v.hbm = s.hbm ∧ (v.tg ch).buf.items = (s.tg ch).buf.items + 1 := by
  obtain ⟨tokens, hcharge⟩ := s.charge_tg ch (n / 64)
  have hdesc' : ((s.charge ch (n / 64)).tg ch).desc = some d := by rw [hcharge]; exact hdesc
  have hgood' : (s.charge ch (n / 64)).hbmBad a n = false := hgood
  unfold State.lineDeliver
  rw [if_neg (by simp [hmay]), hnext]
  dsimp only
  rw [hfits, if_neg (by decide), if_neg (by decide), if_neg (by simp [hrate]), hgood', if_neg (by simp)]
  refine ⟨_, rfl, State.putItem_hbm _ _ _ _ _ _ _ _, ?_⟩
  obtain ⟨part, hput⟩ := State.putItem_tg hdesc' (State.hbmRead (s.charge ch (n / 64)) a n) 1
    (b2n false + 2 * b2n (decide (0 < q - ((s.charge ch (n / 64)).tg ch).expect)) + 4 * b2n ((s.charge ch (n / 64)).tg ch).rewound)
    (q - ((s.charge ch (n / 64)).tg ch).expect) (some q) none
  rw [hput, hcharge]
  rfl

/-! ### GENERAL channels -/

@[simp] theorem State.watermark_tg (s : State) (t ch : Nat) : (s.watermark t).tg ch = s.tg ch := by
  unfold State.watermark
  dsimp only
  split_ifs <;> simp [State.tg]

theorem State.flushNow_tg (s : State) (t ch : Nat) : (s.flushNow t).tg ch = s.tg ch := by
  unfold State.flushNow
  simp

/-- A unit that passes parity leaves the channels as they are. -/
theorem State.popUnit_tg (s : State) (t ch : Nat) {u : PopUnit} (hgood : u.bad = none) : (s.popUnit t u).tg ch = s.tg ch := by
  unfold State.popUnit
  rw [hgood]
  dsimp only
  split_ifs <;> simp_all [State.flushNow_tg]

/-- The oldest unit of a Trough whose oldest record is committed and good. -/
theorem TroughS.oldest_good {x : TroughS} {r : TRec} {rs : List TRec} (hrecs : x.recs = r :: rs) (hcommitted : r.committed = true)
    (hbad : r.bad = []) : ∃ last, x.oldest none = some ⟨(r.data.drop (64 * r.popped)).take 64, r.popped, none, last⟩ := by
  unfold TroughS.oldest
  rw [hrecs]
  dsimp only
  rw [if_pos hcommitted, hbad]
  exact ⟨_, rfl⟩

/-- A channel that is not stopping goes on. -/
theorem State.stopNow_of_not_stop {s : State} {ch : Nat} (h : (s.tg ch).stop = false) : s.stopNow ch = s := by
  simp [State.stopNow, h]

/-- A whole good record goes into the buffer in hand as one item. -/
theorem State.recordDeliver_puts {s : State} {ch : Nat} {p : PopS} {d : Desc} (hpop : (s.tg ch).pop = some p)
    (hwhole : p.data.length = 64 * p.units) (hfree : s.hostBlocked = false) (hgap : p.dropGap = 0) (hpoison : p.poison = [])
    (hmode : s.on F.TRGH_CFG_MODE p.trough = false) (hstop : (s.tg ch).stop = false) (hdesc : (s.tg ch).desc = some d) :
    ∃ part, (s.recordDeliver ch).tg ch
      = { s.tg ch with pop := none, buf := (s.tg ch).buf.withItem s.clk p.data.length 1 0 0 none none, part := part } := by
  have hx : (s.setTg ch { s.tg ch with pop := none }).tg ch = { s.tg ch with pop := none } := State.setTg_tg _ _ _
  obtain ⟨part, hput⟩ := State.putItem_tg (by rw [hx]; exact hdesc) p.data 1 0 0 none none
  rw [hx] at hput
  have hmode' : (s.setTg ch { s.tg ch with pop := none }).on F.TRGH_CFG_MODE p.trough = false := hmode
  unfold State.recordDeliver
  rw [hpop]
  dsimp only
  rw [if_neg (by simp [hwhole, hfree]), hgap, hpoison, hmode']
  exact ⟨part, (congrArg (fun v : State => v.tg ch) (State.stopNow_of_not_stop ((congrArg TongsS.stop hput).trans hstop))).trans hput⟩

/-! ### The rewind of a reader -/

/-- A valid mark of a channel in service takes its reader back to the mark. -/
theorem State.rewind_valid {s : State} {n m : Nat} (hvalid : s.on F.HEARTH_MARK_STATE_VALID n m = true)
    (hst : (s.tg (4 * s.logicalOf n + s.rd F.HEARTH_MARK_STATE_STREAM n m)).st ≠ 0) :
    s.rewind n m = ({ s.wr F.HEARTH_REWIND_RESULT 1 n with
        readers := s.readers.put (4 * s.logicalOf n + s.rd F.HEARTH_MARK_STATE_STREAM n m)
          ((s.wr F.HEARTH_REWIND_RESULT 1 n).rd F.HEARTH_MARK_POS_LSEQ n m) 0 } : State).setTg
        (4 * s.logicalOf n + s.rd F.HEARTH_MARK_STATE_STREAM n m)
        { s.tg (4 * s.logicalOf n + s.rd F.HEARTH_MARK_STATE_STREAM n m) with
            expect := (s.wr F.HEARTH_REWIND_RESULT 1 n).rd F.HEARTH_MARK_POS_LSEQ n m, rewound := true } := by
  unfold State.rewind
  dsimp only
  rw [hvalid, if_pos rfl, if_neg hst, if_pos rfl]
  rfl

/-- The result of a rewind is not a mark's position. -/
theorem State.rewindResult_keeps_mark (s : State) (v n m : Nat) :
    (s.wr F.HEARTH_REWIND_RESULT v n).rd F.HEARTH_MARK_POS_LSEQ n m = s.rd F.HEARTH_MARK_POS_LSEQ n m := by
  apply State.rd_wr_ne
  simp [Fld.key, F.HEARTH_REWIND_RESULT, F.HEARTH_MARK_POS_LSEQ]
  omega

/-- A lapped mark answers its result and moves nothing. -/
theorem State.rewind_lapped {s : State} {n m : Nat} (hvalid : s.on F.HEARTH_MARK_STATE_VALID n m = false)
    (hpending : s.on F.HEARTH_MARK_STATE_PENDING n m = false) (hlapped : s.on F.HEARTH_MARK_STATE_LAPPED n m = true) :
    s.rewind n m = s.wr F.HEARTH_REWIND_RESULT 2 n := by
  unfold State.rewind
  dsimp only
  rw [hvalid, hpending, hlapped]
  rfl

/-- Settles O51: a line, a unit and a record go into the buffer; dot lines and rewinds. -/
theorem tongsDelivery : Obligations.TongsDelivery := by
  unfold Obligations.TongsDelivery
  refine ⟨?line, ?unit, ?record, ?commit, ?slot, ?rewind, ?lapped⟩
  case line =>
    intro s u d ch q a n dsc hu hstream hon hmay hnext hfits hrate hgood hdesc
    obtain ⟨v, hv, hhbm, hitems⟩ := State.lineDeliver_takes hmay hnext hfits hrate hgood hdesc
    refine ⟨u.lineDeliver ch, ?_, ?_, ?_, ?_, ?_, ?_⟩
    · rw [exec_streamLineDeliver, execStreamLineDeliver]
      exact cmd_press_eq hstream hu hon rfl
    all_goals rw [hv]
    · exact Assoc.getD_put_self v.readers ch (q + 1) 0
    · rw [State.setTg_tg]
    · rw [State.setTg_tg]
    · rw [State.setTg_tg]
      exact hitems
    · exact hhbm
  case unit =>
    intro s u d ch p r rs hu hgeneral hch hon hpop hmore hfree hrecs hcommitted hbad
    obtain ⟨last, holdest⟩ := TroughS.oldest_good hrecs hcommitted hbad
    refine ⟨u.popOne ch none, ?_, ?_⟩
    · rw [exec_unitPop, execUnitPop]
      refine cmd_press_eq (by simp [hgeneral, hch]) hu hon ?_
      unfold State.unitPop
      dsimp only
      rw [hpop]
      dsimp only
      rw [if_neg (by simp [hmore, hfree])]
      rfl
    · unfold State.popOne
      rw [hpop]
      dsimp only
      rw [holdest]
      dsimp only
      rw [State.popUnit_tg _ _ _ rfl, State.setTg_tg]
      rfl
  case record =>
    intro s u d ch p dsc hu hgeneral hch hon hpop hwhole hfree hgap hpoison hmode hstop hdesc
    obtain ⟨part, hput⟩ := State.recordDeliver_puts hpop hwhole hfree hgap hpoison hmode hstop hdesc
    refine ⟨u.recordDeliver ch, ?_, ?_, ?_, ?_, ?_⟩
    · rw [exec_troughRecordDeliver, execTroughRecordDeliver]
      exact cmd_press_eq (by simp [hgeneral, hch]) hu hon rfl
    all_goals rw [hput]
    · rfl
    · rfl
    · exact Nat.or_zero _
  case commit =>
    intro s u d c hu hc hon hnone
    rw [exec_dotLineCommit, execDotLineCommit]
    refine cmd_press_eq (decide_eq_true hc) hu hon ?_
    rw [State.dotLineCommit, hnone]
  case slot =>
    intro s u d ch hu hdot hon hst
    have hch : ch < 1152 := by
      simp [isDot] at hdot
      omega
    rw [exec_dotSlotWaitEnd, execDotSlotWaitEnd]
    exact cmd_press_eq (by simp [hdot, hch]) hu hon (if_pos hst)
  case rewind =>
    intro s u d n m hu hn hm hopen hon hvalid hst
    refine ⟨u.rewind n m, ?_, ?_, ?_, ?_⟩
    · rw [exec_rewind, execRewind]
      refine cmd_hostHold_eq (by simp [hn, hm]) hu hopen ?_
      exact State.press_on hon _
    all_goals rw [State.rewind_valid hvalid hst]
    · exact State.rd_wr_self u F.HEARTH_REWIND_RESULT 1 n 0
    · exact (Assoc.getD_put_self _ _ _ _).trans (State.rewindResult_keeps_mark u 1 n m)
    · rw [State.setTg_tg]
  case lapped =>
    intro s u d n m hu hn hm hopen hon hvalid hpending hlapped
    rw [exec_rewind, execRewind]
    refine cmd_hostHold_eq (by simp [hn, hm]) hu hopen ?_
    exact (State.press_on hon _).trans (State.rewind_lapped hvalid hpending hlapped)

end Sys2Proof.Machine


/-!
PROOFS. Troughs: records are admitted, dropped, committed, flushed and marked.
-/

namespace Sys2Proof.Machine

/-! ### What a change of depth leaves -/

@[simp] theorem State.raise_tr (s : State) (e t : Nat) : (s.raise e).tr t = s.tr t := by
  rw [s.raise_only e]
  rfl

@[simp] theorem State.watermark_tr (s : State) (t r : Nat) : (s.watermark t).tr r = s.tr r := by
  unfold State.watermark
  dsimp only
  split_ifs <;> simp

@[simp] theorem State.depthMoved_tr (s : State) (t r : Nat) : (s.depthMoved t).tr r = s.tr r := by
  unfold State.depthMoved
  dsimp only
  rw [State.watermark_tr]
  split_ifs <;> rfl

/-! ### The admission rule -/

/-- A push of whole units is the push of the data itself. -/
theorem wholeUnits_of_whole {data : Bytes} (hwhole : data.length % 64 = 0) (hmin : 64 ≤ data.length) (hmax : data.length ≤ 65536) :
    wholeUnits data = data := by
  have hn : 64 * min (max (cdiv data.length 64) 1) 1024 = data.length := by
    unfold cdiv
    omega
  rw [wholeUnits, hn, fitTo, List.take_left']
  rfl

/-- An admitted record is the newest of its Trough and carries the drops before it. -/
theorem State.push_admitted {s : State} {t : Nat} {data : Bytes} (h : s.admits t (data.length / 64) = true) :
    (s.push t data).tr t = { s.tr t with
      recs := (s.tr t).recs ++ [⟨data, min (s.tr t).pend 65535, (s.tr t).seq, false, 0, [], 0⟩]
      pend := 0, seq := ((s.tr t).seq + 1) % 65536 } := by
  unfold State.push
  dsimp only
  rw [if_pos h, State.depthMoved_tr, State.setTr_tr]

/-- A dropped record counts. -/
theorem State.push_dropped {s : State} {t : Nat} {data : Bytes} (h : s.admits t (data.length / 64) = false) :
    (s.push t data).tr t = { s.tr t with
      pend := (s.tr t).pend + 1, seq := ((s.tr t).seq + 1) % 65536, dropped := (s.tr t).dropped + 1 } := by
  unfold State.push
  dsimp only
  rw [if_neg (by simp [h])]
  exact (State.raise_tr _ _ _).trans (State.setTr_tr _ _ _)

/-- A dropped record touches three fields of its Trough: DROPPED, OVERRUN and FULL. -/
theorem State.push_dropped_rd {s : State} {t : Nat} {data : Bytes} (h : s.admits t (data.length / 64) = false) (f : Fld) (i j : Nat)
    (hf : f.key i j < 8 * 0x80000 ∨ 8 * 0x90000 ≤ f.key i j) :
    (s.push t data).rd f i j
      = (((s.inc F.TRGH_CNT2_DROPPED t).flag F.TRGH_STATUS_OVERRUN t).flag F.TRGH_STATUS_FULL t).rd f i j := by
  unfold State.push
  dsimp only
  rw [if_neg (by simp [h])]
  exact State.raise_rd _ _ _ _ _ hf

/-! ### Mark records -/

/-- A mark is a record of one unit. -/
theorem markRecord_length (t seq pushed dropped flushed stamp : Nat) :
    (markRecord t seq pushed dropped flushed stamp).length = 64 := by
  simp [markRecord, record, padTo, header, zeros, cdiv]

/-! ### The commit of a record -/

/-- The records of a Trough after that at place k has been written. -/
theorem State.commitRec_recs {s : State} {t i k : Nat} {r : TRec}
    (h : ((s.tr t).recs.zipIdx.filter fun e => !e.1.committed)[i]? = some (r, k)) :
    ((s.commitRec t i).tr t).recs =
      (TroughS.stampCommits { s.tr t with
        recs := (s.tr t).recs.set k { r with committed := true, bad := if (s.tr t).inject then [0] else r.bad }, inject := false }
        (s.tr t).count s.clk).recs := by
  unfold State.commitRec
  dsimp only
  rw [h]
  dsimp only
  unfold State.committed
  dsimp only
  rw [State.inc, State.wr_tr, State.setTr_tr, State.setTr_tr]
  rfl

theorem TroughS.stampCommits_length (x : TroughS) (old c : Nat) : (x.stampCommits old c).recs.length = x.recs.length := by
  simp [TroughS.stampCommits]

/-- The stamp of a commit leaves a record's bytes and whether it is committed. -/
theorem TroughS.stampCommits_get (x : TroughS) (old c k : Nat) :
    (x.stampCommits old c).recs[k]?.map (fun e : TRec => (e.data, e.committed)) = x.recs[k]?.map fun e => (e.data, e.committed) := by
  cases hk : x.recs[k]? with
  | none => simp [TroughS.stampCommits, hk]
  | some e =>
    simp only [TroughS.stampCommits, List.getElem?_map, List.getElem?_zipIdx, hk, Option.map_some, Option.some.injEq]
    split <;> rfl

/-- The place of a record that waits to be written lies in the list. -/
theorem place_lt {α : Type} {l : List α} {p : α × Nat → Bool} {i k : Nat} {r : α} (h : (l.zipIdx.filter p)[i]? = some (r, k)) :
    k < l.length := by
  have hmem : (r, k) ∈ l.zipIdx := (List.mem_filter.1 (List.mem_of_getElem? h)).1
  have hk : l[k]? = some r := by simpa using List.mem_zipIdx' hmem |>.2.symm ▸ List.getElem?_eq_getElem (List.mem_zipIdx' hmem).1
  exact (List.getElem?_eq_some_iff.1 hk).1

theorem State.commitRec_length (s : State) (t i : Nat) : ((s.commitRec t i).tr t).recs.length = (s.tr t).recs.length := by
  cases h : ((s.tr t).recs.zipIdx.filter fun e => !e.1.committed)[i]? with
  | none => rw [State.commitRec, h]
  | some e =>
    obtain ⟨r, k⟩ := e
    rw [State.commitRec_recs h]
    exact (TroughS.stampCommits_length _ _ _).trans (List.length_set ..)

/-- A commit counts in PUSHED and touches no other field. -/
theorem State.commitRec_rd (s : State) (t i : Nat) (f : Fld) (k l : Nat) (hf : f.key k l ≠ F.TRGH_CNT_PUSHED.key t 0) :
    (s.commitRec t i).rd f k l = s.rd f k l := by
  unfold State.commitRec
  dsimp only
  split
  · rfl
  · exact State.rd_inc_ne _ hf _

/-! ### Marks -/

/-- A mark that is not admitted is a dropped record of one unit. -/
theorem State.troughMark_refused {s : State} {t : Nat} (h : s.admits t 1 = false) :
    ∃ data : Bytes, data.length / 64 = 1 ∧ s.troughMark t = (s.push t data).flag F.TRGH_STATUS_MARK_REFUSED t := by
  unfold State.troughMark
  dsimp only
  rw [if_neg (by simp [h])]
  exact ⟨_, by rw [markRecord_length], rfl⟩

/-- An admitted mark is a record of one unit that the Trough commits itself. -/
theorem State.troughMark_admitted {s : State} {t : Nat} (h : s.admits t 1 = true) :
    ∃ (data : Bytes) (i : Nat), data.length / 64 = 1 ∧ s.troughMark t
      = ((s.push t data).wr F.TRGH_MARKSEQ_MARK_SEQ ((s.rd F.TRGH_MARKSEQ_MARK_SEQ t + 1) % 2 ^ 32) t).commitRec t i := by
  unfold State.troughMark
  dsimp only
  rw [if_pos h]
  exact ⟨_, _, by rw [markRecord_length], rfl⟩

/-! ### The counters -/

/-- The fields that TROUGH_CLEAR_COUNTS clears. -/
def troughCounters : List Fld :=
  [F.TRGH_CNT_POPPED, F.TRGH_CNT_PUSHED, F.TRGH_CNT2_DROPPED, F.TRGH_CNT2_FLUSHED, F.TRGH_CNT2_POISONED]

theorem troughCounters_zero : ∀ f ∈ troughCounters, f.zeroReset := by
  simp [troughCounters, Fld.zeroReset, F.TRGH_CNT_POPPED, F.TRGH_CNT_PUSHED, F.TRGH_CNT2_DROPPED, F.TRGH_CNT2_FLUSHED,
    F.TRGH_CNT2_POISONED]

/-- Settles O46: records, flushes, marks, counters and watermarks of a Trough. -/
theorem troughs : Obligations.Troughs := by
  unfold Obligations.Troughs
  refine ⟨?admitted, ?drop, ?stranger, ?commit, ?flush, ?flushLater, ?markRefused, ?mark, ?inject, ?clear, ?watermark, ?badWatermark⟩
  case admitted =>
    intro s u d source data tr hu htr hsource hwhole hmin hmax hon howner hadmits
    refine ⟨u.push tr data, ?_, ?_⟩
    · rw [exec_recordPush, execRecordPush]
      refine cmd_press_eq (decide_eq_true htr) hu hon ?_
      rw [if_neg hsource, wholeUnits_of_whole hwhole hmin hmax, State.pushAs, if_pos howner]
    · rw [State.push_admitted hadmits]
      exact ⟨rfl, rfl, rfl⟩
  case drop =>
    intro s u d source data tr hu htr hsource hwhole hmin hmax hon howner hadmits
    refine ⟨u.push tr data, ?_, ?_, ?_, ?_, ?_, ?_⟩
    · rw [exec_recordPush, execRecordPush]
      refine cmd_press_eq (decide_eq_true htr) hu hon ?_
      rw [if_neg hsource, wholeUnits_of_whole hwhole hmin hmax, State.pushAs, if_pos howner]
    · rw [State.push_dropped hadmits]
    · rw [State.push_dropped hadmits]
    · rw [State.push_dropped hadmits]
    · rw [State.push_dropped_rd hadmits F.TRGH_STATUS_OVERRUN tr 0 (by simp [Fld.key, F.TRGH_STATUS_OVERRUN]; omega)]
      rw [State.flag_rd, State.rd_wr_apart _ (by decide), State.flag_rd]
      exact State.rd_wr_self _ F.TRGH_STATUS_OVERRUN 1 tr 0
    · rw [State.push_dropped_rd hadmits F.TRGH_STATUS_FULL tr 0 (by simp [Fld.key, F.TRGH_STATUS_FULL]; omega)]
      exact State.rd_wr_self _ F.TRGH_STATUS_FULL 1 tr 0
  case stranger =>
    intro s u d source data tr hu htr hsource hwhole hmin hmax hon howner
    rw [exec_recordPush, execRecordPush]
    refine cmd_press_eq (decide_eq_true htr) hu hon ?_
    rw [if_neg hsource, State.pushAs, if_neg howner]
  case commit =>
    intro s u d i tr r k hu htr hon hpick hinject
    refine ⟨u.commitRec tr i, ?_, State.commitRec_length u tr i, ?_⟩
    · rw [exec_recordCommit, execRecordCommit]
      exact cmd_press_eq (decide_eq_true htr) hu hon rfl
    · rw [State.commitRec_recs hpick]
      refine (TroughS.stampCommits_get _ _ _ _).trans ?_
      simp [List.getElem?_set_self (place_lt hpick)]
  case flush =>
    intro s u d tr hu htr ho hinside
    rw [exec_troughFlush, execTroughFlush]
    refine cmd_hostWrite_eq (decide_eq_true htr) hu ho ?_
    exact if_neg (by simp [hinside])
  case flushLater =>
    intro s u d tr hu htr ho hinside
    rw [exec_troughFlush, execTroughFlush]
    exact cmd_hostWrite_eq (decide_eq_true htr) hu ho (if_pos hinside)
  case markRefused =>
    intro s u d tr hu htr ho hadmits
    obtain ⟨data, hdata, hmark⟩ := State.troughMark_refused hadmits
    rw [← hdata] at hadmits
    refine ⟨u.troughMark tr, cmd_hostWrite_eq (decide_eq_true htr) hu ho rfl, ?_, ?_, ?_⟩
    all_goals rw [hmark]
    · exact State.rd_wr_self _ F.TRGH_STATUS_MARK_REFUSED 1 tr 0
    · rw [State.flag_rd, State.rd_wr_apart _ (by decide),
        State.push_dropped_rd hadmits F.TRGH_MARKSEQ_MARK_SEQ tr 0 (by simp [Fld.key, F.TRGH_MARKSEQ_MARK_SEQ]; omega),
        State.flag_rd, State.rd_wr_apart _ (by decide), State.flag_rd, State.rd_wr_apart _ (by decide), State.inc,
        State.rd_wr_apart _ (by decide)]
    · exact congrArg TroughS.dropped (State.push_dropped hadmits)
  case mark =>
    intro s u d tr hu htr ho hadmits
    obtain ⟨data, i, hdata, hmark⟩ := State.troughMark_admitted hadmits
    rw [← hdata] at hadmits
    refine ⟨u.troughMark tr, cmd_hostWrite_eq (decide_eq_true htr) hu ho rfl, ?_, ?_⟩
    all_goals rw [hmark]
    · rw [State.commitRec_rd _ _ _ _ _ _ (Fld.key_ne_of_apart (by decide) tr 0), State.rd_wr_self]
      exact Nat.mod_mod _ _
    · rw [State.commitRec_length, State.wr_tr, State.push_admitted hadmits]
      exact List.length_append
  case inject =>
    intro s u d tr hu htr ho
    exact cmd_hostWrite_eq (decide_eq_true htr) hu ho rfl
  case clear =>
    intro s u d tr hu htr ho
    have hzero : ∀ f ∈ troughCounters, (u.troughClear tr).rd f tr = 0 := fun f hf =>
      State.clrAll_zero troughCounters troughCounters_zero hf
    refine ⟨u.troughClear tr, cmd_hostWrite_eq (decide_eq_true htr) hu ho rfl, ?_, ?_, ?_, ?_, ?_, ?_⟩
    iterate 5 exact hzero _ (by simp [troughCounters])
    exact (congrArg State.trough (u.clrAll_regsOnly troughCounters tr 0).eq).trans rfl
  case watermark =>
    intro s u d v tr hu htr hv ho hgood
    rw [exec_watermarkWrite, execWatermarkWrite]
    refine cmd_hostWrite_eq (decide_eq_true htr) hu ho ?_
    unfold State.wmWrite
    dsimp only
    rw [if_neg]
    rintro ⟨hen, hbad⟩
    exact hgood.elim (fun h => by omega) hbad
  case badWatermark =>
    intro s u d v tr hu htr hv ho hen hbad
    rw [exec_watermarkWrite, execWatermarkWrite]
    refine cmd_hostWrite_eq (decide_eq_true htr) hu ho ?_
    exact if_pos ⟨hen, fun h => by omega⟩

end Sys2Proof.Machine


/-!
PROOFS. What a report of an error leaves: outside the registers of the error path, of Striker and of the Troughs, and outside
the log, the error path touches nothing.
-/

namespace Sys2Proof.Machine

/-- The keys of the registers that the report of an error may write: those of Weld, of Striker, ALERT_SRC, QUENCH_ENTERED, the
Quench registers, and those of the Troughs and beyond. -/
def errorKey (k : Nat) : Prop :=
  (8 * 0x30000 ≤ k ∧ k < 8 * 0x32000) ∨ (8 * 0x80000 ≤ k ∧ k < 8 * 0x90000) ∨ k = 8 * 0xC0018 ∨ k = 8 * 0xD0008 + 6
    ∨ (8 * 0xD0020 ≤ k ∧ k < 8 * 0xD0040) ∨ 8 * 0x2000000 ≤ k

/-- What the report of an error may change. -/
structure ErrorFrame (s t : State) : Prop where
  rest : t = { s with
    regs := t.regs, sets := t.sets, buf := t.buf, stk := t.stk, trough := t.trough, weld := t.weld, dcs := t.dcs, out := t.out
    smb := { s.smb with covered := t.smb.covered }
    hep := { s.hep with aer := t.hep.aer, releaseAt := t.hep.releaseAt, asked := t.hep.asked, qBar2 := t.hep.qBar2,
                        qOverruns := t.hep.qOverruns, qLaps := t.hep.qLaps, qClk := t.hep.qClk } }
  rd : ∀ (f : Fld) (i j : Nat), ¬errorKey (f.key i j) → t.rd f i j = s.rd f i j

namespace ErrorFrame

theorem refl (s : State) : ErrorFrame s s := ⟨rfl, fun _ _ _ _ => rfl⟩

theorem trans {s t u : State} (h : ErrorFrame s t) (k : ErrorFrame t u) : ErrorFrame s u := by
  refine ⟨?_, fun f i j hf => (k.rd f i j hf).trans (h.rd f i j hf)⟩
  rw [k.rest, h.rest]

theorem ite {c : Prop} [Decidable c] {s t u : State} (ht : ErrorFrame s t) (hu : ErrorFrame s u) :
    ErrorFrame s (if c then t else u) := by
  split
  · exact ht
  · exact hu

theorem foldl {α : Type} (f : State → α → State) (l : List α) (h : ∀ s, ∀ a ∈ l, ErrorFrame s (f s a)) (s : State) :
    ErrorFrame s (l.foldl f s) := by
  induction l generalizing s with
  | nil => exact refl s
  | cons a l ih =>
    exact (h s a List.mem_cons_self).trans (ih (fun t b hb => h t b (List.mem_cons_of_mem a hb)) _)

theorem setTr (s : State) (t : Nat) (x : TroughS) : ErrorFrame s (s.setTr t x) := ⟨rfl, fun _ _ _ _ => rfl⟩

theorem wr (s : State) {f : Fld} {i j : Nat} (hf : errorKey (f.key i j)) (v : Nat) : ErrorFrame s (s.wr f v i j) :=
  ⟨rfl, fun g k l hg => State.rd_wr_ne s (fun h => hg (by rw [h]; exact hf)) v⟩

theorem inc (s : State) {f : Fld} {i j : Nat} (hf : errorKey (f.key i j)) (n : Nat) : ErrorFrame s (s.inc f i j n) :=
  wr s hf _

theorem flag (s : State) {f : Fld} {i j : Nat} (hf : errorKey (f.key i j)) : ErrorFrame s (s.flag f i j) :=
  ⟨rfl, fun g k l hg => State.rd_wr_ne s (fun h => hg (by rw [h]; exact hf)) 1⟩

theorem thenWr {s t : State} (h : ErrorFrame s t) {f : Fld} {i j : Nat} (hf : errorKey (f.key i j)) (v : Nat) :
    ErrorFrame s (t.wr f v i j) := h.trans (wr t hf v)

theorem thenInc {s t : State} (h : ErrorFrame s t) {f : Fld} {i j : Nat} (hf : errorKey (f.key i j)) (n : Nat) :
    ErrorFrame s (t.inc f i j n) := h.trans (inc t hf n)

theorem thenFlag {s t : State} (h : ErrorFrame s t) {f : Fld} {i j : Nat} (hf : errorKey (f.key i j)) :
    ErrorFrame s (t.flag f i j) := h.trans (flag t hf)

/-- A further step that is taken or not. -/
theorem thenIf {c : Prop} [Decidable c] {s t u : State} (h : ErrorFrame s t) (hu : ErrorFrame t u) :
    ErrorFrame s (if c then u else t) := ite (h.trans hu) h

theorem raise (s : State) (e : Nat) : ErrorFrame s (s.raise e) := by
  refine ⟨?_, fun f i j hf => s.raise_rd e f i j ?_⟩
  · rw [s.raise_only e]
  · unfold errorKey at hf
    omega

theorem emit (s : State) (o : Out) : ErrorFrame s (s.emit o) := ite (refl s) ⟨rfl, fun _ _ _ _ => rfl⟩

theorem alert (s : State) (b : Nat) : ErrorFrame s (s.alert b) := by
  have hsrc (v : Nat) : ErrorFrame s (s.wr F.SMB_ALERT_SRC v) := wr s (by simp [errorKey, Fld.key, F.SMB_ALERT_SRC]) v
  exact ite (hsrc _) ((hsrc _).trans ⟨rfl, fun _ _ _ _ => rfl⟩)

/-! ### Troughs -/

theorem troughKey {f : Fld} (hf : 0x2000000 ≤ f.addr) (i j : Nat) : errorKey (f.key i j) := by
  unfold errorKey Fld.key
  have : 0 ≤ i * f.s1 := Nat.zero_le _
  omega

theorem watermark (s : State) (t : Nat) : ErrorFrame s (s.watermark t) := by
  have habove (v : Nat) : ErrorFrame s (s.wr F.TRGH_STATUS_ABOVE v t) := wr s (troughKey (by decide) t 0) v
  exact ite (ite (ite ((habove _).trans (raise _ _)) (refl s)) (ite ((habove _).trans (raise _ _)) (refl s))) (habove 0)

theorem depthMoved (s : State) (t : Nat) : ErrorFrame s (s.depthMoved t) := by
  refine trans ?_ (watermark _ t)
  exact thenIf (wr s (troughKey (by decide) t 0) _) (flag _ (troughKey (by decide) t 0))

theorem push (s : State) (t : Nat) (data : Bytes) : ErrorFrame s (s.push t data) := by
  refine ite ((setTr s t _).trans (depthMoved _ t)) ?_
  refine trans (t := State.raise _ (ev 0x16 t)) (trans ?_ (raise _ _)) ⟨rfl, fun _ _ _ _ => rfl⟩
  refine thenFlag (thenFlag (thenInc (setTr s t _) ?dropped 1) ?overrun) ?full
  case dropped => exact troughKey (by decide) t 0
  case overrun => exact troughKey (by decide) t 0
  case full => exact troughKey (by decide) t 0

theorem pushAs (s : State) (src t : Nat) (data : Bytes) : ErrorFrame s (s.pushAs src t data).2 := by
  unfold State.pushAs
  split
  · exact push s t data
  · exact refl s

/-! ### The log of internal errors -/

theorem weldKey {f : Fld} (hf : 0x30000 ≤ f.addr) {i j : Nat} (hij : f.key i j < 8 * 0x32000) : errorKey (f.key i j) := by
  unfold errorKey
  unfold Fld.key at hij ⊢
  omega

theorem pushOr (s : State) (src t : Nat) (data : Bytes) {f : Fld} {i : Nat} (hf : errorKey (f.key i 0)) :
    ErrorFrame s (s.pushOr src t data f i) :=
  ite (pushAs s src t data) ((pushAs s src t data).trans (flag _ hf))

theorem logEntry (s : State) (e : Bytes) : ErrorFrame s (s.logEntry e) := by
  unfold State.logEntry
  dsimp only
  split
  · refine trans (thenInc (thenWr ?_ ?ptr _) ?total 1) ⟨rfl, fun _ _ _ _ => rfl⟩
    case ptr => exact weldKey (by decide) (by decide)
    case total => exact weldKey (by decide) (by decide)
    exact ⟨rfl, fun _ _ _ _ => rfl⟩
  · refine thenFlag (thenInc (thenInc (thenWr ?_ ?ptr _) ?total 1) ?overflows 1) ?flag
    case ptr => exact weldKey (by decide) (by decide)
    case total => exact weldKey (by decide) (by decide)
    case overflows => exact weldKey (by decide) (by decide)
    case flag => exact weldKey (by decide) (by decide)
    exact ⟨rfl, fun _ _ _ _ => rfl⟩

theorem latchFatal (s : State) (e : Bytes) : ErrorFrame s (s.latchFatal e) := by
  unfold State.latchFatal
  refine ite (refl s) (trans (flag s (f := F.WELD_STATUS_FATAL_LOGGED) (i := 0) (j := 0) (weldKey (by decide) (by decide))) ?_)
  refine foldl _ _ (fun t i hi => wr t (weldKey (by decide) ?_) _) _
  have hlt : i < 8 := List.mem_range.1 hi
  simp only [Fld.key, F.WELD_FIRST_FATAL_WORD]
  omega

theorem unavailBegin (s : State) (key : Nat) : ErrorFrame s (s.unavailBegin key) := ite (refl s) ⟨rfl, fun _ _ _ _ => rfl⟩

theorem logErr (s : State) {code : Nat} (hcode : code < 256) (cls src : Nat) (detail : Bytes) :
    ErrorFrame s (s.logErr code cls src detail).2 := by
  unfold State.logErr
  extract_lets counted masked routed wantJ last late j lost e entered latched pushed alerted supp queued weld weld' journalled
  have hcounted : ErrorFrame s counted := by
    refine inc s (weldKey (by decide) ?_) 1
    simp only [Fld.key, F.WELD_ERR_CNT_COUNT]
    omega
  have hlatched : ErrorFrame s latched :=
    thenIf (hcounted.trans (logEntry counted e)) ((latchFatal _ e).trans (unavailBegin _ 0))
  have hpushed : ErrorFrame s pushed :=
    thenIf hlatched (pushOr latched _ _ e (weldKey (by decide) (by decide)))
  have halerted : ErrorFrame s alerted := ite (hpushed.trans (alert _ 4)) (thenIf hpushed (alert _ 5))
  clear_value alerted
  have hjournalled : ErrorFrame alerted journalled := by
    unfold journalled
    split
    · exact ⟨rfl, fun _ _ _ _ => rfl⟩
    · exact thenIf (refl alerted) ⟨rfl, fun _ _ _ _ => rfl⟩
  exact halerted.trans hjournalled

/-! ### The host port -/

theorem errMessage (s : State) (sev : Nat) : ErrorFrame s (s.errMessage sev) := ite (emit s _) (refl s)

theorem quenchKey {f : Fld} (hf : 0xD0020 ≤ f.addr ∧ f.key 0 0 < 8 * 0xD0040) : errorKey (f.key 0 0) := by
  unfold errorKey
  unfold Fld.key at hf ⊢
  omega

theorem cancelRelease (s : State) : ErrorFrame s ((s.closeReqs 7 (srcNo 0x0E 0)).dropHeld 7 (srcNo 0x0E 0)) :=
  ⟨rfl, fun _ _ _ _ => rfl⟩

theorem unasked (s : State) : ErrorFrame s { s with hep := { s.hep with releaseAt := none, asked := false } } :=
  ⟨rfl, fun _ _ _ _ => rfl⟩

theorem quenchCounts (s : State) :
    ErrorFrame s { s with hep := { s.hep with qBar2 := 0, qOverruns := 0, qLaps := 0, qClk := s.clk } } :=
  ⟨rfl, fun _ _ _ _ => rfl⟩

theorem quenchCause (s : State) (b : Nat) : ErrorFrame s (s.quenchCause b) := by
  unfold State.quenchCause
  dsimp only
  refine trans ((cancelRelease s).trans (thenWr (f := F.HEP_QUENCH_RELEASE_PENDING) (i := 0) (j := 0) (refl _)
    (quenchKey (by decide)) 0 |>.trans (unasked _))) (ite ?again ?enter)
  case again => exact thenWr (wr _ (quenchKey (by decide)) _) (quenchKey (by decide)) _
  case enter =>
    refine trans (trans (trans ?_ (quenchCounts _)) (raise _ (ev 0x01 8))) (alert _ 2)
    refine thenFlag (thenInc (thenWr (thenWr (thenWr (wr _ ?cause _) ?seen _) ?quenched _) ?entry _) ?entries 1) ?flag
    case flag => simp [errorKey, Fld.key, F.HEP_STATUS_QUENCH_ENTERED]
    all_goals exact quenchKey (by decide)

theorem hostErr (s : State) (e : HostErr) (advisory : Bool) (hdr : Bytes) : ErrorFrame s (s.hostErr e advisory hdr) := by
  have haer (a : AerS) : ErrorFrame s { s with hep := { s.hep with aer := a } } := ⟨rfl, fun _ _ _ _ => rfl⟩
  have hmessage {p : Prop} [Decidable p] (t : State) (sev : Nat) : ErrorFrame t (if p then t.errMessage sev else t) :=
    ite (errMessage t sev) (refl t)
  unfold State.hostErr
  by_cases hcor : e.correctable = true
  · rw [if_pos hcor]
    exact ((haer _).trans (hmessage _ 0)).trans (logErr _ (by decide) _ _ _)
  · rw [if_neg hcor]
    extract_lets fatal masked adv a₁ a₂ hep logged sent routed
    have hsent : ErrorFrame s sent := (haer _).trans (ite (refl logged) (ite (hmessage logged 0) (errMessage logged _)))
    have hrouted : ErrorFrame s routed := by
      unfold routed
      split
      · exact hsent.trans (logErr sent (by decide) _ _ _)
      · exact hsent.trans (logErr sent (by decide) _ _ _)
    exact thenIf hrouted (quenchCause routed 0)

theorem err (s : State) {code : Nat} (hcode : code < 256) (src : Nat) (detail : Bytes) : ErrorFrame s (s.err code src detail) := by
  unfold State.err
  dsimp only
  exact ite ((logErr s hcode _ _ _).trans (hostErr _ _ _ _)) (logErr s hcode _ _ _)

end ErrorFrame

end Sys2Proof.Machine


/-!
PROOFS. Reads of host memory: descriptors, tags, completions, their timeouts and quarantine.
-/

namespace Sys2Proof.Machine

/-! ### Tags -/

/-- A grant: the oldest read of the channel takes the tag, and its request leaves. -/
theorem State.tagGrant_grants {s : State} {ch tg : Nat} {r : ReadReq} {rest : List ReadReq} (hfree : s.hostBlocked = false)
    (hlimit : s.hep.tags.length < s.lTag) (hturn : (s.tagWaiters.find? fun c => decide (s.hep.tagNext ≤ c)).orElse
      (fun _ => s.tagWaiters.head?) = some ch)
    (htag : s.freeTag = some tg) (hwant : (s.tg ch).want = r :: rest) (hjtag : s.power.jtagTest = false) :
    ∃ t, s.tagGrant = State.tagsMoved { s with
        tongs := (s.setTg ch { s.tg ch with want := rest }).tongs
        hep := { s.hep with tags := s.hep.tags.ins tg ⟨ch, r.kind, r.addr, r.len, [], s.clk, false⟩, tagNext := ch + 1 }
        out := s.out ++ [t] }
      ∧ t = .hostRead ch tg r.addr r.len (decide (r.kind = 2) && (s.tg ch).desc.any Desc.relaxed && s.hep.cfg.roEn)
          (decide (r.kind = 2) && (s.tg ch).desc.any Desc.ns && s.on F.TONGS_CFG_NS_EN ch && s.hep.cfg.nsEn) := by
  unfold State.tagGrant
  rw [if_neg (by simp [hfree, hlimit])]
  dsimp only
  rw [hturn, htag]
  dsimp only
  rw [hwant]
  dsimp only
  exact ⟨_, congrArg State.tagsMoved (if_neg (by simp [hjtag])), rfl⟩

/-! ### Quarantined tags -/

/-- A tag stays in quarantine, and CTO stays set. -/
def State.Quarantines (s : State) (tag : Nat) (x : TagS) : Prop :=
  s.hep.tags.find tag = some x ∧ s.rd F.HEP_STATUS_CTO = 1

/-- The report of an error leaves the tags and CTO. -/
theorem State.Quarantines.after {s t : State} {tag : Nat} {x : TagS} (h : s.Quarantines tag x) (ht : ErrorFrame s t) :
    t.Quarantines tag x := by
  obtain ⟨htag, hcto⟩ := h
  refine ⟨?_, ?_⟩
  · rw [ht.rest]
    exact htag
  · rw [ht.rd F.HEP_STATUS_CTO 0 0 (by simp [errorKey, Fld.key, F.HEP_STATUS_CTO])]
    exact hcto

/-- What a halt does to the tags of its channel: those that are not in quarantine lose their line. -/
theorem Assoc.find_map_orphan {tags : Assoc TagS} {f : Nat × TagS → Nat × TagS} (hkey : ∀ e, (f e).1 = e.1) {tag : Nat} {x : TagS}
    (hkeep : f (tag, x) = (tag, x)) (h : tags.find tag = some x) : Assoc.find tag (tags.map f) = some x := by
  induction tags with
  | nil => cases h
  | cons e tags ih =>
    obtain ⟨k, y⟩ := e
    have hfst : f (k, y) = (k, (f (k, y)).2) := Prod.ext (hkey _) rfl
    rw [List.map_cons, hfst, Assoc.find]
    rw [Assoc.find] at h
    split
    · next hk =>
      rw [if_pos hk] at h
      obtain rfl : y = x := Option.some.inj h
      rw [← hk, hkeep]
    · next hk =>
      rw [if_neg hk] at h
      exact ih h

namespace ErrorFrame

theorem cqWrite (s : State) (ch : Nat) (body : Bytes) (irq : Bool) : ErrorFrame s (s.cqWrite ch body irq) := by
  unfold State.cqWrite
  extract_lets w p written w' moved wrapped closed
  have hmoved : ErrorFrame s moved := (emit s _).thenWr (troughKey (by decide) ch 0) _
  have hwrapped : ErrorFrame s wrapped := hmoved.thenIf (wr moved (troughKey (by decide) ch 0) _)
  exact ((hwrapped.thenInc (troughKey (by decide) ch 0) 1).trans (raise closed _)).ite (hwrapped.thenInc (troughKey (by decide) ch 0) 1)

end ErrorFrame

theorem State.deliveryBody_quarantines {s : State} {tag : Nat} {x : TagS} (h : s.Quarantines tag x) (ch : Nat) (d : Desc)
    (status halt : Nat) : (s.deliveryBody ch d status halt).2.Quarantines tag x := by
  unfold State.deliveryBody
  dsimp only
  cases (s.tg ch).buf.first with
  | some q => exact h
  | none =>
    dsimp only
    split_ifs
    · exact h
    · exact h
    · exact h

/-- A halt leaves the tags in quarantine. -/
theorem State.halt_quarantines {s : State} {tag : Nat} {x : TagS} (h : s.Quarantines tag x) (hx : x.quarantined = true)
    (ch code : Nat) : (s.halt ch code).Quarantines tag x := by
  unfold State.halt
  extract_lets marked reported orphan hep orphaned y off
  have hmarked : ErrorFrame s marked :=
    (ErrorFrame.wr s (ErrorFrame.troughKey (by decide) ch 0) code).thenFlag (ErrorFrame.troughKey (by decide) ch 0)
  have hreported : reported.Quarantines tag x :=
    h.after ((hmarked.trans (ErrorFrame.raise marked _)).trans (ErrorFrame.err _ (by decide) _ _))
  have horphaned : orphaned.Quarantines tag x := by
    obtain ⟨htag, hcto⟩ := hreported
    refine ⟨Assoc.find_map_orphan (fun e => ?_) ?_ htag, hcto⟩
    · exact (apply_ite Prod.fst _ _ _).trans (ite_self _)
    · exact if_neg (by simp [hx])
  clear_value orphaned
  clear hmarked hreported
  split
  · exact horphaned
  · next d _ =>
    extract_lets r left closed held kept
    have hclosed : closed.Quarantines tag x := State.deliveryBody_quarantines horphaned ch d 5 code
    clear_value closed
    split
    · have hheld : kept.Quarantines tag x := hclosed
      split
      · exact hheld.after (ErrorFrame.flag kept (ErrorFrame.troughKey (by decide) ch 0))
      · exact hheld
    · exact hclosed.after (ErrorFrame.cqWrite closed ch _ _)

theorem State.readFailed_quarantines {s : State} {tag : Nat} {x : TagS} (h : s.Quarantines tag x) (hx : x.quarantined = true)
    (t : TagS) (code : Nat) : (s.readFailed t code).Quarantines tag x := by
  unfold State.readFailed
  dsimp only
  split
  · exact h
  · exact State.halt_quarantines h hx _ _

theorem State.ctoStorm_quarantines {s : State} {tag : Nat} {x : TagS} (h : s.Quarantines tag x) : s.ctoStorm.Quarantines tag x := by
  unfold State.ctoStorm
  extract_lets ts src stormed lim
  have hstormed : stormed.Quarantines tag x := h
  split
  · exact hstormed.after (ErrorFrame.quenchCause stormed 1)
  · exact hstormed

/-- A completion timeout puts its tag into quarantine. -/
theorem State.ctoTimeout_quarantines {s : State} {tag : Nat} {x : TagS} (htag : s.hep.tags.find tag = some x)
    (hx : x.quarantined = false) (hdue : x.at_ + s.tCto ≤ s.clk) :
    (s.ctoTimeout tag).Quarantines tag { x with quarantined := true, at_ := s.clk } := by
  unfold State.ctoTimeout
  rw [htag]
  dsimp only
  rw [if_neg (by simp [hx, State.due, hdue])]
  refine State.ctoStorm_quarantines (State.readFailed_quarantines ?_ rfl _ _)
  refine State.Quarantines.after ⟨?_, ?_⟩ (ErrorFrame.hostErr _ _ _ _)
  · exact Assoc.find_ins_self _ _ _
  · exact State.rd_wr_self _ F.HEP_STATUS_CTO 1 0 0

/-- Settles O50: descriptors, grants of tags, completions, timeouts and quarantine. -/
theorem tongsReads : Obligations.TongsReads := by
  unfold Obligations.TongsReads
  refine ⟨?fetch, ?link, ?park, ?grant, ?grantDot, ?part, ?unexpected, ?failed, ?timeout, ?expiry⟩
  case fetch =>
    intro s u d ch r bs hu hch hon hfetched hkind hst
    rw [exec_descriptorFetch, execDescriptorFetch]
    refine cmd_press_eq (decide_eq_true hch) hu hon ?_
    rw [hfetched]
    exact if_pos ⟨hkind, hst⟩
  case link =>
    intro s u d ch r bs c hu hch hon hfetched hclosed hkind hst hlast
    refine ⟨(u.setTg ch { u.tg ch with
      fetched := none, closed := some { c with last := false, next := leAt bs 0 8 / 32 * 32 } }).fetchAt ch (leAt bs 0 8 / 32 * 32),
      ?_, ?_, ?_, ?_⟩
    · rw [exec_linkRefetch, execLinkRefetch]
      refine cmd_press_eq (decide_eq_true hch) hu hon ?_
      rw [hfetched, hclosed]
      dsimp only
      rw [if_pos ⟨hkind, hst⟩, hlast]
      rfl
    all_goals rw [State.fetchAt_tg, State.setTg_tg]
  case park =>
    intro s u d ch r bs c hu hch hon hfetched hclosed hkind hst hlast hrefetch
    have hpark (x : TongsS) (c' : Desc) : (u.setTg ch x).park ch c' = (u.setTg ch x).setTg ch { (u.setTg ch x).tg ch with st := 5 } :=
      if_neg (Bool.eq_false_iff.1 hrefetch)
    refine ⟨(u.setTg ch { u.tg ch with
      fetched := none, closed := some { c with last := true, next := leAt bs 0 8 / 32 * 32 } }).park ch
        { c with last := true, next := leAt bs 0 8 / 32 * 32 }, ?_, ?_, ?_, ?_, ?_⟩
    · rw [exec_linkRefetch, execLinkRefetch]
      refine cmd_press_eq (decide_eq_true hch) hu hon ?_
      rw [hfetched, hclosed]
      dsimp only
      rw [if_pos ⟨hkind, hst⟩, hlast]
      rfl
    all_goals rw [hpark]
    iterate 3 rw [State.setTg_tg, State.setTg_tg]
    rfl
  case grant =>
    intro s u d ch tg r rest hu hon hfree hlimit hturn htag hwant hkind hjtag
    obtain ⟨o, hgrant, ho⟩ := State.tagGrant_grants hfree hlimit hturn htag hwant hjtag
    refine ⟨u.tagGrant, ?_, ?_, ?_, ?_, ?_⟩
    · rw [exec_tagGrant, execTagGrant]
      exact cmd_press_eq rfl hu hon rfl
    all_goals rw [hgrant]
    · exact Assoc.find_ins_self _ _ _
    · rfl
    · exact congrArg TongsS.want (State.setTg_tg u ch _)
    · rw [ho, decide_eq_false hkind]
      rfl
  case grantDot =>
    intro s u d ch tg r rest dsc hu hon hfree hlimit hturn htag hwant hkind hdesc hjtag
    obtain ⟨o, hgrant, ho⟩ := State.tagGrant_grants hfree hlimit hturn htag hwant hjtag
    refine ⟨u.tagGrant, ?_, ?_, ?_, ?_⟩
    · rw [exec_tagGrant, execTagGrant]
      exact cmd_press_eq rfl hu hon rfl
    all_goals rw [hgrant]
    · rw [← hkind]
      exact Assoc.find_ins_self _ _ _
    · exact congrArg TongsS.want (State.setTg_tg u ch _)
    · rw [ho, decide_eq_true hkind, hdesc]
      rfl
  case part =>
    intro s u d tag data status poisoned last x hu htag hdata hon hfound hquar hstatus hpoisoned hmore
    refine ⟨u.completion tag data status poisoned last, ?_, ?_⟩
    · rw [exec_completionReceive, execCompletionReceive]
      exact cmd_powered_eq rfl hu hon rfl
    · have htake : (x.got ++ data).take x.len = x.got ++ data :=
        List.take_of_length_le (by rw [List.length_append]; omega)
      unfold State.completion
      rw [hfound]
      dsimp only
      rw [if_neg (by simp [hquar]), if_neg (by simp [hstatus]), if_neg (by simp [hpoisoned]), htake,
        if_pos (by rw [List.length_append]; exact hmore)]
      exact ⟨Assoc.find_ins_self _ _ _, rfl, rfl⟩
  case unexpected =>
    intro s u d tag data status poisoned last hu htag hdata hstatus hon hfound
    rw [exec_completionReceive, execCompletionReceive]
    refine cmd_powered_eq rfl hu hon ?_
    rw [State.completion, hfound]
  case failed =>
    intro s u d tag data status poisoned last x hu htag hdata hon hfound hquar hlow hhigh
    rw [exec_completionReceive, execCompletionReceive]
    refine cmd_powered_eq rfl hu hon ?_
    rw [State.completion, hfound]
    dsimp only
    rw [if_neg (by simp [hquar]), if_pos (by omega)]
  case timeout =>
    intro s u d tag x hu htag hon hfound hquar hdue
    refine ⟨u.ctoTimeout tag, ?_, State.ctoTimeout_quarantines hfound hquar hdue⟩
    rw [exec_completionTimeout, execCompletionTimeout]
    exact cmd_powered_eq rfl hu hon rfl
  case expiry =>
    intro s u d tag x hu htag hon hfound hquar hdue
    rw [exec_quarantineExpiry, execQuarantineExpiry]
    refine cmd_powered_eq rfl hu hon ?_
    rw [hfound]
    exact if_pos (by simp [hquar, State.due, hdue])

end Sys2Proof.Machine


/-!
PROOFS. Striker: channels carry events to tasks and balls; windows, filters, cells and counters.
-/

namespace Sys2Proof.Machine

/-! ### Instances of a field -/

namespace Assoc

variable {α β : Type}

/-- What a key gives nothing to does not change when the key is unlisted. -/
theorem filterMap_del (g : Nat × α → Option β) {k : Nat} (hg : ∀ x, g (k, x) = none) (m : Assoc α) :
    (del k m).filterMap g = m.filterMap g := by
  induction m with
  | nil => rfl
  | cons e m ih =>
    obtain ⟨k', x⟩ := e
    rw [del, List.filterMap_cons]
    split
    · next h =>
      subst h
      rw [hg x, ih]
    · rw [List.filterMap_cons, ih]

theorem filterMap_ins (g : Nat × α → Option β) {k : Nat} (hg : ∀ x, g (k, x) = none) (v : α) (m : Assoc α) :
    (ins k v m).filterMap g = m.filterMap g := by
  induction m with
  | nil => simp [ins, hg]
  | cons e m ih =>
    obtain ⟨k', x⟩ := e
    rw [ins]
    split
    · rw [List.filterMap_cons, hg v]
      exact filterMap_del g hg _
    · rw [List.filterMap_cons, ih, List.filterMap_cons]

theorem filterMap_put [DecidableEq α] (g : Nat × α → Option β) {k : Nat} (hg : ∀ x, g (k, x) = none) (v d : α) (m : Assoc α) :
    (put m k v d).filterMap g = m.filterMap g := by
  unfold put
  split
  · exact filterMap_del g hg m
  · exact filterMap_ins g hg v m

end Assoc

/-- The instances of a field do not change when another field is written. -/
theorem State.instances_wr_ne (s : State) {f g : Fld} {n k l : Nat} (h : ∀ i < n, g.key k l ≠ f.key i 0) (v x : Nat) :
    (s.wr g v k l).instances f n x = s.instances f n x := by
  refine Assoc.filterMap_put _ (fun y => if_neg ?_) _ _ _
  dsimp only
  rintro ⟨-, hlt, hkey, -⟩
  refine h _ hlt (hkey.trans ?_)
  generalize (g.key k l - (8 * f.addr + f.lo)) / (8 * f.s1) = i
  unfold Fld.key
  rw [Nat.mul_assoc, Nat.mul_comm f.s1 i]
  omega

/-! ### The consumers of a channel -/

/-- Striker's cells and latches are no registers. -/
theorem State.readersDue_setStk (s : State) (ch cycle : Nat) : ∃ x, s.readersDue ch cycle = s.setStk { s.stk with cells := x } := by
  unfold State.readersDue
  generalize (selFlds.flatMap fun f => s.instances f 256 ch) = ks
  induction ks generalizing s with
  | nil => exact ⟨s.stk.cells, rfl⟩
  | cons k ks ih =>
    obtain ⟨x, hx⟩ := ih (s.cellDue cycle k)
    exact ⟨x, hx⟩

/-- An event below the limit of the loop guard is carried. -/
theorem State.guardLoop_carries {s : State} {ch : Nat} (h : s.stk.win.getD ch 0 < 1000) (cycle : Nat) :
    ∃ x, s.guardLoop ch cycle = (true, s.setStk x) := by
  unfold State.guardLoop State.loopWindow
  dsimp only
  split_ifs with hwindow hover hover
  · exact absurd (show 1000 < 0 + 1 from hover) (by decide)
  · exact ⟨_, rfl⟩
  · omega
  · exact ⟨_, rfl⟩

/-- The vectors that a channel triggers touch one register: RESOURCE_HELD of the host port. -/
theorem State.triggerVectors_rd (s : State) (ch : Nat) {f : Fld} {i j : Nat} (hf : f.key i j ≠ F.HEP_STATUS_RESOURCE_HELD.key 0 0) :
    (s.triggerVectors ch).rd f i j = s.rd f i j := by
  have hsend (t : State) (v : Nat) : (t.triggerVector v).rd f i j = t.rd f i j := by
    unfold State.triggerVector
    split
    · rfl
    · exact State.emit_rd _ _ _ _ _
  unfold State.triggerVectors
  generalize s.vectorsOn = vs
  induction vs generalizing s with
  | nil => rfl
  | cons v vs ih =>
    rw [List.foldl_cons, ih]
    split_ifs
    · exact hsend s v
    · exact State.rd_wr_ne s hf 1
    · rfl

/-- The registers that a channel writes when it carries an event: its flag, its count and its last cycle. -/
def State.noted (s : State) (ch cycle : Nat) : State :=
  ((s.wr F.STK_WATCH_FLAG (s.rd F.STK_WATCH_FLAG (ch / 32) ||| 2 ^ (ch % 32)) (ch / 32)).inc F.STK_CH_STAT_EVENTS ch).wr
    F.STK_CH_LAST_DT cycle ch

/-- The registers that a channel writes are no register of a task or a ball. -/
theorem State.noted_instances (s : State) {ch : Nat} (hch : ch < 512) (cycle : Nat) {f : Fld} {n x : Nat}
    (hf : ∀ i < n, 8 * 0x88000 ≤ f.key i 0) : (s.noted ch cycle).instances f n x = s.instances f n x := by
  have hflag (i : Nat) (hi : i < n) : F.STK_WATCH_FLAG.key (ch / 32) 0 ≠ f.key i 0 := by
    have := hf i hi
    simp only [Fld.key, F.STK_WATCH_FLAG] at this ⊢
    omega
  have hcount (i : Nat) (hi : i < n) : F.STK_CH_STAT_EVENTS.key ch 0 ≠ f.key i 0 := by
    have := hf i hi
    simp only [Fld.key, F.STK_CH_STAT_EVENTS] at this ⊢
    omega
  have hlast (i : Nat) (hi : i < n) : F.STK_CH_LAST_DT.key ch 0 ≠ f.key i 0 := by
    have := hf i hi
    simp only [Fld.key, F.STK_CH_LAST_DT] at this ⊢
    omega
  rw [State.noted, State.instances_wr_ne _ hlast, State.inc, State.instances_wr_ne _ hcount, State.instances_wr_ne _ hflag]

theorem State.noted_rd (s : State) {ch : Nat} (hch : ch < 512) (cycle : Nat) {f : Fld} {i j : Nat} (hf : 8 * 0x88000 ≤ f.key i j) :
    (s.noted ch cycle).rd f i j = s.rd f i j := by
  unfold State.noted State.inc
  rw [State.rd_wr_ne, State.rd_wr_ne, State.rd_wr_ne]
  · simp only [Fld.key, F.STK_WATCH_FLAG] at hf ⊢
    omega
  · simp only [Fld.key, F.STK_CH_STAT_EVENTS] at hf ⊢
    omega
  · simp only [Fld.key, F.STK_CH_LAST_DT] at hf ⊢
    omega

/-- The event is counted. -/
theorem State.noted_events (s : State) {ch : Nat} (hch : ch < 512) (cycle : Nat) : (s.noted ch cycle).rd F.STK_CH_STAT_EVENTS ch
    = min (s.rd F.STK_CH_STAT_EVENTS ch + 1) (2 ^ F.STK_CH_STAT_EVENTS.w - 1) := by
  rw [State.noted, State.rd_wr_ne, State.inc, State.rd_wr_self, State.rd_wr_ne, Nat.mod_eq_of_lt]
  · exact Nat.lt_of_le_of_lt (Nat.min_le_right _ _) (by decide)
  · simp only [Fld.key, F.STK_WATCH_FLAG, F.STK_CH_STAT_EVENTS]
    omega
  · simp only [Fld.key, F.STK_CH_LAST_DT, F.STK_CH_STAT_EVENTS]
    omega

/-- The flag of the channel is set. -/
theorem State.noted_flag (s : State) {ch : Nat} (hch : ch < 512) (cycle : Nat) :
    bit ((s.noted ch cycle).rd F.STK_WATCH_FLAG (ch / 32)) (ch % 32) = 1 := by
  have hbit : ch % 32 < 32 := Nat.mod_lt _ (by decide)
  have hflag : (s.noted ch cycle).rd F.STK_WATCH_FLAG (ch / 32)
      = (s.rd F.STK_WATCH_FLAG (ch / 32) ||| 2 ^ (ch % 32)) % 2 ^ 32 := by
    rw [State.noted, State.inc, State.rd_wr_ne, State.rd_wr_ne, State.rd_wr_self]
    · rfl
    · simp only [Fld.key, F.STK_WATCH_FLAG, F.STK_CH_STAT_EVENTS]
      omega
    · simp only [Fld.key, F.STK_CH_LAST_DT, F.STK_WATCH_FLAG]
      omega
  have hset : ¬bit ((s.rd F.STK_WATCH_FLAG (ch / 32) ||| 2 ^ (ch % 32)) % 2 ^ 32) (ch % 32) = 0 := by
    rw [bit_eq_zero_iff, Nat.testBit_mod_two_pow, Nat.testBit_or, Nat.testBit_two_pow_self]
    simp [hbit]
  rw [hflag]
  exact (Nat.mod_two_eq_zero_or_one _).resolve_left hset

theorem State.noted_tasksOf (s : State) {ch : Nat} (hch : ch < 512) (cycle c : Nat) : (s.noted ch cycle).tasksOf c = s.tasksOf c := by
  unfold State.tasksOf
  rw [State.noted_instances s hch cycle (f := F.STK_TASK_EN_A) (by simp only [Fld.key, F.STK_TASK_EN_A]; omega),
    State.noted_instances s hch cycle (f := F.STK_TASK_EN_B) (by simp only [Fld.key, F.STK_TASK_EN_B]; omega)]
  have ha (k : Nat) : (s.noted ch cycle).rd F.STK_TASK_CH_A k = s.rd F.STK_TASK_CH_A k :=
    State.noted_rd s hch cycle (by simp only [Fld.key, F.STK_TASK_CH_A]; omega)
  have hb (k : Nat) : (s.noted ch cycle).rd F.STK_TASK_CH_B k = s.rd F.STK_TASK_CH_B k :=
    State.noted_rd s hch cycle (by simp only [Fld.key, F.STK_TASK_CH_B]; omega)
  simp only [ha, hb]

theorem State.noted_gpioOn (s : State) {ch : Nat} (hch : ch < 512) (cycle c : Nat) : (s.noted ch cycle).gpioOn c = s.gpioOn c := by
  unfold State.gpioOn
  have hdir (k : Nat) : (s.noted ch cycle).rd F.STK_GPIO_DIR k = s.rd F.STK_GPIO_DIR k :=
    State.noted_rd s hch cycle (by simp only [Fld.key, F.STK_GPIO_DIR]; omega)
  have hchannel (k : Nat) : (s.noted ch cycle).rd F.STK_GPIO_CHANNEL k = s.rd F.STK_GPIO_CHANNEL k :=
    State.noted_rd s hch cycle (by simp only [Fld.key, F.STK_GPIO_CHANNEL]; omega)
  simp only [hdir, hchannel]

/-- A channel that no task and no ball takes notes its event and triggers its vectors. -/
theorem State.carry_alone {s : State} {ch : Nat} (hch : ch < 512) (htasks : s.tasksOf ch = []) (hballs : s.gpioOn ch = [])
    (cycle : Nat) : s.carry ch cycle = (s.noted ch cycle).triggerVectors ch := by
  have htasks' : (s.noted ch cycle).tasksOf ch = [] := (s.noted_tasksOf hch cycle ch).trans htasks
  have hballs' : (s.noted ch cycle).gpioOn ch = [] := (s.noted_gpioOn hch cycle ch).trans hballs
  unfold State.carry
  dsimp only
  change State.triggerVectors (List.foldl State.gpioEvent
    (List.foldl (fun s t => s.taskEvent t.1 t.2 ch cycle) (s.noted ch cycle) ((s.noted ch cycle).tasksOf ch))
    (State.gpioOn (List.foldl (fun s t => s.taskEvent t.1 t.2 ch cycle) (s.noted ch cycle) ((s.noted ch cycle).tasksOf ch)) ch)) ch = _
  rw [htasks', List.foldl_nil, hballs', List.foldl_nil]

/-- A pulse of a channel that is on and below the limit of its guard is carried by its consumers. -/
theorem State.presentAt_pulse {s : State} {ch : Nat} (hon : s.chanOn ch = true) (hwin : s.stk.win.getD ch 0 < 1000) (cycle : Nat) :
    ∃ x, s.presentAt ch cycle 2 = (s.setStk x).carry ch cycle := by
  obtain ⟨x, hguard⟩ := State.guardLoop_carries hwin cycle
  unfold State.presentAt
  rw [if_neg (by simp [hon])]
  extract_lets old edge isEvent g stk carried presented
  have hevent : isEvent = true := Bool.true_or _
  have hg : g = (true, s.setStk x) := (if_pos hevent).trans hguard
  rw [if_neg (by simp [hg]), if_pos hevent]
  have hcarried : carried = (s.setStk x).setStk { x with pulses := x.pulses.put ch (cycle + 1) 0 } := by
    unfold carried
    simp only [if_pos, stk, hg]
    rfl
  obtain ⟨cells, hcells⟩ := carried.readersDue_setStk ch cycle
  have hpresented : presented = carried.setStk { carried.stk with cells := cells } := hcells
  exact ⟨_, by rw [hpresented, hcarried]; rfl⟩

/-! ### The loop guard, balls and tasks -/

/-- A host clear ends the suppression of a channel. -/
theorem State.loopClear_clears {s : State} {ch : Nat} (h : s.on F.STK_CH_STAT_LOOP ch = true) :
    (s.loopClear ch).rd F.STK_CH_STAT_LOOP ch = 0 ∧ (s.loopClear ch).stk.win.getD ch 0 = 0 := by
  unfold State.loopClear
  rw [if_pos h]
  unfold State.refreshChan
  extract_lets cleared latched stk v w presented stk' filtered
  obtain ⟨cells, hcells⟩ := filtered.readersDue_setStk ch filtered.dt
  rw [hcells]
  refine ⟨?_, ?_⟩
  · exact (State.rd_wr_apart _ (by decide) _ _ _).trans (State.rd_wr_self s F.STK_CH_STAT_LOOP 0 ch 0)
  · exact congrArg (Option.getD · 0) (Assoc.find_del_self ch s.stk.win)

/-- What a LEVEL event holds after it has been set; its channels latch it. -/
theorem State.setLevelAt_level (s : State) (e v cycle : Nat) :
    (s.setLevelAt e v cycle).level e = v ∧ (s.setLevelAt e v cycle).regs = s.regs ∧ (s.setLevelAt e v cycle).stk.pins = s.stk.pins := by
  unfold State.setLevelAt
  split
  · next h => exact ⟨h, rfl, rfl⟩
  · dsimp only
    generalize hlevels : s.setStk { s.stk with levels := s.stk.levels.put e v 0 } = t
    have ht : t.level e = v ∧ t.regs = s.regs ∧ t.stk.pins = s.stk.pins := by
      subst hlevels
      exact ⟨Assoc.getD_put_self _ _ _ _, rfl, rfl⟩
    generalize t.listeners e = chs
    clear hlevels
    induction chs generalizing t with
    | nil => exact ht
    | cons ch chs ih => exact ih _ ht

/-- One ball whose filter runs. -/
theorem State.runPins_one {s : State} {n level c : Nat} (hpins : s.stk.pins = [(n, ⟨level, some c⟩)]) :
    s.runPins = if s.dt < c then s else
      (s.setStk { s.stk with pins := [(n, ⟨level, none⟩)] }).gpioAccept n level c := by
  unfold State.runPins
  rw [hpins]
  dsimp only [List.foldl]
  split
  · rfl
  · rw [hpins, Assoc.ins, if_pos (Nat.le_refl n), Assoc.del, if_pos rfl]
    rfl

/-- A task input that is no generator's takes an order of software as its first event of a cycle. -/
theorem State.softTask_counts {s : State} {k : Nat} (hk : k < 64) (htask : (s.stk.tasks.getD k {}).n = 0)
    (hcmp : (s.rd F.STK_CNT_COUNT k + 1) % 2 ^ F.STK_CNT_COUNT.w ≠ s.rd F.STK_CNT_CMP_COMPARE k) :
    (s.softTask k).regs = (s.wr F.STK_CNT_COUNT (s.rd F.STK_CNT_COUNT k + 1) k).regs := by
  have hgen : taskGen k = none := by
    unfold taskGen
    rw [if_neg (by omega), if_neg (by omega), if_neg (by omega), if_neg (by omega)]
  have howns : s.taskOwns k 2 0 = true := by rw [State.taskOwns, hgen]
  have hnomatch {t : State} (ht : t.regs = s.regs) {cycle : Nat} : (t.taskAct k 2 cycle).regs
      = (s.wr F.STK_CNT_COUNT (s.rd F.STK_CNT_COUNT k + 1) k).regs := by
    have hrd (f : Fld) : t.rd f k = s.rd f k := by rw [State.rd, ht, State.rd]
    have hcompare : (t.wr F.STK_CNT_COUNT (t.rd F.STK_CNT_COUNT k + 1) k).rd F.STK_CNT_CMP_COMPARE k = s.rd F.STK_CNT_CMP_COMPARE k :=
      (State.rd_wr_apart t (by decide) _ _ _).trans (hrd _)
    unfold State.taskAct State.cntMatch
    rw [if_pos hk]
    dsimp only
    rw [State.rd_wr_self, hcompare, hrd, if_neg (fun h => hcmp h.2), State.wr, State.wr, ht]
  unfold State.softTask State.taskEvent
  rw [if_pos (by omega), if_neg (by simp [howns])]
  dsimp only
  rw [if_pos (by simp [htask])]
  apply hnomatch
  rfl

/-! ### Counters -/

/-- A filter of keys lists the value of a key that it keeps. -/
theorem Assoc.find_filter_key {α : Type} {p : Nat → Bool} (k : Nat) (m : Assoc α) :
    Assoc.find k (m.filter fun e => p e.1) = if p k then Assoc.find k m else none := by
  induction m with
  | nil => simp
  | cons e m ih =>
    obtain ⟨k', x⟩ := e
    by_cases hk : k = k'
    · subst hk
      by_cases hp : p k = true
      · simp [hp, Assoc.find]
      · simp [hp, ih]
    · by_cases hp : p k' = true
      · simp [hp, Assoc.find, hk, ih]
      · simp [hp, Assoc.find, hk, ih]

/-- The key of one index of a field of a one-index register, among others. -/
def Fld.isInstance (f : Fld) (n k : Nat) : Bool :=
  decide (8 * f.addr + f.lo ≤ k) && decide ((k - (8 * f.addr + f.lo)) % (8 * f.s1) = 0)
    && decide ((k - (8 * f.addr + f.lo)) / (8 * f.s1) < n)

/-- A cleared field lists none of its instances. -/
theorem State.clrField_find (s : State) (f : Fld) (n k : Nat) :
    Assoc.find k (s.clrField f n).regs = if f.isInstance n k then none else Assoc.find k s.regs := by
  refine (Assoc.find_filter_key (p := fun k => !f.isInstance n k) k s.regs).trans ?_
  cases f.isInstance n k
  · rfl
  · rfl

/-- Every index of a cleared field reads 0. -/
theorem State.clrField_zero (s : State) {f : Fld} {n i : Nat} (hf : f.zeroReset) (hi : i < n) (hs : 0 < f.s1) :
    (s.clrField f n).rd f i = 0 := by
  have hkey : f.key i 0 = 8 * f.addr + f.lo + 8 * f.s1 * i := by
    unfold Fld.key
    rw [Nat.mul_assoc, Nat.mul_comm f.s1 i]
    omega
  have hinstance : f.isInstance n (f.key i 0) = true := by
    rw [Fld.isInstance, hkey, Nat.add_sub_cancel_left, Nat.mul_mod_right, Nat.mul_div_cancel_left _ (by omega)]
    simp [hi]
  rw [State.rd, Assoc.getD, State.clrField_find, hinstance, hf]
  rfl

/-- Clearing one field keeps another at 0. -/
theorem State.clrField_keeps_zero {s : State} {g : Fld} {i : Nat} (hg : g.zeroReset) (h : s.rd g i = 0) (f : Fld) (n : Nat) :
    (s.clrField f n).rd g i = 0 := by
  rw [State.rd, Assoc.getD, hg] at h ⊢
  rw [State.clrField_find]
  split
  · rfl
  · exact h

/-- Settles O47: events of channels, windows, filters, cells and counters of Striker. -/
theorem strikerEvents : Obligations.StrikerEvents := by
  unfold Obligations.StrikerEvents
  refine ⟨?event, ?pulse, ?window, ?early, ?loop, ?filter, ?edge, ?same, ?pins, ?pulseEnd, ?task, ?noTask, ?cell, ?badCell, ?chan,
    ?clear⟩
  case event =>
    intro s u d ch l hu hch hon hfound
    rw [exec_channelEvent, execChannelEvent]
    refine cmd_press_eq (decide_eq_true hch) hu hon ?_
    rw [State.channelEvent, hfound]
  case pulse =>
    intro s u d ch cyc hu hch hon hfound hchan htasks hballs hwin
    obtain ⟨x, hpresent⟩ := State.presentAt_pulse (s := u.setStk { u.stk with latched := u.stk.latched.erase (ch, cyc, 2) }) hchan hwin cyc
    have hcarry : u.channelEvent ch = ((u.setStk x).noted ch cyc).triggerVectors ch := by
      rw [State.channelEvent, hfound]
      exact hpresent.trans (State.carry_alone (s := u.setStk x) hch htasks hballs cyc)
    refine ⟨u.channelEvent ch, ?_, ?_, ?_, ?_⟩
    · rw [exec_channelEvent, execChannelEvent]
      exact cmd_press_eq (decide_eq_true hch) hu hon rfl
    all_goals rw [hcarry, State.triggerVectors_rd]
    · exact State.noted_events _ hch cyc
    · simp only [Fld.key, F.STK_CH_STAT_EVENTS, F.HEP_STATUS_RESOURCE_HELD]
      omega
    · exact State.rd_wr_self _ F.STK_CH_LAST_DT cyc ch 0
    · simp only [Fld.key, F.STK_CH_LAST_DT, F.HEP_STATUS_RESOURCE_HELD]
      omega
    · exact State.noted_flag _ hch cyc
    · simp only [Fld.key, F.STK_WATCH_FLAG, F.HEP_STATUS_RESOURCE_HELD]
      omega
  case window =>
    intro s u d hu hon hpast
    rw [exec_loopWindowEnd, execLoopWindowEnd]
    exact cmd_press_eq rfl hu hon (if_pos hpast)
  case early =>
    intro s u d hu hon hwithin
    rw [exec_loopWindowEnd, execLoopWindowEnd]
    exact cmd_press_eq rfl hu hon (if_neg (by omega))
  case loop =>
    intro s u d ch hu hch ho hloop
    exact ⟨u.loopClear ch, cmd_hostWrite_eq (decide_eq_true hch) hu ho rfl, State.loopClear_clears hloop⟩
  case filter =>
    intro s u d k c hu hk hon hfilter hc
    rw [exec_cellFilterExpiry, execCellFilterExpiry]
    refine cmd_press_eq (decide_eq_true hk) hu hon ?_
    rw [hfilter]
    exact if_pos hc
  case edge =>
    intro s u d n level hu hn hlevel hon hmoved
    rw [exec_gpioInputEdge, execGpioInputEdge]
    refine cmd_press_eq (decide_eq_true hn) hu hon ?_
    rw [Nat.mod_eq_of_lt hlevel]
    exact if_neg hmoved
  case same =>
    intro s u d n level hu hn hlevel hon hsame
    rw [exec_gpioInputEdge, execGpioInputEdge]
    refine cmd_press_eq (decide_eq_true hn) hu hon ?_
    rw [Nat.mod_eq_of_lt hlevel]
    exact if_pos hsame
  case pins =>
    intro u n level c hpins
    rw [State.runPins_one hpins]
    refine ⟨fun hc => ?_, fun hc => if_pos hc⟩
    rw [if_neg (by omega)]
    obtain ⟨hlevel, hregs, hrest⟩ := State.setLevelAt_level
      ((u.setStk { u.stk with pins := [(n, ⟨level, none⟩)] }).wr F.STK_GPIO_STAT_IN ((level + u.rd F.STK_GPIO_POL n) % 2) n)
      (ev 0x19 n) ((level + u.rd F.STK_GPIO_POL n) % 2) (c + 1)
    refine ⟨?_, hrest, hlevel⟩
    refine (congrArg (fun r => Assoc.getD r (F.STK_GPIO_STAT_IN.key n 0) 0) hregs).trans ?_
    exact (State.rd_wr_self _ F.STK_GPIO_STAT_IN _ n 0).trans (Nat.mod_mod _ 2)
  case pulseEnd =>
    intro s u d n e hu hn hon hfound he
    rw [exec_gpioPulseEnd, execGpioPulseEnd]
    refine cmd_press_eq (decide_eq_true hn) hu hon ?_
    rw [hfound]
    exact if_pos he
  case task =>
    intro s u d k hu hk ho htask hcmp
    have hregs := State.softTask_counts hk htask hcmp
    refine ⟨u.softTask k, ?_, ?_, hregs⟩
    · rw [exec_softwareTask, execSoftwareTask]
      refine cmd_hostWrite_eq rfl hu ho ?_
      rw [Nat.mod_eq_of_lt (by omega)]
    · exact (congrArg (fun r => Assoc.getD r (F.STK_CNT_COUNT.key k 0) 0) hregs).trans (State.rd_wr_self u F.STK_CNT_COUNT _ k 0)
  case noTask =>
    intro s u d k hu hk hlow ho
    rw [exec_softwareTask, execSoftwareTask]
    refine cmd_hostWrite_eq rfl hu ho ?_
    rw [Nat.mod_eq_of_lt hk]
    exact if_neg (by omega)
  case cell =>
    intro s u d i v hu hi hv ho
    rw [exec_cellConfigWrite, execCellConfigWrite]
    simp only [↓reduceIte]
    exact cmd_hostWrite_eq (decide_eq_true hi) hu ho rfl
  case badCell =>
    intro s u d i v hu hi hv ho hsel hreg
    rw [exec_cellConfigWrite, execCellConfigWrite]
    simp only [↓reduceIte]
    refine cmd_hostWrite_eq (decide_eq_true hi) hu ho (if_pos ?_)
    simp [hsel, hreg, selOk]
  case chan =>
    intro s u d i v hu hi hv ho
    rw [exec_cellConfigWrite, execCellConfigWrite]
    simp only [↓reduceIte, Bool.false_eq_true]
    exact cmd_hostWrite_eq (decide_eq_true hi) hu ho rfl
  case clear =>
    intro s u d ch k hu ho hch hk
    have hevents : F.STK_CH_STAT_EVENTS.zeroReset := fun _ _ => rfl
    have hmerged : F.STK_CH_STAT_MERGED.zeroReset := fun _ _ => rfl
    have hoverruns : F.STK_TASK_STAT_OVERRUNS.zeroReset := fun _ _ => rfl
    have hcoincide : F.STK_TASK_STAT_COINCIDE.zeroReset := fun _ _ => rfl
    refine ⟨u.stkClear, cmd_hostWrite_eq rfl hu ho rfl, ?_, ?_, ?_, ?_, rfl⟩
    · exact State.clrField_keeps_zero hevents (State.clrField_keeps_zero hevents (State.clrField_keeps_zero hevents
        (State.clrField_zero u hevents hch (by decide)) _ _) _ _) _ _
    · exact State.clrField_keeps_zero hmerged (State.clrField_keeps_zero hmerged
        (State.clrField_zero _ hmerged hch (by decide)) _ _) _ _
    · exact State.clrField_keeps_zero hoverruns (State.clrField_zero _ hoverruns hk (by decide)) _ _
    · exact State.clrField_zero _ hcoincide hk (by decide)

end Sys2Proof.Machine


/-!
PROOFS. Fire points, latch loads and the dot store of a Hammer channel, and the over-temperature holds of a print group.
-/

namespace Sys2Proof.Machine

/-! ### Latch loads -/

/-- A latch load for which no fire point waits begins and shifts. -/
theorem State.startLoads_idle {s : State} {c t : Nat} (h : (s.hm c).pend = []) : s.startLoads c t = (s.beginLoad c t).shiftLoad c := by
  rw [State.startLoads, h]
  rfl

@[simp] theorem State.setHm_hm (s : State) (c : Nat) (x : HammerS) : (s.setHm c x).hm c = x := Assoc.getD_put_self _ _ _ _

/-- The fields that HAMMER_CLEAR_COUNTS clears. -/
def hammerCounters : List Fld :=
  [F.HAMMER_FIRED_FIRED, F.HAMMER_CNT_UNDERRUNS, F.HAMMER_CNT_SEQ_ERRS, F.HAMMER_CNT_LATE_LINES, F.HAMMER_CNT_FORCED,
    F.HAMMER_CNT2_HELD, F.HAMMER_CNT2_WRONG_DIR, F.HAMMER_CNT2_LATE]

theorem hammerCounters_zero : ∀ f ∈ hammerCounters, f.zeroReset := by
  simp [hammerCounters, Fld.zeroReset, F.HAMMER_FIRED_FIRED, F.HAMMER_CNT_UNDERRUNS, F.HAMMER_CNT_SEQ_ERRS, F.HAMMER_CNT_LATE_LINES,
    F.HAMMER_CNT_FORCED, F.HAMMER_CNT2_HELD, F.HAMMER_CNT2_WRONG_DIR, F.HAMMER_CNT2_LATE]

/-- Settles O41: fire points, latch loads, the flush and the counters of a Hammer channel. -/
theorem firePoints : Obligations.FirePoints := by
  unfold Obligations.FirePoints
  refine ⟨?issue, ?frozen, ?load, ?early, ?pulse, ?flush, ?armed, ?clear⟩
  case issue =>
    intro s u d c cr rest hu hc hon hwaiting hdue hskipped hfrozen
    rw [exec_firePointIssue, execFirePointIssue]
    refine cmd_press_eq (decide_eq_true hc) hu hon ?_
    have hstate : decide (u.rd F.AXIS_STATUS_STATE (u.genAxis .fire c) = 2) = false := hfrozen
    dsimp only
    rw [hwaiting]
    dsimp only
    rw [if_neg (by omega), hskipped, hstate]
    rfl
  case frozen =>
    intro s u d c cr rest hu hc hon hwaiting hdue hskipped hfrozen
    rw [exec_firePointIssue, execFirePointIssue]
    refine cmd_press_eq (decide_eq_true hc) hu hon ?_
    have hstate : decide (u.rd F.AXIS_STATUS_STATE (u.genAxis .fire c) = 2) = true := hfrozen
    dsimp only
    rw [hwaiting]
    dsimp only
    rw [if_neg (by omega), hskipped, hstate]
    rfl
  case load =>
    intro s u d c t0 hu hc hon hload hdue hpend
    rw [exec_latchLoadBegin, execLatchLoadBegin]
    refine cmd_press_eq (decide_eq_true hc) hu hon ?_
    dsimp only [List.foldl_nil]
    rw [hload]
    exact (if_pos hdue).trans (State.startLoads_idle hpend)
  case early =>
    intro s u d c t0 hu hc hon hload hearly
    rw [exec_latchLoadBegin, execLatchLoadBegin]
    refine cmd_press_eq (decide_eq_true hc) hu hon ?_
    dsimp only [List.foldl_nil]
    rw [hload]
    exact if_neg (by omega)
  case pulse =>
    intro s u d c t0 hu hc hon hload hdue hnext hpend
    rw [exec_latchPulseEnd, execLatchPulseEnd]
    refine cmd_press_eq (decide_eq_true hc) hu hon ?_
    rw [hload]
    exact (if_pos ⟨hdue, hnext⟩).trans (State.startLoads_idle hpend)
  case flush =>
    intro s u d c hu hc ho hon harmed
    have hflush : u.hammerFlush c = (u.setHm c { u.hm c with
        slots := (u.hm c).slots.filter (fun e => e.2.state ≠ 1), writing := none, flushes := (u.hm c).flushes + 1 }).wr
        F.HAMMER_WR_INDEX (u.rd F.HAMMER_NEXT_INDEX c) c := if_neg (by simp [harmed])
    refine ⟨u.hammerFlush c, ?_, ?_, ?_, ?_⟩
    · rw [exec_hammerFlush, execHammerFlush]
      exact cmd_hostHold_eq (decide_eq_true hc) hu ho (State.press_on hon _)
    all_goals rw [hflush]
    · exact State.rd_wr_self _ F.HAMMER_WR_INDEX _ c 0
    · exact State.setHm_hm u c _
    · rfl
  case armed =>
    intro s u d c hu hc ho hon harmed
    rw [exec_hammerFlush, execHammerFlush]
    exact cmd_hostHold_eq (decide_eq_true hc) hu ho ((State.press_on hon _).trans (if_pos harmed))
  case clear =>
    intro s u d c hu hc ho
    have hzero : ∀ f ∈ hammerCounters, (u.hammerClear c).rd f c = 0 := fun f hf =>
      State.clrAll_zero hammerCounters hammerCounters_zero hf
    refine ⟨u.hammerClear c, cmd_hostHold_eq (decide_eq_true hc) hu ho rfl, ?_, ?_, ?_, ?_, ?_, ?_, ?_, ?_⟩
    iterate 7 exact hzero _ (by simp [hammerCounters])
    exact (congrArg State.hammer (u.clrAll_regsOnly hammerCounters c 0).eq).trans rfl

end Sys2Proof.Machine


/-!
PROOFS. A hot head holds its print group, and the group resumes when it is cool.
-/

namespace Sys2Proof.Machine

/-! ### Print groups beside their registers -/

@[simp] theorem State.setGrp_grp (s : State) (g : Nat) (x : HgrpS) : (s.setGrp g x).grp g = x := Assoc.getD_put_self _ _ _ _

@[simp] theorem State.alert_hgrp (s : State) (b : Nat) : (s.alert b).hgrp = s.hgrp := by
  unfold State.alert
  dsimp only
  split
  · rfl
  · rfl

theorem State.alert_rd (s : State) (b : Nat) {f : Fld} {i j : Nat} (hf : f.key i j ≠ F.SMB_ALERT_SRC.key 0 0) :
    (s.alert b).rd f i j = s.rd f i j := by
  unfold State.alert
  dsimp only
  split
  · exact State.rd_wr_ne s hf _
  · exact State.rd_wr_ne s hf _

/-! ### The filter of HD_HOT_N -/

/-- A level that the pin has already needs no sample. -/
theorem State.samplePin_same {s : State} {c : Nat} {high : Bool} (h : (s.hm c).pinHigh = high) : s.samplePin c high = s := if_pos h

/-- A level just sampled is not accepted yet. -/
theorem State.pinAccepted_new (s : State) (c : Nat) (high : Bool) :
    (s.setHm c { s.hm c with pinHigh := high, pinAt := s.clk }).pinAccepted c = false := by
  unfold State.pinAccepted State.due
  rw [State.setHm_hm]
  exact decide_eq_false (by simp)

theorem State.samplePin_moved {s : State} {c : Nat} {high : Bool} (h : (s.hm c).pinHigh ≠ high) :
    s.samplePin c high = s.setHm c { s.hm c with pinHigh := high, pinAt := s.clk } := if_neg h

/-! ### The hold of a print group -/

/-- A field of a print group or a Hammer channel lies above Striker and is not ALERT_SRC. -/
theorem hammerKey_high {f : Fld} (hf : 0x1400000 ≤ f.addr) (i j : Nat) :
    8 * 0x90000 ≤ f.key i j ∧ f.key i j ≠ F.SMB_ALERT_SRC.key 0 0 := by
  simp only [Fld.key, F.SMB_ALERT_SRC]
  omega

/-- The channel is hot, and its event is raised. -/
def State.hotMarked (s : State) (c : Nat) : State :=
  ((s.wr F.HAMMER_STATE_HOT 1 c).flag F.HAMMER_STATUS_HOT_SEEN c).raise (ev 0x0D c)

theorem State.hotMarked_rd (s : State) (c : Nat) {f : Fld} (hf : 0x1400000 ≤ f.addr) (i j : Nat) :
    (s.hotMarked c).rd f i j = ((s.wr F.HAMMER_STATE_HOT 1 c).wr F.HAMMER_STATUS_HOT_SEEN 1 c).rd f i j :=
  State.raise_rd _ _ f i j (.inr (hammerKey_high hf i j).1)

/-- What a group holds once its first channel is hot. -/
def HgrpS.hold (y : HgrpS) (c dt : Nat) : HgrpS :=
  { y with hotMask := 2 ^ c, held := 0, heldFrom := dt + 40, resumeAt := none, heldInPass := y.heldInPass || y.pass.isSome }

/-- The first hot channel of a group that fires takes it into HOLD. -/
theorem State.headHot_holds {s : State} {c : Nat} (h : s.rd F.HGRP_PASS_MODE (s.grpOf c) < 2) :
    ∃ x, s.headHot c = ((((((s.hotMarked c).setGrp (s.grpOf c) ((s.grp (s.grpOf c)).hold c s.dt)).setHm c x).wr
      F.HGRP_PASS_MODE 2 (s.grpOf c)).flag F.HGRP_STATUS_HOLD (s.grpOf c)).wr F.HGRP_HOLD_HOLD_DT s.dt (s.grpOf c)
      |>.raise (ev 0x10 (s.grpOf c))).alert 7 := by
  generalize hg : s.grpOf c = g at h ⊢
  have hmode : (s.hotMarked c).rd F.HGRP_PASS_MODE g = s.rd F.HGRP_PASS_MODE g := by
    rw [State.hotMarked_rd s c (by decide), State.rd_wr_ne, State.rd_wr_ne]
    · simp only [Fld.key, F.HAMMER_STATE_HOT, F.HGRP_PASS_MODE]
      omega
    · simp only [Fld.key, F.HAMMER_STATUS_HOT_SEEN, F.HGRP_PASS_MODE]
      omega
  have hgrp : (s.hotMarked c).grp g = s.grp g := by
    rw [State.grp, State.hotMarked, State.raise_hgrp]
    rfl
  have hdt : (s.hotMarked c).dt = s.dt := State.raise_dt _ _
  unfold State.headHot
  dsimp only
  rw [hg]
  change ∃ x, (if (s.hotMarked c).rd F.HGRP_PASS_MODE g < 2 then
    ((((((s.hotMarked c).setGrp g (((s.hotMarked c).grp g).hold c (s.hotMarked c).dt)).setHm c _).wr
      F.HGRP_PASS_MODE 2 g).flag F.HGRP_STATUS_HOLD g).wr F.HGRP_HOLD_HOLD_DT (s.hotMarked c).dt g |>.raise (ev 0x10 g)).alert 7
    else _) = _
  rw [hmode, if_pos h, hgrp, hdt]
  exact ⟨_, rfl⟩

/-- What the fields of channels and groups read once a group has entered HOLD. -/
theorem State.headHot_rd {s : State} {c : Nat} (h : s.rd F.HGRP_PASS_MODE (s.grpOf c) < 2) {f : Fld} (hf : 0x1400000 ≤ f.addr)
    (i j : Nat) : (s.headHot c).rd f i j = (((s.hotMarked c).wr F.HGRP_PASS_MODE 2 (s.grpOf c)).wr F.HGRP_STATUS_HOLD 1 (s.grpOf c)
      |>.wr F.HGRP_HOLD_HOLD_DT s.dt (s.grpOf c)).rd f i j := by
  obtain ⟨x, hx⟩ := State.headHot_holds h
  obtain ⟨hhigh, hne⟩ := hammerKey_high hf i j
  rw [hx, State.alert_rd _ _ hne, State.raise_rd _ _ _ _ _ (.inr hhigh)]
  rfl

/-- The registers of a group are no registers of a channel. -/
theorem State.rd_wr_group (s : State) {f g : Fld} (hf : f.addr % 0x10000 < 0x7000 ∧ f.s1 = 0x10000 ∧ f.lo < 64 := by decide)
    (hg : 0x8000 ≤ g.addr % 0x10000 ∧ g.addr % 0x10000 < 0xF000 ∧ g.s1 = 0x10000 ∧ g.lo < 64 := by decide) (v i k : Nat) :
    (s.wr g v k).rd f i = s.rd f i := by
  apply State.rd_wr_ne
  obtain ⟨hf1, hf2, hf3⟩ := hf
  obtain ⟨hg1, hg2, hg3, hg4⟩ := hg
  unfold Fld.key
  rw [hf2, hg3]
  omega

/-! ### The resumption of a print group -/

/-- A safe point of a function writes FUNC_MODE and Striker, and what its requests need. -/
theorem State.settleMode_frame (s : State) {f : Nat} (hf : f ≤ 9) : (s.settleMode f).dcs = s.dcs ∧ (s.settleMode f).hgrp = s.hgrp
    ∧ ∀ (g : Fld) (i j : Nat), 8 * 0x90000 ≤ g.key i j → (s.settleMode f).rd g i j = s.rd g i j := by
  have hne {m g : Fld} {i j : Nat} (hm : m.addr = 0x10100 ∧ m.s1 = 4 ∧ m.lo < 32) (hg : 8 * 0x90000 ≤ g.key i j) :
      g.key i j ≠ m.key f 0 := by
    obtain ⟨h1, h2, h3⟩ := hm
    intro h
    rw [h, Fld.key, h1, h2] at hg
    omega
  unfold State.settleMode
  split
  · exact ⟨rfl, rfl, fun g i j hg => State.rd_wr_ne s (hne (by decide) hg) 1⟩
  · extract_lets want moved written modes settled
    have hwritten (g : Fld) (i j : Nat) (hg : 8 * 0x90000 ≤ g.key i j) : written.rd g i j = s.rd g i j := by
      unfold written
      rw [State.rd_wr_ne _ (hne (by decide) hg), State.rd_wr_ne _ (hne (by decide) hg)]
    split
    · exact ⟨State.raise_dcs _ _, State.raise_hgrp _ _, fun g i j hg => (State.raise_rd _ _ g i j (.inr hg)).trans (hwritten g i j hg)⟩
    · exact ⟨rfl, rfl, hwritten⟩

/-- No request of function 0x09 of a print group is open. -/
def State.noGrpRequest (s : State) (g : Nat) : Prop := ∀ r ∈ s.dcs.open_, ¬(r.func = 9 ∧ leAt r.proposal 0 1 = g)

theorem State.closeGrp_noGrpRequest (s : State) (g : Nat) : (s.closeGrp g).noGrpRequest g := fun _ hr =>
  of_decide_eq_false ((Bool.not_eq_true' _).mp (List.mem_filter.1 hr).2)

/-- The safe point of a group that fires again keeps what the group has become. -/
theorem State.safePoint_closed {s : State} {g : Nat} (h : s.noGrpRequest g) :
    (s.safePoint 9 g fun s => s.closeGrp g).noGrpRequest g
      ∧ (s.safePoint 9 g fun s => s.closeGrp g).hgrp = s.hgrp
      ∧ ∀ (f : Fld) (i j : Nat), 8 * 0x90000 ≤ f.key i j → (s.safePoint 9 g fun s => s.closeGrp g).rd f i j = s.rd f i j := by
  have hsettle {t : State} (ht : t.noGrpRequest g ∧ t.hgrp = s.hgrp ∧ t.regs = s.regs) :
      (t.settleMode 9).noGrpRequest g ∧ (t.settleMode 9).hgrp = s.hgrp
        ∧ ∀ (f : Fld) (i j : Nat), 8 * 0x90000 ≤ f.key i j → (t.settleMode 9).rd f i j = s.rd f i j := by
    obtain ⟨hopen, hgrp, hregs⟩ := ht
    obtain ⟨hdcs, hkept, hrd⟩ := t.settleMode_frame (f := 9) (by decide)
    refine ⟨?_, hkept.trans hgrp, fun f i j hf => (hrd f i j hf).trans (by rw [State.rd, hregs, State.rd])⟩
    unfold State.noGrpRequest
    rw [hdcs]
    exact hopen
  unfold State.safePoint
  dsimp only
  split_ifs
  · exact hsettle ⟨State.closeGrp_noGrpRequest _ g, rfl, rfl⟩
  · exact hsettle ⟨h, rfl, rfl⟩
  · exact ⟨h, rfl, fun _ _ _ _ => rfl⟩

/-- A group resumes: PASS_MODE, RESUMED, no delay and no request of its own. -/
theorem State.grpResume_resumes (s : State) (g : Nat) :
    (s.grpResume g).rd F.HGRP_PASS_MODE g = 0 ∧ (s.grpResume g).rd F.HGRP_STATUS_RESUMED g = 1
      ∧ ((s.grpResume g).grp g).resumeAt = none ∧ (s.grpResume g).noGrpRequest g := by
  unfold State.grpResume
  extract_lets marked y closed free
  have hfree : free.dcs = closed.dcs ∧ free.hgrp = closed.hgrp ∧ free.regs = closed.regs := by
    unfold free
    generalize closed.groupChannels g = cs
    clear_value closed
    induction cs generalizing closed with
    | nil => exact ⟨rfl, rfl, rfl⟩
    | cons c cs ih => exact ih _
  obtain ⟨hdcs, hgrp, hregs⟩ := hfree
  have hopen : (free.raise (ev 0x11 g)).noGrpRequest g := by
    unfold State.noGrpRequest
    rw [State.raise_dcs, hdcs]
    exact State.closeGrp_noGrpRequest _ g
  obtain ⟨hnone, hkept, hrd⟩ := State.safePoint_closed hopen
  have hread (f : Fld) (hf : 8 * 0x90000 ≤ f.key g 0) :
      ((free.raise (ev 0x11 g)).safePoint 9 g fun s => s.closeGrp g).rd f g = ((s.wr F.HGRP_PASS_MODE 0 g).wr F.HGRP_STATUS_RESUMED 1 g).rd f g := by
    rw [hrd f g 0 hf, State.raise_rd _ _ _ _ _ (.inr hf), State.rd, hregs]
    rfl
  refine ⟨?_, ?_, ?_, hnone⟩
  · rw [hread _ (hammerKey_high (by decide) g 0).1, State.rd_wr_apart _ (by decide)]
    exact State.rd_wr_self _ F.HGRP_PASS_MODE 0 g 0
  · rw [hread _ (hammerKey_high (by decide) g 0).1]
    exact State.rd_wr_self _ F.HGRP_STATUS_RESUMED 1 g 0
  · rw [State.grp, hkept, State.raise_hgrp, hgrp]
    exact congrArg HgrpS.resumeAt (State.setGrp_grp marked g _)

/-- Settles O42: the filter of HD_HOT_N, the hold, and the resumption of a group. -/
theorem headTemperature : Obligations.HeadTemperature := by
  unfold Obligations.HeadTemperature
  refine ⟨?hot, ?falls, ?rises, ?early, ?cool, ?delay, ?resume, ?notHeld⟩
  case hot =>
    intro s u d c hu hc hon hen hhot hpin hdue hmode
    refine ⟨u.headHot c, ?_, ?_, ?_, ?_, ?_, ?_, ?_⟩
    · rw [exec_headHotAccept, execHeadHotAccept]
      refine cmd_press_eq (decide_eq_true hc) hu hon ?_
      rw [if_neg (by simp [hen]), State.samplePin_same hpin]
      exact if_pos (by simp [hhot, State.pinAccepted, State.due, hdue])
    · rw [State.headHot_rd hmode (by decide), State.rd_wr_group, State.rd_wr_group, State.rd_wr_group, State.hotMarked_rd _ _ (by decide),
        State.rd_wr_apart _ (by decide)]
      exact State.rd_wr_self _ F.HAMMER_STATE_HOT 1 c 0
    · rw [State.headHot_rd hmode (by decide), State.rd_wr_group, State.rd_wr_group, State.rd_wr_group, State.hotMarked_rd _ _ (by decide)]
      exact State.rd_wr_self _ F.HAMMER_STATUS_HOT_SEEN 1 c 0
    · rw [State.headHot_rd hmode (by decide), State.rd_wr_apart _ (by decide), State.rd_wr_apart _ (by decide)]
      exact State.rd_wr_self _ F.HGRP_PASS_MODE 2 _ 0
    · rw [State.headHot_rd hmode (by decide), State.rd_wr_apart _ (by decide)]
      exact State.rd_wr_self _ F.HGRP_STATUS_HOLD 1 _ 0
    · rw [State.headHot_rd hmode (by decide)]
      exact State.rd_wr_self _ F.HGRP_HOLD_HOLD_DT _ _ 0
    · obtain ⟨x, hhead⟩ := State.headHot_holds hmode
      rw [hhead, State.grp, State.alert_hgrp, State.raise_hgrp]
      exact State.setGrp_grp _ _ _
  case falls =>
    intro s u d c hu hc hon hen hpin
    rw [exec_headHotAccept, execHeadHotAccept]
    refine cmd_press_eq (decide_eq_true hc) hu hon ?_
    rw [if_neg (by simp [hen]), State.samplePin_moved (by simp [hpin])]
    exact if_neg (by rw [State.pinAccepted_new, Bool.and_false]; decide)
  case rises =>
    intro s u d c hu hc hon hen hpin
    rw [exec_headCoolAccept, execHeadCoolAccept]
    refine cmd_press_eq (decide_eq_true hc) hu hon ?_
    rw [if_neg (by simp [hen]), State.samplePin_moved (by simp [hpin])]
    exact if_neg (by rw [State.pinAccepted_new, Bool.and_false]; decide)
  case early =>
    intro s u d c hu hc hon hen hearly
    have haccepted : u.pinAccepted c = false := decide_eq_false (by omega)
    refine ⟨fun hpin => ?_, fun hpin => ?_⟩
    · rw [exec_headHotAccept, execHeadHotAccept]
      refine cmd_press_eq (decide_eq_true hc) hu hon ?_
      rw [if_neg (by simp [hen]), State.samplePin_same hpin]
      exact if_neg (by simp [haccepted])
    · rw [exec_headCoolAccept, execHeadCoolAccept]
      refine cmd_press_eq (decide_eq_true hc) hu hon ?_
      rw [if_neg (by simp [hen]), State.samplePin_same hpin]
      exact if_neg (by simp [haccepted])
  case cool =>
    intro s u d c hu hc hon hen hhot hpin hdue
    rw [exec_headCoolAccept, execHeadCoolAccept]
    refine cmd_press_eq (decide_eq_true hc) hu hon ?_
    rw [if_neg (by simp [hen]), State.samplePin_same hpin]
    exact if_pos (by simp [hhot, State.pinAccepted, State.due, hdue])
  case delay =>
    intro s u d g t0 hu hg hon hresume hdue
    rw [exec_resumeDelayExpiry, execResumeDelayExpiry]
    refine cmd_press_eq (decide_eq_true hg) hu hon ?_
    rw [hresume]
    exact if_pos hdue
  case resume =>
    intro s u d g hu hg ho hon hmode
    have hresume : u.grpResumeWrite g = u.grpResume g := if_pos hmode
    refine ⟨u.grpResumeWrite g, ?_, ?_⟩
    · rw [exec_hgrpResume, execHgrpResume]
      exact cmd_hostHold_eq (decide_eq_true hg) hu ho (State.press_on hon _)
    · rw [hresume]
      exact u.grpResume_resumes g
  case notHeld =>
    intro s u d g hu hg ho hon hmode
    rw [exec_hgrpResume, execHgrpResume]
    exact cmd_hostHold_eq (decide_eq_true hg) hu ho ((State.press_on hon _).trans (if_neg hmode))

end Sys2Proof.Machine


/-!
PROOFS. Writes, evidence, head reset and snapshots of a nozzle-context store.
-/

namespace Sys2Proof.Machine

/-- Evidence is discarded while EV_EN is 0. -/
theorem State.evApply_disabled {s : State} {c : Nat} (h : s.on F.NCTX_CFG_EV_EN c = false) (m : EvMsg) :
    s.evApply c m = s.inc F.NCTX_EVCNT_DISCARDED c := if_pos (by simp [h])

/-- The bits of a word lie below the power of their number. -/
theorem bits_lt (v hi lo : Nat) : bits v hi lo < 2 ^ (hi + 1 - lo) := Nat.mod_lt _ (Nat.two_pow_pos _)

/-- A context write that keeps STATE and HMASK restarts the evidence. -/
theorem State.contextWrite_evidence {s : State} {c n v : Nat} (hn : n < s.nozzles c) (hst : bits v 2 0 < 4)
    (hstate : bits v 2 0 = s.rd F.NCTX_STATE c n) (hmask : bits v 4 3 = s.rd F.NCTX_HMASK c n) :
    s.contextWrite c n 8 v = ((s.wr F.NCTX_EV_FIRED (bits v 39 24) c n).wr F.NCTX_EV_MISS (bits v 51 40) c n).wr
      F.NCTX_EV_WEAK (bits v 63 52) c n := by
  unfold State.contextWrite
  rw [if_neg (by omega), if_neg (by omega)]
  exact if_pos ⟨hstate, hmask⟩

/-- The fields that NCTX_CLEAR_COUNTS clears. -/
def nozzleCounters : List Fld :=
  [F.NCTX_DROPS_CLIPPED, F.NCTX_DROPS_EXCL_LEVELS, F.NCTX_DROPS_UNCOMP_LEVELS, F.NCTX_EVCNT_ACCEPTED, F.NCTX_EVCNT_DISCARDED]

theorem nozzleCounters_zero : ∀ f ∈ nozzleCounters, f.zeroReset := by
  simp [nozzleCounters, Fld.zeroReset, F.NCTX_DROPS_CLIPPED, F.NCTX_DROPS_EXCL_LEVELS, F.NCTX_DROPS_UNCOMP_LEVELS,
    F.NCTX_EVCNT_ACCEPTED, F.NCTX_EVCNT_DISCARDED]

/-- Settles O43: evidence, context writes, sweeps, head resets and snapshots. -/
theorem nozzleContexts : Obligations.NozzleContexts := by
  unfold Obligations.NozzleContexts
  refine ⟨?discard, ?apply, ?same, ?bad, ?change, ?beyond, ?sweep, ?young, ?reset, ?locked, ?snapshot, ?periodic, ?clear⟩
  case discard =>
    intro s u d c i m hu hc hon hmsg hoff
    rw [exec_evidenceMessage, execEvidenceMessage]
    refine cmd_press_eq (decide_eq_true hc) hu hon ?_
    dsimp only
    rw [hmsg]
    refine State.evApply_disabled ?_ m
    exact hoff
  case apply =>
    intro s u d c i m hu hc hon hmsg
    rw [exec_evidenceMessage, execEvidenceMessage]
    refine cmd_press_eq (decide_eq_true hc) hu hon ?_
    dsimp only
    rw [hmsg]
  case same =>
    intro s u d c n v hu hc hn ho hnoz hv hst hstate hmask
    refine ⟨u.contextWrite c n 8 v, ?_, ?_, ?_, ?_, ?_, ?_⟩
    · rw [exec_contextWrite, execContextWrite]
      exact cmd_hostWrite_eq (by simp [hc, hn]) hu ho rfl
    all_goals rw [State.contextWrite_evidence hnoz hst hstate hmask]
    · rw [State.rd_wr_apart _ (by decide), State.rd_wr_apart _ (by decide), State.rd_wr_self]
      exact Nat.mod_eq_of_lt (bits_lt v 39 24)
    · rw [State.rd_wr_apart _ (by decide), State.rd_wr_self]
      exact Nat.mod_eq_of_lt (bits_lt v 51 40)
    · rw [State.rd_wr_self]
      exact Nat.mod_eq_of_lt (bits_lt v 63 52)
    · rw [State.rd_wr_apart _ (by decide), State.rd_wr_apart _ (by decide), State.rd_wr_apart _ (by decide)]
    · have hkey {f : Fld} (hf : 0x1800000 ≤ f.addr) : F.NCTX_GEN_CTX_GEN.key c 0 ≠ f.key c n := by
        simp only [Fld.key, F.NCTX_GEN_CTX_GEN]
        omega
      rw [State.rd_wr_ne _ (hkey (by decide)), State.rd_wr_ne _ (hkey (by decide)), State.rd_wr_ne _ (hkey (by decide))]
  case bad =>
    intro s u d c n size v hu hc hn ho hnoz hbad
    rw [exec_contextWrite, execContextWrite]
    refine cmd_hostWrite_eq (by simp [hc, hn]) hu ho ?_
    unfold State.contextWrite
    rw [if_neg (by omega), if_pos hbad]
  case change =>
    intro s u d c n v hu hc hn ho hnoz hv hst hchange
    rw [exec_contextWrite, execContextWrite]
    refine cmd_hostWrite_eq (by simp [hc, hn]) hu ho ?_
    unfold State.contextWrite
    rw [if_neg (by omega), if_neg (by omega)]
    exact if_neg (fun h => hchange.elim (fun hne => hne h.1) (fun hne => hne h.2))
  case beyond =>
    intro s u d c n size v hu hc hn ho hnoz
    rw [exec_contextWrite, execContextWrite]
    exact cmd_hostWrite_eq (by simp [hc, hn]) hu ho (if_pos hnoz)
  case sweep =>
    intro s u d c n hu hc hn hon hage
    rw [exec_holdSweep, execHoldSweep]
    exact cmd_press_eq (by simp [hc, hn]) hu hon (if_pos hage)
  case young =>
    intro s u d c n hu hc hn hon hage
    rw [exec_holdSweep, execHoldSweep]
    exact cmd_press_eq (by simp [hc, hn]) hu hon (if_neg (by omega))
  case reset =>
    intro s u d c tag hu hc ho harmed hnone
    exact cmd_hostWrite_eq (decide_eq_true hc) hu ho rfl
  case locked =>
    intro s u d c tag hu hc ho harmed
    rw [exec_headReset, execHeadReset]
    exact cmd_hostWrite_eq (decide_eq_true hc) hu ho (if_pos harmed)
  case snapshot =>
    intro s u d c hu hc ho hon
    rw [exec_snapshot, execSnapshot]
    exact cmd_hostWrite_eq (decide_eq_true hc) hu ho (State.press_on hon _)
  case periodic =>
    intro s u d hu hperiod hon hdue
    rw [exec_snapshotPeriodic, execSnapshotPeriodic]
    refine cmd_press_eq rfl hu hon ?_
    exact if_pos ⟨hperiod, decide_eq_true hdue⟩
  case clear =>
    intro s u d c hu hc ho
    have hzero : ∀ f ∈ nozzleCounters, (u.nctxClear c).rd f c = 0 := fun f hf =>
      State.clrAll_zero nozzleCounters nozzleCounters_zero hf
    refine ⟨u.nctxClear c, cmd_hostWrite_eq (decide_eq_true hc) hu ho rfl, ?_, ?_, ?_, ?_⟩
    iterate 3 exact hzero _ (by simp [nozzleCounters])
    exact (congrArg State.nozzle (u.clrAll_regsOnly nozzleCounters c 0).eq).trans rfl

end Sys2Proof.Machine


/-!
PROOFS. Marker sets of a bond, the stream that it takes from its lanes, and its timeouts.
-/

namespace Sys2Proof.Machine

/-! ### What a marker set writes before the bond judges it -/

/-- The state and the ports of a bond, and what says who its members are, are as before. -/
structure SameBond (s t : State) : Prop where
  bond : ∀ p, t.bond p = s.bond p
  port : ∀ p, t.port p = s.port p

theorem SameBond.refl (s : State) : SameBond s s := ⟨fun _ => rfl, fun _ => rfl⟩

theorem SameBond.trans {s t u : State} (h : SameBond s t) (k : SameBond t u) : SameBond s u :=
  ⟨fun p => (k.bond p).trans (h.bond p), fun p => (k.port p).trans (h.port p)⟩

/-- A write of another field of a port. -/
theorem SameBond.wr (s : State) {f : Fld} (hf : f.apart F.COBEX_STATE_BOND = true ∧ f.lo + 8 * f.addr < 8 * (0x300000 + 0x400)
    ∧ 8 * 0x300000 ≤ 8 * f.addr + f.lo) (v q : Nat) : SameBond s (s.wr f v q) := by
  refine ⟨fun p => State.rd_wr_ne s ?_ v, fun _ => rfl⟩
  obtain ⟨hapart, hhigh, hlow⟩ := hf
  obtain ⟨h1, h2, h3⟩ := of_decide_eq_true hapart
  simp only [F.COBEX_STATE_BOND] at h1 h2 h3
  rw [Fld.key, Fld.key, h1, h2]
  simp only [F.COBEX_STATE_BOND]
  omega

theorem State.setSkew_sameBond (s : State) (p : Nat) (ms : List (Option Marker)) (is : List Nat) (top : Nat) :
    SameBond s (s.setSkew p ms is top) := by
  unfold State.setSkew
  induction is generalizing s with
  | nil => exact .refl s
  | cons i is ih =>
    refine SameBond.trans ?_ (ih _)
    dsimp only
    split
    · split_ifs
      · exact .wr s (by decide) _ _
      · exact .wr s (by decide) _ _
      · exact .refl s
    · exact .refl s

theorem State.skewSet_sameBond (s : State) (p : Nat) (ms : List (Option Marker)) (v : SetView) : SameBond s (s.skewSet p ms v) := by
  have hflag (t : State) : SameBond t (t.flag F.COBEX_STATUS_SKEW_EXCESS p) := by
    obtain ⟨hbond, hport⟩ := SameBond.wr t (f := F.COBEX_STATUS_SKEW_EXCESS) (by decide) 1 p
    exact ⟨hbond, hport⟩
  unfold State.skewSet
  dsimp only
  split_ifs
  · exact (s.setSkew_sameBond p ms _ _).trans (hflag _)
  · exact hflag s
  · exact s.setSkew_sameBond p ms _ _
  · exact .refl s

/-! ### The view of a set that does not miss -/

/-- The lanes of a set that has one MARKER_SEQ have that of its first lane. -/
theorem setMisses_own {ms : List (Option Marker)} {is : List Nat} {seq : Nat} (h : setMisses ms is seq = false) :
    setMisses ms is (((is.filterMap (markerOf ms)).map (·.2.1)).headD 0) = false := by
  cases is with
  | nil => rfl
  | cons i is =>
    have hall : ∀ j ∈ i :: is, ∃ m, markerOf ms j = some m ∧ m.1 = j ∧ m.2.1 = seq := by
      intro j hj
      have hj' := List.any_eq_false.1 h j hj
      cases hm : markerOf ms j with
      | none => simp [hm] at hj'
      | some m =>
        rw [hm] at hj'
        exact ⟨m, rfl, by simpa using hj'⟩
    obtain ⟨m, hm, -, hseq⟩ := hall i List.mem_cons_self
    rw [List.filterMap_cons, hm]
    rw [List.map_cons, List.headD_cons, hseq]
    exact h

/-- The view of a set in line with the bond's MARKER_SEQ. -/
theorem State.viewSet_inLine {s : State} {p seq : Nat} {ms : List (Option Marker)} (hmarker : (s.port p).marker = some seq)
    (h : setMisses ms (s.alignLanes p ms) seq = false) (hnear : (setDelays ms (s.alignLanes p ms)).foldl max 0 ≤ 48) :
    s.viewSet p ms = ⟨false, true, false, (seq + 1) % 65536⟩ := by
  unfold State.viewSet
  rw [hmarker]
  dsimp only [Option.getD_some]
  rw [setMisses_own h, h]
  have hwide : decide (48 < (setDelays ms (s.alignLanes p ms)).foldl max 0) = false := decide_eq_false (by omega)
  rw [hwide]
  rfl

/-- The bond of a set that misses. -/
theorem State.viewSet_misses {s : State} {p seq : Nat} {ms : List (Option Marker)} (hmarker : (s.port p).marker = some seq)
    (h : setMisses ms (s.alignLanes p ms) seq = true) : (s.viewSet p ms).miss = true ∧ (s.viewSet p ms).next = (seq + 1) % 65536 := by
  unfold State.viewSet
  rw [hmarker]
  exact ⟨h, rfl⟩

/-- A marker set before an ACTIVE bond that does not end it is taken. -/
theorem State.activeSet_takes {s : State} {p : Nat} {v : SetView} (h : ¬(v.miss = true ∧ (s.port p).misses = 1)) :
    s.activeSet p v = ((s.takeMarkers p).setPort p { (s.takeMarkers p).port p with
      misses := if v.miss then 1 else 0, marker := some v.next }).pump p := if_neg h

/-- The second miss in a row ends ACTIVE. -/
theorem State.activeSet_ends {s : State} {p : Nat} {v : SetView} (hmiss : v.miss = true) (hmisses : (s.port p).misses = 1) :
    s.activeSet p v = (s.flag F.COBEX_STATUS_ALIGN_LOST p).bondLeave p (if s.allActive p then 2 else 0) := if_pos ⟨hmiss, hmisses⟩

/-- A marker set that does not miss reaches an ACTIVE bond. -/
theorem State.markerSet_hits {s : State} {p : Nat} {ms : List (Option Marker)} {v : SetView} (hms : ms = s.markersOf p)
    (hv : v = s.viewSet p ms) (hmiss : v.miss = false) (hbond : s.bond p = 3) :
    s.markerSet p = (s.skewSet p ms v).activeSet p v := by
  have hsame := (s.skewSet_sameBond p ms v).bond p
  unfold State.markerSet
  dsimp only
  rw [← hms, ← hv, hmiss, if_neg Bool.false_ne_true, hsame, hbond, if_neg (by decide), if_pos (Eq.refl 3)]

/-- A marker set that misses reaches an ACTIVE bond. -/
theorem State.markerSet_misses {s : State} {p : Nat} {ms : List (Option Marker)} {v : SetView} (hms : ms = s.markersOf p)
    (hv : v = s.viewSet p ms) (hmiss : v.miss = true) (hbond : s.bond p = 3) :
    s.markerSet p = ((s.skewSet p ms v).inc F.COBEX_STATE_ALIGN_MISS p).activeSet p v := by
  have hsame : ((s.skewSet p ms v).inc F.COBEX_STATE_ALIGN_MISS p).bond p = s.bond p :=
    ((s.skewSet_sameBond p ms v).trans (.wr _ (by decide) _ p)).bond p
  unfold State.markerSet
  dsimp only
  rw [← hms, ← hv, hmiss, if_pos (Eq.refl true), hsame, hbond, if_neg (by decide), if_pos (Eq.refl 3)]

/-- The SKEW of a set in line. -/
theorem State.skewSet_inLine {s : State} {p : Nat} {ms : List (Option Marker)} {v : SetView} (hequal : v.equal = true)
    (hwide : v.wide = false) :
    s.skewSet p ms v = s.setSkew p ms (s.alignLanes p ms) ((setDelays ms (s.alignLanes p ms)).foldl max 0) := by
  rw [State.skewSet, hequal, hwide]
  rfl

/-- The second set in line makes an ALIGNING bond ACTIVE. -/
theorem State.markerSet_aligns {s : State} {p : Nat} {ms : List (Option Marker)} {v : SetView} (hms : ms = s.markersOf p)
    (hv : v = s.viewSet p ms) (hmiss : v.miss = false) (hequal : v.equal = true) (hwide : v.wide = false) (hbond : s.bond p = 2)
    (hlined : (s.port p).lined = 1) :
    s.markerSet p = ((((s.skewSet p ms v).takeMarkers p).attach p).setMarker p v.next).pump p := by
  obtain ⟨hbond', hport⟩ := s.skewSet_sameBond p ms v
  unfold State.markerSet
  dsimp only
  rw [← hms, ← hv, hmiss, if_neg Bool.false_ne_true, hbond', hbond, if_pos (Eq.refl 2)]
  unfold State.alignSet
  dsimp only
  rw [hequal, hwide, hmiss, hport, hlined, if_neg (by decide), if_pos (by decide)]

/-- Settles O33: marker sets, the stream of a bond, and its timeouts. -/
theorem bondAlignment : Obligations.BondAlignment := by
  unfold Obligations.BondAlignment
  refine ⟨?inLine, ?firstMiss, ?secondMiss, ?aligning, ?notDue, ?align, ?block, ?timeout, ?deferred, ?waits⟩
  case inLine =>
    intro s u d p ms v seq hu hp hon hdue hms hv hbond hmarker hinLine hnear
    rw [exec_markerSetReceive, execMarkerSetReceive]
    refine cmd_press_eq (decide_eq_true hp) hu hon ((if_pos hdue).trans ?_)
    have hview : v = ⟨false, true, false, (seq + 1) % 65536⟩ := hv.trans (State.viewSet_inLine hmarker hinLine hnear)
    rw [State.markerSet_hits hms hv (by rw [hview]) hbond, State.activeSet_takes (by simp [hview]),
      State.skewSet_inLine (by rw [hview]) (by rw [hview]), hview]
    rfl
  case firstMiss =>
    intro s u d p ms v seq hu hp hon hdue hms hv hbond hmarker hmiss hmisses
    rw [exec_markerSetReceive, execMarkerSetReceive]
    refine cmd_press_eq (decide_eq_true hp) hu hon ((if_pos hdue).trans ?_)
    obtain ⟨hv1, hv2⟩ := State.viewSet_misses hmarker hmiss
    rw [← hv] at hv1 hv2
    have hport : (((u.skewSet p ms v).inc F.COBEX_STATE_ALIGN_MISS p).port p).misses = 0 :=
      (congrArg PortS.misses ((u.skewSet_sameBond p ms v).port p)).trans hmisses
    rw [State.markerSet_misses hms hv hv1 hbond, State.activeSet_takes (by simp [hport]), hv1, hv2]
    rfl
  case secondMiss =>
    intro s u d p ms v seq hu hp hon hdue hms hv hbond hmarker hmiss hmisses
    rw [exec_markerSetReceive, execMarkerSetReceive]
    refine cmd_press_eq (decide_eq_true hp) hu hon ((if_pos hdue).trans ?_)
    obtain ⟨hv1, -⟩ := State.viewSet_misses hmarker hmiss
    rw [← hv] at hv1
    have hport : (((u.skewSet p ms v).inc F.COBEX_STATE_ALIGN_MISS p).port p).misses = 1 :=
      (congrArg PortS.misses ((u.skewSet_sameBond p ms v).port p)).trans hmisses
    rw [State.markerSet_misses hms hv hv1 hbond, State.activeSet_ends hv1 hport]
  case aligning =>
    intro s u d p ms v hu hp hon hdue hms hv hbond hequal hwide hmiss hlined
    rw [exec_markerSetReceive, execMarkerSetReceive]
    refine cmd_press_eq (decide_eq_true hp) hu hon ((if_pos hdue).trans ?_)
    exact State.markerSet_aligns hms hv hmiss hequal hwide hbond hlined
  case notDue =>
    intro s u d p hu hp hon hdue
    rw [exec_markerSetReceive, execMarkerSetReceive]
    exact cmd_press_eq (decide_eq_true hp) hu hon (if_neg (by simp [hdue]))
  case align =>
    intro s p q b rest hn hrow hq hrx halign
    unfold State.takeBlock
    dsimp only
    rw [if_neg (by simp [hrow]), hq]
    dsimp only
    rw [hrx]
    dsimp only
    rw [if_pos halign, if_neg hn]
    split_ifs <;> rfl
  case block =>
    intro s p q b rest hplace hq hrx halign
    unfold State.takeBlock
    dsimp only
    rw [if_neg (by omega), hq]
    dsimp only
    rw [hrx]
    dsimp only
    rw [if_neg (by simp [halign])]
    split_ifs <;> rfl
  case timeout =>
    intro s u d p hu hp hon hmaster hbond hdue
    rw [exec_alignTimeout, execAlignTimeout]
    exact cmd_press_eq (decide_eq_true hp) hu hon (if_pos (by simp [hmaster, hbond, State.due, hdue]))
  case deferred =>
    intro s u d p t0 hu hp hon hwaits hlast hdue
    rw [exec_linkResetDeferred, execLinkResetDeferred]
    refine cmd_press_eq (decide_eq_true hp) hu hon ((if_pos hwaits).trans ?_)
    unfold State.linkReset
    rw [hlast]
    exact if_neg (by simp [State.due, hdue])
  case waits =>
    intro s u d p t0 hu hp hon hwaits hlast hearly
    rw [exec_linkResetDeferred, execLinkResetDeferred]
    refine cmd_press_eq (decide_eq_true hp) hu hon ((if_pos hwaits).trans ?_)
    unfold State.linkReset
    rw [hlast]
    exact if_pos (by simp [State.due, hearly])

end Sys2Proof.Machine


/-!
PROOFS. Host commands on an SMBus controller port, and how its transactions end.
-/

namespace Sys2Proof.Machine

/-! ### Starting a transaction -/

/-- A host command that a port takes starts its transaction on a free bus. -/
theorem State.smbcStart_free {s : State} {p sda lowMs : Nat} (h : sda = 0 ∨ lowMs < s.rd F.SMBC_CFG_DAT_LOW_MS p) (x : SmbcTx) :
    s.smbcStart p x sda lowMs = s.smbcStarted p x := by
  have hread (f : Fld) (hf : F.SMBC_RSLT_BUSY.apart f = true) : ((s.setTx p x).wr F.SMBC_RSLT_BUSY 1 p).rd f p = s.rd f p :=
    State.rd_wr_apart (s.setTx p x) hf 1 p 0
  have hclears : decide (sda ≠ 0 ∧ ((s.setTx p x).wr F.SMBC_RSLT_BUSY 1 p).rd F.SMBC_CFG_DAT_LOW_MS p ≤ lowMs) = false := by
    rw [hread _ (by decide), decide_eq_false_iff_not]
    omega
  unfold State.smbcStart
  dsimp only
  rw [hclears, Bool.false_and, if_neg Bool.false_ne_true, if_neg Bool.false_ne_true, State.smbcSend, hread _ (by decide)]
  rfl

/-- What a host command needs to be taken. -/
structure State.SmbcTakes (s : State) (p : Nat) : Prop where
  busy : s.on F.SMBC_RSLT_BUSY p = false
  enable : s.on F.SMBC_CFG_ENABLE p = true
  owner : s.owner 0x0A p = hostOwner

/-- A host command whose lengths its protocol allows starts. -/
theorem State.smbcCmd_starts {s : State} {p : Nat} (h : s.SmbcTakes p) {op wlen rlen : Nat} (hop : op ≠ 0 ∧ op ≤ 9) (hwlen : wlen ≤ 32)
    (hrlen : op = 9 → 1 ≤ rlen ∧ rlen ≤ 32) (addr code : Nat) (pec : Bool) (sda lowMs : Nat) :
    s.smbcCmd p op addr code wlen rlen pec sda lowMs
      = s.smbcStart p ⟨op, addr, code, s.smbcWrites p op wlen, rlen, pec, none, 0, 0⟩ sda lowMs := by
  obtain ⟨hbusy, henable, howner⟩ := h
  unfold State.smbcCmd
  rw [if_neg (by simp [hbusy, henable]; omega), if_neg (by simp [howner]), if_neg]
  rintro (hlong | ⟨h9, hbad⟩)
  · omega
  · obtain ⟨h1, h2⟩ := hrlen h9
    simp [within, h1, h2] at hbad

/-- A host command on a free bus. -/
theorem smbcOp_starts {s u : State} {d p op : Nat} {x : SmbcArg} (hu : u = s.atCmd d) (hp : p < 2) (ho : u.hostOpen (F.SMBC_CMD_OP.at_ p))
    (hx : x.Fits) (h : u.SmbcTakes p) (hop : op ≠ 0 ∧ op ≤ 9) (hwlen : x.wlen ≤ 32) (hrlen : op = 9 → 1 ≤ x.rlen ∧ x.rlen ≤ 32)
    (hfree : x.sda = 0 ∨ x.lowMs < u.rd F.SMBC_CFG_DAT_LOW_MS p) :
    smbcOp d p op x s = .next (s.closeCmd d (u.smbcStarted p
      ⟨op, x.addr, x.code, u.smbcWrites p op x.wlen, x.rlen, x.pec, none, 0, 0⟩)) := by
  obtain ⟨haddr, hcode, hwlen', hrlen'⟩ := hx
  refine cmd_hostWrite_eq (decide_eq_true hp) hu ho ?_
  rw [Nat.mod_eq_of_lt haddr, Nat.mod_eq_of_lt hcode, Nat.mod_eq_of_lt hwlen', Nat.mod_eq_of_lt hrlen',
    State.smbcCmd_starts h hop hwlen hrlen]
  exact State.smbcStart_free (by omega) _

/-! ### The end of a transaction -/

/-- An event of the transaction of a port. -/
theorem smbcEvent_eq {s u t : State} {d p : Nat} {x : SmbcTx} {f : State → SmbcTx → State} (hu : u = s.atCmd d) (hp : p < 2)
    (hon : u.power.on = true) (hx : u.smb.tx.find p = some x) (h : f u x = t) :
    smbcEvent (decide (p < 2)) d p s f = .next (s.closeCmd d t) := by
  refine cmd_powered_eq (decide_eq_true hp) hu hon ?_
  rw [hx]
  exact h

/-- A transaction of a host command that ends without a report to Weld. -/
theorem State.smbcEnd_quiet {s : State} {p status : Nat} {x : SmbcTx} (hx : x.bellows = none)
    (hstatus : ¬(status = 5 ∨ status = 7 ∨ status = 8)) (data : Bytes) :
    s.smbcEnd p x status data = (({ s with smb := { s.smb with tx := s.smb.tx.del p } } : State).bufWrite (smbcBuf p)
      (if status = 1 then x.readBytes data else [])).smbcResult p status
        (if status = 1 then x.readBytes data else []).length x.retries := by
  unfold State.smbcEnd
  dsimp only
  rw [hx, if_neg (by simp), if_neg (by omega)]
  exact if_neg hstatus

theorem crc8Bit_lt (c : Nat) : crc8Bit c < 256 := by
  unfold crc8Bit
  split
  · omega
  · exact Nat.xor_lt_two_pow (n := 8) (Nat.mod_lt _ (by decide)) (by decide)

theorem crc8Byte_lt (c : Nat) (b : Byte) : crc8Byte c b < 256 := by
  unfold crc8Byte
  exact crc8Bit_lt _

/-- A PEC is a byte. -/
theorem crc8_lt (bs : Bytes) : crc8 bs < 256 := by
  rcases List.eq_nil_or_concat bs with rfl | ⟨init, b, rfl⟩
  · decide
  · rw [List.concat_eq_append, crc8, List.foldl_append, List.foldl_cons, List.foldl_nil]
    exact crc8Byte_lt _ b

/-- The last byte of a Block Read with PEC is compared with the PEC of what came before. -/
theorem SmbcTx.checked_blockRead {x : SmbcTx} (hpec : x.pec = true) (hop : x.op = 7) {b : Nat} (hb : b < 256) (data : Bytes) :
    x.checked (data ++ ([b] : Bytes)) = (data, decide (b = crc8 (x.sent ++ le 1 data.length ++ data))) := by
  have hreads : x.reads = true := by simp [SmbcTx.reads, hop]
  have hcrc := crc8_lt (x.sent ++ le 1 data.length ++ data)
  unfold SmbcTx.checked
  rw [hpec, hreads, hop]
  simp only [Bool.and_self, ↓reduceIte, List.dropLast_concat, List.drop_left]
  refine Prod.ext rfl (decide_eq_decide.2 ⟨fun h => ?_, fun h => ⟨?_, by simp⟩⟩)
  · obtain ⟨hbyte, -⟩ := h
    have hword := congrArg BitVec.toNat (List.singleton_inj.1 hbyte)
    simp only [BitVec.natCast_eq_ofNat, BitVec.toNat_ofNat] at hword
    omega
  · rw [← h]
    rfl

/-- What SMBC_RSLT reads after the result of a command. -/
theorem State.smbcResult_reads (s : State) (p status rlen attempts : Nat) :
    (s.smbcResult p status rlen attempts).rd F.SMBC_RSLT_BUSY p = 0 ∧ (s.smbcResult p status rlen attempts).rd F.SMBC_RSLT_DONE p = 1
      ∧ (s.smbcResult p status rlen attempts).rd F.SMBC_RSLT_STATUS p = status % 256
      ∧ (s.smbcResult p status rlen attempts).rd F.SMBC_RSLT_RLEN p = rlen % 256 := by
  unfold State.smbcResult
  dsimp only
  refine ⟨?_, ?_, ?_, ?_⟩
  · rw [State.rd_wr_apart _ (by decide), State.rd_wr_apart _ (by decide), State.rd_wr_apart _ (by decide), State.flag_rd,
      State.rd_wr_apart _ (by decide)]
    exact State.rd_wr_self s F.SMBC_RSLT_BUSY 0 p 0
  · rw [State.rd_wr_apart _ (by decide), State.rd_wr_apart _ (by decide), State.rd_wr_apart _ (by decide), State.flag_rd]
    exact State.rd_wr_self _ F.SMBC_RSLT_DONE 1 p 0
  · rw [State.rd_wr_apart _ (by decide), State.rd_wr_apart _ (by decide)]
    exact State.rd_wr_self _ F.SMBC_RSLT_STATUS status p 0
  · rw [State.rd_wr_apart _ (by decide)]
    exact State.rd_wr_self _ F.SMBC_RSLT_RLEN rlen p 0

/-- A bus whose SDA stays low ends the transaction with BUS_STUCK. -/
theorem State.smbcStart_stuck {s : State} {p lowMs : Nat} (h : s.rd F.SMBC_CFG_DAT_LOW_MS p ≤ lowMs) (x : SmbcTx) :
    s.smbcStart p x 2 lowMs = (((s.setTx p x).wr F.SMBC_RSLT_BUSY 1 p).inc F.SMBC_CNT_CLEARS p).smbcEnd p x 8 [] := by
  have hread : ((s.setTx p x).wr F.SMBC_RSLT_BUSY 1 p).rd F.SMBC_CFG_DAT_LOW_MS p = s.rd F.SMBC_CFG_DAT_LOW_MS p :=
    State.rd_wr_apart (s.setTx p x) (by decide) 1 p 0
  have hclears : decide (2 ≠ 0 ∧ ((s.setTx p x).wr F.SMBC_RSLT_BUSY 1 p).rd F.SMBC_CFG_DAT_LOW_MS p ≤ lowMs) = true := by
    rw [hread]
    exact decide_eq_true ⟨by decide, h⟩
  unfold State.smbcStart
  dsimp only
  rw [hclears, if_pos rfl]
  rfl

/-- Pulses that free a bus are counted, and the transaction starts. -/
theorem State.smbcStart_cleared {s : State} {p lowMs : Nat} (h : s.rd F.SMBC_CFG_DAT_LOW_MS p ≤ lowMs) (x : SmbcTx) :
    s.smbcStart p x 1 lowMs
      = (((s.setTx p x).wr F.SMBC_RSLT_BUSY 1 p).inc F.SMBC_CNT_CLEARS p).smbcSend p x s.clk := by
  have hread : ((s.setTx p x).wr F.SMBC_RSLT_BUSY 1 p).rd F.SMBC_CFG_DAT_LOW_MS p = s.rd F.SMBC_CFG_DAT_LOW_MS p :=
    State.rd_wr_apart (s.setTx p x) (by decide) 1 p 0
  have hclears : decide (1 ≠ 0 ∧ ((s.setTx p x).wr F.SMBC_RSLT_BUSY 1 p).rd F.SMBC_CFG_DAT_LOW_MS p ≤ lowMs) = true := by
    rw [hread]
    exact decide_eq_true ⟨by decide, h⟩
  unfold State.smbcStart
  dsimp only
  rw [hclears, if_pos rfl]
  rfl

/-- A transaction of a host command that ends is gone, whatever it reports to Weld. -/
theorem State.smbcEnd_reads {s : State} {p status : Nat} {x : SmbcTx} (hp : p < 2) (hx : x.bellows = none) (data : Bytes) :
    (s.smbcEnd p x status data).rd F.SMBC_RSLT_BUSY p = 0 ∧ (s.smbcEnd p x status data).rd F.SMBC_RSLT_STATUS p = status % 256
      ∧ (s.smbcEnd p x status data).smb.tx.find p = none := by
  unfold State.smbcEnd
  extract_lets smb ended got counted bellows
  have htx : counted.smb.tx.find p = none := by
    have hsmb : counted.smb = ended.smb := by
      unfold counted
      split
      · rfl
      · rfl
    rw [hsmb]
    exact Assoc.find_del_self _ _
  rw [hx, if_neg (by simp)]
  have hframe : ErrorFrame ((counted.bufWrite (smbcBuf p) got).smbcResult p status got.length x.retries)
      (((counted.bufWrite (smbcBuf p) got).smbcResult p status got.length x.retries).smbcReport p status) := by
    unfold State.smbcReport
    exact .ite (.err _ (by decide) _ _) (.refl _)
  obtain ⟨hbusy, -, hstatus, -⟩ := State.smbcResult_reads (counted.bufWrite (smbcBuf p) got) p status got.length x.retries
  refine ⟨?_, ?_, ?_⟩
  · rw [hframe.rd _ _ _ (by simp [errorKey, Fld.key, F.SMBC_RSLT_BUSY]; omega)]
    exact hbusy
  · rw [hframe.rd _ _ _ (by simp [errorKey, Fld.key, F.SMBC_RSLT_STATUS]; omega)]
    exact hstatus
  · rw [hframe.rest]
    exact htx

/-- The counters of a controller port. -/
def smbcCounters : List Fld := [F.SMBC_CNT_ARB_LOST, F.SMBC_CNT_ADDR_NACKS, F.SMBC_CNT_TIMEOUTS, F.SMBC_CNT_CLEARS]

theorem smbcCounters_zero : ∀ f ∈ smbcCounters, f.zeroReset := by
  simp [smbcCounters, Fld.zeroReset, F.SMBC_CNT_ARB_LOST, F.SMBC_CNT_ADDR_NACKS, F.SMBC_CNT_TIMEOUTS, F.SMBC_CNT_CLEARS]

/-- Settles O56: the nine operations, their refusals, and how a transaction ends. -/
theorem controllerCommands : Obligations.ControllerCommands := by
  unfold Obligations.ControllerCommands
  refine ⟨?sendByte, ?writeByte, ?writeWord, ?readByte, ?readWord, ?blockWrite, ?blockRead, ?fixedWrite, ?fixedRead, ?cleared, ?stuck,
    ?notOwner, ?tooLong, ?ends, ?noPec, ?pec, ?result, ?arbRetry, ?arbFail, ?addrRetry, ?addrFail, ?same, ?stops, ?clear, ?clearBusy⟩
  case sendByte =>
    intro s u d p x hu hp ho hx hbusy hen howner hwlen hfree
    exact smbcOp_starts hu hp ho hx ⟨hbusy, hen, howner⟩ (by decide) hwlen (fun h => absurd h (by decide)) hfree
  case writeByte =>
    intro s u d p x hu hp ho hx hbusy hen howner hwlen hfree
    exact smbcOp_starts hu hp ho hx ⟨hbusy, hen, howner⟩ (by decide) hwlen (fun h => absurd h (by decide)) hfree
  case writeWord =>
    intro s u d p x hu hp ho hx hbusy hen howner hwlen hfree
    exact smbcOp_starts hu hp ho hx ⟨hbusy, hen, howner⟩ (by decide) hwlen (fun h => absurd h (by decide)) hfree
  case readByte =>
    intro s u d p x hu hp ho hx hbusy hen howner hwlen hfree
    exact smbcOp_starts hu hp ho hx ⟨hbusy, hen, howner⟩ (by decide) hwlen (fun h => absurd h (by decide)) hfree
  case readWord =>
    intro s u d p x hu hp ho hx hbusy hen howner hwlen hfree
    exact smbcOp_starts hu hp ho hx ⟨hbusy, hen, howner⟩ (by decide) hwlen (fun h => absurd h (by decide)) hfree
  case blockWrite =>
    intro s u d p x hu hp ho hx hbusy hen howner hwlen hfree
    exact smbcOp_starts hu hp ho hx ⟨hbusy, hen, howner⟩ (by decide) hwlen (fun h => absurd h (by decide)) hfree
  case blockRead =>
    intro s u d p x hu hp ho hx hbusy hen howner hwlen hfree
    exact smbcOp_starts hu hp ho hx ⟨hbusy, hen, howner⟩ (by decide) hwlen (fun h => absurd h (by decide)) hfree
  case fixedWrite =>
    intro s u d p x hu hp ho hx hbusy hen howner hwlen hfree
    exact smbcOp_starts hu hp ho hx ⟨hbusy, hen, howner⟩ (by decide) hwlen (fun h => absurd h (by decide)) hfree
  case fixedRead =>
    intro s u d p x hu hp ho hx hbusy hen howner hwlen hlow hhigh hfree
    exact smbcOp_starts hu hp ho hx ⟨hbusy, hen, howner⟩ (by decide) hwlen (fun _ => ⟨hlow, hhigh⟩) hfree
  case cleared =>
    intro s u d p x hu hp ho hx hbusy hen howner hwlen hsda hlow
    obtain ⟨haddr, hcode, hwlen', hrlen'⟩ := hx
    have hstart := State.smbcStart_cleared hlow ⟨2, x.addr, x.code, u.bufRead (smbcBuf p) 1, x.rlen, x.pec, none, 0, 0⟩
    refine ⟨_, cmd_hostWrite_eq (decide_eq_true hp) hu ho rfl, ?_⟩
    rw [Nat.mod_eq_of_lt haddr, Nat.mod_eq_of_lt hcode, Nat.mod_eq_of_lt hwlen', Nat.mod_eq_of_lt hrlen', hsda,
      State.smbcCmd_starts ⟨hbusy, hen, howner⟩ (by decide) hwlen (fun h => absurd h (by decide))]
    rw [show min 1 2 = 1 from rfl, show u.smbcWrites p 2 x.wlen = u.bufRead (smbcBuf p) 1 from rfl, hstart, State.smbcSend]
    refine ⟨?_, ?_, ?_⟩
    · rw [State.emit_rd, State.inc, State.rd_wr_self, State.rd_wr_apart _ (by decide)]
      exact Nat.mod_eq_of_lt (Nat.lt_of_le_of_lt (Nat.min_le_right _ _) (by decide))
    · rw [State.emit_rd]
      exact (State.rd_wr_apart _ (by decide) _ _ _).trans (State.rd_wr_self _ F.SMBC_RSLT_BUSY 1 p 0)
    · obtain ⟨l, hl⟩ := State.emit_eq (((u.setTx p ⟨2, x.addr, x.code, u.bufRead (smbcBuf p) 1, x.rlen, x.pec, none, 0, 0⟩).wr
        F.SMBC_RSLT_BUSY 1 p).inc F.SMBC_CNT_CLEARS p) (.smbc p 2 x.addr x.code _ _ u.clk)
      rw [hl]
      exact Assoc.find_ins_self _ _ _
  case stuck =>
    intro s u d p x hu hp ho hx hbusy hen howner hwlen hsda hlow
    obtain ⟨haddr, hcode, hwlen', hrlen'⟩ := hx
    have hstart := State.smbcStart_stuck hlow ⟨4, x.addr, x.code, u.smbcWrites p 4 x.wlen, x.rlen, x.pec, none, 0, 0⟩
    refine ⟨_, cmd_hostWrite_eq (decide_eq_true hp) hu ho rfl, ?_⟩
    rw [Nat.mod_eq_of_lt haddr, Nat.mod_eq_of_lt hcode, Nat.mod_eq_of_lt hwlen', Nat.mod_eq_of_lt hrlen', hsda,
      State.smbcCmd_starts ⟨hbusy, hen, howner⟩ (by decide) hwlen (fun h => absurd h (by decide))]
    rw [show min 2 2 = 2 from rfl, hstart]
    exact State.smbcEnd_reads hp rfl []
  case notOwner =>
    intro s u d p x hu hp ho hbusy hen howner
    refine cmd_hostWrite_eq (decide_eq_true hp) hu ho ?_
    unfold State.smbcCmd
    rw [if_neg (by simp [hbusy, hen])]
    exact if_pos howner
  case tooLong =>
    intro s u d p x hu hp ho hx hbusy hen howner hlong
    obtain ⟨-, -, hwlen, -⟩ := hx
    refine cmd_hostWrite_eq (decide_eq_true hp) hu ho ?_
    unfold State.smbcCmd
    rw [if_neg (by simp [hbusy, hen]), if_neg (by simp [howner])]
    exact if_pos (.inl (by rw [Nat.mod_eq_of_lt hwlen]; exact hlong))
  case ends =>
    intro s u d p status data x hu hp hon hx hstatus
    refine smbcEvent_eq hu hp hon hx ?_
    rcases hstatus with rfl | rfl | rfl | rfl
    · rfl
    · rfl
    · rfl
    · rfl
  case noPec =>
    intro s u d p data x hu hp hon hx hpec
    refine smbcEvent_eq hu hp hon hx ?_
    have hchecked : x.checked data = (data, true) := if_neg (by simp [hpec])
    rw [hchecked]
    rfl
  case pec =>
    intro s u d p b data x hu hp hon hx hpec hop hb
    refine smbcEvent_eq hu hp hon hx ?_
    dsimp only
    rw [SmbcTx.checked_blockRead hpec hop hb]
    by_cases hcrc : b = crc8 (x.sent ++ le 1 data.length ++ data)
    · rw [if_pos hcrc, decide_eq_true hcrc]
      rfl
    · rw [if_neg hcrc, decide_eq_false hcrc]
      rfl
  case result =>
    intro s u d p data x hu hp hon hx hbellows hop hpec hlen
    have hchecked : x.checked data = (data, true) := if_neg (by simp [hpec])
    have hread : x.readBytes data = data := by
      simp [SmbcTx.readBytes, hop, List.take_of_length_le hlen]
    have hend := State.smbcEnd_quiet (s := u) (p := p) (status := 1) hbellows (by decide) data
    rw [if_pos rfl, hread] at hend
    obtain ⟨hbusy, hdone, hstatus, hrlen⟩ := State.smbcResult_reads
      (({ u with smb := { u.smb with tx := u.smb.tx.del p } } : State).bufWrite (smbcBuf p) data) p 1 data.length x.retries
    refine ⟨u.smbcEnd p x 1 data, smbcEvent_eq hu hp hon hx ?_, ?_⟩
    · rw [hchecked]
      rfl
    · rw [hend]
      exact ⟨hbusy, hdone, hstatus, hrlen.trans (Nat.mod_eq_of_lt (by omega)), Assoc.find_del_self _ _, Mem.read_write _ _ _⟩
  case arbRetry =>
    intro s u d p x hu hp hon hx hlosses
    refine smbcEvent_eq hu hp hon hx ?_
    have hretries : (u.inc F.SMBC_CNT_ARB_LOST p).rd F.SMBC_CFG_RETRIES p = u.rd F.SMBC_CFG_RETRIES p := State.rd_wr_apart u (by decide) _ _ _
    unfold State.smbcArbLost
    dsimp only
    rw [hretries]
    exact if_neg (by omega)
  case arbFail =>
    intro s u d p x hu hp hon hx hlosses
    refine smbcEvent_eq hu hp hon hx ?_
    have hretries : (u.inc F.SMBC_CNT_ARB_LOST p).rd F.SMBC_CFG_RETRIES p = u.rd F.SMBC_CFG_RETRIES p := State.rd_wr_apart u (by decide) _ _ _
    unfold State.smbcArbLost
    dsimp only
    rw [hretries]
    exact if_pos (by omega)
  case addrRetry =>
    intro s u d p x hu hp hon hx hretries
    refine smbcEvent_eq hu hp hon hx ?_
    have hread (f : Fld) (hf : F.SMBC_CNT_ADDR_NACKS.apart f = true) : (u.inc F.SMBC_CNT_ADDR_NACKS p).rd f p = u.rd f p :=
      State.rd_wr_apart u hf _ _ _
    unfold State.smbcAddrNack
    dsimp only
    rw [hread _ (by decide), hread _ (by decide)]
    exact if_neg (by omega)
  case addrFail =>
    intro s u d p x hu hp hon hx hretries
    refine smbcEvent_eq hu hp hon hx ?_
    have hread : (u.inc F.SMBC_CNT_ADDR_NACKS p).rd F.SMBC_CFG_RETRIES p = u.rd F.SMBC_CFG_RETRIES p := State.rd_wr_apart u (by decide) _ _ _
    unfold State.smbcAddrNack
    dsimp only
    rw [hread]
    exact if_pos hretries
  case same =>
    intro s u d p data x hu hp hon hx
    have hnack : execSmbcComplete d p 2 data s = .next (s.closeCmd d (u.smbcAddrNack p x)) := smbcEvent_eq hu hp hon hx rfl
    have hlost : execSmbcComplete d p 4 data s = .next (s.closeCmd d (u.smbcArbLost p x)) := smbcEvent_eq hu hp hon hx rfl
    have hretry : execSmbcAddrRetry d p s = .next (s.closeCmd d (u.smbcAddrNack p x)) := smbcEvent_eq hu hp hon hx rfl
    have harb : execSmbcArbRetry d p s = .next (s.closeCmd d (u.smbcArbLost p x)) := smbcEvent_eq hu hp hon hx rfl
    exact ⟨hnack.trans hretry.symm, hlost.trans harb.symm⟩
  case stops =>
    intro s u d p x hu hp hon hx
    exact ⟨smbcEvent_eq hu hp hon hx rfl, smbcEvent_eq hu hp hon hx rfl⟩
  case clear =>
    intro s u d p hu hp ho hbusy
    have hclear : u.smbcClear p = u.clrAll smbcCounters p := if_neg (by simp [hbusy])
    have hzero : ∀ f ∈ smbcCounters, (u.clrAll smbcCounters p).rd f p = 0 := fun f hf =>
      State.clrAll_zero smbcCounters smbcCounters_zero hf
    refine ⟨u.clrAll smbcCounters p, cmd_hostWrite_eq (decide_eq_true hp) hu ho hclear, ?_, ?_, ?_, ?_, ?_⟩
    iterate 4 exact hzero _ (by simp [smbcCounters])
    exact (congrArg State.smb (u.clrAll_regsOnly smbcCounters p 0).eq).trans rfl
  case clearBusy =>
    intro s u d p hu hp ho hbusy
    exact cmd_hostWrite_eq (decide_eq_true hp) hu ho (if_pos hbusy)

end Sys2Proof.Machine


/-!
PROOFS. The SMBus target answers nothing while the boundary-scan register holds its pins.
-/

namespace Sys2Proof.Machine

/-- The ROM phase is over and the pins follow the boundary-scan register. -/
def scannedTarget : State := { bareReady with power := { bareReady.power with jtagTest := true } }

/-- The device drives the alert line, and the pins follow the boundary-scan register. -/
def scannedAlert : State := (scannedTarget.wr F.SMB_ALERT_SRC 1).wr F.SMB_ALERT_EN 1

/-- Refutes O58: the address of a read that comes too late is not acknowledged, but nothing leaves the device while the boundary-scan
register holds its pins. -/
theorem not_targetTransfers : ¬ Obligations.TargetTransfers := by
  unfold Obligations.TargetTransfers
  rintro ⟨-, -, -, -, -, -, -, -, -, -, hlate, -⟩
  obtain ⟨t, ht, -, -, hout⟩ := hlate scannedTarget _ 0 rfl (by decide +kernel) (by decide +kernel) (by decide +kernel)
  exact absurd (mem_nextOut ht hout) (by decide +kernel)

/-- Refutes O57: the answer to an alert response does not leave the device while the boundary-scan register holds its pins. -/
theorem not_targetStatusAndSessions : ¬ Obligations.TargetStatusAndSessions := by
  unfold Obligations.TargetStatusAndSessions
  rintro ⟨-, -, -, -, -, -, -, -, -, -, -, -, -, halert, -⟩
  obtain ⟨t, ht, hout, -⟩ := halert scannedAlert _ 0 false rfl (by decide +kernel) (by decide +kernel)
  exact absurd (mem_nextOut ht (hout ▸ List.mem_append_right _ (List.mem_singleton_self _))) (by decide +kernel)

end Sys2Proof.Machine


/-!
PROOFS. A FORCE switches an idle tile as its spare passes its test, and the first Ingot write of a Kindle reads the journal.
-/

namespace Sys2Proof.Machine

/-- The spare 1 of tile cluster 0 is tested for a FORCE of unit 0, which runs no billet. -/
def forcedIdleTile : State :=
  { bareReady.wr F.WELD_ACL_SPARE_K 1 with
    weld := { testing := [(unKey 2 0 1, 3)], subs := [(clKey 2 0, ⟨0, 1, 0, 3, 0, 0, 0, 0, 1, 0, true, false, 0⟩)] } }

/-- Whether a substitution of tile cluster 0 stands in the next state of an outcome. -/
def nextSubstitutes (o : Host.Outcome State Fault Refusal) : Bool :=
  match o with
  | .next v => (v.subAt 2 0).isSome
  | _ => false

/-- The closing of a command leaves the substitutions of its next state. -/
theorem nextSubstitutes_closeCmd {o : Host.Outcome State Fault Refusal} {s t : State} {d : Nat} {x : SubS}
    (h : o = .next (s.closeCmd d t)) (hx : t.subAt 2 0 = some x) : nextSubstitutes o = true := by
  rw [h]
  exact congrArg Option.isSome hx

/-- Refutes O59: the spare of a FORCE of an idle tile takes over when it passes its test, and its substitution ends. -/
theorem not_spareUnits : ¬ Obligations.SpareUnits := by
  unfold Obligations.SpareUnits
  rintro ⟨-, -, -, -, -, -, -, -, hpassed, -⟩
  obtain ⟨t, ht, hsub, -⟩ := hpassed forcedIdleTile _ 0 2 0 1 _ 3 rfl (by decide) (by decide) (by decide) (by decide +kernel)
    (by decide +kernel) (by decide +kernel) rfl rfl
  exact absurd (nextSubstitutes_closeCmd ht hsub) (by decide +kernel)

/-- An Ingot write ends in a Kindle that has not read the journal, which has no sectors, and no Ingot waits. -/
def unreadJournal : State := { bareReady with flash := { busy := some .ingot, sectors := 2048 } }

/-- Whether the journal has been read in the next state of an outcome. -/
def nextScanned (o : Host.Outcome State Fault Refusal) : Bool :=
  match o with
  | .next v => v.kindle.journalScanned
  | _ => false

/-- Refutes O60: with no Ingot waiting the write that ends still reads the journal of its Kindle. -/
theorem not_errorsAndJournal : ¬ Obligations.ErrorsAndJournal := by
  unfold Obligations.ErrorsAndJournal
  rintro ⟨-, -, -, hnone, -⟩
  have hkept := congrArg nextScanned (hnone unreadJournal _ 0 true true rfl (by decide +kernel) (by decide +kernel) (by decide +kernel))
  exact absurd hkept (by decide +kernel)

end Sys2Proof.Machine


/-!
PROOFS. What the transmitter of a Cobex lane may change: the lane's transmit side, the ports, the trace and the count of injected errors.
-/

namespace Sys2Proof.Machine

@[simp] theorem State.setLane_lane (s : State) (k : Nat) (x : LaneS) : (s.setLane k x).lane k = x := Assoc.getD_put_self _ _ _ _

@[simp] theorem State.setPort_lane (s : State) (p k : Nat) (x : PortS) : (s.setPort p x).lane k = s.lane k := rfl

@[simp] theorem State.emit_lane (s : State) (o : Out) (k : Nat) : (s.emit o).lane k = s.lane k := by
  obtain ⟨l, hl⟩ := s.emit_eq o
  rw [hl]
  rfl

/-- What leaves the device comes behind what has left it. -/
theorem State.out_prefix_emit (s : State) (o : Out) : s.out <+: (s.emit o).out := by
  unfold State.emit
  split
  · exact List.prefix_refl _
  · exact List.prefix_append _ _

/-- A step of the transmitter of slice k: registers, ports, lanes, free values and the trace may change, of the registers only the count of
injected errors. -/
structure TxFrame (k : Nat) (s t : State) : Prop where
  rest : t = { s with regs := t.regs, lanes := t.lanes, ports := t.ports, free := t.free, out := t.out }
  rd : ∀ (f : Fld) (i j : Nat), f.key i j ≠ F.LANE_INJECTED_INJECTED.key k 0 → t.rd f i j = s.rd f i j
  out : s.out <+: t.out

/-- A transmitter of slice k that sends: its fill and its receive side stay. -/
structure TxSends (k : Nat) (s t : State) : Prop extends TxFrame k s t where
  lane : t.lane k = { s.lane k with tx := (t.lane k).tx }
  fill : (t.lane k).tx.fill = (s.lane k).tx.fill
  pads : (t.lane k).tx.pads = (s.lane k).tx.pads
  idle : (t.lane k).tx.idle = (s.lane k).tx.idle

namespace TxFrame

variable {k : Nat} {s t u : State}

theorem refl (k : Nat) (s : State) : TxFrame k s s := ⟨rfl, fun _ _ _ _ => rfl, List.prefix_refl _⟩

theorem trans (h : TxFrame k s t) (g : TxFrame k t u) : TxFrame k s u := by
  refine ⟨?_, fun f i j hf => (g.rd f i j hf).trans (h.rd f i j hf), h.out.trans g.out⟩
  rw [g.rest, h.rest]

/-- A field of the slice itself that is not the count of injected errors. -/
theorem rd_apart (h : TxFrame k s t) {f : Fld} (hf : F.LANE_INJECTED_INJECTED.apart f = true) : t.rd f k = s.rd f k :=
  h.rd f k 0 (Fld.key_ne_of_apart hf k 0)

theorem on_apart (h : TxFrame k s t) {f : Fld} (hf : F.LANE_INJECTED_INJECTED.apart f = true) : t.on f k = s.on f k := by
  unfold State.on
  rw [h.rd_apart hf]

theorem laneSt (h : TxFrame k s t) : t.laneSt k = s.laneSt k := h.rd_apart (by decide)

/-- A slice serves the pad pair that it served. -/
theorem laneOf (h : TxFrame k s t) : t.laneOf k = s.laneOf k := by
  unfold State.laneOf
  rw [h.rd_apart (f := F.LANE_STATE_PAD) (by decide)]

theorem clk (h : TxFrame k s t) : t.clk = s.clk := by rw [h.rest]

theorem power (h : TxFrame k s t) : t.power = s.power := by rw [h.rest]

theorem setLane (k i : Nat) (s : State) (x : LaneS) : TxFrame k s (s.setLane i x) := ⟨rfl, fun _ _ _ _ => rfl, List.prefix_refl _⟩

theorem setPort (k p : Nat) (s : State) (x : PortS) : TxFrame k s (s.setPort p x) := ⟨rfl, fun _ _ _ _ => rfl, List.prefix_refl _⟩

theorem emit (k : Nat) (s : State) (o : Out) : TxFrame k s (s.emit o) := by
  obtain ⟨l, hl⟩ := s.emit_eq o
  have hout := s.out_prefix_emit o
  rw [hl] at hout ⊢
  exact ⟨rfl, fun _ _ _ _ => rfl, hout⟩

theorem inc (k : Nat) (s : State) : TxFrame k s (s.inc F.LANE_INJECTED_INJECTED k) :=
  ⟨rfl, fun _ _ _ h => State.rd_inc_ne s h 1, List.prefix_refl _⟩

theorem fresh (k w : Nat) (s : State) : TxFrame k s (s.fresh w).2 := ⟨rfl, fun _ _ _ _ => rfl, List.prefix_refl _⟩

end TxFrame

namespace TxSends

variable {k : Nat} {s t u : State}

theorem refl (k : Nat) (s : State) : TxSends k s s := ⟨TxFrame.refl k s, rfl, rfl, rfl, rfl⟩

theorem trans (h : TxSends k s t) (g : TxSends k t u) : TxSends k s u := by
  refine ⟨h.toTxFrame.trans g.toTxFrame, ?_, g.fill.trans h.fill, g.pads.trans h.pads, g.idle.trans h.idle⟩
  rw [g.lane, h.lane]

/-- The transmit side of the slice changes, but neither its fill nor its idling. -/
theorem setTx (s : State) {x : LaneS} (hlane : x = { s.lane k with tx := x.tx }) (hfill : x.tx.fill = (s.lane k).tx.fill)
    (hpads : x.tx.pads = (s.lane k).tx.pads) (hidle : x.tx.idle = (s.lane k).tx.idle) : TxSends k s (s.setLane k x) := by
  refine ⟨TxFrame.setLane k k s x, ?_, ?_, ?_, ?_⟩
  · rw [State.setLane_lane]
    exact hlane
  · rw [State.setLane_lane]
    exact hfill
  · rw [State.setLane_lane]
    exact hpads
  · rw [State.setLane_lane]
    exact hidle

theorem ofLane (h : TxFrame k s t) (hlane : t.lane k = s.lane k) : TxSends k s t := by
  refine ⟨h, ?_, ?_, ?_, ?_⟩
  all_goals rw [hlane]

theorem emit (k : Nat) (s : State) (o : Out) : TxSends k s (s.emit o) := ofLane (TxFrame.emit k s o) (State.emit_lane s o k)

theorem setPort (k p : Nat) (s : State) (x : PortS) : TxSends k s (s.setPort p x) := ofLane (TxFrame.setPort k p s x) rfl

theorem inc (k : Nat) (s : State) : TxSends k s (s.inc F.LANE_INJECTED_INJECTED k) := ofLane (TxFrame.inc k s) rfl

theorem thenEmit (h : TxSends k s t) (o : Out) : TxSends k s (t.emit o) := h.trans (emit k t o)

theorem thenInc (h : TxSends k s t) : TxSends k s (t.inc F.LANE_INJECTED_INJECTED k) := h.trans (inc k t)

/-! ### The fill -/

theorem txRun (s : State) (k l n : Nat) : TxSends k s (s.txRun k l n) := by
  unfold State.txRun
  extract_lets x tx at_ tx'
  split
  · exact refl k s
  split
  · refine thenEmit ?_ _
    exact setTx s rfl rfl rfl rfl
  split
  · refine thenEmit ?_ _
    exact setTx s rfl rfl rfl rfl
  · refine thenEmit ?_ _
    exact setTx s rfl rfl rfl rfl

theorem txFillTo (s : State) (k time : Nat) : TxSends k s (s.txFillTo k time) := by
  unfold State.txFillTo
  dsimp only
  split
  · exact refl k s
  split
  · exact refl k s
  · exact txRun s k _ _

/-! ### Single blocks -/

theorem injectTx (s : State) (k line : Nat) : TxSends k s (s.injectTx k line).2 := by
  unfold State.injectTx
  extract_lets x c
  split
  · refine thenInc (t := s.setLane k _) ?_
    exact setTx s rfl rfl rfl rfl
  · exact refl k s

theorem txLine (s : State) (k l line : Nat) : TxSends k s (s.txLine k l line) := by
  unfold State.txLine
  extract_lets injected x w
  refine thenEmit ((injectTx s k line).trans ?_) _
  exact setTx injected.2 rfl rfl rfl rfl

theorem thenTxLine (h : TxSends k s t) (l line : Nat) : TxSends k s (t.txLine k l line) := h.trans (txLine t k l line)

theorem histLine (s : State) (k l line hist : Nat) :
    TxSends k s ((s.setLane k { s.lane k with tx := { (s.lane k).tx with hist := hist } }).txLine k l line) := by
  refine thenTxLine ?_ l _
  exact setTx s rfl rfl rfl rfl

theorem txBlock (s : State) (k l hdr payload : Nat) : TxSends k s (s.txBlock k l hdr payload) := histLine s k l _ _

theorem thenTxBlock (h : TxSends k s t) (l hdr payload : Nat) : TxSends k s (t.txBlock k l hdr payload) :=
  h.trans (txBlock t k l hdr payload)

theorem fillNext (s : State) (k l : Nat) : TxSends k s (s.setLane k ((s.lane k).fillNext l).2) := by
  refine setTx s ?_ ?_ ?_ ?_
  all_goals
    unfold LaneS.fillNext
    dsimp only
    split
    · rfl
    split
    · rfl
    · rfl

theorem txFillOne (s : State) (k l : Nat) : TxSends k s (s.txFillOne k l) :=
  (fillNext s k l).thenTxLine l _

/-! ### What is due -/

theorem upOther (s : State) (p k t0 : Nat) : TxSends k s (s.upOther p k t0) := by
  unfold State.upOther
  dsimp only
  split
  · exact (setPort k p s _).thenTxBlock p _ _
  split
  · exact refl k s
  · exact (setPort k p s _).thenTxBlock p _ _

theorem upRun (p k until_ fuel : Nat) : ∀ s : State, TxSends k s (s.upRun p k until_ fuel) := by
  induction fuel with
  | zero => exact refl k
  | succ fuel ih =>
    intro s
    unfold State.upRun
    extract_lets x y bt t0 other
    split
    · split
      · split
        · exact refl k s
        · extract_lets filled x' tx placed
          have hplaced : TxSends k s placed := by
            refine TxSends.trans (t := filled) (txFillTo s k _) ?_
            exact setTx filled rfl rfl rfl rfl
          exact ((hplaced.trans (setPort k p placed _)).thenTxBlock p _ _).trans (ih _)
      · split
        · exact refl k s
        · exact (upOther s p k t0).trans (ih _)
    · split
      · exact refl k s
      · exact (upOther s p k t0).trans (ih _)

theorem txSync (s : State) (k : Nat) : TxSends k s (s.txSync k) := by
  unfold State.txSync
  split
  · exact refl k s
  · dsimp only
    split
    · exact txFillTo s k _
    · exact (upRun _ k _ _ s).trans (txFillTo _ k _)

/-- TRAIN blocks in a row. -/
theorem trainBlocks (k l flags : Nat) (bs : List Nat) : ∀ s : State, TxSends k s (bs.foldl (fun s _ =>
    (s.setLane k { s.lane k with tx := { (s.lane k).tx with seq := ((s.lane k).tx.seq + 1) % 256 } }).txBlock k l 2
      (trainBlockPay flags (s.lane k).rate (s.lane k).tx.seq l)) s) := by
  induction bs with
  | nil => exact refl k
  | cons b bs ih =>
    intro s
    refine TxSends.trans (TxSends.thenTxBlock ?_ l _ _) (ih _)
    exact setTx s rfl rfl rfl rfl

theorem txTrain (s : State) (k n flags : Nat) : TxSends k s (s.txTrain k n flags) := by
  unfold State.txTrain
  split
  · exact refl k s
  · exact (txSync s k).trans (trainBlocks k _ flags _ _)

end TxSends

/-! ### Another fill -/

theorem TxFrame.txTo (s : State) (k fill : Nat) (pads locked : Bool) : TxFrame k s (s.txTo k fill pads locked) := by
  unfold State.txTo
  extract_lets synced x tx was is filled
  have hfilled : TxFrame k s filled := (TxSends.txSync s k).toTxFrame.trans (.setLane k k _ _)
  clear_value filled
  split
  · exact hfilled
  · extract_lets port emptied
    have hemptied : TxFrame k s emptied := by
      unfold emptied
      split
      · exact hfilled
      · exact hfilled.trans (.setPort k _ _ _)
    split
    · exact hemptied.trans (.emit k _ _)
    · exact hemptied

/-- What a transmitter is told to send, it sends from now on. -/
theorem State.txTo_lane (s : State) (k fill : Nat) (pads locked : Bool) :
    ∃ next, (s.txTo k fill pads locked).lane k = { s.lane k with
      tx := { ((s.txSync k).lane k).tx with fill := fill, pads := pads, locked := locked, next := next } } := by
  have hsync := (TxSends.txSync s k).lane
  unfold State.txTo
  extract_lets synced x tx was is filled
  refine ⟨if was then tx.next else max tx.next synced.now10, ?_⟩
  have hfilled : filled.lane k = { s.lane k with
      tx := { tx with fill := fill, pads := pads, locked := locked, next := if was then tx.next else max tx.next synced.now10 } } := by
    unfold filled
    rw [State.setLane_lane]
    unfold x synced
    rw [hsync]
  clear_value filled
  split
  · exact hfilled
  · extract_lets port emptied
    have hemptied : emptied.lane k = filled.lane k := by
      unfold emptied
      split
      · rfl
      · rfl
    split
    · rw [State.emit_lane, hemptied]
      exact hfilled
    · rw [hemptied]
      exact hfilled

theorem TxFrame.txTest (s : State) (k : Nat) : TxFrame k s (s.txTest k) := by
  unfold State.txTest
  extract_lets code loop r lane tx seeded
  have hseeded : TxFrame k s seeded := by
    unfold seeded
    split
    · exact ((TxFrame.fresh k 31 s).trans (TxSends.txSync _ k).toTxFrame).trans (.setLane k k _ _)
    · exact .refl k s
  exact hseeded.trans (.txTo seeded k _ _ _)

theorem TxFrame.txState (s : State) (k old : Nat) : TxFrame k s (s.txState k old) := by
  unfold State.txState
  dsimp only
  split
  · exact .txTo s k _ _ _
  split
  · exact .txTest s k
  split
  · exact .txTo s k _ _ _
  split
  · exact (TxFrame.txTo s k _ _ _).trans (TxSends.txTrain _ k _ _).toTxFrame
  · exact .txTo s k _ _ _

end Sys2Proof.Machine


/-!
PROOFS. A lane is brought up, and loses lock.
-/

namespace Sys2Proof.Machine

/-! ### A slice takes a state -/

/-- The change of state leaves the bond of the lane alone: it neither enters CAPS, ACTIVE nor EIDLE nor leaves ACTIVE or a state after it for
bring-up. -/
def State.keepsBond (s : State) (k st : Nat) : Prop :=
  st ≠ 4 ∧ st ≠ 5 ∧ st ≠ 7 ∧ s.laneSt k ≠ 5 ∧ (within 5 (s.laneSt k) 8 = false ∨ st = 6 ∨ st = 8)

/-- Beside its state a slice that leaves the bond alone changes its transmitter. -/
theorem State.toLane_frame {s : State} {k st : Nat} (h : s.keepsBond k st) : TxFrame k (s.wr F.LANE_STATE_STATE st k) (s.toLane k st) := by
  obtain ⟨h4, h5, h7, hold, hmoved⟩ := h
  unfold State.toLane
  extract_lets old lane entered sent safe
  have hsent : TxFrame k (s.wr F.LANE_STATE_STATE st k) sent := (TxFrame.setLane k k _ _).trans (.txState entered k old)
  have hsafe : safe = sent := by
    unfold safe
    split
    · exact if_neg (fun h => hold h.1)
    · rfl
  rw [hsafe]
  split
  · exact hsent
  · rw [if_neg h4, if_neg h5]
    by_cases h6 : st = 6
    · rw [if_pos h6]
      exact hsent
    rw [if_neg h6, if_neg h7]
    by_cases h8 : st = 8
    · rw [if_pos h8]
      exact hsent
    have hout : within 5 old 8 = false := hmoved.resolve_right (not_or_intro h6 h8)
    rw [if_neg h8, hout, if_neg Bool.false_ne_true]
    split
    · exact hsent.trans (.setPort k _ _ _)
    · exact hsent

/-- A slice is in the state that it takes. -/
theorem State.toLane_state {s : State} {k st : Nat} (h : s.keepsBond k st) (hst : st < 16) : (s.toLane k st).rd F.LANE_STATE_STATE k = st := by
  rw [(State.toLane_frame h).rd_apart (by decide), State.rd_wr_self]
  exact Nat.mod_eq_of_lt hst

/-- Fields of a slice that a change of state leaves. -/
theorem State.toLane_rd {s : State} {k st : Nat} (h : s.keepsBond k st) {f : Fld} (hf : F.LANE_STATE_STATE.apart f = true)
    (hi : F.LANE_INJECTED_INJECTED.apart f = true) : (s.toLane k st).rd f k = s.rd f k := by
  rw [(State.toLane_frame h).rd_apart hi, State.rd_wr_apart s hf]

/-! ### Block lock -/

theorem State.setLock_frame (s : State) (k v : Nat) : TxFrame k (s.wr F.LANE_STATE_BLOCK_LOCK v k) (s.setLock k v) := by
  unfold State.setLock
  extract_lets x lane locked
  have hlocked : TxFrame k (s.wr F.LANE_STATE_BLOCK_LOCK v k) locked := .setLane k k _ _
  clear_value locked
  split
  · exact hlocked.trans (.txTo locked k _ _ _)
  · exact hlocked

theorem State.setLock_self (s : State) (k v : Nat) : (s.setLock k v).rd F.LANE_STATE_BLOCK_LOCK k = v % 2 := by
  rw [(s.setLock_frame k v).rd_apart (by decide)]
  exact State.rd_wr_self s F.LANE_STATE_BLOCK_LOCK v k 0

theorem State.setLock_rd (s : State) (k v : Nat) {f : Fld} (hf : F.LANE_STATE_BLOCK_LOCK.apart f = true)
    (hi : F.LANE_INJECTED_INJECTED.apart f = true) : (s.setLock k v).rd f k = s.rd f k := by
  rw [(s.setLock_frame k v).rd_apart hi, State.rd_wr_apart s hf]

/-- A receiver at rest has no clock and no block lock. -/
theorem State.rxOff_rests (s : State) (k : Nat) :
    (s.rxOff k).rd F.LANE_STATE_CDR_LOCK k = 0 ∧ (s.rxOff k).rd F.LANE_STATE_BLOCK_LOCK k = 0 := by
  unfold State.rxOff
  constructor
  · rw [State.rd_wr_apart _ (by decide), State.setLock_rd _ _ _ (by decide) (by decide)]
    exact State.rd_wr_self s F.LANE_STATE_CDR_LOCK 0 k 0
  · rw [State.rd_wr_apart _ (by decide), State.setLock_self]

theorem State.rxOff_state (s : State) (k : Nat) : (s.rxOff k).rd F.LANE_STATE_STATE k = s.rd F.LANE_STATE_STATE k := by
  unfold State.rxOff
  rw [State.rd_wr_apart _ (by decide), State.setLock_rd _ _ _ (by decide) (by decide), State.rd_wr_apart _ (by decide)]

/-! ### TRAIN and DETECT -/

theorem State.loadEq_rd (s : State) (k l : Nat) {f : Fld} (he : F.LANE_EQ_CTLE.apart f = true) (hd : F.LANE_EQ_DFE1.apart f = true)
    (het : F.LANE_EQ_CTLE_TRIM.apart f = true) (hdt : F.LANE_EQ_DFE1_TRIM.apart f = true) : (s.loadEq k l).rd f k = s.rd f k := by
  unfold State.loadEq State.loadEqAt
  dsimp only
  rw [State.rd_wr_apart _ hdt, State.rd_wr_apart _ het, State.rd_wr_apart _ hd, State.rd_wr_apart _ he]

/-- A slice in TRAIN has a receiver at rest. -/
theorem State.toTrain_reads {s : State} {k : Nat} (h : s.keepsBond k 2) : (s.toTrain k).rd F.LANE_STATE_STATE k = 2
    ∧ (s.toTrain k).rd F.LANE_STATE_CDR_LOCK k = 0 ∧ (s.toTrain k).rd F.LANE_STATE_BLOCK_LOCK k = 0 := by
  unfold State.toTrain
  extract_lets entered counted loaded
  have hloaded : loaded.rd F.LANE_STATE_STATE k = counted.rd F.LANE_STATE_STATE k :=
    ((TxSends.txSync _ k).rd_apart (by decide)).trans (State.loadEq_rd counted k _ (by decide) (by decide) (by decide) (by decide))
  have hcounted : counted.rd F.LANE_STATE_STATE k = entered.rd F.LANE_STATE_STATE k := State.rd_wr_apart entered (by decide) _ _ _
  refine ⟨?_, State.rxOff_rests _ k⟩
  rw [State.rxOff_state, State.setLane_rd _ k, hloaded, hcounted]
  exact State.toLane_state h (by decide)

theorem State.toDetect_state {s : State} {k : Nat} (h : s.keepsBond k 1) : (s.toDetect k).rd F.LANE_STATE_STATE k = 1 := by
  unfold State.toDetect
  rw [State.rxOff_state]
  exact State.toLane_state h (by decide)

/-- A change of a field of the slice that is not its state leaves what a change of state does to the bond. -/
theorem State.keepsBond_of_state {s t : State} {k st old : Nat} (hold : s.rd F.LANE_STATE_STATE k = old)
    (ht : t.rd F.LANE_STATE_STATE k = s.rd F.LANE_STATE_STATE k)
    (h : st ≠ 4 ∧ st ≠ 5 ∧ st ≠ 7 ∧ old ≠ 5 ∧ (within 5 old 8 = false ∨ st = 6 ∨ st = 8)) : t.keepsBond k st := by
  have hst : t.laneSt k = old := ht.trans hold
  unfold State.keepsBond
  rw [hst]
  exact h

/-! ### A block arrives -/

/-- What a receiver makes of 66 line bits. -/
def State.received (s : State) (k line : Nat) : State :=
  let fr := (s.lane k).frame line
  fr.1.elim (s.setLane k fr.2) fun framed => (s.setLane k fr.2).framed k framed

/-- The line bits that reach a receiver whose pads the board may have swapped. -/
def State.unswapped (s : State) (k line : Nat) : Nat :=
  if bit (s.eqByte (s.lane k).rate ((s.laneOf k).getD (s.lane k).lastLane) 7) 1 = 1 then 2 ^ 66 - 1 - line else line

/-- Outside TEST a receiver with a clock takes what arrives at its pads. -/
theorem laneBlockReceive_eq {s u : State} {d k hdr payload : Nat} (hu : u = s.atCmd d) (hk : k < 544) (hhdr : hdr < 4)
    (hpay : payload < 2 ^ 64) (hon : u.pressOn) (hst : u.rd F.LANE_STATE_STATE k ≠ 0xA) (hcdr : u.on F.LANE_STATE_CDR_LOCK k = true) :
    exec (.laneBlockReceive d k hdr payload) s = .next (s.closeCmd d (u.received k (u.unswapped k (hdr + 4 * payload)))) := by
  have htest : u.laneSt k ≠ 0xA := hst
  have hline : u.lineIn k (hdr % 4 + 4 * (payload % 2 ^ 64)) = (u.unswapped k (hdr + 4 * payload), u) := by
    rw [Nat.mod_eq_of_lt hhdr, Nat.mod_eq_of_lt hpay]
    exact if_neg fun h => htest h.1
  rw [exec_laneBlockReceive, execLaneBlockReceive]
  refine cmd_press_eq (decide_eq_true hk) hu hon ?_
  dsimp only
  rw [hline, decide_eq_false htest, hcdr]
  simp only [Bool.false_or, Bool.false_and, Bool.false_eq_true, ↓reduceIte, State.received]
  generalize u.unswapped k (hdr + 4 * payload) = line
  generalize u.laneOf k = lane
  cases lane with
  | none =>
    cases ((u.lane k).frame line).1 with
    | none => rfl
    | some framed => rfl
  | some l =>
    cases ((u.lane k).frame line).1 with
    | none => rfl
    | some framed => rfl

/-- A receiver that stands at a block boundary frames the 66 bits that arrive. -/
theorem LaneS.frame_aligned {x : LaneS} (hbits : x.bufBits = 0) (hbuf : x.buf = 0) (hskip : x.skip = false) {line : Nat}
    (hline : line < 2 ^ 66) : x.frame line = (some line, x) := by
  unfold LaneS.frame
  simp only [hbits, hbuf, hskip, Nat.zero_add, Nat.pow_zero, Nat.mul_one, Bool.false_eq_true, ↓reduceIte, Nat.le_refl, Nat.sub_self,
    Nat.mod_eq_of_lt hline, Nat.div_eq_of_lt hline]
  cases x
  simp_all

theorem State.received_aligned {s : State} {k : Nat} (hbits : (s.lane k).bufBits = 0) (hbuf : (s.lane k).buf = 0)
    (hskip : (s.lane k).skip = false) {line : Nat} (hline : line < 2 ^ 66) :
    s.received k line = (s.setLane k (s.lane k)).framed k line := by
  unfold State.received
  rw [LaneS.frame_aligned hbits hbuf hskip hline]
  rfl

/-- At a block boundary the hunt counts a valid header, and slips after another. -/
theorem LaneS.hunt_aligned {x : LaneS} (hbits : x.bufBits = 0) (hskip : x.skip = false) (hdr : Nat) :
    (x.hunt hdr).good = (if hdr = 1 ∨ hdr = 2 then x.good + 1 else 0)
      ∧ (x.hunt hdr).skip = decide (hdr ≠ 1 ∧ hdr ≠ 2) := by
  unfold LaneS.hunt
  by_cases hvalid : hdr = 1 ∨ hdr = 2
  · rw [if_pos hvalid, if_pos hvalid, decide_eq_false (by omega)]
    exact ⟨rfl, hskip⟩
  · rw [if_neg hvalid, if_neg hvalid, if_pos hbits, decide_eq_true (by omega)]
    exact ⟨rfl, rfl⟩

/-- What a hunt makes of a block that no injection corrupts. -/
def State.hunted (s : State) (k hdr payload : Nat) : State :=
  let v := s.setLane k { s.lane k with injN := (s.lane k).injN + 1 }
  v.setLane k { (v.lane k).hunt hdr with hist := (descramble ((v.lane k).hunt hdr).hist payload).2 }

/-- The hunt in LOCK takes the header of a block that no injection corrupts. -/
theorem State.framed_hunts {s : State} {k hdr payload : Nat} (hhdr : hdr < 4) (hinject : (s.lane k).inject = 0)
    (hst : s.rd F.LANE_STATE_STATE k = 3) (hlock : s.on F.LANE_STATE_BLOCK_LOCK k = false) :
    s.framed k (hdr + 4 * payload) = s.hunted k hdr payload := by
  have hinjected : s.injectRx k hdr payload = ((hdr, payload), s.setLane k { s.lane k with injN := (s.lane k).injN + 1 }) :=
    if_neg (by rw [hinject]; decide)
  have hsplit : (hdr + 4 * payload) % 4 = hdr ∧ (hdr + 4 * payload) / 4 = payload := by omega
  unfold State.framed State.hunted
  rw [hsplit.1, hsplit.2, hinjected]
  extract_lets lane injected v x huntedTo
  have hv : v.on F.LANE_STATE_BLOCK_LOCK k = false := hlock
  have hhunting : v.hunting k = true := by
    have hvst : v.laneSt k = 3 := hst
    simp [State.hunting, hv, hvst]
  have hleft : huntedTo.laneSt k ≠ 6 := by
    have hkept : huntedTo.laneSt k = 3 := hst
    rw [hkept]
    decide
  rw [hv, if_neg Bool.false_ne_true, hhunting, if_pos rfl, if_neg hleft]

theorem State.hunted_lane (s : State) (k hdr payload : Nat) : ((s.hunted k hdr payload).lane k).good
      = (({ s.lane k with injN := (s.lane k).injN + 1 } : LaneS).hunt hdr).good
    ∧ ((s.hunted k hdr payload).lane k).skip = (({ s.lane k with injN := (s.lane k).injN + 1 } : LaneS).hunt hdr).skip := by
  unfold State.hunted
  simp only [State.setLane_lane, and_self]

/-- Settles O28: the states of bring-up, the hunt for the block boundary, and the loss of lock. -/
theorem laneBringUp : Obligations.LaneBringUp := by
  unfold Obligations.LaneBringUp
  refine ⟨?enable, ?detect, ?cdr, ?cdrOther, ?hunt, ?lock, ?lockRelock, ?lockExit, ?noLock, ?lost, ?kept, ?los, ?losActive, ?exit⟩
  case enable =>
    intro s u d k hu hk ho
    rw [exec_laneEnable, execLaneEnable]
    exact cmd_eq (decide_eq_true hk) hu (State.hostHold_open ho _ _ _)
  case detect =>
    intro s u d k hu hk hon hst
    have hstate : (u.wr F.LANE_STATE_SIGNAL 1 k).rd F.LANE_STATE_STATE k = 1 := (State.rd_wr_apart u (by decide) _ _ _).trans hst
    have hexec : exec (.signalDetect d k) s = .next (s.closeCmd d ((u.wr F.LANE_STATE_SIGNAL 1 k).toTrain k)) :=
      cmd_press_eq (decide_eq_true hk) hu hon (if_pos hstate)
    refine ⟨(u.wr F.LANE_STATE_SIGNAL 1 k).toTrain k, hexec, rfl, ?_⟩
    exact State.toTrain_reads (State.keepsBond_of_state (s := u.wr F.LANE_STATE_SIGNAL 1 k) hstate (Eq.refl _) (by decide))
  case cdr =>
    intro s u d k hu hk hon hst
    have hbond : (u.wr F.LANE_STATE_CDR_LOCK 1 k).keepsBond k 3 :=
      State.keepsBond_of_state hst (State.rd_wr_apart u (by decide) _ _ _) (by decide)
    refine ⟨(u.wr F.LANE_STATE_CDR_LOCK 1 k).toLane k 3, cmd_press_eq (decide_eq_true hk) hu hon (if_pos hst), rfl,
      State.toLane_state hbond (by decide), ?_⟩
    rw [State.toLane_rd hbond (by decide) (by decide)]
    exact State.rd_wr_self u F.LANE_STATE_CDR_LOCK 1 k 0
  case cdrOther =>
    intro s u d k hu hk hon hst
    exact cmd_press_eq (decide_eq_true hk) hu hon (if_neg hst)
  case hunt =>
    intro s u d k hdr payload hu hk hhdr hpay hon hst hcdr hlock hinject hbits hbuf hskip hswap
    have hexec := laneBlockReceive_eq hu hk hhdr hpay hon (by rw [hst]; decide) hcdr
    have hline : u.unswapped k (hdr + 4 * payload) = hdr + 4 * payload := if_neg (by rw [hswap]; decide)
    rw [hline, State.received_aligned hbits hbuf hskip (by omega)] at hexec
    rw [State.framed_hunts (s := u.setLane k (u.lane k)) hhdr (by rwa [State.setLane_lane]) hst hlock] at hexec
    obtain ⟨hgood, hslip⟩ := State.hunted_lane (u.setLane k (u.lane k)) k hdr payload
    rw [State.setLane_lane] at hgood hslip
    obtain ⟨hcounted, hslipped⟩ := LaneS.hunt_aligned (x := { u.lane k with injN := (u.lane k).injN + 1 }) hbits hskip hdr
    exact ⟨_, hexec, rfl, hgood.trans hcounted, hslip.trans hslipped⟩
  case lock =>
    intro s u d k hu hk hon hst hlock hgood
    have hneeded : (u.hunting k && decide (u.goodNeeded k ≤ (u.lane k).good)) = true := by
      simp [State.hunting, State.goodNeeded, State.laneSt, hlock, hst, hgood]
    refine ⟨u.setLock k 1, cmd_press_eq (decide_eq_true hk) hu hon ?_, rfl, State.setLock_self u k 1, ?_⟩
    · dsimp only
      rw [if_pos hneeded, if_neg (by simp [State.laneSt, hst]), if_neg (by simp [State.laneSt, hst])]
    · exact (State.setLock_rd u k 1 (by decide) (by decide)).trans hst
  case lockRelock =>
    intro s u d k hu hk hon hst hlock hgood
    have hneeded : (u.hunting k && decide (u.goodNeeded k ≤ (u.lane k).good)) = true := by
      simp [State.hunting, State.goodNeeded, State.laneSt, hlock, hst, hgood]
    refine cmd_press_eq (decide_eq_true hk) hu hon ?_
    dsimp only
    rw [if_pos hneeded]
    exact if_pos hst
  case lockExit =>
    intro s u d k hu hk hon hst hlock hgood
    have hneeded : (u.hunting k && decide (u.goodNeeded k ≤ (u.lane k).good)) = true := by
      simp [State.hunting, State.goodNeeded, State.laneSt, hlock, hst, hgood]
    refine cmd_press_eq (decide_eq_true hk) hu hon ?_
    dsimp only
    rw [if_pos hneeded, if_neg (by simp [State.laneSt, hst])]
    exact if_pos hst
  case noLock =>
    intro s u d k hu hk hon hgood
    refine cmd_press_eq (decide_eq_true hk) hu hon (if_neg ?_)
    rw [Bool.and_eq_true, decide_eq_true_eq]
    exact fun h => absurd h.2 (Nat.not_le_of_lt hgood)
  case lost =>
    intro s u d k hu hk hon hlock hfail
    exact cmd_press_eq (decide_eq_true hk) hu hon (if_pos (by rw [hlock, hfail]; rfl))
  case kept =>
    intro s u d k hu hk hon hfail
    exact cmd_press_eq (decide_eq_true hk) hu hon (if_neg (by simp [hfail]))
  case los =>
    intro s u d k hu hk hon hst
    refine cmd_press_eq (decide_eq_true hk) hu hon (if_neg ?_)
    rw [State.laneSt, State.rd_wr_apart u (by decide)]
    exact hst
  case losActive =>
    intro s u d k hu hk hon hst
    refine cmd_press_eq (decide_eq_true hk) hu hon (if_pos ?_)
    rw [State.laneSt, State.rd_wr_apart u (by decide)]
    exact hst
  case exit =>
    intro s u d k hu hk hon hst
    refine ⟨(u.wr F.LANE_STATE_SIGNAL 1 k).toLane k 8, cmd_press_eq (decide_eq_true hk) hu hon (if_pos hst), rfl, ?_⟩
    exact State.toLane_state (State.keepsBond_of_state hst (State.rd_wr_apart u (by decide) _ _ _) (by decide)) (by decide)

end Sys2Proof.Machine


/-!
PROOFS. Timeouts of bring-up, and the burst of TRAIN blocks that ends electrical idle.
-/

namespace Sys2Proof.Machine

/-! ### Timeouts -/

/-- A write of a field of the slice that is not its pad pair leaves the lane that it serves and the mode of its function. -/
theorem State.wr_lane_mode (s : State) {f : Fld} (hpad : f.apart F.LANE_STATE_PAD = true) (hf : 0x100000 ≤ f.addr) (v k l : Nat) :
    (s.wr f v k).laneOf k = s.laneOf k ∧ (s.wr f v k).hwMode 1 l = s.hwMode 1 l := by
  constructor
  · unfold State.laneOf
    rw [State.rd_wr_apart s hpad]
  · unfold State.hwMode
    rw [State.rd_wr_ne s (by simp only [Fld.key, F.FUNC_MODE_CURRENT]; omega)]
    rfl

/-- A timeout in hardware mode: the state that follows. -/
theorem State.laneFailed_hardware {s : State} {k l : Nat} (hlane : s.laneOf k = some l) (hmode : s.hwMode 1 l = true)
    (next : State → State) : s.laneFailed k next = next s := by
  unfold State.laneFailed
  rw [hlane]
  exact if_pos hmode

/-- A timeout in host-assisted mode: the lane asks. -/
theorem State.laneFailed_assisted {s : State} {k l : Nat} (hlane : s.laneOf k = some l) (hmode : s.hwMode 1 l = false)
    (next : State → State) : s.laneFailed k next = s.laneAsk k l 2 2 := by
  unfold State.laneFailed
  rw [hlane]
  exact if_neg (by simp [hmode])

/-- A timeout is due once its state has lasted its time. -/
theorem State.laneDue_iff (s : State) (k st ns : Nat) :
    s.laneDue k st ns = true ↔ s.rd F.LANE_STATE_STATE k = st ∧ (s.lane k).since + ns ≤ s.clk := by
  unfold State.laneDue State.due
  rw [Bool.and_eq_true, decide_eq_true_eq, decide_eq_true_eq]
  rfl

/-- A timeout that sets a flag of its slice. -/
theorem State.laneFailed_flag {s : State} {k l : Nat} (hlane : s.laneOf k = some l) {f : Fld}
    (hpad : f.apart F.LANE_STATE_PAD = true) (hf : 0x100000 ≤ f.addr) (next : State → State) :
    (s.flag f k).laneFailed k next = if s.hwMode 1 l = true then next (s.flag f k) else (s.flag f k).laneAsk k l 2 2 := by
  obtain ⟨hl, hm⟩ := s.wr_lane_mode hpad hf 1 k l
  have hlane' : (s.flag f k).laneOf k = some l := hl.trans hlane
  have hmode' : (s.flag f k).hwMode 1 l = s.hwMode 1 l := hm
  unfold State.laneFailed
  rw [hlane', ← hmode']

/-! ### Blocks that a transmitter sends -/

/-- A line of 66 bits leaves the device as a block. -/
theorem State.txLine_out {s : State} (hpins : s.power.jtagTest = false) (k l line : Nat) :
    ∃ h p at_, (s.txLine k l line).out = s.out ++ [.block l h p at_] := by
  have hinjected : (s.injectTx k line).2.out = s.out ∧ (s.injectTx k line).2.power = s.power := by
    unfold State.injectTx
    dsimp only
    split
    · exact ⟨rfl, rfl⟩
    · exact ⟨rfl, rfl⟩
  obtain ⟨hout, hpower⟩ := hinjected
  unfold State.txLine
  extract_lets injected x w
  refine ⟨w % 4, w / 4, injected.2.dt10 x.tx.next, ?_⟩
  have hemits : injected.2.power.jtagTest = false := by
    rw [hpower]
    exact hpins
  clear_value w
  rw [← hout]
  unfold State.emit
  exact congrArg State.out (if_neg (by rw [State.setLane_power, hemits]; exact Bool.false_ne_true))

theorem State.histLine_out {s : State} (hpins : s.power.jtagTest = false) (k l line hist : Nat) :
    ∃ h p at_, ((s.setLane k { s.lane k with tx := { (s.lane k).tx with hist := hist } }).txLine k l line).out
      = s.out ++ [.block l h p at_] :=
  State.txLine_out (s := s.setLane k { s.lane k with tx := { (s.lane k).tx with hist := hist } }) hpins k l line

theorem State.txBlock_out {s : State} (hpins : s.power.jtagTest = false) (k l hdr payload : Nat) :
    ∃ h p at_, (s.txBlock k l hdr payload).out = s.out ++ [.block l h p at_] := State.histLine_out hpins k l _ _

/-- TRAIN blocks in a row leave the device one by one. -/
theorem State.trainBlocks_out (k l flags : Nat) (ns : List Nat) : ∀ {s : State}, s.power.jtagTest = false →
    ∃ bs, (ns.foldl (fun s _ =>
        (s.setLane k { s.lane k with tx := { (s.lane k).tx with seq := ((s.lane k).tx.seq + 1) % 256 } }).txBlock k l 2
          (trainBlockPay flags (s.lane k).rate (s.lane k).tx.seq l)) s).out = s.out ++ bs
      ∧ bs.length = ns.length ∧ ∀ b ∈ bs, ∃ h p at_, b = Out.block l h p at_ := by
  induction ns with
  | nil => exact fun {s} _ => ⟨[], (List.append_nil _).symm, rfl, fun _ h => absurd h List.not_mem_nil⟩
  | cons n ns ih =>
    intro s hpins
    generalize hv : s.setLane k { s.lane k with tx := { (s.lane k).tx with seq := ((s.lane k).tx.seq + 1) % 256 } } = v
    have hvout : v.out = s.out := by
      rw [← hv]
      rfl
    have hvpins : v.power.jtagTest = false := by
      rw [← hv]
      exact hpins
    obtain ⟨h, p, at_, hout⟩ := State.txBlock_out hvpins k l 2 (trainBlockPay flags (s.lane k).rate (s.lane k).tx.seq l)
    obtain ⟨bs, hbs, hlen, hall⟩ := ih (s := v.txBlock k l 2 (trainBlockPay flags (s.lane k).rate (s.lane k).tx.seq l)) (by
      rw [(TxSends.txBlock v k l 2 _).power]
      exact hvpins)
    refine ⟨.block l h p at_ :: bs, ?_, by simp [hlen], ?_⟩
    · rw [List.foldl_cons, hv, hbs, hout, hvout, List.append_assoc]
      rfl
    · intro b hb
      rcases List.mem_cons.1 hb with rfl | hb
      · exact ⟨h, p, at_, rfl⟩
      · exact hall b hb

/-- A burst of TRAIN blocks leaves the device after what was due. -/
theorem State.txTrain_out {s : State} {k l : Nat} (hlane : s.laneOf k = some l) (hpins : s.power.jtagTest = false) (n flags : Nat) :
    ∃ pre bs, (s.txTrain k n flags).out = s.out ++ pre ++ bs ∧ bs.length = n ∧ ∀ b ∈ bs, ∃ h p at_, b = Out.block l h p at_ := by
  obtain ⟨pre, hpre⟩ := (TxSends.txSync s k).out
  obtain ⟨bs, hbs, hlen, hall⟩ := State.trainBlocks_out k l flags (List.range n) (s := s.txSync k) (by
    rw [(TxSends.txSync s k).power]
    exact hpins)
  refine ⟨pre, bs, ?_, hlen.trans List.length_range, hall⟩
  unfold State.txTrain
  rw [hlane, hpre]
  exact hbs

/-- Settles O29: the timeouts of bring-up in both modes, and the transmit exit. -/
theorem laneTimeouts : Obligations.LaneTimeouts := by
  unfold Obligations.LaneTimeouts
  refine ⟨?train, ?lock, ?caps, ?relock, ?exitFail, ?assisted, ?early, ?txExit, ?notIdle⟩
  case train =>
    intro s u d k l hu hk hon hst hdue hlane hmode
    have hexec : exec (.trainTimeout d k) s = .next (s.closeCmd d ((u.flag F.LANE_STATUS_TRAIN_TIMEOUT k).toDetect k)) := by
      refine cmd_press_eq (decide_eq_true hk) hu hon ?_
      rw [if_pos ((u.laneDue_iff k 2 2000000).2 ⟨hst, hdue⟩), State.laneFailed_flag hlane (by decide) (by decide), if_pos hmode]
    refine ⟨_, hexec, rfl, State.toDetect_state (State.keepsBond_of_state hst ?_ (by decide))⟩
    rw [State.flag_rd]
    exact State.rd_wr_apart u (by decide) _ _ _
  case lock =>
    intro s u d k l hu hk hon hst hdue hlane hmode
    have hexec : exec (.lockTimeout d k) s = .next (s.closeCmd d ((u.flag F.LANE_STATUS_LOCK_TIMEOUT k).toTrain k)) := by
      refine cmd_press_eq (decide_eq_true hk) hu hon ?_
      rw [if_pos ((u.laneDue_iff k 3 1000000).2 ⟨hst, hdue⟩), State.laneFailed_flag hlane (by decide) (by decide), if_pos hmode]
    refine ⟨_, hexec, rfl, (State.toTrain_reads (State.keepsBond_of_state hst ?_ (by decide))).1⟩
    rw [State.flag_rd]
    exact State.rd_wr_apart u (by decide) _ _ _
  case caps =>
    intro s u d k l hu hk hon hst hdue hlane hmode
    have hexec : exec (.capsTimeout d k) s = .next (s.closeCmd d ((u.flag F.LANE_STATUS_CAPS_TIMEOUT k).toDetect k)) := by
      refine cmd_press_eq (decide_eq_true hk) hu hon ?_
      rw [if_pos ((u.laneDue_iff k 4 100000000).2 ⟨hst, hdue⟩), State.laneFailed_flag hlane (by decide) (by decide), if_pos hmode]
    refine ⟨_, hexec, rfl, State.toDetect_state (State.keepsBond_of_state hst ?_ (by decide))⟩
    rw [State.flag_rd]
    exact State.rd_wr_apart u (by decide) _ _ _
  case relock =>
    intro s u d k l hu hk hon hst hdue hlane hmode
    obtain ⟨hl, hm⟩ := u.wr_lane_mode (f := F.LANE_ERRCNT_RELOCK_FAIL) (by decide) (by decide)
      (min (u.rd F.LANE_ERRCNT_RELOCK_FAIL k + 1) (2 ^ F.LANE_ERRCNT_RELOCK_FAIL.w - 1)) k l
    refine cmd_press_eq (decide_eq_true hk) hu hon ?_
    rw [if_pos ((u.laneDue_iff k 6 2000).2 ⟨hst, hdue⟩)]
    exact State.laneFailed_hardware (hl.trans hlane) (hm.trans hmode) _
  case exitFail =>
    intro s u d k l hu hk hon hst hdue hlane hmode
    refine cmd_press_eq (decide_eq_true hk) hu hon ?_
    rw [if_pos ((u.laneDue_iff k 8 _).2 ⟨hst, hdue⟩), State.laneFailed_flag hlane (by decide) (by decide), if_pos hmode]
  case assisted =>
    intro s u d k l hu hk hon hst hdue hlane hmode
    refine cmd_press_eq (decide_eq_true hk) hu hon ?_
    rw [if_pos ((u.laneDue_iff k 2 2000000).2 ⟨hst, hdue⟩), State.laneFailed_flag hlane (by decide) (by decide),
      if_neg (by simp [hmode])]
  case early =>
    intro s u d k hu hk hon hst hearly
    refine cmd_press_eq (decide_eq_true hk) hu hon (if_neg ?_)
    rw [State.laneDue_iff]
    exact fun h => absurd h.2 (Nat.not_le_of_lt hearly)
  case txExit =>
    intro s u d k l hu hk hon hlane hidle hpins
    generalize hv : u.setLane k { u.lane k with tx := { (u.lane k).tx with idle := false } } = v
    have hexec : exec (.txExit d k) s = .next (s.closeCmd d ((v.txTo k 1 true (u.lane k).tx.locked).txTrain k 32
        (2 + b2n (u.on F.LANE_STATE_BLOCK_LOCK k)))) := by
      refine cmd_press_eq (decide_eq_true hk) hu hon ?_
      dsimp only
      rw [if_pos (by simp [hidle, hlane]), hv, ← hv]
      rfl
    have hvlane : v.lane k = { u.lane k with tx := { (u.lane k).tx with idle := false } } := by
      rw [← hv]
      exact State.setLane_lane _ _ _
    have hframe : TxFrame k u (v.txTo k 1 true (u.lane k).tx.locked) := by
      refine .trans ?_ (.txTo v k 1 true _)
      rw [← hv]
      exact .setLane k k u _
    have hsent := TxSends.txTrain (v.txTo k 1 true (u.lane k).tx.locked) k 32 (2 + b2n (u.on F.LANE_STATE_BLOCK_LOCK k))
    obtain ⟨next, hto⟩ := v.txTo_lane k 1 true (u.lane k).tx.locked
    obtain ⟨before, hbefore⟩ := hframe.out
    obtain ⟨pre, bs, hout, hlen, hall⟩ := State.txTrain_out (hframe.laneOf.trans hlane) (by rw [hframe.power]; exact hpins) 32
      (2 + b2n (u.on F.LANE_STATE_BLOCK_LOCK k))
    refine ⟨_, before ++ pre, bs, hexec, rfl, ?_, ?_, ?_, hlen, hall⟩
    · rw [hsent.idle, hto]
      exact (TxSends.txSync v k).idle.trans (by rw [hvlane])
    · rw [hsent.fill, hto]
    · rw [hout, ← hbefore, List.append_assoc u.out]
  case notIdle =>
    intro s u d k hu hk hon hidle
    exact cmd_press_eq (decide_eq_true hk) hu hon (if_neg (by simp [hidle]))

end Sys2Proof.Machine


/-!
PROOFS. Figure of merit, trims, freezing, retraining, counters and received blocks of a lane.
-/

namespace Sys2Proof.Machine

/-! ### What the link makes of a block -/

/-- A step of the link or of a listen: ports, groups and the registers above those of the lanes may change. -/
structure LinkFrame (s t : State) : Prop where
  rest : t = { s with regs := t.regs, ports := t.ports, groups := t.groups }
  rd : ∀ (f : Fld) (i j : Nat), f.key i j < 8 * 0x280000 → t.rd f i j = s.rd f i j

namespace LinkFrame

variable {s t u : State}

theorem refl (s : State) : LinkFrame s s := ⟨rfl, fun _ _ _ _ => rfl⟩

theorem trans (h : LinkFrame s t) (g : LinkFrame t u) : LinkFrame s u := by
  refine ⟨?_, fun f i j hf => (g.rd f i j hf).trans (h.rd f i j hf)⟩
  rw [g.rest, h.rest]

theorem setPort (s : State) (p : Nat) (x : PortS) : LinkFrame s (s.setPort p x) := ⟨rfl, fun _ _ _ _ => rfl⟩

theorem thenPort (h : LinkFrame s t) (p : Nat) (x : PortS) : LinkFrame s (t.setPort p x) := h.trans (setPort t p x)

theorem setLgrp (s : State) (g : Nat) (x : GroupS) : LinkFrame s (s.setLgrp g x) := ⟨rfl, fun _ _ _ _ => rfl⟩

theorem wr (s : State) {f : Fld} (hf : 0x280000 ≤ f.addr) (v i : Nat) : LinkFrame s (s.wr f v i) := by
  refine ⟨rfl, fun g k l hg => State.rd_wr_ne s (fun heq => ?_) v⟩
  rw [heq] at hg
  simp only [Fld.key] at hg
  omega

/-- The slices stay beside their registers. -/
theorem lane (h : LinkFrame s t) (k : Nat) : t.lane k = s.lane k := by
  rw [h.rest]
  rfl

theorem laneSt (h : LinkFrame s t) {k : Nat} (hk : k < 544) : t.laneSt k = s.laneSt k :=
  h.rd F.LANE_STATE_STATE k 0 (by simp only [Fld.key, F.LANE_STATE_STATE]; omega)

theorem cutImage (s : State) (p : Nat) : LinkFrame s (s.cutImage p) := by
  unfold State.cutImage
  split
  · exact refl s
  · exact (setPort s p _).thenPort p _

theorem streamCtl (s : State) (p pay dt : Nat) : LinkFrame s (s.streamCtl p pay dt) := by
  unfold State.streamCtl
  extract_lets x
  split
  · exact (cutImage s p).thenPort p _
  · split
    · exact refl s
    · exact (setPort s p _).thenPort p _
  · exact (cutImage s p).thenPort p _
  · exact (cutImage s p).thenPort p _
  · exact setPort s p _
  · split
    · exact refl s
    · exact (setPort s p _).thenPort p _
  · exact setPort s p _
  · exact setPort s p _
  · exact refl s

theorem streamBlock (s : State) (p : Nat) (b : Blk) : LinkFrame s (s.streamBlock p b) := by
  unfold State.streamBlock
  extract_lets x
  split
  · exact streamCtl s p _ _
  split
  · split
    · exact setPort s p _
    · exact setPort s p _
    · exact wr s (by decide) _ p
  · exact setPort s p _

theorem takeBlock {p : Nat} (h : s.takeBlock p = some t) : LinkFrame s t := by
  unfold State.takeBlock at h
  extract_lets x n next at h
  have hnext (v : State) : LinkFrame v (next v) := by
    unfold next
    dsimp only
    split
    · exact setPort v p _
    · exact setPort v p _
  clear_value next
  split at h
  · cases h
  split at h
  · cases h
  dsimp only at h
  split at h
  · cases h
  split at h
  · split at h
    · cases h
    split at h
    · cases h
      exact (streamBlock s p _).trans (hnext _)
    · cases h
      exact setPort s _ _
  · cases h
    exact ((setPort s _ _).trans (streamBlock _ p _)).trans (hnext _)

theorem takeBlocks (p n : Nat) : ∀ s : State, LinkFrame s (s.takeBlocks p n) := by
  induction n with
  | zero => exact refl
  | succ n ih =>
    intro s
    unfold State.takeBlocks
    split
    · exact refl s
    · rename_i hblock
      exact (takeBlock hblock).trans (ih _)

theorem toLink (s : State) (q : Nat) (b : Blk) : LinkFrame s (s.toLink q b) := by
  unfold State.toLink
  split
  · exact refl s
  dsimp only
  split
  · exact refl s
  split
  · exact (setPort s q _).trans (takeBlocks _ _ _)
  · exact setPort s q _

theorem toCapsRx (s : State) (q : Nat) (b : Blk) : LinkFrame s (s.toCapsRx q b) := by
  unfold State.toCapsRx
  dsimp only
  split
  · exact setPort s q _
  split
  · exact refl s
  · exact setPort s q _

theorem passBlock (s : State) (k hdr pay : Nat) : LinkFrame s (s.passBlock k hdr pay) := by
  unfold State.passBlock
  split
  · exact refl s
  dsimp only
  split
  · exact toCapsRx s _ _
  split
  · exact toLink s _ _
  · exact refl s

theorem listenFeed (s : State) (k hdr pay : Nat) : LinkFrame s (s.listenFeed k hdr pay) := by
  unfold State.listenFeed
  dsimp only
  split
  · exact refl s
  split
  · exact (setLgrp s _ _).trans (wr _ (by decide) _ _)
  · exact refl s

end LinkFrame

/-! ### A data block in ACTIVE -/

/-- A receiver with block lock has taken a block into its window and its descrambler. -/
def State.counted (s : State) (k hdr raw : Nat) : State :=
  s.setLane k { (s.lane k).count hdr with hist := (descramble (s.lane k).hist raw).2, synced := true }

/-- A block whose window has not failed, in ACTIVE: a listen takes it, or the link and the lane layer do. -/
theorem State.laneBlock_active {s : State} {k hdr raw : Nat} (hst : s.laneSt k = 5) (hfail : (s.lane k).winFail = false) :
    s.laneBlock k hdr raw =
      let pay := (descramble (s.lane k).hist raw).1
      let fed := (s.counted k hdr raw).listenFeed k hdr pay
      if fed.on F.LANE_STATE_LISTEN k then fed
      else (fed.passBlock k (if (s.lane k).synced then hdr else 0) pay).serveBlock k hdr pay (s.lane k).synced := by
  have hkept : (s.counted k hdr raw).laneSt k = 5 := hst
  unfold State.laneBlock
  simp only [hfail, Bool.not_false, Bool.and_true, Bool.false_eq_true, ↓reduceIte]
  exact if_neg fun h => absurd (hkept.symm.trans h) (by decide)

theorem LaneS.count_fomN (x : LaneS) (hdr : Nat) : (x.count hdr).fomN = x.fomN + 1 := by
  unfold LaneS.count
  dsimp only
  split
  · rfl
  split
  · rfl
  · rfl

/-- A data block in ACTIVE ends a run of IDLE blocks and a freeze. -/
theorem State.trimData_active {s : State} {k : Nat} (hst : s.laneSt k = 5) : (s.trimData k).rd F.LANE_STATE_TRIM_FROZEN k = 0
    ∧ ∃ n, (s.trimData k).lane k = { s.lane k with idleRun := 0, trimN := n } := by
  unfold State.trimData
  rw [if_neg (by rw [hst]; decide)]
  exact ⟨State.rd_wr_self _ F.LANE_STATE_TRIM_FROZEN 0 k 0, _, State.setLane_lane s k _⟩

/-- What a data block that a receiver frames in ACTIVE does to its slice. -/
theorem State.laneBlock_data {s : State} {k raw : Nat} (hk : k < 544) (hst : s.laneSt k = 5) (hfail : (s.lane k).winFail = false) :
    (s.on F.LANE_STATE_LISTEN k = false →
        (s.laneBlock k 1 raw).rd F.LANE_STATE_TRIM_FROZEN k = 0 ∧ ((s.laneBlock k 1 raw).lane k).idleRun = 0)
      ∧ ((s.laneBlock k 1 raw).lane k).synced = true ∧ ((s.laneBlock k 1 raw).lane k).hist = (descramble (s.lane k).hist raw).2
      ∧ ((s.laneBlock k 1 raw).lane k).fomN = (s.lane k).fomN + 1 := by
  rw [State.laneBlock_active hst hfail]
  dsimp only
  generalize (descramble (s.lane k).hist raw).1 = pay
  have hfed := LinkFrame.listenFeed (s.counted k 1 raw) k 1 pay
  have hlane : (s.counted k 1 raw).lane k
      = { (s.lane k).count 1 with hist := (descramble (s.lane k).hist raw).2, synced := true } := State.setLane_lane s k _
  have hlisten : ((s.counted k 1 raw).listenFeed k 1 pay).on F.LANE_STATE_LISTEN k = s.on F.LANE_STATE_LISTEN k := by
    unfold State.on
    rw [hfed.rd F.LANE_STATE_LISTEN k 0 (by simp only [Fld.key, F.LANE_STATE_LISTEN]; omega)]
    rfl
  generalize (s.counted k 1 raw).listenFeed k 1 pay = fed at hfed hlisten ⊢
  split
  · rename_i hon
    refine ⟨fun hoff => absurd (hlisten.symm.trans hon) (by rw [hoff]; exact Bool.false_ne_true), ?_⟩
    rw [hfed.lane, hlane]
    exact ⟨rfl, rfl, LaneS.count_fomN _ _⟩
  · have hpassed := hfed.trans (LinkFrame.passBlock fed k (if (s.lane k).synced then 1 else 0) pay)
    generalize fed.passBlock k (if (s.lane k).synced then 1 else 0) pay = passed at hpassed ⊢
    have hother : (passed.otherBlock k).laneSt k = 5 := (hpassed.laneSt hk).trans hst
    have hotherLane : (passed.otherBlock k).lane k
        = { passed.lane k with trainRun := 0, eidle := (false :: (passed.lane k).eidle).take 3 } := State.setLane_lane passed k _
    have hserved : passed.serveBlock k 1 pay (s.lane k).synced = (passed.otherBlock k).trimData k := if_pos rfl
    obtain ⟨hfrozen, n, htrim⟩ := State.trimData_active hother
    rw [hserved, htrim, hotherLane, hpassed.lane, hlane]
    exact ⟨fun _ => ⟨hfrozen, rfl⟩, rfl, rfl, LaneS.count_fomN _ _⟩

/-- The counters that LANE_CTL.CLEAR_COUNTS clears. -/
def laneCounters : List Fld := [F.LANE_ERRCNT_RELOCK_FAIL, F.LANE_ERRCNT_LOCK_LOSSES, F.LANE_ERRCNT_INVALID_HDR,
  F.LANE_EVTCNT_RATE_MISMATCH, F.LANE_EVTCNT_EIDLE_ENTRIES, F.LANE_EVTCNT_EXITS, F.LANE_EVTCNT_TRAINS, F.LANE_INJECTED_INJECTED]

theorem laneCounters_zero : ∀ f ∈ laneCounters, f.zeroReset := by
  simp [laneCounters, Fld.zeroReset, F.LANE_ERRCNT_RELOCK_FAIL, F.LANE_ERRCNT_LOCK_LOSSES, F.LANE_ERRCNT_INVALID_HDR,
    F.LANE_EVTCNT_RATE_MISMATCH, F.LANE_EVTCNT_EIDLE_ENTRIES, F.LANE_EVTCNT_EXITS, F.LANE_EVTCNT_TRAINS, F.LANE_INJECTED_INJECTED]

/-! ### The figure of merit -/

/-- A slice with a new measurement. -/
def State.measured (s : State) (k v h : Nat) : State :=
  (((s.wr F.LANE_EYE_V v k).wr F.LANE_EYE_H h k).wr F.LANE_FOM_FOM (255 * v * h / 8001) k).setLane k
    { s.lane k with fomN := (s.lane k).fomN - 65536, invPeriod := 0 }

/-- A whole period is measured. -/
theorem fomMeasure_eq {s u : State} {d k v h : Nat} (hu : u = s.atCmd d) (hk : k < 544) (hv : v < 128) (hh : h < 64) (hon : u.pressOn)
    (hperiod : 65536 ≤ (u.lane k).fomN) : exec (.fomMeasure d k v h) s = .next (s.closeCmd d
      (if u.rd F.LANE_STATE_STATE k = 5 then (u.measured k v h).newFom k (255 * v * h / 8001) else u.measured k v h)) := by
  refine cmd_press_eq (decide_eq_true hk) hu hon ?_
  dsimp only
  rw [Nat.mod_eq_of_lt hv, Nat.mod_eq_of_lt hh, if_neg (show ¬(u.lane k).fomN < fomPeriod from Nat.not_lt_of_le hperiod)]
  have hst : (u.measured k v h).laneSt k = u.rd F.LANE_STATE_STATE k :=
    (State.rd_wr_apart _ (by decide) _ _ _).trans ((State.rd_wr_apart _ (by decide) _ _ _).trans (State.rd_wr_apart _ (by decide) _ _ _))
  rw [← hst]
  rfl

/-- What a measurement stores. -/
theorem State.measured_rd (s : State) {k v h : Nat} (hv : v < 128) (hh : h < 64) : (s.measured k v h).rd F.LANE_EYE_V k = v
    ∧ (s.measured k v h).rd F.LANE_EYE_H k = h ∧ (s.measured k v h).rd F.LANE_FOM_FOM k = 255 * v * h / 8001 := by
  unfold State.measured
  refine ⟨?_, ?_, ?_⟩
  · rw [State.setLane_rd _ k, State.rd_wr_apart _ (by decide), State.rd_wr_apart _ (by decide), State.rd_wr_self]
    exact Nat.mod_eq_of_lt hv
  · rw [State.setLane_rd _ k, State.rd_wr_apart _ (by decide), State.rd_wr_self]
    exact Nat.mod_eq_of_lt hh
  · rw [State.setLane_rd _ k, State.rd_wr_self]
    have hprod : 255 * v * h ≤ 255 * 127 * 63 := Nat.mul_le_mul (Nat.mul_le_mul_left 255 (by omega)) (by omega)
    have hfom : 255 * v * h / 8001 < 256 := by omega
    exact Nat.mod_eq_of_lt hfom

theorem State.measured_kept (s : State) (k v h : Nat) {f : Fld} (hv : F.LANE_EYE_V.apart f = true) (hh : F.LANE_EYE_H.apart f = true)
    (hf : F.LANE_FOM_FOM.apart f = true) : (s.measured k v h).rd f k = s.rd f k := by
  unfold State.measured
  rw [State.setLane_rd _ k, State.rd_wr_apart _ hf, State.rd_wr_apart _ hh, State.rd_wr_apart _ hv]

/-- The first measurement after a new start becomes FOM_REF. -/
theorem State.newFom_ref {s : State} {k : Nat} (hneed : (s.lane k).needRef = true) (hsnapped : (s.lane k).snapped = false) (fom : Nat) :
    s.newFom k fom = (s.wr F.LANE_FOM_FOM_REF fom k).setLane k { s.lane k with needRef := false, snapped := false, lowFom := 0 } := by
  unfold State.newFom
  simp only [hneed, hsnapped, Bool.not_true, Bool.false_and, Bool.or_self, Bool.false_eq_true, ↓reduceIte, Nat.reduceLeDiff,
    decide_false]
  split
  · rfl
  · rfl

/-- A measurement that lies 24 below FOM_REF snaps the trims back. -/
theorem State.newFom_snap {s : State} {k fom : Nat} (hneed : (s.lane k).needRef = false) (hsnapped : (s.lane k).snapped = false)
    (hlow : fom + 24 ≤ s.rd F.LANE_FOM_FOM_REF k) :
    s.newFom k fom = ((((s.setLane k { s.lane k with needRef := false, snapped := true, lowFom := 0, trimN := 0 }).wr
      F.LANE_EQ_CTLE_TRIM 0 k).wr F.LANE_EQ_DFE1_TRIM 0 k).inc F.LANE_FOM_ADAPT_RESETS k).flag F.LANE_STATUS_SNAPBACK k := by
  unfold State.newFom
  simp only [hneed, hsnapped, hlow, Bool.not_false, Bool.true_and, Bool.false_and, Bool.false_or, decide_true, Bool.false_eq_true,
    ↓reduceIte, Nat.reduceLeDiff, decide_false]
  split
  · rfl
  · rfl

/-- Settles O30: measurements, trims, freezes, retraining, counters and received blocks. -/
theorem laneAdaptation : Obligations.LaneAdaptation := by
  unfold Obligations.LaneAdaptation
  refine ⟨?measure, ?early, ?reference, ?snap, ?trim, ?noTrim, ?freeze, ?retrain, ?clear, ?receive, ?farLoop, ?data⟩
  case measure =>
    intro s u d k v h hu hk hv hh hon hperiod hst
    rw [fomMeasure_eq hu hk hv hh hon hperiod, if_neg hst]
    rfl
  case early =>
    intro s u d k v h hu hk hon hearly
    exact cmd_press_eq (decide_eq_true hk) hu hon (if_pos hearly)
  case reference =>
    intro s u d k v h hu hk hv hh hon hperiod hst hneed hsnapped
    have hlane : (u.measured k v h).lane k = { u.lane k with fomN := (u.lane k).fomN - 65536, invPeriod := 0 } := State.setLane_lane _ _ _
    have hexec := fomMeasure_eq hu hk hv hh hon hperiod
    rw [if_pos hst, State.newFom_ref (by rw [hlane]; exact hneed) (by rw [hlane]; exact hsnapped)] at hexec
    obtain ⟨hev, heh, hfom⟩ := u.measured_rd (k := k) hv hh
    refine ⟨_, hexec, ?_, ?_, ?_, ?_, ?_, ?_⟩
    · rw [State.setLane_rd _ k, State.rd_wr_apart _ (by decide), hev]
    · rw [State.setLane_rd _ k, State.rd_wr_apart _ (by decide), heh]
    · rw [State.setLane_rd _ k, State.rd_wr_apart _ (by decide), hfom]
    · rw [State.setLane_rd _ k, State.rd_wr_self]
      have hprod : 255 * v * h ≤ 255 * 127 * 63 := Nat.mul_le_mul (Nat.mul_le_mul_left 255 (by omega)) (by omega)
      have hbyte : 255 * v * h / 8001 < 256 := by omega
      exact Nat.mod_eq_of_lt hbyte
    · rw [State.setLane_rd _ k, State.rd_wr_apart _ (by decide)]
      exact u.measured_kept k v h (by decide) (by decide) (by decide)
    · rw [State.setLane_lane]
      exact ⟨rfl, rfl⟩
  case snap =>
    intro s u d k v h hu hk hv hh hon hperiod hst hneed hsnapped hlow
    have hlane : (u.measured k v h).lane k = { u.lane k with fomN := (u.lane k).fomN - 65536, invPeriod := 0 } := State.setLane_lane _ _ _
    have hkept (f : Fld) (hv' : F.LANE_EYE_V.apart f = true) (hh' : F.LANE_EYE_H.apart f = true) (hf : F.LANE_FOM_FOM.apart f = true) :=
      u.measured_kept k v h hv' hh' hf
    have hexec := fomMeasure_eq hu hk hv hh hon hperiod
    rw [if_pos hst, State.newFom_snap (by rw [hlane]; exact hneed) (by rw [hlane]; exact hsnapped)
      (by rw [hkept _ (by decide) (by decide) (by decide)]; exact hlow)] at hexec
    refine ⟨_, hexec, ?_, ?_, ?_, ?_, ?_, ?_⟩
    · rw [State.flag_rd, State.rd_wr_apart _ (by decide), State.inc, State.rd_wr_apart _ (by decide), State.rd_wr_apart _ (by decide)]
      exact State.rd_wr_self _ F.LANE_EQ_CTLE_TRIM 0 k 0
    · rw [State.flag_rd, State.rd_wr_apart _ (by decide), State.inc, State.rd_wr_apart _ (by decide)]
      exact State.rd_wr_self _ F.LANE_EQ_DFE1_TRIM 0 k 0
    · rw [State.flag_rd]
      exact State.rd_wr_self _ F.LANE_STATUS_SNAPBACK 1 k 0
    · exact congrArg LaneS.trimN (State.setLane_lane (u.measured k v h) k _)
    · rw [State.flag_rd, State.rd_wr_apart _ (by decide), State.inc, State.rd_wr_self, State.rd_wr_apart _ (by decide),
        State.rd_wr_apart _ (by decide), State.setLane_rd _ k, hkept _ (by decide) (by decide) (by decide)]
      exact Nat.mod_eq_of_lt (Nat.lt_of_le_of_lt (Nat.min_le_right _ _) (by decide))
    · rw [State.flag_rd, State.rd_wr_apart _ (by decide), State.inc, State.rd_wr_apart _ (by decide), State.rd_wr_apart _ (by decide),
        State.rd_wr_apart _ (by decide), State.setLane_rd _ k]
      exact hkept _ (by decide) (by decide) (by decide)
  case trim =>
    intro s u d k ctle dfe hu hk hctle hdfe hon hst hcount hen hfrozen
    refine cmd_press_eq (decide_eq_true hk) hu hon (if_pos ?_)
    have hst' : u.laneSt k = 5 := hst
    simp [hst', hcount, hen, hfrozen]
  case noTrim =>
    intro s u d k ctle dfe hu hk hctle hdfe hon hno
    refine cmd_press_eq (decide_eq_true hk) hu hon (if_neg ?_)
    rw [Bool.and_eq_true, Bool.and_eq_true, decide_eq_true_eq]
    rintro ⟨⟨⟨-, hcount⟩, hen⟩, hfrozen⟩
    rcases hno with hfew | hoff | hon
    · omega
    · rw [hoff] at hen
      exact absurd hen Bool.false_ne_true
    · rw [hon] at hfrozen
      exact absurd hfrozen Bool.false_ne_true
  case freeze =>
    intro s u d k hu hk hon hst
    refine cmd_press_eq (decide_eq_true hk) hu hon ?_
    have hst' : u.laneSt k = 5 := hst
    simp only [hst', true_and]
  case retrain =>
    intro s u d k l hu hk hon ho hst hlane
    rw [exec_retrain, execRetrain]
    refine cmd_hostHold_eq (decide_eq_true hk) hu ho ((State.press_on hon _).trans ?_)
    unfold State.retrain
    rw [if_neg (by simpa [State.laneSt] using hst), hlane]
  case clear =>
    intro s u d k hu hk ho
    rw [exec_laneClearCounts, execLaneClearCounts]
    refine ⟨u.clrAll laneCounters k, cmd_hostHold_eq (decide_eq_true hk) hu ho rfl, ?_, ?_⟩
    · exact fun f hf => State.clrAll_zero laneCounters laneCounters_zero hf
    · exact (u.clrAll_regsOnly laneCounters k 0).eq
  case receive =>
    intro s u d k hdr payload hu hk hhdr hpay hon hst hcdr
    exact laneBlockReceive_eq hu hk hhdr hpay hon hst hcdr
  case farLoop =>
    intro s u d k hdr payload l hu hk hhdr hpay hon hst hloop hcheck hlane hswap
    have htest : u.laneSt k = 0xA := hst
    have hline : u.lineIn k (hdr % 4 + 4 * (payload % 2 ^ 64)) = (hdr + 4 * payload, u) := by
      rw [Nat.mod_eq_of_lt hhdr, Nat.mod_eq_of_lt hpay]
      unfold State.lineIn
      rw [hloop, if_neg (fun h => absurd h.2 (by decide)), hlane]
      exact congrArg (·, u) (if_neg (by rw [Option.getD_some, hswap]; decide))
    have hsent := (TxSends.txSync u k).thenTxLine l (hdr + 4 * payload)
    have hcheck' : ((u.txSync k).txLine k l (hdr + 4 * payload)).rd F.LANE_TEST_RX_CHECK k = 0 :=
      (hsent.rd_apart (by decide)).trans hcheck
    refine cmd_press_eq (decide_eq_true hk) hu hon ?_
    dsimp only
    rw [hline, decide_eq_true htest, hlane, hloop]
    simp only [Bool.true_or, Bool.true_and, decide_true, ↓reduceIte]
    generalize (u.txSync k).txLine k l (hdr + 4 * payload) = v at hcheck' ⊢
    generalize hdr + 4 * payload = line
    rw [hcheck']
    simp only [within, Nat.reduceLeDiff, Nat.zero_le, decide_true, decide_false, Bool.false_and, Bool.false_eq_true, ↓reduceIte]
    cases ((v.lane k).frame line).1 with
    | none => rfl
    | some framed => rfl
  case data =>
    intro s u d k payload hu hk hpay hon hst hcdr hlock hinject hbits hbuf hskip hfail hswap
    have hexec := laneBlockReceive_eq hu hk (hdr := 1) (by decide) hpay hon (by rw [hst]; decide) hcdr
    have hline : u.unswapped k (1 + 4 * payload) = 1 + 4 * payload := if_neg (by rw [hswap]; decide)
    rw [hline, State.received_aligned hbits hbuf hskip (by omega)] at hexec
    generalize hw : (u.setLane k (u.lane k)).setLane k { u.lane k with injN := (u.lane k).injN + 1 } = w
    have hinjected : (u.setLane k (u.lane k)).injectRx k 1 payload = ((1, payload), w) := by
      unfold State.injectRx
      rw [State.setLane_lane, if_neg (by rw [hinject]; decide), hw]
    have hframed : (u.setLane k (u.lane k)).framed k (1 + 4 * payload) = w.laneBlock k 1 payload := by
      have hsplit : (1 + 4 * payload) % 4 = 1 ∧ (1 + 4 * payload) / 4 = payload := by omega
      unfold State.framed
      rw [hsplit.1, hsplit.2, hinjected]
      refine if_pos ?_
      rw [← hw]
      exact hlock
    have hwlane : w.lane k = { u.lane k with injN := (u.lane k).injN + 1 } := by
      rw [← hw]
      exact State.setLane_lane _ _ _
    have hwst : w.laneSt k = 5 := by
      rw [← hw]
      exact hst
    have hwlisten : w.on F.LANE_STATE_LISTEN k = u.on F.LANE_STATE_LISTEN k := by
      rw [← hw]
      rfl
    obtain ⟨hidle, hsynced, hhist, hfom⟩ := State.laneBlock_data (raw := payload) hk hwst (by rw [hwlane]; exact hfail)
    rw [hframed] at hexec
    rw [hwlane] at hhist hfom
    exact ⟨_, hexec, fun hoff => hidle (hwlisten.trans hoff), hsynced, hhist, hfom⟩

end Sys2Proof.Machine


/-!
PROOFS. TEST of a lane and the injection of errors.
-/

namespace Sys2Proof.Machine

/-! ### Injection on the transmit path -/

theorem LaneS.fillNext_inject (x : LaneS) (l : Nat) : (x.fillNext l).2.tx.inject = x.tx.inject := by
  unfold LaneS.fillNext
  dsimp only
  split
  · rfl
  split
  · rfl
  · rfl

/-- A block that leaves while an injection is armed is counted as corrupted. -/
theorem State.txLine_injects {s : State} {k : Nat} (harmed : 0 < (s.lane k).tx.inject) (l line : Nat) :
    (s.txLine k l line).rd F.LANE_INJECTED_INJECTED k = min (s.rd F.LANE_INJECTED_INJECTED k + 1) (2 ^ 32 - 1)
      ∧ ((s.txLine k l line).lane k).tx.inject = (s.lane k).tx.inject - 1 := by
  have hinjected : (s.injectTx k line).2
      = (s.setLane k { s.lane k with tx := { (s.lane k).tx with inject := (s.lane k).tx.inject - 1 } }).inc F.LANE_INJECTED_INJECTED k :=
    congrArg Prod.snd (if_pos harmed)
  have hlane : (s.injectTx k line).2.lane k = { s.lane k with tx := { (s.lane k).tx with inject := (s.lane k).tx.inject - 1 } } := by
    rw [hinjected]
    exact State.setLane_lane s k _
  unfold State.txLine
  extract_lets injected x w
  constructor
  · rw [State.emit_rd, State.setLane_rd _ k, show injected.2 = _ from hinjected, State.inc, State.rd_wr_self]
    exact Nat.mod_eq_of_lt (Nat.lt_of_le_of_lt (Nat.min_le_right _ _) (by decide))
  · rw [State.emit_lane, State.setLane_lane]
    exact congrArg (fun y : LaneS => y.tx.inject) hlane

theorem State.txFillOne_injects {s : State} {k : Nat} (harmed : 0 < (s.lane k).tx.inject) (l : Nat) :
    (s.txFillOne k l).rd F.LANE_INJECTED_INJECTED k = min (s.rd F.LANE_INJECTED_INJECTED k + 1) (2 ^ 32 - 1)
      ∧ ((s.txFillOne k l).lane k).tx.inject = (s.lane k).tx.inject - 1 := by
  have hinject : ((s.setLane k ((s.lane k).fillNext l).2).lane k).tx.inject = (s.lane k).tx.inject := by
    rw [State.setLane_lane]
    exact LaneS.fillNext_inject _ l
  obtain ⟨hcount, hleft⟩ := State.txLine_injects (s := s.setLane k ((s.lane k).fillNext l).2) (by rw [hinject]; exact harmed) l
    ((s.lane k).fillNext l).1
  exact ⟨hcount, hleft.trans (by rw [hinject])⟩

/-- Blocks of the fill that leave while enough injections are armed are all counted. -/
theorem State.txFillOnes_inject (k l n : Nat) (ns : List Nat) : ∀ s : State, ns.length < (s.lane k).tx.inject →
    ((n :: ns).foldl (fun s _ => s.txFillOne k l) s).rd F.LANE_INJECTED_INJECTED k
      = min (s.rd F.LANE_INJECTED_INJECTED k + (ns.length + 1)) (2 ^ 32 - 1) := by
  induction ns generalizing n with
  | nil => exact fun s h => (State.txFillOne_injects h l).1
  | cons m ns ih =>
    intro s h
    rw [List.length_cons] at h
    obtain ⟨hcount, hleft⟩ := State.txFillOne_injects (s := s) (k := k) (by omega) l
    rw [List.foldl_cons, ih m _ (by rw [hleft]; omega), hcount, List.length_cons]
    omega

theorem TxSends.txFillOnes (k l : Nat) (ns : List Nat) : ∀ s : State, TxSends k s (ns.foldl (fun s _ => s.txFillOne k l) s) := by
  induction ns with
  | nil => exact TxSends.refl k
  | cons n ns ih => exact fun s => (TxSends.txFillOne s k l).trans (ih _)

/-- What a fill sends by the clock is not corrupted. -/
theorem State.txFillTo_rd (s : State) (k time : Nat) (f : Fld) (i j : Nat) : (s.txFillTo k time).rd f i j = s.rd f i j := by
  unfold State.txFillTo
  dsimp only
  split
  · rfl
  split
  · rfl
  unfold State.txRun
  dsimp only
  split
  · rfl
  split
  · exact State.emit_rd _ _ _ _ _
  split
  · exact State.emit_rd _ _ _ _ _
  · exact State.emit_rd _ _ _ _ _

/-- A selector that holds nothing: the fill alone is due. -/
theorem State.txSync_fill {s : State} {k l : Nat} (hlane : s.laneOf k = some l) (hup : (s.port l).up.size = 0) :
    s.txSync k = s.txFillTo k s.now10 := by
  unfold State.txSync
  rw [hlane]
  dsimp only
  rw [if_pos (.inl hup)]

/-- The fields of a write of LANE_INJECT. -/
def State.injectFields (s : State) (k v : Nat) : State :=
  (((s.wr F.LANE_INJECT_INTERVAL (bits v 31 8) k).wr F.LANE_INJECT_REPEAT (bit v 6) k).wr F.LANE_INJECT_KIND (bits v 5 3) k).wr
    F.LANE_INJECT_WHERE (bits v 1 0) k

theorem State.injectFields_rd (s : State) (k v : Nat) : (s.injectFields k v).rd F.LANE_INJECT_WHERE k = bits v 1 0
    ∧ (s.injectFields k v).rd F.LANE_INJECT_KIND k = bits v 5 3 ∧ (s.injectFields k v).rd F.LANE_INJECT_INTERVAL k = bits v 31 8 := by
  unfold State.injectFields
  refine ⟨?_, ?_, ?_⟩
  · rw [State.rd_wr_self]
    exact Nat.mod_eq_of_lt (bits_lt v 1 0)
  · rw [State.rd_wr_apart _ (by decide), State.rd_wr_self]
    exact Nat.mod_eq_of_lt (bits_lt v 5 3)
  · rw [State.rd_wr_apart _ (by decide), State.rd_wr_apart _ (by decide), State.rd_wr_apart _ (by decide), State.rd_wr_self]
    exact Nat.mod_eq_of_lt (bits_lt v 31 8)

theorem State.injectFields_kept (s : State) (k v : Nat) {f : Fld} (hi : F.LANE_INJECT_INTERVAL.apart f = true)
    (hr : F.LANE_INJECT_REPEAT.apart f = true) (hk : F.LANE_INJECT_KIND.apart f = true) (hw : F.LANE_INJECT_WHERE.apart f = true) :
    (s.injectFields k v).rd f k = s.rd f k := by
  unfold State.injectFields
  rw [State.rd_wr_apart _ hw, State.rd_wr_apart _ hk, State.rd_wr_apart _ hr, State.rd_wr_apart _ hi]

/-- A write of LANE_INJECT with FIRE that its codes allow. -/
theorem injectFire_eq {s u : State} {d k v : Nat} (hu : u = s.atCmd d) (hk : k < 544) (hfire : bit v 7 = 1)
    (hon : u.pressOn) (ho : u.hostOpen (F.LANE_INJECT_FIRE.at_ k)) (hkind : bits v 5 3 < 5) (hwhere : bits v 1 0 ≠ 3)
    (hinterval : 0 < bits v 31 8) (hrepeat : bit v 6 = 0) :
    exec (.injectFire d k v) s = .next (s.closeCmd d ((u.injectFields k v).injectNow k)) := by
  rw [exec_injectFire, execInjectFire]
  refine cmd_hostHold_eq (decide_eq_true hk) hu ho ((State.press_on hon _).trans ?_)
  unfold State.injectWrite
  rw [if_neg (by omega)]
  exact if_pos ⟨hfire, hrepeat⟩

/-- An injection on the receive path is armed. -/
theorem State.injectNow_rx {s : State} {k : Nat} (hst : s.rd F.LANE_STATE_STATE k ≠ 0) (hwhere : s.rd F.LANE_INJECT_WHERE k = 2) :
    s.injectNow k = (s.txSync k).setLane k
      { (s.txSync k).lane k with inject := injectCount (s.rd F.LANE_INJECT_KIND k), injN := 0 } := by
  have hsync := (TxSends.txSync s k).toTxFrame
  have hst' : (s.txSync k).laneSt k ≠ 0 := by
    rw [hsync.laneSt]
    exact hst
  have hwhere' : (s.txSync k).rd F.LANE_INJECT_WHERE k = 2 := (hsync.rd_apart (by decide)).trans hwhere
  unfold State.injectNow
  dsimp only
  rw [if_neg hst', hwhere']
  rfl

/-- An injection on the transmit path of a transmitter on the pads corrupts its next blocks at once. -/
theorem State.injectNow_tx {s : State} {k l : Nat} (hst : s.rd F.LANE_STATE_STATE k ≠ 0) (hwhere : s.rd F.LANE_INJECT_WHERE k = 1)
    (hlane : s.laneOf k = some l) (hfill : (s.lane k).tx.fill ≠ 0) (hpads : (s.lane k).tx.pads = true) :
    s.injectNow k = (List.range (injectCount (s.rd F.LANE_INJECT_KIND k))).foldl (fun s _ => s.txFillOne k l)
      ((s.txSync k).setLane k { (s.txSync k).lane k with
        tx := { ((s.txSync k).lane k).tx with inject := injectCount (s.rd F.LANE_INJECT_KIND k), sent := 0 } }) := by
  have hsync := TxSends.txSync s k
  have hst' : (s.txSync k).laneSt k ≠ 0 := by
    rw [hsync.laneSt]
    exact hst
  have hwhere' : (s.txSync k).rd F.LANE_INJECT_WHERE k = 1 := (hsync.rd_apart (by decide)).trans hwhere
  unfold State.injectNow
  extract_lets n synced x tx armed
  have harmed : armed.laneOf k = some l := ((hsync.toTxFrame.trans (.setLane k k _ _)).laneOf).trans hlane
  have hsends : x.tx.fill ≠ 0 ∧ x.tx.pads = true := by
    refine ⟨?_, hsync.pads.trans hpads⟩
    rw [show x.tx.fill = (s.lane k).tx.fill from hsync.fill]
    exact hfill
  rw [if_neg hst', if_pos hwhere', harmed]
  exact if_pos hsends

theorem injectCount_eq (kind : Nat) : injectCount kind = if kind = 4 then 16 else 1 := rfl

/-! ### TEST -/

/-- A write of LANE_TEST whose codes are not reserved. -/
theorem State.testWrite_enters {s : State} {k v : Nat} (hen : bit v 16 = 1) (hcheck : bits v 10 8 ≠ 7) (hpattern : bits v 6 4 ≠ 7)
    (hst : s.rd F.LANE_STATE_STATE k = 1) (hlisten : s.on F.LANE_STATE_LISTEN k = false) :
    ∃ x, s.testWrite k v = ((((((((s.txSync k).testFields k v).wr F.LANE_TEST_TEST_EN 1 k).toLane k 0xA).wr F.LANE_CHK_BITS_COUNT 0
      k).wr F.LANE_CHK_ERRS_COUNT 0 k).wr F.LANE_TEST_CHK_SYNC 0 k).setLock k 0).setLane k x := by
  have hst' : s.laneSt k = 1 := hst
  unfold State.testWrite
  extract_lets st entered state counts
  have hstate : state = entered.toLane k 0xA := if_neg (by rw [show st = 1 from hst']; decide)
  rw [if_neg (by omega), if_pos hen, if_neg (by
    rw [show st = 1 from hst', hlisten]
    decide)]
  unfold counts
  rw [hstate]
  exact ⟨_, rfl⟩

theorem State.testFields_rd (s : State) (k v : Nat) : (s.testFields k v).rd F.LANE_TEST_LOOP k = bits v 1 0
    ∧ (s.testFields k v).rd F.LANE_TEST_TX_PATTERN k = bits v 6 4 ∧ (s.testFields k v).rd F.LANE_TEST_RX_CHECK k = bits v 10 8 := by
  unfold State.testFields
  refine ⟨?_, ?_, ?_⟩
  · rw [State.rd_wr_self]
    exact Nat.mod_eq_of_lt (bits_lt v 1 0)
  · rw [State.rd_wr_apart _ (by decide), State.rd_wr_self]
    exact Nat.mod_eq_of_lt (bits_lt v 6 4)
  · rw [State.rd_wr_apart _ (by decide), State.rd_wr_apart _ (by decide), State.rd_wr_self]
    exact Nat.mod_eq_of_lt (bits_lt v 10 8)

theorem State.testFields_state (s : State) (k v : Nat) : (s.testFields k v).rd F.LANE_STATE_STATE k = s.rd F.LANE_STATE_STATE k := by
  unfold State.testFields
  rw [State.rd_wr_apart _ (by decide), State.rd_wr_apart _ (by decide), State.rd_wr_apart _ (by decide)]

/-- Settles O31: entry to TEST, its refusal and exit, and injected errors. -/
theorem laneTestAndInjection : Obligations.LaneTestAndInjection := by
  unfold Obligations.LaneTestAndInjection
  refine ⟨?refused, ?enter, ?leave, ?fireTx, ?fireRx, ?again, ?notDue⟩
  case refused =>
    intro s u d k v hu hk hv hen hon ho hcheck hpattern hst
    rw [exec_testEnter, execTestEnter]
    refine cmd_hostHold_eq (decide_eq_true hk) hu ho ((State.press_on hon _).trans ?_)
    unfold State.testWrite
    rw [if_neg (by omega), if_pos hen]
    exact if_pos hst
  case enter =>
    intro s u d k v hu hk hv hen hon ho hcheck hpattern hst hlisten
    obtain ⟨x, hx⟩ := State.testWrite_enters hen hcheck hpattern hst hlisten
    have hexec : exec (.testEnter d k v) s = .next (s.closeCmd d (u.testWrite k v)) := by
      rw [exec_testEnter, execTestEnter]
      exact cmd_hostHold_eq (decide_eq_true hk) hu ho (State.press_on hon _)
    generalize hentered : ((u.txSync k).testFields k v).wr F.LANE_TEST_TEST_EN 1 k = entered at hx
    have hfields (f : Fld) (hf : F.LANE_TEST_TEST_EN.apart f = true) : entered.rd f k = ((u.txSync k).testFields k v).rd f k := by
      rw [← hentered]
      exact State.rd_wr_apart _ hf _ _ _
    have hbond : entered.keepsBond k 0xA := by
      refine State.keepsBond_of_state hst ?_ (by decide)
      rw [hfields _ (by decide), State.testFields_state]
      exact (TxSends.txSync u k).rd_apart (by decide)
    have hkept (f : Fld) (hb : F.LANE_CHK_BITS_COUNT.apart f = true) (he : F.LANE_CHK_ERRS_COUNT.apart f = true)
        (hs : F.LANE_TEST_CHK_SYNC.apart f = true) (hl : F.LANE_STATE_BLOCK_LOCK.apart f = true)
        (hi : F.LANE_INJECTED_INJECTED.apart f = true) : (u.testWrite k v).rd f k = (entered.toLane k 0xA).rd f k := by
      rw [hx, State.setLane_rd _ k, State.setLock_rd _ _ _ hl hi, State.rd_wr_apart _ hs, State.rd_wr_apart _ he,
        State.rd_wr_apart _ hb]
    obtain ⟨hloop, hpat, hchk⟩ := State.testFields_rd (u.txSync k) k v
    refine ⟨_, hexec, ?_, ?_, ?_, ?_, ?_, ?_, ?_, ?_⟩
    · rw [hkept _ (by decide) (by decide) (by decide) (by decide) (by decide)]
      exact State.toLane_state hbond (by decide)
    · rw [hkept _ (by decide) (by decide) (by decide) (by decide) (by decide), State.toLane_rd hbond (by decide) (by decide), ← hentered]
      exact State.rd_wr_self _ F.LANE_TEST_TEST_EN 1 k 0
    · rw [hkept _ (by decide) (by decide) (by decide) (by decide) (by decide), State.toLane_rd hbond (by decide) (by decide),
        hfields _ (by decide), hloop]
    · rw [hkept _ (by decide) (by decide) (by decide) (by decide) (by decide), State.toLane_rd hbond (by decide) (by decide),
        hfields _ (by decide), hpat]
    · rw [hkept _ (by decide) (by decide) (by decide) (by decide) (by decide), State.toLane_rd hbond (by decide) (by decide),
        hfields _ (by decide), hchk]
    · rw [hx, State.setLane_rd _ k, State.setLock_rd _ _ _ (by decide) (by decide), State.rd_wr_apart _ (by decide),
        State.rd_wr_apart _ (by decide)]
      exact State.rd_wr_self _ F.LANE_CHK_BITS_COUNT 0 k 0
    · rw [hx, State.setLane_rd _ k, State.setLock_rd _ _ _ (by decide) (by decide), State.rd_wr_apart _ (by decide)]
      exact State.rd_wr_self _ F.LANE_CHK_ERRS_COUNT 0 k 0
    · rw [hx, State.setLane_rd _ k, State.setLock_rd _ _ _ (by decide) (by decide)]
      exact State.rd_wr_self _ F.LANE_TEST_CHK_SYNC 0 k 0
  case leave =>
    intro s u d k v hu hk hv hen hon ho hcheck hpattern hst
    rw [exec_testExit, execTestExit]
    refine cmd_hostHold_eq (decide_eq_true hk) hu ho ((State.press_on hon _).trans ?_)
    unfold State.testWrite
    rw [if_neg (by omega), if_neg (by omega)]
    exact if_pos hst
  case fireTx =>
    intro s u d k v hu hk hv hfire hon ho hkind hwhere hinterval hrepeat hst hlaneOf hfill hpads
    obtain ⟨l, hlane, hup⟩ := hlaneOf
    obtain ⟨hw, hkd, hint⟩ := u.injectFields_rd k v
    have hexec := injectFire_eq hu hk hfire hon ho hkind (by omega) hinterval hrepeat
    have hkept (f : Fld) (hi : F.LANE_INJECT_INTERVAL.apart f = true) (hr : F.LANE_INJECT_REPEAT.apart f = true)
      (hk : F.LANE_INJECT_KIND.apart f = true) (hw : F.LANE_INJECT_WHERE.apart f = true) := u.injectFields_kept k v hi hr hk hw
    have hst' : (u.injectFields k v).rd F.LANE_STATE_STATE k ≠ 0 := by
      rw [hkept _ (by decide) (by decide) (by decide) (by decide)]
      exact hst
    have hlane' : (u.injectFields k v).laneOf k = some l := by
      unfold State.laneOf at hlane ⊢
      rw [hkept _ (by decide) (by decide) (by decide) (by decide)]
      exact hlane
    rw [State.injectNow_tx hst' (hw.trans hwhere) hlane' hfill hpads, hkd, injectCount_eq] at hexec
    generalize hn : (if bits v 5 3 = 4 then 16 else 1) = n at hexec ⊢
    have hpos : 0 < n := by
      rw [← hn]
      split
      · decide
      · decide
    generalize hx : ({ ((u.injectFields k v).txSync k).lane k with
        tx := { (((u.injectFields k v).txSync k).lane k).tx with inject := n, sent := 0 } } : LaneS) = x at hexec
    have harmed : ((((u.injectFields k v).txSync k).setLane k x).lane k).tx.inject = n := by
      rw [State.setLane_lane, ← hx]
    have hframe : TxFrame k (u.injectFields k v) ((List.range n).foldl (fun s _ => s.txFillOne k l)
        (((u.injectFields k v).txSync k).setLane k x)) :=
      ((TxSends.txSync _ k).toTxFrame.trans (.setLane k k _ x)).trans (TxSends.txFillOnes k l _ _).toTxFrame
    refine ⟨_, hexec, ?_, ?_, ?_, ?_⟩
    · rw [hframe.rd_apart (by decide), hw, hwhere]
    · rw [hframe.rd_apart (by decide), hkd]
    · rw [hframe.rd_apart (by decide), hint]
    · obtain ⟨m, rfl⟩ : ∃ m, n = m + 1 := ⟨n - 1, by omega⟩
      rw [List.range_succ_eq_map, State.txFillOnes_inject k l _ _ _ (by rw [harmed, List.length_map, List.length_range]; omega),
        List.length_map, List.length_range, State.setLane_rd _ k, State.txSync_fill hlane' hup, State.txFillTo_rd,
        hkept _ (by decide) (by decide) (by decide) (by decide)]
  case fireRx =>
    intro s u d k v hu hk hv hfire hon ho hkind hwhere hinterval hrepeat hst
    obtain ⟨hw, hkd, -⟩ := u.injectFields_rd k v
    have hexec := injectFire_eq hu hk hfire hon ho hkind (by omega) hinterval hrepeat
    have hst' : (u.injectFields k v).rd F.LANE_STATE_STATE k ≠ 0 := by
      rw [u.injectFields_kept k v (by decide) (by decide) (by decide) (by decide)]
      exact hst
    rw [State.injectNow_rx hst' (hw.trans hwhere), hkd] at hexec
    have hframe := (TxSends.txSync (u.injectFields k v) k).toTxFrame
    refine ⟨_, hexec, ?_, ?_, ?_⟩
    · rw [State.setLane_rd _ k, hframe.rd_apart (by decide), hw, hwhere]
    · rw [State.setLane_rd _ k, hframe.rd_apart (by decide), hkd]
    · rw [State.setLane_lane]
      exact injectCount_eq _
  case again =>
    intro s u d k hu hk hon hrepeat hst hwhere hdue
    have hsync := TxSends.txSync u k
    have hdue' : u.injectDue k = true := by
      unfold State.injectDue
      dsimp only
      rw [hsync.rd_apart (f := F.LANE_INJECT_WHERE) (by decide), hwhere, if_neg (by decide), hsync.lane]
      exact decide_eq_true hdue
    refine ⟨u.injectNow k, cmd_press_eq (decide_eq_true hk) hu hon (if_pos (by rw [hrepeat, hdue']; rfl)), ?_⟩
    rw [State.injectNow_rx hst hwhere, State.setLane_lane]
    exact ⟨rfl, injectCount_eq _⟩
  case notDue =>
    intro s u d k hu hk hon hnot
    refine cmd_press_eq (decide_eq_true hk) hu hon (if_neg ?_)
    rcases hnot with hoff | ⟨hwhere, hfew⟩
    · rw [hoff]
      exact Bool.false_ne_true
    · have hsync := TxSends.txSync u k
      have hdue : u.injectDue k = false := by
        unfold State.injectDue
        dsimp only
        rw [hsync.rd_apart (f := F.LANE_INJECT_WHERE) (by decide), hwhere, if_neg (by decide), hsync.lane]
        exact decide_eq_false (Nat.not_le_of_lt hfew)
      rw [hdue, Bool.and_false]
      exact Bool.false_ne_true

end Sys2Proof.Machine


/-!
PROOFS. The spare slice of a lane group.
-/

namespace Sys2Proof.Machine

/-! ### Records of Weld -/

theorem State.push_weld (s : State) (t : Nat) (data : Bytes) : (s.push t data).weld = s.weld := by
  have hwatermark (v : State) : (v.watermark t).weld = v.weld := by
    unfold State.watermark
    dsimp only
    split
    · split
      · split
        · exact State.raise_weld _ _
        · rfl
      · split
        · exact State.raise_weld _ _
        · rfl
    · rfl
  have hmoved (v : State) : (v.depthMoved t).weld = v.weld := by
    unfold State.depthMoved
    dsimp only
    rw [hwatermark]
    split
    · rfl
    · rfl
  unfold State.push
  dsimp only
  split
  · exact hmoved _
  · exact State.raise_weld _ _

/-- A record of Weld leaves Weld's own state. -/
theorem State.subRecord_weld (s : State) (src : Nat) (body : Bytes) : (s.subRecord src body).weld = s.weld := by
  have hpush (t : Nat) (data : Bytes) : (s.pushAs (srcNo 0x12 0) t data).2.weld = s.weld := by
    unfold State.pushAs
    split
    · exact s.push_weld t data
    · rfl
  unfold State.subRecord
  split
  · unfold State.pushOr
    dsimp only
    split
    · exact hpush _ _
    · exact hpush _ _
  · rfl

theorem ErrorFrame.subRecord (s : State) (src : Nat) (body : Bytes) : ErrorFrame s (s.subRecord src body) :=
  .ite (.pushOr s _ _ _ (weldKey (by decide) (by decide))) (.refl s)

/-! ### Registers of lanes and lane groups -/

/-- A field of a slice and one of a lane group lie apart. -/
theorem Fld.lane_ne_group {f g : Fld} (hf : f.addr < 0x100800) (hf1 : f.s1 = 0x800) (hg : 0x280000 ≤ g.addr) (hw : f.lo < 64) {k : Nat}
    (hk : k < 544) (i : Nat) : f.key k 0 ≠ g.key i 0 := by
  unfold Fld.key
  rw [hf1]
  omega

/-- The report of an error leaves the fields of a slice. -/
theorem Fld.lane_notError {f : Fld} (hf : 0x100000 ≤ f.addr ∧ f.addr < 0x100800) (hf1 : f.s1 = 0x800) (hw : f.lo < 64) {k : Nat}
    (hk : k < 544) : ¬errorKey (f.key k 0) := by
  unfold errorKey Fld.key
  rw [hf1]
  omega

/-- The report of an error leaves the fields of a lane group. -/
theorem Fld.group_notError {f : Fld} (hf : 0x280000 ≤ f.addr ∧ f.addr < 0x280100) (hf1 : f.s1 = 0x100) (hw : f.lo < 64) {g : Nat}
    (hg : g < 32) : ¬errorKey (f.key g 0) := by
  unfold errorKey Fld.key
  rw [hf1]
  omega

@[simp] theorem State.setLgrp_lgrp (s : State) (g : Nat) (x : GroupS) : (s.setLgrp g x).lgrp g = x := Assoc.getD_put_self _ _ _ _

/-! ### The end of a test -/

/-- The record and the ledger of a test that ends leave the registers of lanes and groups, and the groups. -/
def State.sliceSettled (s : State) (g k v src : Nat) (body : Bytes) : State :=
  ((s.setSlice g k v).subRecord src body).ledgerChange body false

theorem State.sliceSettled_state (s : State) (g k v src : Nat) (body : Bytes) : (s.sliceSettled g k v src body).sliceState g k = v := by
  have hslice : (s.sliceSettled g k v src body).weld.slice = (s.setSlice g k v).weld.slice :=
    (show (s.sliceSettled g k v src body).weld.slice = ((s.setSlice g k v).subRecord src body).weld.slice from rfl).trans
      (congrArg WeldS.slice ((s.setSlice g k v).subRecord_weld src body))
  unfold State.sliceState
  rw [hslice]
  exact Assoc.getD_put_self _ _ _ _

theorem State.sliceSettled_frame (s : State) (g k v src : Nat) (body : Bytes) :
    (s.sliceSettled g k v src body).groups = s.groups
      ∧ ∀ (f : Fld) (i : Nat), ¬errorKey (f.key i 0) → (s.sliceSettled g k v src body).rd f i = s.rd f i := by
  have hframe := ErrorFrame.subRecord (s.setSlice g k v) src body
  constructor
  · exact (congrArg State.groups hframe.rest).trans rfl
  · exact fun f i hf => hframe.rd f i 0 hf

/-- A slice passes its test, and is the group's spare. -/
theorem suspectTestDone_passes {s u : State} {d g k at_ : Nat} (hu : u = s.atCmd d) (hg : g < 32) (hon : u.pressOn)
    (htest : (u.lgrp g).test = some (k, at_)) (hdue : at_ + 1000000000 ≤ u.clk) :
    exec (.suspectTestDone d g 0) s = .next (s.closeCmd d ((((((u.setLgrp g { u.lgrp g with test := none }).wr
      F.LGRP_SPARE_SPARE_STATE 0 g).wr F.LGRP_SPARE_SPARE_SLICE (k % 17) g).wr F.LANE_STATE_SPARE 1 k).wr F.LANE_STATE_STATE 0
      k).sliceSettled g (k % 17) 1 (srcNo 5 (u.lane k).lastLane) (subBody 8 4 0xFF (k % 17) (u.lane k).lastLane 0 0 0 0))) := by
  refine cmd_press_eq (decide_eq_true hg) hu hon ?_
  dsimp only
  rw [htest]
  dsimp only
  rw [show u.due at_ 1000000000 = true from decide_eq_true hdue]
  rfl

/-- A slice fails its test, and its group has no spare. -/
theorem suspectTestDone_fails {s u : State} {d g errs k at_ : Nat} (hu : u = s.atCmd d) (hg : g < 32) (hon : u.pressOn)
    (htest : (u.lgrp g).test = some (k, at_)) (hdue : at_ + 1000000000 ≤ u.clk) (herrs : errs ≠ 0) :
    exec (.suspectTestDone d g errs) s = .next (s.closeCmd d ((((((u.setLgrp g { u.lgrp g with test := none }).wr
      F.LGRP_SPARE_SPARE_STATE 3 g).wr F.LGRP_SPARE_SPARE_SLICE 0x1F g).wr F.LANE_STATE_STATE 0xB k).err 0x1E (srcNo 0x12 0)
      (detail [3, k])).sliceSettled g (k % 17) 3 (srcNo 5 (u.lane k).lastLane)
        (subBody 7 4 (k % 17) 0xFF (u.lane k).lastLane 0 0 0 0))) := by
  refine cmd_press_eq (decide_eq_true hg) hu hon ?_
  dsimp only
  rw [htest]
  dsimp only
  rw [show u.due at_ 1000000000 = true from decide_eq_true hdue]
  exact (if_neg (by decide)).trans (if_neg herrs)

/-- A listen that its spare has seen through. -/
structure State.ListenDone (s : State) (g pad : Nat) : Prop where
  pad : (s.lgrp g).pad = some pad
  state : s.rd F.LGRP_SPARE_SPARE_STATE g = 1
  byLoss : (s.lgrp g).byLoss = false
  compared : 256 ≤ (s.lgrp g).cmpN

/-- The comparison of 256 blocks decides. -/
theorem spareSwitch_eq {s u t : State} {d g pad : Nat} (hu : u = s.atCmd d) (hg : g < 32) (hon : u.pressOn) (h : u.ListenDone g pad)
    (ht : (if (u.lgrp g).cmpBad then u.listenAgain g
      else if u.on F.LANE_STATE_CDR_LOCK (u.spareSlice g) && u.on F.LANE_STATE_BLOCK_LOCK (u.spareSlice g)
        && decide (u.laneState (16 * g + pad) = 5) then u.spareTakes g pad else u) = t) :
    exec (.spareSwitch d g) s = .next (s.closeCmd d t) := by
  obtain ⟨hpad, hstate, hloss, hcompared⟩ := h
  refine cmd_press_eq (decide_eq_true hg) hu hon ?_
  dsimp only
  rw [hpad]
  dsimp only
  rw [if_neg (by simp [hstate, hloss]; omega)]
  exact ht

/-! ### A listen begins and ends -/

theorem State.loadEqAt_ne (s : State) {k l rate i : Nat} {f : Fld} (hc : f.key i 0 ≠ F.LANE_EQ_CTLE.key k 0)
    (hd : f.key i 0 ≠ F.LANE_EQ_DFE1.key k 0) (hct : f.key i 0 ≠ F.LANE_EQ_CTLE_TRIM.key k 0)
    (hdt : f.key i 0 ≠ F.LANE_EQ_DFE1_TRIM.key k 0) : (s.loadEqAt k l rate).rd f i = s.rd f i := by
  unfold State.loadEqAt
  dsimp only
  rw [State.rd_wr_ne _ hdt, State.rd_wr_ne _ hct, State.rd_wr_ne _ hd, State.rd_wr_ne _ hc]

/-- An equaliser is loaded with trim offsets 0. -/
theorem State.loadEqAt_trims (s : State) (k l rate : Nat) : (s.loadEqAt k l rate).rd F.LANE_EQ_CTLE_TRIM k = 0
    ∧ (s.loadEqAt k l rate).rd F.LANE_EQ_DFE1_TRIM k = 0 := by
  unfold State.loadEqAt
  dsimp only
  constructor
  · rw [State.rd_wr_apart _ (by decide)]
    exact State.rd_wr_self _ F.LANE_EQ_CTLE_TRIM 0 k 0
  · exact State.rd_wr_self _ F.LANE_EQ_DFE1_TRIM 0 k 0

/-- The registers of a listen that begins. -/
def State.listenShown (s : State) (g k : Nat) : State :=
  (((s.wr F.LGRP_SPARE_SPARE_STATE 1 g).wr F.LGRP_SPARE_LISTEN_MISMATCH 0 g).wr F.LANE_STATE_LISTEN 1 k).wr F.LANE_STATE_SPARE 0 k

/-- A spare that listens for a pad pair. -/
def State.listenStarted (s : State) (g pad : Nat) : State :=
  let k := s.spareSlice g
  let v := s.listenShown g k
  let rate := (v.lane (v.sliceOf (16 * g + pad))).rate
  ((v.setLgrp g (v.lgrp g).restart).setLane k
    { v.lane k with rate := rate, lastLane := 16 * g + pad, bufBits := 0, buf := 0 }).loadEqAt k (16 * g + pad) rate

/-- A claimed spare that is parked begins to listen. -/
theorem spareListenStart_eq {s u : State} {d g pad : Nat} (hu : u = s.atCmd d) (hg : g < 32) (hon : u.pressOn)
    (hpad : (u.lgrp g).pad = some pad) (hstate : u.rd F.LGRP_SPARE_SPARE_STATE g = 0) :
    exec (.spareListenStart d g) s = .next (s.closeCmd d (u.listenStarted g pad)) := by
  refine cmd_press_eq (decide_eq_true hg) hu hon ?_
  dsimp only
  rw [hpad]
  exact if_neg (by rw [hstate]; decide)

/-- The equaliser apart, a listen that starts shows in the registers of the group and the slice. -/
theorem State.listenStarted_rd (s : State) {g pad i : Nat} {f : Fld} (hc : f.key i 0 ≠ F.LANE_EQ_CTLE.key (s.spareSlice g) 0)
    (hd : f.key i 0 ≠ F.LANE_EQ_DFE1.key (s.spareSlice g) 0) (hct : f.key i 0 ≠ F.LANE_EQ_CTLE_TRIM.key (s.spareSlice g) 0)
    (hdt : f.key i 0 ≠ F.LANE_EQ_DFE1_TRIM.key (s.spareSlice g) 0) :
    (s.listenStarted g pad).rd f i = (s.listenShown g (s.spareSlice g)).rd f i :=
  State.loadEqAt_ne _ hc hd hct hdt

/-- The spare of a listen that ends is parked. -/
theorem State.listenEnd_reads {s : State} {g pad : Nat} (hpad : (s.lgrp g).pad = some pad) (hk : s.spareSlice g < 544) :
    ((s.listenEnd g).lgrp g).pad = none ∧ (s.listenEnd g).rd F.LGRP_SPARE_SPARE_STATE g = 0
      ∧ (s.listenEnd g).rd F.LANE_STATE_LISTEN (s.spareSlice g) = 0 ∧ (s.listenEnd g).rd F.LANE_STATE_SPARE (s.spareSlice g) = 1 := by
  unfold State.listenEnd
  generalize s.spareSlice g = k at hk
  extract_lets i x restarted parked shown slice rested
  have hclaimed : x.pad.isNone = false := congrArg Option.isNone hpad
  rw [hclaimed, if_neg Bool.false_ne_true]
  have hkept (f : Fld) (i : Nat) (hc : f.key i 0 ≠ F.LANE_STATE_CDR_LOCK.key k 0) (hb : f.key i 0 ≠ F.LANE_STATE_BLOCK_LOCK.key k 0) :
      ((rested.wr F.LANE_STATE_CDR_LOCK 0 k).wr F.LANE_STATE_BLOCK_LOCK 0 k).rd f i = shown.rd f i :=
    (State.rd_wr_ne _ hb _).trans (State.rd_wr_ne _ hc _)
  refine ⟨?_, ?_, ?_, ?_⟩
  · exact congrArg GroupS.pad (State.setLgrp_lgrp s g _)
  · exact (hkept _ g (Fld.lane_ne_group (by decide) rfl (by decide) (by decide) hk g).symm
      (Fld.lane_ne_group (by decide) rfl (by decide) (by decide) hk g).symm).trans (State.rd_wr_self _ F.LGRP_SPARE_SPARE_STATE 0 g 0)
  · refine (hkept _ k (Fld.key_ne_of_apart (by decide) k 0) (Fld.key_ne_of_apart (by decide) k 0)).trans ?_
    refine (State.rd_wr_ne _ (Fld.lane_ne_group (by decide) rfl (by decide) (by decide) hk g) _).trans ?_
    exact (State.rd_wr_apart _ (by decide) _ _ _).trans (State.rd_wr_self parked F.LANE_STATE_LISTEN 0 k 0)
  · refine (hkept _ k (Fld.key_ne_of_apart (by decide) k 0) (Fld.key_ne_of_apart (by decide) k 0)).trans ?_
    refine (State.rd_wr_ne _ (Fld.lane_ne_group (by decide) rfl (by decide) (by decide) hk g) _).trans ?_
    exact State.rd_wr_self _ F.LANE_STATE_SPARE 1 k 0

/-- Settles O32: the spare slice listens, takes over, is tested and abandoned. -/
theorem laneSpares : Obligations.LaneSpares := by
  unfold Obligations.LaneSpares
  refine ⟨?listen, ?takes, ?again, ?abandoned, ?lossTakes, ?regained, ?noLock, ?passed, ?failed, ?ordered, ?badOrder, ?abandon⟩
  case listen =>
    intro s u d g pad k l hu hg hon hpad hstate hk hl hk544
    subst hk hl
    have hexec := spareListenStart_eq hu hg hon hpad hstate
    have hslice : u.spareSlice g < 544 := hk544
    have hgroup (f : Fld) (hf : 0x280000 ≤ f.addr) : (u.listenStarted g pad).rd f g
        = ((u.wr F.LGRP_SPARE_SPARE_STATE 1 g).wr F.LGRP_SPARE_LISTEN_MISMATCH 0 g).rd f g := by
      rw [u.listenStarted_rd (Fld.lane_ne_group (by decide) rfl hf (by decide) hslice g).symm
        (Fld.lane_ne_group (by decide) rfl hf (by decide) hslice g).symm
        (Fld.lane_ne_group (by decide) rfl hf (by decide) hslice g).symm
        (Fld.lane_ne_group (by decide) rfl hf (by decide) hslice g).symm]
      exact (State.rd_wr_ne _ (Fld.lane_ne_group (by decide) rfl hf (by decide) hslice g).symm _).trans
        (State.rd_wr_ne _ (Fld.lane_ne_group (by decide) rfl hf (by decide) hslice g).symm _)
    have hlane (f : Fld) (hc : F.LANE_EQ_CTLE.apart f = true) (hd : F.LANE_EQ_DFE1.apart f = true)
        (hct : F.LANE_EQ_CTLE_TRIM.apart f = true) (hdt : F.LANE_EQ_DFE1_TRIM.apart f = true) :
        (u.listenStarted g pad).rd f (u.spareSlice g) = (u.listenShown g (u.spareSlice g)).rd f (u.spareSlice g) :=
      u.listenStarted_rd (Fld.key_ne_of_apart hc _ 0) (Fld.key_ne_of_apart hd _ 0) (Fld.key_ne_of_apart hct _ 0)
        (Fld.key_ne_of_apart hdt _ 0)
    refine ⟨_, hexec, ?_, ?_, ?_, ?_, State.loadEqAt_trims _ _ _ _⟩
    · rw [hgroup _ (by decide), State.rd_wr_apart _ (by decide)]
      exact State.rd_wr_self u F.LGRP_SPARE_SPARE_STATE 1 g 0
    · rw [hgroup _ (by decide)]
      exact State.rd_wr_self _ F.LGRP_SPARE_LISTEN_MISMATCH 0 g 0
    · refine (hlane _ (by decide) (by decide) (by decide) (by decide)).trans ?_
      exact (State.rd_wr_apart _ (by decide) _ _ _).trans (State.rd_wr_self _ F.LANE_STATE_LISTEN 1 _ 0)
    · refine (hlane _ (by decide) (by decide) (by decide) (by decide)).trans ?_
      exact State.rd_wr_self _ F.LANE_STATE_SPARE 0 _ 0
  case takes =>
    intro s u d g pad hu hg hon hpad hstate hloss hcompared hbad hcdr hlock hactive
    refine spareSwitch_eq hu hg hon ⟨hpad, hstate, hloss, hcompared⟩ ?_
    rw [if_neg (by simp [hbad]), hcdr, hlock, decide_eq_true hactive]
    exact if_pos (Eq.refl true)
  case again =>
    intro s u d g pad hu hg hon hpad hstate hloss hcompared hbad hfew
    refine spareSwitch_eq hu hg hon ⟨hpad, hstate, hloss, hcompared⟩ ?_
    rw [if_pos hbad]
    exact if_pos hfew
  case abandoned =>
    intro s u d g pad hu hg hon hpad hstate hloss hcompared hbad hfew
    refine spareSwitch_eq hu hg hon ⟨hpad, hstate, hloss, hcompared⟩ ?_
    rw [if_pos hbad]
    exact if_neg hfew
  case lossTakes =>
    intro s u d g pad k hu hg hon hpad hloss hk hst hstate hlock hfew
    subst hk
    refine cmd_press_eq (decide_eq_true hg) hu hon ?_
    dsimp only
    rw [hpad]
    dsimp only
    rw [if_neg (by simp [hloss, hst, hstate, hlock]), if_neg (by simp [State.goodNeeded, hst]; omega)]
  case regained =>
    intro s u d g pad k hu hg hon hpad hloss hk hst hstate hlock hgood
    subst hk
    refine cmd_press_eq (decide_eq_true hg) hu hon ?_
    dsimp only
    rw [hpad]
    dsimp only
    rw [if_neg (by simp [hloss, hst, hstate, hlock]), if_pos (by simp [State.goodNeeded, hst]; omega)]
  case noLock =>
    intro s u d g pad k hu hg hon hpad hloss hk hst hstate hlock
    refine cmd_press_eq (decide_eq_true hg) hu hon ?_
    dsimp only
    rw [hpad]
    dsimp only
    rw [if_pos (by simp [hlock])]
  case passed =>
    intro s u d g errs k at_ hu hg hon htest hdue hk herrs
    subst herrs
    have hexec := suspectTestDone_passes hu hg hon htest hdue
    generalize srcNo 5 (u.lane k).lastLane = src at hexec
    generalize subBody 8 4 0xFF (k % 17) (u.lane k).lastLane 0 0 0 0 = body at hexec
    generalize hw : ((((u.setLgrp g { u.lgrp g with test := none }).wr F.LGRP_SPARE_SPARE_STATE 0 g).wr
      F.LGRP_SPARE_SPARE_SLICE (k % 17) g).wr F.LANE_STATE_SPARE 1 k).wr F.LANE_STATE_STATE 0 k = w at hexec
    obtain ⟨hgroups, hkept⟩ := State.sliceSettled_frame w g (k % 17) 1 src body
    have hgroup (f : Fld) (hf : 0x280000 ≤ f.addr ∧ f.addr < 0x280100) (hs : f.s1 = 0x100) (hlo : f.lo < 64) :
        (w.sliceSettled g (k % 17) 1 src body).rd f g = (((u.setLgrp g { u.lgrp g with test := none }).wr
          F.LGRP_SPARE_SPARE_STATE 0 g).wr F.LGRP_SPARE_SPARE_SLICE (k % 17) g).rd f g := by
      rw [hkept f g (Fld.group_notError hf hs hlo hg), ← hw,
        State.rd_wr_ne _ (Fld.lane_ne_group (by decide) rfl hf.1 (by decide) hk g).symm]
      exact State.rd_wr_ne _ (Fld.lane_ne_group (by decide) rfl hf.1 (by decide) hk g).symm _
    refine ⟨_, hexec, State.sliceSettled_state _ _ _ _ _ _, ?_, ?_, ?_, ?_⟩
    · unfold State.lgrp
      rw [hgroups, ← hw]
      exact congrArg GroupS.test (State.setLgrp_lgrp u g _)
    · refine (hgroup _ (by decide) rfl (by decide)).trans ?_
      exact (State.rd_wr_apart _ (by decide) _ _ _).trans (State.rd_wr_self _ F.LGRP_SPARE_SPARE_STATE 0 g 0)
    · refine (hgroup _ (by decide) rfl (by decide)).trans ?_
      refine (State.rd_wr_self _ F.LGRP_SPARE_SPARE_SLICE (k % 17) g 0).trans (Nat.mod_eq_of_lt ?_)
      exact Nat.lt_trans (Nat.mod_lt k (by decide)) (by decide)
    · rw [hkept _ k (Fld.lane_notError (by decide) rfl (by decide) hk), ← hw]
      exact State.rd_wr_self _ F.LANE_STATE_STATE 0 k 0
  case failed =>
    intro s u d g errs k at_ hu hg hon htest hdue hk herrs
    have hexec := suspectTestDone_fails hu hg hon htest hdue herrs
    generalize srcNo 5 (u.lane k).lastLane = src at hexec
    generalize subBody 7 4 (k % 17) 0xFF (u.lane k).lastLane 0 0 0 0 = body at hexec
    generalize hw : (((u.setLgrp g { u.lgrp g with test := none }).wr F.LGRP_SPARE_SPARE_STATE 3 g).wr
      F.LGRP_SPARE_SPARE_SLICE 0x1F g).wr F.LANE_STATE_STATE 0xB k = w at hexec
    have herr := ErrorFrame.err w (code := 0x1E) (by decide) (srcNo 0x12 0) (detail [3, k])
    obtain ⟨hgroups, hkept⟩ := State.sliceSettled_frame (w.err 0x1E (srcNo 0x12 0) (detail [3, k])) g (k % 17) 3 src body
    have hgroup (f : Fld) (hf : 0x280000 ≤ f.addr ∧ f.addr < 0x280100) (hs : f.s1 = 0x100) (hlo : f.lo < 64) :
        ((w.err 0x1E (srcNo 0x12 0) (detail [3, k])).sliceSettled g (k % 17) 3 src body).rd f g
          = (((u.setLgrp g { u.lgrp g with test := none }).wr F.LGRP_SPARE_SPARE_STATE 3 g).wr F.LGRP_SPARE_SPARE_SLICE 0x1F g).rd f g := by
      rw [hkept f g (Fld.group_notError hf hs hlo hg), herr.rd f g 0 (Fld.group_notError hf hs hlo hg), ← hw]
      exact State.rd_wr_ne _ (Fld.lane_ne_group (by decide) rfl hf.1 (by decide) hk g).symm _
    refine ⟨_, hexec, State.sliceSettled_state _ _ _ _ _ _, ?_, ?_, ?_, ?_⟩
    · unfold State.lgrp
      rw [hgroups, herr.rest, ← hw]
      exact congrArg GroupS.test (State.setLgrp_lgrp u g _)
    · refine (hgroup _ (by decide) rfl (by decide)).trans ?_
      exact (State.rd_wr_apart _ (by decide) _ _ _).trans (State.rd_wr_self _ F.LGRP_SPARE_SPARE_STATE 3 g 0)
    · exact (hgroup _ (by decide) rfl (by decide)).trans (State.rd_wr_self _ F.LGRP_SPARE_SPARE_SLICE 0x1F g 0)
    · rw [hkept _ k (Fld.lane_notError (by decide) rfl (by decide) hk), herr.rd _ k 0 (Fld.lane_notError (by decide) rfl (by decide) hk),
        ← hw]
      exact State.rd_wr_self _ F.LANE_STATE_STATE 0xB k 0
  case ordered =>
    intro s u d g pad hu hg hpad hon ho hactive hfree hstate hslice
    rw [exec_lgrpSubstitute, execLgrpSubstitute]
    refine cmd_hostHold_eq (decide_eq_true ⟨hg, hpad⟩) hu ho ((State.press_on hon _).trans ?_)
    unfold State.orderSpare
    rw [if_neg (by simp [hactive, hfree])]
    unfold State.claimSpare
    dsimp only
    rw [if_pos (by simp [State.spareFree, hstate, hslice, hfree])]
  case badOrder =>
    intro s u d g pad hu hg hpad hon ho hbad
    rw [exec_lgrpSubstitute, execLgrpSubstitute]
    refine cmd_hostHold_eq (decide_eq_true ⟨hg, hpad⟩) hu ho ((State.press_on hon _).trans ?_)
    exact if_pos hbad
  case abandon =>
    intro s u d g pad k hu hg hon ho hpad hk hk544
    subst hk
    rw [exec_lgrpAbandon, execLgrpAbandon]
    exact ⟨u.listenEnd g, cmd_hostHold_eq (decide_eq_true hg) hu ho (State.press_on hon _), State.listenEnd_reads hpad hk544⟩

end Sys2Proof.Machine


/-!
PROOFS. Capabilities, commands, events and heartbeats of a camera.
-/

namespace Sys2Proof.Machine

/-! ### The TAG of the next command -/

/-- Every port gives its next command the TAG that it would have given it. -/
def State.keepsTags (s t : State) : Prop := ∀ q, (t.port q).nextTag = (s.port q).nextTag

namespace State.keepsTags

variable {s t u : State}

theorem refl (s : State) : s.keepsTags s := fun _ => rfl

theorem trans (h : s.keepsTags t) (g : t.keepsTags u) : s.keepsTags u := fun q => (g q).trans (h q)

theorem ofPorts (h : t.ports = s.ports) : s.keepsTags t := fun q => by
  unfold State.port
  rw [h]

theorem setPort (s : State) (p : Nat) {y : PortS} (h : y.nextTag = (s.port p).nextTag) : s.keepsTags (s.setPort p y) := by
  intro q
  by_cases hq : q = p
  · subst hq
    exact (congrArg PortS.nextTag (Assoc.getD_put_self _ _ _ _)).trans h
  · exact congrArg PortS.nextTag (Assoc.getD_put_ne hq _ _ _ _)

theorem emit (s : State) (o : Out) : s.keepsTags (s.emit o) := by
  obtain ⟨l, hl⟩ := s.emit_eq o
  rw [hl]
  exact refl s

/-! #### The transmitter -/

theorem txRun (s : State) (k l n : Nat) : s.keepsTags (s.txRun k l n) := by
  unfold State.txRun
  extract_lets x tx at_ tx'
  split
  · exact refl s
  split
  · exact emit (s.setLane k _) _
  split
  · exact emit (s.setLane k _) _
  · exact emit (s.setLane k _) _

theorem txFillTo (s : State) (k time : Nat) : s.keepsTags (s.txFillTo k time) := by
  unfold State.txFillTo
  dsimp only
  split
  · exact refl s
  split
  · exact refl s
  · exact txRun s k _ _

theorem injectTx (s : State) (k line : Nat) : s.keepsTags (s.injectTx k line).2 := by
  unfold State.injectTx
  extract_lets x c
  split
  · exact refl s
  · exact refl s

theorem txLine (s : State) (k l line : Nat) : s.keepsTags (s.txLine k l line) :=
  (injectTx s k line).trans (emit ((s.injectTx k line).2.setLane k _) _)

theorem histLine (s : State) (k l line : Nat) (x : LaneS) : s.keepsTags ((s.setLane k x).txLine k l line) :=
  txLine (s.setLane k x) k l line

theorem txBlock (s : State) (k l hdr payload : Nat) : s.keepsTags (s.txBlock k l hdr payload) := histLine s k l _ _

theorem opened (y : PortS) (tag1 t : Nat) : (y.opened tag1 t).nextTag = y.nextTag := by
  unfold PortS.opened
  split
  · rfl
  · rfl

theorem upOther (s : State) (p k t0 : Nat) : s.keepsTags (s.upOther p k t0) := by
  unfold State.upOther
  dsimp only
  split
  · refine trans (t := s.setPort p _) ?_ (txBlock _ k p _ _)
    exact setPort s p rfl
  split
  · exact refl s
  · refine trans (t := s.setPort p _) ?_ (txBlock _ k p _ _)
    exact setPort s p (opened _ _ _)

theorem upRun (p k until_ fuel : Nat) : ∀ s : State, s.keepsTags (s.upRun p k until_ fuel) := by
  induction fuel with
  | zero => exact refl
  | succ fuel ih =>
    intro s
    unfold State.upRun
    extract_lets x y bt t0 other
    split
    · split
      · split
        · exact refl s
        · extract_lets filled x' tx placed
          have hplaced : s.keepsTags placed := txFillTo s k _
          refine (hplaced.trans (trans (t := placed.setPort p _) ?_ (txBlock _ k p _ _))).trans (ih _)
          exact setPort placed p (hplaced p).symm
      · split
        · exact refl s
        · exact (upOther s p k t0).trans (ih _)
    · split
      · exact refl s
      · exact (upOther s p k t0).trans (ih _)

theorem txSync (s : State) (k : Nat) : s.keepsTags (s.txSync k) := by
  unfold State.txSync
  split
  · exact refl s
  · dsimp only
    split
    · exact txFillTo s k _
    · exact (upRun _ k _ _ s).trans (txFillTo _ k _)

end State.keepsTags

/-- A command takes the TAG that is next. -/
theorem State.sendCmd_tag (s : State) (p op owner len addr : Nat) (data : Bytes) :
    (s.sendCmd p op owner len addr data).1 = (s.port p).nextTag := State.keepsTags.txSync s _ p

/-! ### Host commands -/

/-- A host command that the bond takes is sent, and takes its TAG. -/
theorem State.hostCmd_sent {s : State} {p op len : Nat} (hbusy : s.on F.COBEX_RSP_BUSY p = false) (hmaster : s.isMaster p = true)
    (hop : op ≠ 3) (hlen : len ≤ 32) (htakes : s.takesCmd p op = true) (addr : Nat) {data : Bytes}
    (hdata : (if op = 1 then [] else s.bufRead (cmdDataAddr p) (8 * len)) = data) :
    s.hostCmd p op len addr =
      if op = 7 then (((s.sendCmd p op 0 len addr data).2.wr F.COBEX_RSP_TAG (s.port p).nextTag p).wr F.COBEX_RSP_BUSY 1 p).bondLeave p 0
      else ((s.sendCmd p op 0 len addr data).2.wr F.COBEX_RSP_TAG (s.port p).nextTag p).wr F.COBEX_RSP_BUSY 1 p := by
  subst hdata
  have hfit : ¬32 < len := by omega
  simp [State.hostCmd, hbusy, hmaster, hop, hfit, htakes, State.sendCmd_tag]

/-- A command other than LINK_RESET leaves the state of its bond. -/
theorem State.hostCmd_sends {s : State} {p op len : Nat} (hbusy : s.on F.COBEX_RSP_BUSY p = false) (hmaster : s.isMaster p = true)
    (hop : op ≠ 3 ∧ op ≠ 7) (hlen : len ≤ 32) (htakes : s.takesCmd p op = true) (addr : Nat) {data : Bytes}
    (hdata : (if op = 1 then [] else s.bufRead (cmdDataAddr p) (8 * len)) = data) :
    s.hostCmd p op len addr =
      ((s.sendCmd p op 0 len addr data).2.wr F.COBEX_RSP_TAG (s.port p).nextTag p).wr F.COBEX_RSP_BUSY 1 p := by
  rw [State.hostCmd_sent hbusy hmaster hop.1 hlen htakes addr hdata, if_neg hop.2]

theorem State.takesCmd_active {s : State} {p : Nat} (hbond : s.bond p = 3) (op : Nat) : s.takesCmd p op = true := by
  simp [State.takesCmd, hbond]

/-- A write of COBEX_CMD that acts. -/
theorem cmd_cmdWrite_eq {s u t : State} {d p op len addr : Nat} (hp : p < 512) (hu : u = s.atCmd d)
    (ho : u.hostOpen (F.COBEX_CMD_OP.at_ p)) (hon : u.pressOn) (h : u.hostCmd p op len addr = t) :
    cmd (decide (p < 512)) d s (fun s => s.cmdWrite p op len addr) = .next (s.closeCmd d t) :=
  cmd_hostWrite_eq (decide_eq_true hp) hu ho ((State.press_on hon _).trans h)

/-! ### What the stream delivered -/

theorem execRspReceive_eq {s u : State} {d p : Nat} {k : RspS} {ok : Bool} (hu : u = s.atCmd d) (hp : p < 512) (hon : u.pressOn)
    (hfirst : u.firstOf p = some (.rsp k ok)) : exec (.rspReceive d p) s = .next (s.closeCmd d
      (if ok then (u.takeItem p).response p (bits k.head 15 8) (bits k.head 23 16) k.data else u.takeItem p)) := by
  refine cmd_press_eq (decide_eq_true hp) hu hon ?_
  rw [hfirst]

theorem State.takeItem_cmdAt (s : State) (p tag : Nat) : (s.takeItem p).cmdAt p tag = s.cmdAt p tag := by
  unfold State.cmdAt State.takeItem State.port State.setPort
  rw [Assoc.getD_put_self]

theorem State.takeItem_quiet (s : State) (p : Nat) : ((s.takeItem p).port p).quiet = (s.port p).quiet := by
  unfold State.takeItem State.port State.setPort
  rw [Assoc.getD_put_self]

/-- A command of host software ends with the response to its TAG. -/
theorem State.response_host {s : State} {p tag : Nat} {c : CmdS} (hcmd : s.cmdAt p tag = some c) (howner : c.owner = 0)
    (status : Nat) (data : Bytes) :
    s.response p tag status data = ((s.endCmd p tag).hostDone p status data).idleAfter p c.op status := by
  unfold State.response
  rw [hcmd]
  simp [howner]

/-- A response to a TAG that nothing waits for. -/
theorem State.response_unexpected {s : State} {p tag : Nat} (hcmd : s.cmdAt p tag = none) (hquiet : tag ∉ (s.port p).quiet)
    (status : Nat) (data : Bytes) : s.response p tag status data = s.flag F.COBEX_STATUS_RSP_UNEXPECTED p := by
  unfold State.response
  rw [hcmd]
  simp [hquiet]

/-! ### Counters -/

/-- The counters that COBEX_CTL.CLEAR_COUNTS clears. -/
def cobexCounters : List Fld := [F.COBEX_PKTCNT_CRC_ERR, F.COBEX_PKTCNT_PACKETS, F.COBEX_ERRCNT_MISSING, F.COBEX_ERRCNT_TRUNCATED,
  F.COBEX_ERRCNT_STRAY, F.COBEX_ERRCNT_GAPS, F.COBEX_STATE_ALIGN_MISS]

theorem cobexCounters_zeroReset : ∀ f ∈ cobexCounters, f.zeroReset := by
  simp [cobexCounters, Fld.zeroReset, F.COBEX_PKTCNT_CRC_ERR, F.COBEX_PKTCNT_PACKETS, F.COBEX_ERRCNT_MISSING,
    F.COBEX_ERRCNT_TRUNCATED, F.COBEX_ERRCNT_STRAY, F.COBEX_ERRCNT_GAPS, F.COBEX_STATE_ALIGN_MISS]

theorem State.cobexClear_zero (s : State) (p : Nat) {f : Fld} (hf : f ∈ cobexCounters) : (s.cobexClear p).rd f p = 0 :=
  State.clrAll_zero cobexCounters cobexCounters_zeroReset hf

/-- Clearing leaves a field that is at another bit address than all that is cleared. -/
theorem State.clrAll_rd_apart {f : Fld} {i j : Nat} (fs : List Fld) :
    ∀ s : State, (∀ g ∈ fs, g.apart f = true) → (s.clrAll fs i j).rd f i j = s.rd f i j := by
  induction fs with
  | nil => exact fun _ _ => rfl
  | cons g fs ih =>
    intro s h
    exact (ih (s.clr g i j) fun g' hg' => h g' (List.mem_cons_of_mem g hg')).trans
      (State.rd_wr_apart s (h g List.mem_cons_self) _ _ _)

/-- The end of an open command, in which a command of host software gets its answer. -/
theorem execCmdTimeout_host {s u : State} {d p tag : Nat} {c : CmdS} (hu : u = s.atCmd d) (hp : p < 512) (hon : u.pressOn)
    (hcmd : u.cmdAt p tag = some c) (howner : c.owner = 0) (hdue : c.at_ + 1000 * u.rd F.COBEX_TIMING_CMD_TIMEOUT_US p ≤ u.clk) :
    exec (.cmdTimeout d p tag) s =
      .next (s.closeCmd d (((u.endCmd p tag).flag F.COBEX_STATUS_CMD_TIMEOUT p).hostDone p 0xF1 [])) := by
  refine cmd_press_eq (decide_eq_true hp) hu hon ?_
  rw [hcmd]
  exact (if_pos (decide_eq_true hdue)).trans (if_pos howner)

/-! ### Capabilities -/

theorem execCapsReceive_eq {s u : State} {d q version : Nat} {block : Bytes} {crcOk : Bool} (hu : u = s.atCmd d) (hq : q < 512)
    (hon : u.pressOn) (hstate : u.laneState q = 4) (hcaps : capsPacket (u.port q).caps = some (version, block, crcOk)) {t : State}
    (h : (let w := u.setPort q { u.port q with caps := [] }
      if w.capsReason q version block crcOk ≠ 0 then
        (w.wr F.COBEX_STATE_CAPS_REASON (w.capsReason q version block crcOk) q).flag F.COBEX_STATUS_CAPS_REFUSED q
      else w.capsAccept q block) = t) : exec (.capsReceive d q) s = .next (s.closeCmd d t) := by
  refine cmd_press_eq (decide_eq_true hq) hu hon ?_
  rw [if_pos hstate, hcaps]
  exact h

/-- The words of a capability block lie apart from the slices that serve the pad pairs. -/
theorem State.capsWords_sliceOf (q : Nat) (hq : q < 512) (block : Bytes) (is : List Nat) : ∀ s : State,
    (is.foldl (fun s i => s.wr F.COBEX_CAPS_WORD (leAt block (8 * i) 8) q i) s).sliceOf q = s.sliceOf q := by
  induction is with
  | nil => exact fun _ => rfl
  | cons i is ih =>
    intro s
    refine (ih (s.wr F.COBEX_CAPS_WORD (leAt block (8 * i) 8) q i)).trans ?_
    unfold State.sliceOf
    rw [State.rd_wr_ne]
    unfold Fld.key lgrpMap F.COBEX_CAPS_WORD
    dsimp only
    omega

theorem State.capsWords_clk (q : Nat) (block : Bytes) (is : List Nat) : ∀ s : State,
    (is.foldl (fun s i => s.wr F.COBEX_CAPS_WORD (leAt block (8 * i) 8) q i) s).clk = s.clk := by
  induction is with
  | nil => exact fun _ => rfl
  | cons i is ih => exact fun s => ih (s.wr F.COBEX_CAPS_WORD (leAt block (8 * i) 8) q i)

theorem State.holdCaps_sliceOf (s : State) {q : Nat} (hq : q < 512) (block : Bytes) : (s.holdCaps q block).sliceOf q = s.sliceOf q :=
  State.capsWords_sliceOf q hq block _ s

theorem State.holdCaps_clk (s : State) (q : Nat) (block : Bytes) : (s.holdCaps q block).clk = s.clk :=
  State.capsWords_clk q block _ s

/-- A lane whose capabilities are accepted counts anew and enters ACTIVE. -/
theorem State.capsAccept_eq (s : State) {q : Nat} (hq : q < 512) (block : Bytes) : s.capsAccept q block =
    (((s.holdCaps q block).setLane (s.sliceOf q) { (s.holdCaps q block).lane (s.sliceOf q) with
      since := s.clk, needRef := true, snapped := false, lowFom := 0, invActive := 0, invPeriod := 0, lossActive := 0, trimN := 0,
      idleRun := 0 }).wr F.LANE_STATE_STATE 5 (s.sliceOf q)).portActive q := by
  unfold State.capsAccept
  extract_lets held k was counted
  unfold counted was k held
  rw [s.holdCaps_sliceOf hq, s.holdCaps_clk]

/-- The CRC is judged first. -/
theorem State.capsReason_badCrc (s : State) (q version : Nat) (block : Bytes) : s.capsReason q version block false = 9 := rfl

/-- Settles O34: CAPS_REQ_SEND sends when due, and CAPS_RECEIVE accepts a packet without a reason to refuse it. -/
theorem cameraCapabilities : Obligations.CameraCapabilities := by
  unfold Obligations.CameraCapabilities
  refine ⟨?request, ?accept, ?refuse, ?badCrc, ?nothing⟩
  case request =>
    intro s u d l hu hl hon hstate hdue
    refine cmd_press_eq (decide_eq_true hl) hu hon ?_
    exact if_pos (by simp [hstate, hdue])
  case accept =>
    intro s u w d q version block crcOk hu hq hon hstate hcaps hw hreason
    subst hw
    refine execCapsReceive_eq hu hq hon hstate hcaps ?_
    exact (if_neg (not_not_intro hreason)).trans (State.capsAccept_eq _ hq block)
  case refuse =>
    intro s u w d q version block crcOk hu hq hon hstate hcaps hw hreason
    subst hw
    exact execCapsReceive_eq hu hq hon hstate hcaps (if_pos hreason)
  case badCrc =>
    intro s u w d q version block crcOk hu hq hon hstate hcaps hw hcrc
    subst hw hcrc
    refine execCapsReceive_eq hu hq hon hstate hcaps ?_
    dsimp only
    rw [State.capsReason_badCrc]
    exact if_pos (by decide)
  case nothing =>
    intro s u d q hu hq hon hnone
    refine cmd_press_eq (decide_eq_true hq) hu hon ?_
    have hwaits : (if u.laneState q = 4 then capsPacket (u.port q).caps else none) = none := by
      rcases hnone with hstate | hcaps
      · exact if_neg hstate
      · rw [hcaps, ite_self]
    rw [hwaits]

/-- Settles O35: a host command is sent, refused or ignored by the checks of COBEX_CMD in their order, and ends by its response or its timeout. -/
theorem cameraCommands : Obligations.CameraCommands := by
  unfold Obligations.CameraCommands
  refine ⟨?read, ?write, ?eidle, ?wake, ?capsRead, ?linkReset, ?camera, ?tooLong, ?busy, ?response, ?unexpected, ?badCrc, ?timeout,
    ?order, ?clear⟩
  case read =>
    intro s u d p len addr hu hp hlen haddr ho hon hbusy hmaster hbond
    refine cmd_cmdWrite_eq hp hu ho hon ?_
    rw [Nat.mod_eq_of_lt (show len < 256 by omega), Nat.mod_eq_of_lt haddr]
    exact State.hostCmd_sends hbusy hmaster (by decide) hlen (State.takesCmd_active hbond _) addr (if_pos (Eq.refl 1))
  case write =>
    intro s u d p len addr hu hp hlen haddr ho hon hbusy hmaster hbond
    refine cmd_cmdWrite_eq hp hu ho hon ?_
    rw [Nat.mod_eq_of_lt (show len < 256 by omega), Nat.mod_eq_of_lt haddr]
    exact State.hostCmd_sends hbusy hmaster (by decide) hlen (State.takesCmd_active hbond _) addr (if_neg (by decide))
  case eidle =>
    intro s u d p hu hp ho hon hbusy hmaster hbond
    refine cmd_cmdWrite_eq hp hu ho hon ?_
    exact State.hostCmd_sends hbusy hmaster (by decide) (Nat.zero_le _) (State.takesCmd_active hbond _) 0 rfl
  case wake =>
    intro s u d p hu hp ho hon hbusy hmaster hbond
    have htakes : u.takesCmd p 5 = true := by
      rcases hbond with h | h
      · exact State.takesCmd_active h 5
      · simp [State.takesCmd, h]
    refine cmd_cmdWrite_eq hp hu ho hon ?_
    exact State.hostCmd_sends hbusy hmaster (by decide) (Nat.zero_le _) htakes 0 rfl
  case capsRead =>
    intro s u d p hu hp ho hon hbusy hmaster hbond
    refine cmd_cmdWrite_eq hp hu ho hon ?_
    exact State.hostCmd_sends hbusy hmaster (by decide) (Nat.zero_le _) (State.takesCmd_active hbond _) 0 rfl
  case linkReset =>
    intro s u d p hu hp ho hon hbusy hmaster hbond
    refine cmd_cmdWrite_eq hp hu ho hon ?_
    refine (State.hostCmd_sent hbusy hmaster (by decide) (Nat.zero_le _) (State.takesCmd_active hbond _) 0 (data := []) rfl).trans ?_
    exact if_pos (Eq.refl 7)
  case camera =>
    intro s u d p op len addr hu hp hlow hhigh hlen haddr ho hon hbusy hmaster hbond
    have hop : 0x80 + op % 128 = op := by omega
    refine cmd_cmdWrite_eq hp hu ho hon ?_
    rw [hop, Nat.mod_eq_of_lt (show len < 256 by omega), Nat.mod_eq_of_lt haddr]
    exact State.hostCmd_sends hbusy hmaster (by omega) hlen (State.takesCmd_active hbond _) addr (if_neg (by omega))
  case tooLong =>
    intro s u d p len addr hu hp hlen haddr ho hon hbusy hmaster hlong
    refine cmd_cmdWrite_eq hp hu ho hon ?_
    rw [Nat.mod_eq_of_lt hlen]
    simp [State.hostCmd, hbusy, hmaster, hlong]
  case busy =>
    intro s u d p len addr hu hp hlen haddr ho hon hbusy
    exact cmd_cmdWrite_eq hp hu ho hon (if_pos hbusy)
  case response =>
    intro s u d p tag k c hu hp hon hfirst htag hcmd howner
    subst htag
    rw [execRspReceive_eq hu hp hon hfirst, if_pos (Eq.refl true), State.response_host ((State.takeItem_cmdAt u p _).trans hcmd) howner]
  case unexpected =>
    intro s u d p tag k hu hp hon hfirst htag hcmd hquiet
    subst htag
    rw [execRspReceive_eq hu hp hon hfirst, if_pos (Eq.refl true), State.response_unexpected ((State.takeItem_cmdAt u p _).trans hcmd)]
    rw [State.takeItem_quiet]
    exact hquiet
  case badCrc =>
    intro s u d p k hu hp hon hfirst
    exact execRspReceive_eq hu hp hon hfirst
  case timeout =>
    intro s u d p tag c hu hp htag hon hcmd howner hdue
    exact execCmdTimeout_host hu hp hon hcmd howner hdue
  case order =>
    intro s u d p hu hp ho hon hmaster
    exact cmd_hostWrite_eq (decide_eq_true hp) hu ho ((State.press_on hon _).trans (if_pos hmaster))
  case clear =>
    intro s u d p hu hp ho
    refine ⟨u.cobexClear p, cmd_hostWrite_eq (decide_eq_true hp) hu ho rfl, ?_, ?_, ?_, ?_, ?_, ?_, ?_, ?_⟩
    · exact u.cobexClear_zero p (by simp [cobexCounters])
    · exact u.cobexClear_zero p (by simp [cobexCounters])
    · exact u.cobexClear_zero p (by simp [cobexCounters])
    · exact u.cobexClear_zero p (by simp [cobexCounters])
    · exact u.cobexClear_zero p (by simp [cobexCounters])
    · exact u.cobexClear_zero p (by simp [cobexCounters])
    · exact u.cobexClear_zero p (by simp [cobexCounters])
    · exact State.clrAll_rd_apart cobexCounters u (by decide)

/-! ### Events and heartbeats -/

theorem execEventReceive_eq {s u w : State} {d p pay dt : Nat} (hu : u = s.atCmd d) (hp : p < 512) (hon : u.pressOn)
    (hfirst : u.firstOf p = some (.event pay dt)) (hw : w = (u.takeItem p).raise (ev 0x09 (u.rd F.COBEX_CFG_HEARTH p))) {t : State}
    (h : (if w.on F.COBEX_EVT_EVT_EN p then w.pushOr (srcNo 6 (w.rd F.COBEX_CFG_MASTER p)) (w.rd F.COBEX_EVT_EVT_TROUGH p)
        (record 0x0120 (srcNo 6 (w.rd F.COBEX_CFG_MASTER p)) dt
          (le 1 (bits pay 15 8) ++ le 1 0 ++ le 6 (bits pay 63 16) ++ le 8 (w.capsByte p 0 8))) F.COBEX_STATUS_RESOURCE_HELD p
      else w) = t) :
    exec (.eventReceive d p) s = .next (s.closeCmd d (if bits pay 15 8 = 1 then t.bondLeave p 0 else t)) := by
  subst hw h
  refine cmd_press_eq (decide_eq_true hp) hu hon ?_
  rw [hfirst]
  rfl

/-- Settles O36: what the stream delivered first is taken as it is, and the two timers of a heartbeat act when they are due. -/
theorem cameraEvents : Obligations.CameraEvents := by
  unfold Obligations.CameraEvents
  refine ⟨?noRecord, ?event, ?beat, ?noBeat, ?timeout, ?send⟩
  case noRecord =>
    intro s u w d p pay dt hu hp hon hfirst hw hoff
    exact execEventReceive_eq hu hp hon hfirst hw (if_neg (Bool.eq_false_iff.1 hoff))
  case event =>
    intro s u w d p pay dt src hu hp hon hfirst hw hen hcode hsrc
    subst hsrc
    rw [execEventReceive_eq hu hp hon hfirst hw (if_pos hen), if_neg hcode]
  case beat =>
    intro s u d p hu hp hon hfirst
    refine cmd_press_eq (decide_eq_true hp) hu hon ?_
    rw [hfirst]
    rfl
  case noBeat =>
    intro s u d p hu hp hon hfirst
    refine cmd_press_eq (decide_eq_true hp) hu hon ?_
    split
    · exact absurd ‹_› hfirst
    · rfl
  case timeout =>
    intro s u d p hu hp hon hmaster hbond hdue
    refine cmd_press_eq (decide_eq_true hp) hu hon ?_
    exact if_pos (by simp [hmaster, hbond, State.due, hdue])
  case send =>
    intro s u d p hu hp hon hmaster hbond hdue
    refine cmd_press_eq (decide_eq_true hp) hu hon ?_
    exact if_pos (by simp [hmaster, hbond, State.due, hdue])

end Sys2Proof.Machine


/-!
PROOFS. Frames, packets, tables, marks and exposure orders of a Hearth.
-/

namespace Sys2Proof.Machine

/-! ### Frames -/

/-- Without an open frame there is nothing to end. -/
theorem State.endFrame_none {s : State} {n : Nat} (hnone : (s.hth n).frame = none) (bad : Nat) (sent : Option Nat) (lost : Bool)
    (power : Nat) : s.endFrame n bad sent lost power = s := by
  unfold State.endFrame
  rw [if_pos (by rw [hnone]; rfl)]

/-- A FRAME_START outside an open frame is judged by its ledger entry. -/
theorem State.frameStart_entry {s : State} {p n format streams frameNo bad : Nat} (hnone : (s.hth n).frame = none)
    {idx : Nat} {e : LedgerE} (hentry : s.entryOf (s.logicalOf n) frameNo = some (idx, e)) :
    s.frameStart p n format streams frameNo bad =
      if e.state ≠ 1 ∨ e.dt ≤ (s.port p).attachDt then s.discardFrame n F.HEARTH_ERRS_ORPHANS F.HEARTH_STATUS_ORPHAN
      else if format ≠ s.rd F.HEARTH_CFG_FORMAT n ∨ streams ≠ s.bandsN n then
        s.discardFrame n F.HEARTH_ERRS_FORMAT_ERR F.HEARTH_STATUS_FORMAT_ERR
      else s.openFrame (s.logicalOf n) idx e := by
  unfold State.frameStart
  rw [State.endFrame_none hnone]
  dsimp only
  rw [hentry]

theorem State.frameStart_noEntry {s : State} {p n format streams frameNo bad : Nat} (hnone : (s.hth n).frame = none)
    (hentry : s.entryOf (s.logicalOf n) frameNo = none) :
    s.frameStart p n format streams frameNo bad = s.discardFrame n F.HEARTH_ERRS_ORPHANS F.HEARTH_STATUS_ORPHAN := by
  unfold State.frameStart
  rw [State.endFrame_none hnone]
  dsimp only
  rw [hentry]

theorem within_iff {a x b : Nat} : within a x b = true ↔ a ≤ x ∧ x ≤ b := by simp [within]

/-- FRAME_START of a FORMAT that the link passes on. -/
theorem execFrameStart_eq {s u v : State} {d p pay dt bad n : Nat} (hu : u = s.atCmd d) (hp : p < 512) (hon : u.pressOn)
    (hfed : u.fedBy p = some n) (hfirst : u.firstOf p = some (.frameStart pay dt))
    (hv : v = (u.takeItem p).setPort p { (u.takeItem p).port p with dropFrame := false })
    (hlow : 1 ≤ fsFormat pay) (hhigh : fsFormat pay ≤ 4) {t : State}
    (h : v.frameStart p n (fsFormat pay) (fsStreams pay) (fsFrameNo pay) bad = t) :
    exec (.frameStart d p bad) s = .next (s.closeCmd d t) := by
  subst hv h
  refine cmd_press_eq (decide_eq_true hp) hu hon ?_
  rw [hfirst, hfed]
  exact if_pos (within_iff.2 ⟨hlow, hhigh⟩)

/-- FRAME_END of a frame that the link does not pass over. -/
theorem execFrameEnd_eq {s u w : State} {d p pay dt bad n power : Nat} (hu : u = s.atCmd d) (hp : p < 512) (hon : u.pressOn)
    (hfed : u.fedBy p = some n) (hfirst : u.firstOf p = some (.frameEnd pay dt)) (hw : w = u.takeItem p)
    (hdrop : (w.port p).dropFrame = false) {t : State} (h : w.frameEnd n (feFrameNo pay) (feSent pay) power bad = t) :
    exec (.frameEnd d p power bad) s = .next (s.closeCmd d t) := by
  subst hw h
  refine cmd_press_eq (decide_eq_true hp) hu hon ?_
  rw [hfirst, hfed]
  exact if_neg (Bool.eq_false_iff.1 hdrop)

/-! ### Packets -/

/-- A packet whose end has arrived is checked by its length, then by its CRC. -/
theorem State.checkPacket_ended (u : State) (p : Nat) {pay : Nat} {k : ImgS} (heop : k.eop = some pay) (hlow : 1 ≤ eopValid pay)
    (hhigh : eopValid pay ≤ 8) : u.checkPacket p k =
      if k.fits = false then (none, (u.packetSeq p k).inc F.COBEX_ERRCNT_TRUNCATED p)
      else if k.crcOk (eopValid pay) = false then (none, (u.packetSeq p k).inc F.COBEX_PKTCNT_CRC_ERR p)
      else (some (k.data (eopValid pay)), (u.packetSeq p k).inc F.COBEX_PKTCNT_PACKETS p) := by
  have hvalid : u.validOf pay = (eopValid pay, u) := if_pos (within_iff.2 ⟨hlow, hhigh⟩)
  unfold State.checkPacket
  dsimp only
  rw [heop, Option.getD_some, hvalid]
  simp only [Bool.not_eq_true']

/-- A packet without an end is cut short. -/
theorem State.checkPacket_noEnd (u : State) (p : Nat) {k : ImgS} (heop : k.eop = none) :
    u.checkPacket p k = (none, u.inc F.COBEX_ERRCNT_TRUNCATED p) := by
  have hvalid : u.validOf 0x100 = (1, u) := rfl
  unfold State.checkPacket State.packetSeq ImgS.fits
  dsimp only
  rw [heop, Option.getD_none, hvalid]
  rfl

theorem execImagePacket_eq {s u v : State} {d p bad n : Nat} {k : ImgS} {data : Option Bytes} (hu : u = s.atCmd d) (hp : p < 512)
    (hon : u.pressOn) (hfed : u.fedBy p = some n) (hfirst : u.firstOf p = some (.image k))
    (hcheck : (u.takeItem p).checkPacket p k = (data, v)) : exec (.imagePacket d p bad) s = .next (s.closeCmd d
      (if (v.port p).dropFrame = true ∨ (v.hth n).frame = none then v else
        v.takePacket n bad k.first k.last (sopLine k.sop) (sopStream k.sop) (sopOffset k.sop) (sopFirst k.sop) (sopLast k.sop)
          data)) := by
  refine cmd_press_eq (decide_eq_true hp) hu hon ?_
  rw [hfirst, hfed]
  dsimp only
  rw [hcheck]
  simp only [Bool.or_eq_true, Option.isNone_iff_eq_none]

/-! ### Counters -/

/-- The counters that HEARTH_CTL.CLEAR_COUNTS clears. -/
def hearthCounters : List Fld := [F.HEARTH_FRAMES_LONG, F.HEARTH_FRAMES_SHORT, F.HEARTH_FRAMES_ENDED, F.HEARTH_ERRS_ORPHANS,
  F.HEARTH_ERRS_FORMAT_ERR, F.HEARTH_ERRS_NO_POSITION, F.HEARTH_ERRS_ORDER_ERR, F.HEARTH_LINECNT_EXCESS,
  F.HEARTH_LINECNT_MISSING_LINES, F.HEARTH_SAT_UNRESOLVED, F.HEARTH_SAT_SATURATED, F.HEARTH_DROP_DROPPED0,
  F.HEARTH_DROP_DROPPED1, F.HEARTH_DROP_DROPPED2, F.HEARTH_DROP_DROPPED3, F.HEARTH_EXP_CNT_STRADDLED,
  F.HEARTH_EXP_CNT_QUEUE_REPLACED, F.HEARTH_EXP_CNT_RETRIES, F.HEARTH_EXP_CNT_CHANGES]

theorem hearthCounters_zeroReset : ∀ f ∈ hearthCounters, f.zeroReset := by
  simp [hearthCounters, Fld.zeroReset, F.HEARTH_FRAMES_LONG, F.HEARTH_FRAMES_SHORT, F.HEARTH_FRAMES_ENDED, F.HEARTH_ERRS_ORPHANS,
    F.HEARTH_ERRS_FORMAT_ERR, F.HEARTH_ERRS_NO_POSITION, F.HEARTH_ERRS_ORDER_ERR, F.HEARTH_LINECNT_EXCESS,
    F.HEARTH_LINECNT_MISSING_LINES, F.HEARTH_SAT_UNRESOLVED, F.HEARTH_SAT_SATURATED, F.HEARTH_DROP_DROPPED0,
    F.HEARTH_DROP_DROPPED1, F.HEARTH_DROP_DROPPED2, F.HEARTH_DROP_DROPPED3, F.HEARTH_EXP_CNT_STRADDLED,
    F.HEARTH_EXP_CNT_QUEUE_REPLACED, F.HEARTH_EXP_CNT_RETRIES, F.HEARTH_EXP_CNT_CHANGES]

theorem State.hearthClear_zero (s : State) (n : Nat) {f : Fld} (hf : f ∈ hearthCounters) : (s.hearthClear n).rd f n = 0 :=
  State.clrAll_zero hearthCounters hearthCounters_zeroReset hf

theorem State.hearthClear_hearths (s : State) (n : Nat) : (s.hearthClear n).hearths = s.hearths := by
  obtain ⟨r, hr⟩ : s.RegsOnly (s.hearthClear n) := s.clrAll_regsOnly hearthCounters n 0
  rw [hr]

/-- Settles O37: the stream's first item is taken by the frame that is open, and judged by the ledger, its length, its CRC and its SEQ. -/
theorem framesAndPackets : Obligations.FramesAndPackets := by
  unfold Obligations.FramesAndPackets
  refine ⟨?opens, ?orphan, ?badFormat, ?unknown, ?reserved, ?noStart, ?ends, ?noFrame, ?passedOver, ?checked, ?noEop, ?packet, ?clear⟩
  case opens =>
    intro s u v d p pay dt bad n idx e hu hp hon hfed hfirst hv hlow hhigh hnone hentry hstate hattach hformat hstreams
    refine execFrameStart_eq hu hp hon hfed hfirst hv hlow hhigh ?_
    rw [State.frameStart_entry hnone hentry, if_neg (by omega), if_neg (by omega)]
  case orphan =>
    intro s u v d p pay dt bad n idx e hu hp hon hfed hfirst hv hlow hhigh hnone hentry horphan
    refine execFrameStart_eq hu hp hon hfed hfirst hv hlow hhigh ?_
    rw [State.frameStart_entry hnone hentry, if_pos horphan]
  case badFormat =>
    intro s u v d p pay dt bad n idx e hu hp hon hfed hfirst hv hlow hhigh hnone hentry hstate hattach hformat
    refine execFrameStart_eq hu hp hon hfed hfirst hv hlow hhigh ?_
    rw [State.frameStart_entry hnone hentry, if_neg (by omega), if_pos hformat]
  case unknown =>
    intro s u v d p pay dt bad n hu hp hon hfed hfirst hv hlow hhigh hnone hentry
    exact execFrameStart_eq hu hp hon hfed hfirst hv hlow hhigh (State.frameStart_noEntry hnone hentry)
  case reserved =>
    intro s u w d p pay dt bad n hu hp hon hfed hfirst hw hformat
    subst hw
    refine cmd_press_eq (decide_eq_true hp) hu hon ?_
    rw [hfirst, hfed]
    exact if_neg fun h => by have := within_iff.1 h; omega
  case noStart =>
    intro s u d p bad hu hp hon hfirst
    refine cmd_press_eq (decide_eq_true hp) hu hon ?_
    split
    · rename_i hstart _
      exact absurd hstart (hfirst _ _)
    · rfl
  case ends =>
    intro s u w d p pay dt bad n power f hu hp hon hfed hfirst hw hdrop hframe
    refine execFrameEnd_eq hu hp hon hfed hfirst hw hdrop ?_
    unfold State.frameEnd
    dsimp only
    rw [hframe]
  case noFrame =>
    intro s u w d p pay dt bad n power hu hp hon hfed hfirst hw hdrop hframe
    refine execFrameEnd_eq hu hp hon hfed hfirst hw hdrop ?_
    unfold State.frameEnd
    dsimp only
    rw [hframe]
    rfl
  case passedOver =>
    intro s u w d p pay dt bad n power hu hp hon hfed hfirst hw hdrop
    subst hw
    refine cmd_press_eq (decide_eq_true hp) hu hon ?_
    rw [hfirst, hfed]
    exact if_pos hdrop
  case checked =>
    exact fun u p pay k => u.checkPacket_ended p
  case noEop =>
    exact fun u p k => u.checkPacket_noEnd p
  case packet =>
    exact fun s u v d p bad n k data => execImagePacket_eq
  case clear =>
    intro s u d n hu hn ho
    refine ⟨u.hearthClear n, cmd_hostHold_eq (decide_eq_true hn) hu ho rfl, ?_, ?_, ?_, ?_, ?_, ?_, ?_⟩
    · exact u.hearthClear_zero n (by simp [hearthCounters])
    · exact u.hearthClear_zero n (by simp [hearthCounters])
    · exact u.hearthClear_zero n (by simp [hearthCounters])
    · exact u.hearthClear_zero n (by simp [hearthCounters])
    · exact u.hearthClear_zero n (by simp [hearthCounters])
    · exact u.hearthClear_zero n (by simp [hearthCounters])
    · exact u.hearthClear_hearths n

/-! ### Tables and marks -/

theorem execMark_eq {s u t : State} {d n m op st : Nat} {ok : Bool} (hok : ok = true) (hu : u = s.atCmd d)
    (ho : u.hostOpen (F.HEARTH_MARK_CTL_OP.at_ n)) (hon : u.pressOn) (h : u.markOrder n op st m = t) :
    cmd ok d s (fun s => s.markWrite n op st m) = .next (s.closeCmd d t) :=
  cmd_hostHold_eq hok hu ho ((State.press_on hon _).trans h)

/-- A mark shows as it was ordered. -/
theorem State.setMark_reads (s : State) (n m st lseq : Nat) (valid pending : Bool) :
    (s.setMark n m st lseq valid pending).rd F.HEARTH_MARK_STATE_VALID n m = b2n valid
    ∧ (s.setMark n m st lseq valid pending).rd F.HEARTH_MARK_STATE_PENDING n m = b2n pending
    ∧ (s.setMark n m st lseq valid pending).rd F.HEARTH_MARK_STATE_STREAM n m = st % 4
    ∧ (s.setMark n m st lseq valid pending).rd F.HEARTH_MARK_POS_LSEQ n m = lseq % 2 ^ F.HEARTH_MARK_POS_LSEQ.w := by
  have hbit (b : Bool) : b2n b % 2 ^ 1 = b2n b := by cases b <;> rfl
  unfold State.setMark
  refine ⟨?_, ?_, ?_, ?_⟩
  · rw [State.rd_wr_apart _ (by decide), State.rd_wr_apart _ (by decide), State.rd_wr_apart _ (by decide), State.rd_wr_self]
    exact hbit valid
  · rw [State.rd_wr_apart _ (by decide), State.rd_wr_apart _ (by decide), State.rd_wr_self]
    exact hbit pending
  · rw [State.rd_wr_apart _ (by decide), State.rd_wr_self]
    rfl
  · exact State.rd_wr_self _ _ _ _ _

/-- Settles O38: a swap waits, and a mark shows what HEARTH_MARK_CTL ordered. -/
theorem tablesAndMarks : Obligations.TablesAndMarks := by
  unfold Obligations.TablesAndMarks
  refine ⟨?swap, ?now, ?nextFrame, ?clear⟩
  case swap =>
    intro s u d n hu hn ho hon
    exact cmd_hostHold_eq (decide_eq_true hn) hu ho (State.press_on hon _)
  case now =>
    intro s u d n m st hu hn hm hst ho hon
    obtain ⟨hvalid, hpending, hstream, hpos⟩ := u.setMark_reads n m st (u.rd F.HEARTH_LSEQ_VALUE n st) true false
    exact ⟨_, execMark_eq (decide_eq_true ⟨hn, hm, hst⟩) hu ho hon rfl, hvalid, hpending,
      hstream.trans (Nat.mod_eq_of_lt hst), hpos, rfl⟩
  case nextFrame =>
    intro s u d n m st hu hn hm hst ho hon _
    obtain ⟨hvalid, hpending, hstream, _⟩ := State.setMark_reads
      (u.setHth n { u.hth n with armedMarks := if bit (u.hth n).armedMarks m = 1 then (u.hth n).armedMarks - 2 ^ m
        else (u.hth n).armedMarks }) n m st (u.rd F.HEARTH_MARK_POS_LSEQ n m) false true
    exact ⟨_, execMark_eq (decide_eq_true ⟨hn, hm, hst⟩) hu ho hon rfl, hvalid, hpending, hstream.trans (Nat.mod_eq_of_lt hst)⟩
  case clear =>
    intro s u d n m hu hn hm ho hon
    exact execMark_eq (decide_eq_true ⟨hn, hm⟩) hu ho hon rfl

/-! ### Exposure -/

@[simp] theorem State.setHth_hth (s : State) (n : Nat) (x : HearthS) : (s.setHth n x).hth n = x := Assoc.getD_put_self _ _ _ _

/-- An order that comes while a frame is open waits. -/
theorem State.expOrder_waits {s : State} {n : Nat} {f : FrameS} (hframe : (s.hth n).frame = some f) (hqueue : (s.ex n).queue = none)
    (o : ExpOrder) : s.expOrder n o = (s.setEx n { s.ex n with queue := some o }).wr F.HEARTH_EXP_PEND_QUEUED 1 n := by
  have hstill : (((s.setEx n { s.ex n with queue := some o }).wr F.HEARTH_EXP_PEND_QUEUED 1 n).hth n).frame = some f :=
    (congrArg HearthS.frame (State.setHth_hth s n _)).trans hframe
  unfold State.expOrder
  dsimp only
  rw [hqueue, Option.isSome_none, if_neg Bool.false_ne_true]
  exact if_pos (congrArg Option.isSome hstill)

theorem execExposureOrder_eq {s u t : State} {d n value : Nat} (hu : u = s.atCmd d) (hn : n < 264)
    (ho : u.hostOpen (F.HEARTH_EXP_SET_GAIN.at_ n)) (hon : u.pressOn) (h : u.expSet n value = t) :
    exec (.exposureOrder d n value) s = .next (s.closeCmd d t) :=
  cmd_hostHold_eq (decide_eq_true hn) hu ho ((State.press_on hon _).trans h)

/-- Settles O39: a gain of 1.0 or more is ordered, and an acknowledgement whose first frame lies not ahead fills the slot. -/
theorem exposureOrders : Obligations.ExposureOrders := by
  unfold Obligations.ExposureOrders
  refine ⟨?ordered, ?ignored, ?queued, ?applied⟩
  case ordered =>
    intro s u d n value hu hn hvalue ho hon hgain
    exact execExposureOrder_eq hu hn ho hon (if_neg (Nat.not_lt.2 hgain))
  case ignored =>
    intro s u d n value hu hn hvalue ho hon hgain
    exact execExposureOrder_eq hu hn ho hon (if_pos hgain)
  case queued =>
    intro s u d n value f hu hn hvalue ho hon hgain hframe hqueue
    refine ⟨_, execExposureOrder_eq hu hn ho hon ((if_neg (Nat.not_lt.2 hgain)).trans (State.expOrder_waits hframe hqueue _)),
      ?_, ?_, ?_⟩
    · exact congrArg (fun x => x.exp.queue) (State.setHth_hth u n _)
    · exact State.rd_wr_self _ F.HEARTH_EXP_PEND_QUEUED 1 n 0
    · exact State.rd_wr_apart (u.setEx n _) (by decide) _ _ _
  case applied =>
    intro s u d h n gen frm hu hh hon hhearth hnotice hahead
    refine cmd_press_eq (decide_eq_true hh) hu hon ?_
    unfold State.expAck
    rw [hhearth]
    dsimp only
    rw [hnotice]
    exact if_neg (Int.not_lt.2 hahead)

end Sys2Proof.Machine


/-!
PROOFS. Generators: arming, stopping, crossings, issue, and the exposure ledger.
-/

namespace Sys2Proof.Machine

/-! ### One generator -/

@[simp] theorem State.setGen_gen (s : State) (k : GenKind) (g : Nat) (x : GenS) : (s.setGen k g x).gen k g = x := by
  cases k with
  | ctrig => exact Assoc.getD_put_self _ _ _ _
  | ptrig => exact Assoc.getD_put_self _ _ _ _
  | fire => exact Assoc.getD_put_self _ _ _ _

@[simp] theorem State.setGen_armed (s : State) (k l : GenKind) (g h : Nat) (x : GenS) : (s.setGen k g x).armed l h = s.armed l h := by
  cases k with
  | ctrig => rfl
  | ptrig => rfl
  | fire => rfl

/-- A write of CTL of a generator that acts. -/
theorem cmd_genCtl_eq {s u t : State} {d g : Nat} {k : GenKind} {f : State → State} (hg : g < genCount k) (hu : u = s.atCmd d)
    (ho : u.hostOpen ((gf k F.CTRIG_CTL_ARM).at_ g)) (hon : u.pressOn) (h : f u = t) :
    cmd (decide (g < genCount k)) d s (fun s => s.genCtl k g f) = .next (s.closeCmd d t) :=
  cmd_hostWrite_eq (decide_eq_true hg) hu ho ((State.press_on hon f).trans h)

/-- A generator whose PITCH is too small is not armed. -/
theorem State.armOrder_refused {s : State} {k : GenKind} {g : Nat} (harmed : s.armed k g = false) (hpitch : s.pitch k g < 2 ^ 24) :
    s.armOrder k g = s.flag (gf k F.CTRIG_STATUS_ARM_REFUSED) g := by
  unfold State.armOrder
  rw [if_neg (Bool.eq_false_iff.1 harmed), if_pos hpitch]

section

variable {s : State} {g : Nat}

/-- A camera generator that is stopped and has a PITCH is armed, and wakes its bond. -/
theorem State.armOrder_camera (harmed : s.armed .ctrig g = false) (hpitch : 2 ^ 24 ≤ s.pitch .ctrig g) :
    s.armOrder .ctrig g = (s.armGen .ctrig g).wakeBond g :=
  (if_neg (Bool.eq_false_iff.1 harmed)).trans (if_neg (Nat.not_lt.2 hpitch))

/-- A pin generator that is stopped and has a PITCH is armed. -/
theorem State.armOrder_pin (harmed : s.armed .ptrig g = false) (hpitch : 2 ^ 24 ≤ s.pitch .ptrig g) :
    s.armOrder .ptrig g = s.armGen .ptrig g :=
  (if_neg (Bool.eq_false_iff.1 harmed)).trans (if_neg (Nat.not_lt.2 hpitch))

/-- A fire-point generator with a reason against it is not armed. -/
theorem State.armOrder_fire (harmed : s.armed .fire g = false) (hpitch : 2 ^ 24 ≤ s.pitch .fire g) (hwhy : s.armRefuse g ≠ 0) :
    s.armOrder .fire g = (s.flag F.HAMMER_STATUS_ARM_REFUSED g).wr F.HAMMER_STATE_REFUSE (s.armRefuse g) g :=
  (if_neg (Bool.eq_false_iff.1 harmed)).trans ((if_neg (Nat.not_lt.2 hpitch)).trans (if_pos hwhy))

end

/-- A generator that is armed stands at its first target ahead. -/
theorem State.armGen_reads (s : State) (k : GenKind) (g : Nat) : (s.armGen k g).armed k g = true
    ∧ ((s.armGen k g).gen k g).k =
      (s.wr (gf k F.CTRIG_STATUS_ARMED) 1 g).firstTarget k g (s.rd F.AXIS_STATUS_DIR (s.genAxis k g))
    ∧ ((s.armGen k g).gen k g).count = 0 := by
  refine ⟨?_, ?_, ?_⟩
  · refine (State.setGen_armed _ k k g g _).trans ?_
    exact State.on_iff.2 (by rw [State.rd_wr_self]; exact (Nat.one_ne_zero : 1 % 2 ^ 1 ≠ 0))
  · exact congrArg GenS.k (State.setGen_gen _ k g _)
  · exact congrArg GenS.count (State.setGen_gen _ k g _)

/-- A generator that runs or that has crossings that wait is stopped. -/
theorem State.disarm_armed {s : State} {k : GenKind} {g : Nat} (harmed : s.armed k g = true) :
    s.disarm k g = (s.wr (gf k F.CTRIG_STATUS_ARMED) 0 g).setGen k g (s.gen k g).stopped := by
  unfold State.disarm
  rw [if_pos (by rw [harmed]; rfl)]

/-- A stop leaves what a generator has issued. -/
theorem State.disarm_gen (s : State) (k : GenKind) (g : Nat) :
    (s.disarm k g).gen k g = s.gen k g ∨ (s.disarm k g).gen k g = (s.gen k g).stopped := by
  unfold State.disarm
  split
  · exact .inr (State.setGen_gen _ k g _)
  · exact .inl rfl

/-- A stop of a pin generator leaves the trace, and every register but its ARMED. -/
theorem State.disarm_keeps (s : State) (g : Nat) {f : Fld} (hf : (gf .ptrig F.CTRIG_STATUS_ARMED).apart f = true) :
    (s.disarm .ptrig g).out = s.out ∧ (s.disarm .ptrig g).rd f g = s.rd f g := by
  unfold State.disarm
  split
  · exact ⟨rfl, State.rd_wr_apart s hf 0 g 0⟩
  · exact ⟨rfl, rfl⟩

/-! ### Crossings -/

theorem execTargetCrossing_armed {s u : State} {d g : Nat} {k : GenKind} (hu : u = s.atCmd d) (hg : g < genCount k) (hon : u.pressOn)
    (harmed : u.armed k g = true) : exec (.targetCrossing d k g) s = .next (s.closeCmd d (u.crossMany k g
      (u.rd F.AXIS_STATUS_DIR (u.genAxis k g)) (u.axPos (u.genAxis k g)) (u.crossed k g) true)) :=
  cmd_press_eq (decide_eq_true hg) hu hon (if_pos harmed)

theorem State.crossMany_one (s : State) (g dir pos : Nat) (harmed : s.armed .ptrig g = true) :
    s.crossMany .ptrig g dir pos 1 true = s.crossPoint .ptrig g dir pos true := by
  unfold State.crossMany
  rw [harmed]
  rfl

/-! ### Pulses -/

/-- The level of an event leaves registers, generators and the trace. -/
theorem State.setLevelAt_frame (s : State) (e v cycle : Nat) :
    (s.setLevelAt e v cycle).regs = s.regs ∧ (s.setLevelAt e v cycle).pos = s.pos ∧ (s.setLevelAt e v cycle).out = s.out := by
  have honly : s.setLevelAt e v cycle = _ := s.setLevelAt_only e v cycle
  refine ⟨(State.setLevelAt_level s e v cycle).2.1, ?_, ?_⟩
  · rw [honly]
  · rw [honly]

theorem State.pinLevel_frame (s : State) (p : Nat) :
    (s.pinLevel p).regs = s.regs ∧ (s.pinLevel p).pos = s.pos ∧ (s.pinLevel p).out = s.out := s.setLevelAt_frame _ _ _

/-- A pulse that begins: its issue, its length, its count and what leaves the device. -/
def State.pulsed (s : State) (p : Nat) (cr : Crossing) (rest : List Crossing) : State :=
  let w := s.rd F.PTRIG_PULSE_WIDTH_NS p
  let x := s.gen .ptrig p
  let s := s.setGen .ptrig p { x with waiting := rest, last := some cr.at_, count := x.count + 1, pulseEnd := some (s.dt + w) }
  ((s.inc F.PTRIG_COUNT_ISSUED p).emit (.pulse p cr.at_ w)).pinLevel p

theorem execPinPulseIssue_eq {s u : State} {d p : Nat} {cr : Crossing} {rest : List Crossing} (hu : u = s.atCmd d) (hp : p < 32)
    (hon : u.pressOn) (hwaiting : (u.gen .ptrig p).waiting = cr :: rest) (hdue : cr.at_ ≤ u.dt) (hmoves : u.frozen .ptrig p = false) :
    exec (.pinPulseIssue d p) s = .next (s.closeCmd d
      (if (u.pulsed p cr rest).rd F.PTRIG_PULSE_COUNT p ≠ 0 ∧ (u.pulsed p cr rest).rd F.PTRIG_PULSE_COUNT p ≤ (u.gen .ptrig p).count + 1
        then (u.pulsed p cr rest).disarm .ptrig p else u.pulsed p cr rest)) := by
  refine cmd_press_eq (decide_eq_true hp) hu hon ?_
  dsimp only
  rw [hwaiting]
  exact (if_neg (Nat.not_lt.2 hdue)).trans (if_neg (Bool.eq_false_iff.1 hmoves))

/-- A counter that counts once stops at its highest value. -/
theorem State.rd_inc_self (s : State) (f : Fld) (i : Nat) : (s.inc f i).rd f i = min (s.rd f i + 1) (2 ^ f.w - 1) := by
  have hpos : 0 < 2 ^ f.w := Nat.two_pow_pos _
  refine (State.rd_wr_self s f _ i 0).trans (Nat.mod_eq_of_lt ?_)
  omega

theorem State.pulsed_reads {s : State} {p : Nat} (cr : Crossing) (rest : List Crossing) (hjtag : s.power.jtagTest = false) :
    (s.pulsed p cr rest).gen .ptrig p = { s.gen .ptrig p with
      waiting := rest, last := some cr.at_, count := (s.gen .ptrig p).count + 1,
      pulseEnd := some (s.dt + s.rd F.PTRIG_PULSE_WIDTH_NS p) }
    ∧ (s.pulsed p cr rest).rd F.PTRIG_COUNT_ISSUED p = min (s.rd F.PTRIG_COUNT_ISSUED p + 1) (2 ^ F.PTRIG_COUNT_ISSUED.w - 1)
    ∧ Out.pulse p cr.at_ (s.rd F.PTRIG_PULSE_WIDTH_NS p) ∈ (s.pulsed p cr rest).out := by
  unfold State.pulsed
  extract_lets w x y
  have hemit : (y.inc F.PTRIG_COUNT_ISSUED p).emit (.pulse p cr.at_ w)
      = { y.inc F.PTRIG_COUNT_ISSUED p with out := (y.inc F.PTRIG_COUNT_ISSUED p).out ++ [.pulse p cr.at_ w] } :=
    if_neg (Bool.eq_false_iff.1 hjtag)
  have hgen : y.gen .ptrig p = { x with
      waiting := rest, last := some cr.at_, count := x.count + 1, pulseEnd := some (s.dt + w) } := State.setGen_gen s .ptrig p _
  rw [hemit]
  obtain ⟨hregs, hpos, hout⟩ := State.pinLevel_frame
    { y.inc F.PTRIG_COUNT_ISSUED p with out := (y.inc F.PTRIG_COUNT_ISSUED p).out ++ [.pulse p cr.at_ w] } p
  refine ⟨?_, ?_, ?_⟩
  · exact (congrArg (fun q => q.ptrig.getD p {}) hpos).trans hgen
  · refine (congrArg (fun r => State.rd { y with regs := r } F.PTRIG_COUNT_ISSUED p) hregs).trans ?_
    exact State.rd_inc_self y F.PTRIG_COUNT_ISSUED p
  · rw [hout]
    exact List.mem_append_right _ (List.mem_singleton_self _)

/-! ### Notices -/

theorem State.noticeFor_idx {s : State} {idx : Nat} {tag : Bool} {k : Notice} (h : s.noticeFor idx tag = some k) : k.idx = idx := by
  have hfound := List.find?_some h
  exact (of_decide_eq_true hfound).1

theorem execFirstBlock_eq {s u : State} {d idx : Nat} {k : Notice} (hu : u = s.atCmd d) (hidx : idx < 131072) (hon : u.pressOn)
    (hnotice : u.noticeFor idx false = some k) :
    exec (.ledgerFirstBlockNotice d idx) s = .next (s.closeCmd d ((u.takeNotice k).ledgerFirst k)) := by
  refine cmd_press_eq (decide_eq_true hidx) hu hon ?_
  rw [hnotice]

theorem execFrameTag_eq {s u : State} {d idx : Nat} {k : Notice} (hu : u = s.atCmd d) (hidx : idx < 131072) (hon : u.pressOn)
    (hnotice : u.noticeFor idx true = some k) :
    exec (.ledgerFrameTagNotice d idx) s = .next (s.closeCmd d ((u.takeNotice k).tagAnswer k)) := by
  refine cmd_press_eq (decide_eq_true hidx) hu hon ?_
  rw [hnotice]

/-- A notice moves the entry that it names to receiving. -/
theorem State.ledgerFirst_held {s : State} {k : Notice} {e : LedgerE} (hfind : s.pos.ledger.find k.idx = some e) (hgen : e.gen = k.gen)
    (hno : e.frameNo = k.frameNo) :
    s.ledgerFirst k = { s with pos := { s.pos with ledger := s.pos.ledger.ins k.idx { e with state := 2 } } } := by
  unfold State.ledgerFirst
  rw [hfind]
  exact if_pos ⟨hgen, hno⟩

/-- A notice of an entry that the ledger no longer holds changes no entry. -/
theorem State.ledgerFirst_gone {s : State} {k : Notice} (hgone : s.holdsEntry k = false) : s.ledgerFirst k = s := by
  unfold State.holdsEntry at hgone
  unfold State.ledgerFirst
  split
  · rfl
  · next e hfind =>
    rw [hfind] at hgone
    exact if_neg (of_decide_eq_false hgone)

/-- The ledger after its answer to a frame-tag notice. -/
def State.answered (s : State) (k : Notice) : State := if s.holdsEntry k = true then s.ledgerRetire k.idx else s

theorem State.answered_hth (s : State) (k : Notice) (n : Nat) : (s.answered k).hth n = s.hth n := by
  unfold State.answered
  split
  · rfl
  · rfl

/-- The only frame that waits for the answer is the one that the notice names: its records are written. -/
theorem State.tagAnswer_waiting {s : State} {k : Notice} {e : EndedS} (hended : (s.hth k.hearth).ended = [e])
    (hidx : e.frame.idx = k.idx) (hno : e.frame.frameNo = k.frameNo) :
    s.tagAnswer k = ((s.answered k).setHth k.hearth { (s.answered k).hth k.hearth with ended := [] }).frameRecords k.hearth e
      (!s.holdsEntry k) false := by
  have hwaiting : ((s.answered k).hth k.hearth).ended = [e] := by
    rw [State.answered_hth]
    exact hended
  have hmine : decide (e.frame.idx = k.idx ∧ e.frame.frameNo = k.frameNo) = true := decide_eq_true ⟨hidx, hno⟩
  have hfind : [e].find? (fun e => decide (e.frame.idx = k.idx ∧ e.frame.frameNo = k.frameNo)) = some e :=
    List.find?_cons_of_pos hmine
  have hdrop : dropEnded (fun e => decide (e.frame.idx = k.idx ∧ e.frame.frameNo = k.frameNo)) [e] = [] := if_pos hmine
  have hanswered : s.answered k = if s.holdsEntry k = true then s.ledgerRetire k.idx else s := rfl
  unfold State.tagAnswer
  dsimp only
  rw [← hanswered, hwaiting, hfind]
  dsimp only
  rw [hdrop]

theorem State.tagAnswer_none {s : State} {k : Notice} (hended : (s.hth k.hearth).ended = []) : s.tagAnswer k = s.answered k := by
  have hwaiting : ((s.answered k).hth k.hearth).ended = [] := by
    rw [State.answered_hth]
    exact hended
  have hanswered : s.answered k = if s.holdsEntry k = true then s.ledgerRetire k.idx else s := rfl
  unfold State.tagAnswer
  dsimp only
  rw [← hanswered, hwaiting]
  rfl

/-! ### LEDGER_SEL -/

/-- A row of words written one after another. -/
theorem State.wrWords_rd (f : Fld) (hf : 0 < f.s1) (v : Nat → Nat) (is : List Nat) (k : Nat) : ∀ s : State,
    (is.foldl (fun s i => s.wr f (v i) i) s).rd f k = if k ∈ is then v k % 2 ^ f.w else s.rd f k := by
  induction is with
  | nil => exact fun _ => rfl
  | cons i is ih =>
    intro s
    refine (ih (s.wr f (v i) i)).trans ?_
    by_cases htail : k ∈ is
    · rw [if_pos htail, if_pos (List.mem_cons_of_mem i htail)]
    · rw [if_neg htail]
      by_cases hk : k = i
      · subst hk
        rw [if_pos List.mem_cons_self]
        exact State.rd_wr_self s f (v k) k 0
      · rw [if_neg (by simp [hk, htail])]
        refine State.rd_wr_ne s ?_ _
        unfold Fld.key
        intro hkey
        exact hk (Nat.eq_of_mul_eq_mul_right hf (by omega))

/-- A row of words leaves a field at a bit address below all of them. -/
theorem State.wrWords_keeps {f g : Fld} (hbelow : ∀ k, g.key 0 0 < f.key k 0) (v : Nat → Nat) (is : List Nat) : ∀ s : State,
    (is.foldl (fun s i => s.wr f (v i) i) s).rd g = s.rd g := by
  induction is with
  | nil => exact fun _ => rfl
  | cons i is ih => exact fun s => (ih (s.wr f (v i) i)).trans (State.rd_wr_ne s (Nat.ne_of_lt (hbelow i)) _)

theorem ledgerSel_below (k : Nat) : F.LEDGER_SEL_INDEX.key 0 0 < F.LEDGER_DATA_WORD.key k 0 := by
  unfold Fld.key F.LEDGER_SEL_INDEX F.LEDGER_DATA_WORD
  dsimp only
  omega

/-- A write of LEDGER_SEL presents the entry that it names. -/
theorem State.ledgerSelect_reads (s : State) {idx : Nat} (hidx : idx < 131072) :
    (s.ledgerSelect idx).rd F.LEDGER_SEL_INDEX = idx
    ∧ (List.range 4).map (fun i => (s.ledgerSelect idx).rd F.LEDGER_DATA_WORD i) =
      (List.range 4).map (fun i => leAt (s.entryBytes idx) (8 * i) 8 % 2 ^ 64)
    ∧ (s.ledgerSelect idx).pos = s.pos := by
  have hbytes : (s.wr F.LEDGER_SEL_INDEX idx).entryBytes (idx % 131072) = s.entryBytes idx := by
    rw [Nat.mod_eq_of_lt hidx]
    rfl
  unfold State.ledgerSelect
  dsimp only
  rw [hbytes]
  refine ⟨?_, ?_, rfl⟩
  · refine (State.wrWords_keeps ledgerSel_below _ _ _).trans ((State.rd_wr_self s F.LEDGER_SEL_INDEX idx 0 0).trans ?_)
    exact Nat.mod_eq_of_lt hidx
  · refine List.map_congr_left fun i hi => ?_
    rw [State.wrWords_rd F.LEDGER_DATA_WORD (by decide), if_pos hi]
    rfl

/-! ### The statement -/

/-- Settles O40: generators are armed, stopped and flushed, cross and issue as they are due, and the ledger follows its notices. -/
theorem generators : Obligations.Generators := by
  unfold Obligations.Generators
  refine ⟨?arm, ?armRefused, ?armCamera, ?armFire, ?disarm, ?flush, ?noCrossing, ?crossing, ?issue, ?early, ?pulse, ?pulseEnd,
    ?first, ?firstGone, ?tagWaiting, ?tagAlone, ?firstTimeout, ?frameTimeout, ?selFree, ?selHeld⟩
  case arm =>
    intro s u d g hu hg ho hon harmed hpitch
    exact ⟨u.armGen .ptrig g, cmd_genCtl_eq hg hu ho hon (State.armOrder_pin harmed hpitch), u.armGen_reads .ptrig g⟩
  case armRefused =>
    intro s u d g kk hu hg ho hon harmed hpitch
    exact cmd_genCtl_eq hg hu ho hon (State.armOrder_refused harmed hpitch)
  case armCamera =>
    intro s u d g hu hg ho hon harmed hpitch
    exact cmd_genCtl_eq hg hu ho hon (State.armOrder_camera harmed hpitch)
  case armFire =>
    intro s u d g hu hg ho hon harmed hpitch hwhy
    exact cmd_genCtl_eq hg hu ho hon (State.armOrder_fire harmed hpitch hwhy)
  case disarm =>
    intro s u d g hu hg ho hon harmed
    refine ⟨_, cmd_genCtl_eq hg hu ho hon (State.disarm_armed harmed), ?_, ?_, ?_⟩
    · refine (State.setGen_armed _ .ptrig .ptrig g g _).trans ?_
      exact State.on_eq_false.2 (State.rd_wr_self u _ 0 g 0)
    · exact congrArg GenS.waiting (State.setGen_gen _ .ptrig g _)
    · rw [State.setGen_gen]
      rfl
  case flush =>
    intro s u d g hu hg ho hon
    exact ⟨_, cmd_genCtl_eq hg hu ho hon rfl, rfl⟩
  case noCrossing =>
    intro s u d k g hu hg hon harmed hcrossed
    rw [execTargetCrossing_armed hu hg hon harmed, hcrossed]
    rfl
  case crossing =>
    intro s u d g hu hg hon harmed hcrossed
    rw [execTargetCrossing_armed hu hg hon harmed, hcrossed, State.crossMany_one u g _ _ harmed]
  case issue =>
    intro s u d g wait cr rest hu hg hwait hon hwaiting hdue
    refine cmd_press_eq (decide_eq_true hg) hu hon ?_
    dsimp only
    rw [hwaiting]
    exact if_neg (Nat.not_lt.2 hdue)
  case early =>
    intro s u d g wait cr rest hu hg hwait hon hwaiting hearly
    refine cmd_press_eq (decide_eq_true hg) hu hon ?_
    dsimp only
    rw [hwaiting]
    exact if_pos hearly
  case pulse =>
    intro s u d p cr rest hu hp hon hwaiting hdue hmoves hjtag
    obtain ⟨hgen, hissued, hout⟩ := State.pulsed_reads cr rest hjtag
    refine ⟨_, execPinPulseIssue_eq hu hp hon hwaiting hdue hmoves, ?_⟩
    split
    · obtain ⟨hsame, hcount⟩ := (u.pulsed p cr rest).disarm_keeps p (f := F.PTRIG_COUNT_ISSUED) (by decide)
      rw [hsame, hcount]
      rcases (u.pulsed p cr rest).disarm_gen .ptrig p with hstop | hstop
      · rw [hstop, hgen]
        exact ⟨rfl, rfl, rfl, hissued, hout⟩
      · rw [hstop, hgen]
        exact ⟨rfl, rfl, rfl, hissued, hout⟩
    · rw [hgen]
      exact ⟨rfl, rfl, rfl, hissued, hout⟩
  case pulseEnd =>
    intro s u d p e hu hp hon hend hdue
    refine cmd_press_eq (decide_eq_true hp) hu hon ?_
    dsimp only
    rw [hend]
    exact if_pos hdue
  case first =>
    intro s u d idx k e hu hidx hon hnotice hfind hgen hno
    have hk := State.noticeFor_idx hnotice
    subst hk
    have hheld : (u.takeNotice k).pos.ledger.find k.idx = some e := hfind
    refine ⟨_, execFirstBlock_eq hu hidx hon hnotice, ?_⟩
    rw [State.ledgerFirst_held hheld hgen hno]
    exact ⟨Assoc.find_ins_self _ _ _, rfl, rfl⟩
  case firstGone =>
    intro s u d idx k hu hidx hon hnotice hgone
    have hstill : (u.takeNotice k).holdsEntry k = false := hgone
    rw [execFirstBlock_eq hu hidx hon hnotice, State.ledgerFirst_gone hstill]
  case tagWaiting =>
    intro s u d idx k e hu hidx hon hnotice hended hsame hno
    have hk := State.noticeFor_idx hnotice
    subst hk
    have hwaits : ((u.takeNotice k).hth k.hearth).ended = [e] := hended
    rw [execFrameTag_eq hu hidx hon hnotice, State.tagAnswer_waiting hwaits hsame hno]
    rfl
  case tagAlone =>
    intro s u d idx k hu hidx hon hnotice hended hheld
    have hk := State.noticeFor_idx hnotice
    subst hk
    have hwaits : ((u.takeNotice k).hth k.hearth).ended = [] := hended
    have hstill : (u.takeNotice k).holdsEntry k = true := hheld
    refine ⟨_, execFrameTag_eq hu hidx hon hnotice, ?_⟩
    rw [State.tagAnswer_none hwaits]
    unfold State.answered
    rw [if_pos hstill]
    rfl
  case firstTimeout =>
    intro s u d idx e hu hidx hon hfind hstate hdue
    refine cmd_press_eq (decide_eq_true hidx) hu hon ?_
    rw [hfind]
    exact if_pos ⟨hstate, hdue⟩
  case frameTimeout =>
    intro s u d idx e hu hidx hon hfind hdue
    refine cmd_press_eq (decide_eq_true hidx) hu hon ?_
    rw [hfind]
    exact if_pos hdue
  case selFree =>
    intro s u d index hu hindex ho hfree
    obtain ⟨hsel, hwords, hpos⟩ := u.ledgerSelect_reads hindex
    have hbytes : u.entryBytes index = zeros 32 := by
      unfold State.entryBytes
      rw [hfree]
    rw [hbytes] at hwords
    exact ⟨_, cmd_hostWrite_eq rfl hu ho rfl, hsel, hwords, hpos⟩
  case selHeld =>
    intro s u d index e hu hindex ho hheld
    obtain ⟨hsel, hwords, _⟩ := u.ledgerSelect_reads hindex
    have hbytes : u.entryBytes index = e.bytes e.state 0 := by
      unfold State.entryBytes
      rw [hheld]
    rw [hbytes] at hwords
    exact ⟨_, cmd_hostWrite_eq rfl hu ho rfl, hsel, hwords⟩

end Sys2Proof.Machine
